-- ==== Sys2Proof/Word.lean ====
section
/-! DEFINITION. The word types of the module: registers and table words are 64 bits wide (scope, Register
conventions), frames are bytes. -/

namespace Sys2Proof

/-- A register, a table word or a header word. -/
abbrev Word := BitVec 64

/-- A frame byte. -/
abbrev Byte := BitVec 8

end Sys2Proof
end

