-- ==== Sys2Proof/Machine/Tab.lean ====
section
/-! DEFINITION. Sparse tables: lists of (key, value) pairs with strictly rising keys. The register file, the
retained SRAM and every numbered table of the module are kept in this one form, so that equal contents are
equal data. -/

namespace Sys2Proof.Machine

/-- A sparse table. -/
abbrev Tab (α : Type) := List (Nat × α)

/-- The entry at a key. -/
def tget? {α : Type} : Tab α → Nat → Option α
  | [], _ => none
  | (a, v) :: r, k => if a = k then some v else tget? r k

/-- The entry at a key, or what an unlisted key reads as. -/
def tget {α : Type} (t : Tab α) (k : Nat) (d : α) : α := (tget? t k).getD d

/-- Is the key listed? -/
def thas {α : Type} (t : Tab α) (k : Nat) : Bool := (tget? t k).isSome

/-- Write an entry, keeping the keys rising. -/
def tset {α : Type} : Tab α → Nat → α → Tab α
  | [], k, v => [(k, v)]
  | (a, w) :: r, k, v =>
    if a = k then (k, v) :: r
    else if k < a then (k, v) :: (a, w) :: r
    else (a, w) :: tset r k v

/-- Remove an entry. -/
def tdel {α : Type} : Tab α → Nat → Tab α
  | [], _ => []
  | (a, w) :: r, k => if a = k then tdel r k else (a, w) :: tdel r k

/-- Write an entry in the canonical form: the value an unlisted key reads as is not listed. -/
def tput {α : Type} [DecidableEq α] (t : Tab α) (k : Nat) (v d : α) : Tab α :=
  if v = d then tdel t k else tset t k v

/-- Change an entry. -/
def tmod {α : Type} (t : Tab α) (k : Nat) (d : α) (f : α → α) : Tab α := tset t k (f (tget t k d))

/-- The keys rise strictly. -/
def trising {α : Type} : Tab α → Bool
  | [] => true
  | [_] => true
  | (a, _) :: (b, w) :: r => decide (a < b) && trising ((b, w) :: r)

/-- The keys of a table. -/
def tkeys {α : Type} (t : Tab α) : List Nat := t.map (·.1)

/-- The values of a table. -/
def tvals {α : Type} (t : Tab α) : List α := t.map (·.2)

/-- Bits [lo+w-1:lo] of a number. -/
def bits (x lo w : Nat) : Nat := x / 2 ^ lo % 2 ^ w

/-- One bit of a number. -/
def bitOf (x i : Nat) : Bool := x / 2 ^ i % 2 = 1

/-- A number with bits [lo+w-1:lo] replaced. -/
def setBits (x lo w v : Nat) : Nat := x - bits x lo w * 2 ^ lo + v % 2 ^ w * 2 ^ lo

/-- A Bool as a bit. -/
def b2n (b : Bool) : Nat := if b then 1 else 0

/-- A list with one place replaced; places past the end are padded. -/
def lset {α : Type} (d : α) : List α → Nat → α → List α
  | [], 0, v => [v]
  | [], n + 1, v => d :: lset d [] n v
  | _ :: r, 0, v => v :: r
  | a :: r, n + 1, v => a :: lset d r n v

/-- The number with bit i set for each true place i of a list. -/
def maskOf : List Bool → Nat
  | [] => 0
  | b :: r => b2n b + 2 * maskOf r

/-- The set bits of a mask below n, in rising order. -/
def bitList (m n : Nat) : List Nat := (List.range n).filter (fun i => bitOf m i)

/-- Serial-number comparison on n bits (R859): a is before b. -/
def serBefore (n a b : Nat) : Bool :=
  let d := (b + 2 ^ n - a % 2 ^ n) % 2 ^ n
  decide (1 ≤ d ∧ d ≤ 2 ^ (n - 1) - 1)

/-- At or before, by serial-number comparison (R859). -/
def serLe (n a b : Nat) : Bool := decide (a % 2 ^ n = b % 2 ^ n) || serBefore n a b

/-- Big-endian bytes of a number, n of them. -/
def beBytes (n x : Nat) : List Byte :=
  (List.range n).map (fun i => BitVec.ofNat 8 (x / 2 ^ (8 * (n - 1 - i))))

/-- The number that bytes spell, most significant first. -/
def beNat (l : List Byte) : Nat := l.foldl (fun a b => a * 256 + b.toNat) 0

/-- The number that words spell, least significant word first. -/
def wordsNat : List Word → Nat
  | [] => 0
  | w :: r => w.toNat + 2 ^ 64 * wordsNat r

/-- Signed value of an n-bit number. -/
def sgn (n x : Nat) : Int := if x % 2 ^ n < 2 ^ (n - 1) then (x % 2 ^ n : Int) else (x % 2 ^ n : Int) - 2 ^ n

/-- A signed value as an n-bit number. -/
def unsgn (n : Nat) (x : Int) : Nat := (x % (2 ^ n : Int)).toNat

/-- Add one, saturating at a limit. -/
def satAdd (lim a b : Nat) : Nat := if a + b ≤ lim then a + b else lim

end Sys2Proof.Machine
end

