-- ==== Sys2Proof/Machine/Classify.lean ====
section
/-! DEFINITION. The policy result, the classification trees and the associative search array as data and pure
functions (R314 to R348). -/

namespace Sys2Proof.Machine

/-- One condition of a rule (R323): its control word and operands. -/
structure Cond where
  off : Nat
  width : Nat
  ty : Nat
  plen : Nat
  op1 : Nat
  op2 : Nat
  deriving DecidableEq, Repr

/-- A rule (R322): tree, priority, conditions, result, and the copies it was compiled into (R328). -/
structure Rule where
  tree : Nat
  prio : Nat
  conds : List Cond
  result : Nat
  copies : Nat
  deriving DecidableEq, Repr

/-- A tree (R319). -/
structure Tree where
  egress : Bool
  keyLen : Nat
  tagEn : Bool
  default : Nat
  deriving DecidableEq, Repr

/-- An associative entry (R333) with what the epoch rules need (R346, R347, R350): not yet visible, deleted
but still visible, deleted and awaiting the retirement of the epoch, excluded for a parity error, and a
result that takes effect at the commit. -/
structure AssocEntry where
  id : Nat
  value : Nat
  mask : Nat
  prio : Nat
  result : Nat
  fresh : Bool
  deleted : Bool
  dying : Bool
  excluded : Bool
  newResult : Option Nat
  deriving DecidableEq, Repr

/-- A shift under way in a bank (R343, R344): toward higher positions or not, the position freed next, and
the moves left; then the insert position and the entry to write. -/
structure AssocShift where
  up : Bool
  hole : Nat
  left : Nat
  ins : Nat
  moved : Nat
  deriving DecidableEq, Repr

/-- The inserts of one bank in command order (R345): the first may have a shift under way. -/
structure AssocJobs where
  shift : Option AssocShift
  queue : List AssocEntry
  deriving DecidableEq, Repr

/-- No insert waiting. -/
def assocIdle : AssocJobs := ⟨none, []⟩

/-! Fields of a policy result (R314). -/
/-- Action: 0 PERMIT, 1 DENY, 2 PUNT, 3 REDIRECT. -/
def prAction (r : Nat) : Nat := bits r 0 2
/-- Target. -/
def prTarget (r : Nat) : Nat := bits r 2 22
/-- Class. -/
def prClass (r : Nat) : Nat := bits r 24 3
/-- Class enable. -/
def prClassEn (r : Nat) : Bool := bitOf r 27
/-- Policer index. -/
def prPolicer (r : Nat) : Nat := bits r 28 18
/-- Policer enable. -/
def prPolicerEn (r : Nat) : Bool := bitOf r 46
/-- Mirror session. -/
def prMirror (r : Nat) : Nat := bits r 47 4
/-- Mirror enable. -/
def prMirrorEn (r : Nat) : Bool := bitOf r 51
/-- Sample. -/
def prSample (r : Nat) : Bool := bitOf r 52

/-- Merge of a tree result and an associative result, group by group (R318). -/
def prMerge (t a : Nat) : Nat :=
  (if prAction a ≠ 0 then bits a 0 24 else bits t 0 24)
  + (if prClassEn a then bits a 24 4 else bits t 24 4) * 2 ^ 24
  + (if prPolicerEn a then bits a 28 19 else bits t 28 19) * 2 ^ 28
  + (if prMirrorEn a then bits a 47 5 else bits t 47 5) * 2 ^ 47
  + (if prSample a then 1 else b2n (prSample t)) * 2 ^ 52

/-- The tree key (R320): truncated or padded, and prefixed with the route tag when `tag_en` is 1. -/
def treeKey (t : Tree) (key : List Byte) (tag : Nat) : List Byte :=
  let pad (n : Nat) (l : List Byte) := (l ++ List.replicate n 0).take n
  if t.tagEn then BitVec.ofNat 8 tag :: pad t.keyLen key else pad (t.keyLen + 1) key

/-- A big-endian field of a tree key. -/
def keyField (key : List Byte) (off width : Nat) : Nat := beNat ((key.drop off).take (width + 1))

/-- Does a condition hold (R323)? -/
def condHolds (key : List Byte) (c : Cond) : Bool :=
  let f := keyField key c.off c.width
  match c.ty with
  | 0 => decide (f &&& c.op2 = c.op1 &&& c.op2)
  | 1 =>
    let v := (c.op1 * 2 ^ 64 + c.op2) / 2 ^ (128 - 8 * (c.width + 1))
    let k := 8 * (c.width + 1) - c.plen
    decide (f / 2 ^ k = v / 2 ^ k)
  | _ => decide (bits c.op1 0 16 ≤ f) && decide (f ≤ bits c.op1 16 16)

/-- Does a rule match (R324)? -/
def ruleMatches (key : List Byte) (r : Rule) : Bool := r.conds.all (condHolds key)

/-- The winning rule of a tree for a key (R324); rules come in rising rule id. -/
def treeWinner (rules : Tab Rule) (tree : Nat) (key : List Byte) : Option (Nat × Rule) :=
  rules.foldl (fun b p =>
    if p.2.tree = tree ∧ ruleMatches key p.2 then
      match b with
      | none => some p
      | some q => if p.2.prio < q.2.prio then some p else some q
    else b) none

/-- The conditions of a CLASS_RULE_ADD payload (R322, R323). -/
def ruleConds (pl : List Word) (n : Nat) : List Cond :=
  (List.range n).map (fun i =>
    let w := (pl.getD (2 + 3 * i) 0).toNat
    ⟨bits w 0 6, bits w 6 5, bits w 11 2, bits w 13 8, (pl.getD (3 + 3 * i) 0).toNat,
      (pl.getD (4 + 3 * i) 0).toNat⟩)

/-- Reserved bits of the control words and operands of a payload are 0 (R323). -/
def condsReservedOk (pl : List Word) (n : Nat) : Bool :=
  (ruleConds pl n).zipIdx.all (fun (c, i) =>
    let w := (pl.getD (2 + 3 * i) 0).toNat
    decide (bits w 21 43 = 0) && decide (c.ty ≠ 3)
      && (decide (c.ty = 1) || decide (c.plen = 0))
      && (decide (c.ty ≠ 2) || (decide (bits c.op1 32 32 = 0) && decide (c.op2 = 0))))

/-- A condition fits the tree key and its type's limits (R326). -/
def condOk (t : Tree) (c : Cond) : Bool :=
  decide (c.off + c.width + 1 ≤ t.keyLen + 1)
    && (match c.ty with
        | 0 => decide (c.width < 8)
        | 1 => decide (c.width < 16) && decide (c.plen ≤ 8 * (c.width + 1))
        | 2 => decide (c.width < 2) && decide (bits c.op1 0 16 ≤ bits c.op1 16 16)
        | _ => false)

/-- A ternary cube over a tree key: value and mask as big-endian numbers of the key's bytes. -/
abbrev Cube := Nat × Nat

/-- The cubes of a range of w-bit values (R329). -/
def rangeCubes : Nat → Nat → Nat → List Cube
  | 0, _, _ => [(0, 0)]
  | w + 1, lo, hi =>
    if lo = 0 ∧ hi = 2 ^ (w + 1) - 1 then [(0, 0)]
    else
      let h := 2 ^ w
      let low := if lo < h then (rangeCubes w lo (min hi (h - 1))).map (fun c => (c.1, c.2 + h)) else []
      let high := if h ≤ hi then (rangeCubes w (lo - h) (hi - h)).map (fun c => (c.1 + h, c.2 + h)) else []
      low ++ high

/-- The cubes of a condition over a key of n bytes; none where no key meets it. -/
def condCubes (n : Nat) (c : Cond) : List Cube :=
  let wb := 8 * (c.width + 1)
  let sh := 2 ^ (8 * (n - (c.off + c.width + 1)))
  match c.ty with
  | 0 => if 2 ^ wb ≤ c.op1 &&& c.op2 then [] else [((c.op1 &&& c.op2) * sh, c.op2 % 2 ^ wb * sh)]
  | 1 =>
    let m := (2 ^ c.plen - 1) * 2 ^ (wb - c.plen)
    let v := (c.op1 * 2 ^ 64 + c.op2) / 2 ^ (128 - wb)
    [((v &&& m) * sh, m * sh)]
  | _ => if 2 ^ wb ≤ bits c.op1 0 16 then []
    else (rangeCubes wb (bits c.op1 0 16) (min (bits c.op1 16 16) (2 ^ wb - 1))).map (fun q => (q.1 * sh, q.2 * sh))

/-- The common cube of two cubes, if they meet. -/
def cubeMeet (a b : Cube) : Option Cube :=
  if (a.1 ^^^ b.1) &&& (a.2 &&& b.2) = 0 then some (a.1 ||| b.1, a.2 ||| b.2) else none

/-- The cubes of a rule: the meets of one cube per condition. -/
def ruleCubes (n : Nat) : List Cond → List Cube
  | [] => [(0, 0)]
  | c :: r => (condCubes n c).flatMap (fun a => (ruleCubes n r).filterMap (cubeMeet a))

/-- Can `need` of these rules be matched by one key of a cube (R329)? -/
def deepAt : Nat → List (List Cube) → Cube → Bool
  | 0, _, _ => true
  | _ + 1, [], _ => false
  | n + 1, r :: rs, c =>
    deepAt (n + 1) rs c || r.any (fun q => match cubeMeet c q with | some m => deepAt n rs m | none => false)

/-- Would a tree's overlap depth exceed 32 with a new rule (R329)? `others` are the tree's other rules. -/
def tooDeep (n : Nat) (new : List Cond) (others : List (List Cond)) : Bool :=
  decide (32 ≤ others.length)
    && (ruleCubes n new).any (fun c => deepAt 32 (others.map (ruleCubes n)) c)

/-! The associative array (R333 to R347). -/

/-- Positions of a bank (R333). -/
def assocPos : Nat := 8192

/-- Does an entry match a key under a global mask (R334)? -/
def assocMatch (e : AssocEntry) (key g : Nat) : Bool :=
  !e.fresh && !e.dying && !e.excluded
    && decide ((key ^^^ e.value) &&& (e.mask &&& g) = 0)

/-- The matching entries of a search, as (index, entry), in rising index (R334). -/
def assocHits (arr : Tab AssocEntry) (key g banks : Nat) : List (Nat × AssocEntry) :=
  arr.filter (fun p => bitOf banks (p.1 / assocPos) && assocMatch p.2 key g)

/-- The lowest priority value of a list of matches, and its first holder (R335). -/
def assocBest : List (Nat × AssocEntry) → Option (Nat × AssocEntry)
  | [] => none
  | p :: r =>
    match assocBest r with
    | none => some p
    | some q => if q.2.prio < p.2.prio then some q else some p

/-- Winner and `multi_hit` (R335, R336). -/
def assocSearch (arr : Tab AssocEntry) (key g banks : Nat) : Option ((Nat × AssocEntry) × Bool) :=
  let hits := assocHits arr key g banks
  (assocBest hits).map (fun w =>
    (w, decide (2 ≤ (hits.filter (fun p => decide (p.2.prio = w.2.prio))).length)))

/-- The entries of a bank, with positions, in rising position. -/
def assocBankEnts (arr : Tab AssocEntry) (b : Nat) : List (Nat × AssocEntry) :=
  (arr.filter (fun p => decide (p.1 / assocPos = b))).map (fun p => (p.1 % assocPos, p.2))

/-- The insert position of a priority (R343). -/
def assocInsPos (arr : Tab AssocEntry) (b prio : Nat) : Nat :=
  match ((assocBankEnts arr b).filter (fun p => decide (p.2.prio ≤ prio))).getLast? with
  | some p => p.1 + 1
  | none => 0

/-- The end of the run of occupied positions that starts at `p`: the first free position at or above it. -/
def freeUp (occ : List Nat) : Nat → Nat → Option Nat
  | 0, _ => none
  | n + 1, p => if assocPos ≤ p then none else if occ.contains p then freeUp occ n (p + 1) else some p

/-- The nearest free position below `p`. -/
def freeDown (occ : List Nat) : Nat → Option Nat
  | 0 => none
  | p + 1 => if occ.contains p then freeDown occ p else some p

/-- What an insert needs: the free insert position, or a shift (R343); none when the bank is full. -/
def assocPlan (arr : Tab AssocEntry) (b prio : Nat) : Option (Nat ⊕ AssocShift) :=
  let occ := (assocBankEnts arr b).map (·.1)
  let p := assocInsPos arr b prio
  let up (f : Nat) : Nat ⊕ AssocShift := if f = p then .inl p else .inr ⟨true, f, f - p, p, f - p⟩
  let down (f : Nat) : Nat ⊕ AssocShift :=
    if f + 1 = p then .inl f else .inr ⟨false, f, p - 1 - f, p - 1, p - 1 - f⟩
  match freeUp occ (occ.length + 1) p, freeDown occ p with
  | none, none => none
  | some f, none => some (up f)
  | none, some f => some (down f)
  | some f, some g => if f = p then some (up f) else if f - p ≤ p - g then some (up f) else some (down g)

/-- One step of a shift (R344): the array and the shift afterwards. -/
def assocShiftStep (arr : Tab AssocEntry) (b : Nat) (sh : AssocShift) : Tab AssocEntry × AssocShift :=
  let src := if sh.up then sh.hole - 1 else sh.hole + 1
  let base := b * assocPos
  match tget? arr (base + src) with
  | some e => (tset (tdel arr (base + src)) (base + sh.hole) e, { sh with hole := src, left := sh.left - 1 })
  | none => (arr, { sh with hole := src, left := sh.left - 1 })

/-- The 160-bit number of three payload words (R341). -/
def assoc160 (a b c : Word) : Nat := a.toNat * 2 ^ 96 + b.toNat * 2 ^ 32 + bits c.toNat 32 32

/-- The three payload words of a 160-bit number (R341). -/
def assocWords (x : Nat) : List Word :=
  [BitVec.ofNat 64 (x / 2 ^ 96), BitVec.ofNat 64 (x / 2 ^ 32), BitVec.ofNat 64 (x * 2 ^ 32)]

/-- The associative-search key of a packet: first byte at [159:152], zero-padded (R188). -/
def assocKeyNat (key : List Byte) : Nat := beNat ((key ++ List.replicate 20 0).take 20)

end Sys2Proof.Machine
end

