-- ==== Sys2Proof/Machine/Framed.lean ====
section
/-! DEFINITION. Framed port mode: frame and multiframe alignment, client demapping and the switching
request as data and pure functions (R135 to R158). -/

namespace Sys2Proof.Machine

/-- The justification overhead of one slice, bytes JC1 to JC6 (R149, R152). -/
structure JcBytes where
  jc1 : Nat
  jc2 : Nat
  jc3 : Nat
  jc4 : Nat
  jc5 : Nat
  jc6 : Nat
  deriving DecidableEq, Repr

/-- A CRC of w bits over an n-bit number, most significant bit first, with initial value 0. -/
def crcMsb (w poly n x : Nat) : Nat :=
  (List.range n).foldl (fun r i =>
    let top := bitOf r (w - 1) != bitOf x (n - 1 - i)
    (2 * r % 2 ^ w) ^^^ (if top then poly else 0)) 0

/-- The CRC-8 of JC3 over JC1 and JC2 (R149): x^8 + x^3 + x^2 + 1 (PRESUMED, ITU-T G.709; log 123). -/
def jcCrc8 (w12 : Nat) : Nat := crcMsb 8 0x0D 16 w12

/-- The CRC-5 of JC6 over JC4 and JC5 (R149): x^5 + x + 1 (PRESUMED, ITU-T G.709; log 123). -/
def jcCrc5 (w45 : Nat) : Nat := crcMsb 5 0x03 16 w45

/-- The count of client words of the slice's next frame (R149). -/
def JcBytes.cm (j : JcBytes) : Nat := bits (256 * j.jc1 + j.jc2) 2 14

/-- Is the CRC-8 correct (R150)? -/
def JcBytes.crcOk (j : JcBytes) : Bool := j.jc3 % 256 == jcCrc8 ((256 * j.jc1 + j.jc2) % 2 ^ 16)

/-- The overhead of GMP (R149): the count, the indicators, and the accumulated phase, with their CRCs. -/
def gmpJc (cm ii di phase : Nat) : JcBytes :=
  let a := cm % 2 ^ 14 * 4 + ii % 2 * 2 + di % 2
  let b := phase % 1024 * 64
  ⟨a / 256, a % 256, jcCrc8 a, b / 256, b % 256, jcCrc5 b * 8⟩

/-- The overhead of AMP: one code in each of JC1, JC2 and JC3 (R152). -/
def ampJc (code : Nat) : JcBytes := ⟨code % 4, code % 4, code % 4, 0, 0, 0⟩

/-- Client bytes that NJO and PJO carry under an AMP code (R152). -/
def ampJust : Nat → Nat
  | 1 => 0
  | 3 => 2
  | _ => 1

/-- A slice of a transmitted frame (R149, R151, R161): BEI, client words in the first places of its payload, client bytes in
NJO and PJO, and the justification overhead. -/
structure SliceTx where
  bei : Nat
  words : Nat
  just : Nat
  jc : JcBytes
  deriving DecidableEq, Repr

/-- The markers that lock on a framed port (R146): the FlexO instances, one bit each, and the skew measured. -/
structure MarkerLock where
  insts : Nat
  skew : Nat
  deriving DecidableEq, Repr

/-- A defect filter that has run its 3 ms (R145): its port, and whether it is the one of dLOM or of dLOF. -/
structure DefectFilter where
  l : Nat
  lom : Bool
  deriving DecidableEq, Repr

/-- A frame at a candidate or held position: its bit offset, whether the FAS of each slice matched
(slice 1 first), and the overhead the device reads (R133), by slice where each slice has its own. -/
structure OtucFrame where
  offset : Nat
  fas : List Bool
  mfas : Nat
  jc : List JcBytes
  stat : Nat
  aps : Nat
  bip : List Nat
  bei : Nat
  bdi : Bool
  fecUncorr : Nat
  fecCorr : Nat
  deriving DecidableEq, Repr

/-- An open candidate (R136 to R138): bit offset, consecutive correct patterns, last MFAS, and the length
of the run of incrementing MFAS values. -/
structure FasCand where
  offset : Nat
  good : Nat
  mfas : Nat
  run : Nat
  deriving DecidableEq, Repr

/-- A framed logical port (R134 to R163): the receive path, with the client words and the justification bytes of each
slice, and the transmitter: its MFAS, APS value and Cm of each slice, the BIP violations to return, and
`client_fault_en` as it was at the last frame boundary. -/
structure FrmSt where
  aligner : Nat
  cands : List FasCand
  held : Option Nat
  barred : List Nat
  imSeen : Bool
  errRun : Nat
  expMfas : Nat
  misRun : Nat
  incRun : Nat
  lastMfas : Nat
  cm : List Nat
  just : List Nat
  jcGood : Nat
  jcBad : Nat
  demap : Bool
  aisRun : Nat
  nonAisRun : Nat
  apsVal : Nat
  apsCnt : Nat
  mapAmp : Bool
  txMfas : Nat
  txAps : Nat
  txCm : List Nat
  bip : List Nat
  faultEn : Bool
  deriving DecidableEq, Repr

/-- The receive path at its start (R139: OOF). -/
def frm0 : FrmSt :=
  ⟨0, [], none, [], false, 0, 0, 0, 0, 0, [], [], 0, 0, false, 0, 0, 0, 0, false, 0, 0, [], [], true⟩

/-- Enter OOF: every candidate closed, every bar cleared, the demapper unlocked (R139, R153). -/
def enterOof (f : FrmSt) : FrmSt :=
  { f with aligner := 0, cands := [], held := none, barred := [], imSeen := false, errRun := 0, misRun := 0,
           incRun := 0, demap := false, jcGood := 0, jcBad := 0, apsCnt := 0 }

/-- R136: does the search run? -/
def searching (f : FrmSt) : Bool := decide (f.aligner = 0) || (decide (f.aligner = 1) && !f.imSeen)

/-- An exact FAS match in slice 1 at a bit offset opens a candidate (R136). -/
def openCand (f : FrmSt) (offset mfas : Nat) : FrmSt :=
  if searching f && decide (f.cands.length < 4) && !f.cands.any (fun c => c.offset = offset)
      && !f.barred.contains offset then
    { f with cands := f.cands ++ [⟨offset, 1, mfas % 256, 1⟩] }
  else f

/-- Enter IM at a candidate (R139): search stopped, every other candidate closed. -/
def enterIm (f : FrmSt) (c : FasCand) : FrmSt :=
  { f with aligner := 2, held := some c.offset, cands := [c], imSeen := true, errRun := 0, misRun := 0,
           incRun := 0, expMfas := c.mfas, lastMfas := c.mfas, jcGood := 0, jcBad := 0 }

/-- A candidate's next correct pattern: its MFAS run (R137, R138). -/
def candNext (c : FasCand) (m : Nat) : FasCand :=
  ⟨c.offset, c.good + 1, m % 256, if m % 256 = (c.mfas + 1) % 256 then c.run + 1 else 1⟩

/-- A frame at the position of an open candidate other than a held one, while the search runs (R137 to
R142): the state afterwards and the frame moves made. -/
def candFrame (f : FrmSt) (c : FasCand) (ok : Bool) (m : Nat) : FrmSt × Nat :=
  let others := f.cands.filter (fun x => decide (x.offset ≠ c.offset))
  if !ok then ({ f with cands := others }, 0)
  else
    let c' := candNext c m
    let f' := { f with cands := f.cands.map (fun x => if x.offset = c.offset then c' else x) }
    if f.aligner = 0 then
      if 2 ≤ c'.good then ({ f' with aligner := 1, held := some c.offset, errRun := 0, lastMfas := m % 256 }, 0)
      else (f', 0)
    else if c'.run = 1 ∧ 2 ≤ c'.good then ({ f with cands := others, barred := f.barred ++ [c.offset] }, 0)
    else if 3 ≤ c'.run then
      let f2 := enterIm f' c'
      ({ f2 with barred := f.barred ++ f.held.toList }, 1)
    else (f', 0)

/-- A frame at the held position in IF (R138, R139, R142): five errored patterns leave to OOF, a qualified
frame candidate enters IM. -/
def ifFrame (f : FrmSt) (off : Nat) (ok : Bool) (m : Nat) : FrmSt :=
  if !ok then
    if 4 ≤ f.errRun then enterOof f
    else { f with errRun := f.errRun + 1, lastMfas := m % 256,
                  cands := f.cands.map (fun x => if x.offset = off then { x with run := 0 } else x) }
  else
    match f.cands.find? (fun x => decide (x.offset = off)) with
    | none => { f with errRun := 0, lastMfas := m % 256, cands := ⟨off, 1, m % 256, 1⟩ :: f.cands }
    | some c =>
      let c' := if c.run = 0 then { candNext c m with run := 1 } else candNext c m
      if 3 ≤ c'.run then enterIm { f with errRun := 0 } c'
      else { f with errRun := 0, lastMfas := m % 256,
                    cands := f.cands.map (fun x => if x.offset = off then c' else x) }

/-- A frame at the held position in IM or OOM (R139, R143, R144): the three incrementing values that leave OOM are received
in OOM. -/
def lockedFrame (f : FrmSt) (ok : Bool) (m : Nat) : FrmSt :=
  let exp := (f.expMfas + 1) % 256
  let er := if ok then 0 else f.errRun + 1
  let mm := if m % 256 = exp then 0 else f.misRun + 1
  let inc := if m % 256 = (f.lastMfas + 1) % 256 ∧ 0 < f.incRun then f.incRun + 1 else 1
  if 5 ≤ er then enterOof f
  else if f.aligner = 2 then
    let f' := { f with errRun := er, misRun := mm, expMfas := exp, lastMfas := m % 256 }
    if 5 ≤ mm then { f' with aligner := 3, incRun := 0, demap := false, jcGood := 0, jcBad := 0, apsCnt := 0 }
    else f'
  else
    let f' := { f with errRun := er, incRun := inc, expMfas := exp, lastMfas := m % 256 }
    if 3 ≤ inc then { f' with aligner := 2, misRun := 0, expMfas := m % 256, jcGood := 0, jcBad := 0 } else f'

/-- The aligner at one frame (R135 to R144): state afterwards and frame moves made. -/
def alignFrame (f : FrmSt) (fr : OtucFrame) : FrmSt × Nat :=
  let all := fr.fas.all id
  let one := fr.fas.headD false
  if f.held = some fr.offset then
    if f.aligner = 1 then (ifFrame f fr.offset all fr.mfas, 0)
    else (lockedFrame f all fr.mfas, 0)
  else if searching f then
    match f.cands.find? (fun c => decide (c.offset = fr.offset)) with
    | some c => candFrame f c one fr.mfas
    | none => (f, 0)
  else (f, 0)

/-- The majority of three AMP codes, bits [1:0] of JC1 to JC3 (R152); none without a majority. -/
def ampMajority (j : JcBytes) : Option Nat :=
  let a := j.jc1 % 4
  let b := j.jc2 % 4
  let c := j.jc3 % 4
  if a = b ∨ a = c then some a else if b = c then some b else none

/-- Does the receiver accept a slice's Cm (R150)? -/
def JcBytes.good (j : JcBytes) : Bool := j.crcOk && decide (903 ≤ j.cm ∧ j.cm ≤ 921)

/-- What the justification control of a frame gives (R149 to R152): the client words and the justification bytes of each
slice, whether it was accepted, and what counts under k = 4 and k = 5 (R166). -/
structure JcOut where
  cm : List Nat
  just : List Nat
  accepted : Bool
  errors : Nat
  codes10 : Nat
  deriving DecidableEq, Repr

/-- The justification control of a frame (R149 to R152, R166). -/
def jcFrame (f : FrmSt) (js : List JcBytes) : JcOut :=
  if f.mapAmp then
    let ms := js.map ampMajority
    ⟨js.map (fun _ => 912),
      ms.zipIdx.map (fun e => match e.1 with | some c => ampJust c | none => f.just.getD e.2 1),
      ms.all (·.isSome), if ms.all (·.isSome) then 0 else 1, (ms.filter (fun m => decide (m = some 2))).length⟩
  else
    ⟨js.zipIdx.map (fun e => if e.1.good then e.1.cm else f.cm.getD e.2 0), js.map (fun _ => 0),
      js.all JcBytes.good, (js.filter (fun j => !j.good)).length, 0⟩

/-- The demapper's lock (R153). -/
def demapFrame (f : FrmSt) (ok : Bool) : FrmSt :=
  let g := if ok then f.jcGood + 1 else 0
  let b := if ok then 0 else f.jcBad + 1
  { f with jcGood := g, jcBad := b,
           demap := if 8 ≤ g then true else if 8 ≤ b then false else f.demap }

/-- One APS sample (R155 to R157): the state afterwards and the value accepted. -/
def apsSample (f : FrmSt) (rxAps v : Nat) : FrmSt × Option Nat :=
  if v = rxAps then ({ f with apsCnt := 0 }, none)
  else if 0 < f.apsCnt ∧ v = f.apsVal then
    if 2 ≤ f.apsCnt then ({ f with apsCnt := 0 }, some v) else ({ f with apsCnt := f.apsCnt + 1 }, none)
  else ({ f with apsVal := v, apsCnt := 1 }, none)

end Sys2Proof.Machine
end

