-- ==== Sys2Proof/Machine/PortTypes.lean ====
section
/-! DEFINITION. What the network ports hold beyond their registers (R99 to R125, R511 to R516, R863): frames in
the MAC and the ingress FIFOs, timestamps, pause times, lane coefficients, and the egress units of TF. -/

namespace Sys2Proof.Machine

/-- A received frame (without its FCS) with its logical port, sequence number once it is passed to a
pipeline, arrival stamp and mark (R93, R116, R121). -/
structure RxFrame where
  lport : Nat
  seq : Nat
  time : Nat
  bytes : List Byte
  marked : Bool
  deriving DecidableEq, Repr

/-- A packet's transmit requests from a host injection (R511): none, two-step or one-step, tag and offset,
and `raw`. -/
structure TsReq where
  req : Nat
  tag : Nat
  offset : Nat
  raw : Bool
  deriving DecidableEq, Repr

/-- No request (R511). -/
def noTs : TsReq := ⟨0, 0, 0, false⟩

/-- What a tagged packet gathers for its trace records (R795 to R798): forced, pipeline, sequence number, time of
emission, words 9 and 10, time of admission, word 11, first cell or hairpin service, entry to the egress queue,
scheduling decision, handoff, and egress queue bytes at the decision. -/
structure Trace where
  forced : Bool
  pipe : Nat
  seq : Nat
  emitted : Nat
  w9 : Nat
  w10 : Nat
  adm : Nat
  w11 : Nat
  t5 : Nat
  t6 : Nat
  t7 : Nat
  t8 : Nat
  qbytes : Nat
  deriving DecidableEq, Repr

/-- Nothing gathered yet. -/
def trace0 : Trace := ⟨false, 0, 0, 0, 0, 0, 0, 0, 0, 0, 0, 0, 0⟩

/-- An egress unit on its way to, or in, an egress pipeline (R511): the header's fields and the frame, and what it
gathers for its trace. -/
structure EgUnit where
  handle : Nat
  lport : Nat
  cls : Nat
  ct : Bool
  session : Option Nat
  sample : Bool
  multiHit : Bool
  egList : Option Nat
  length : Nat
  rw : Nat
  tag : Nat
  inLport : Nat
  start : Nat
  eseq : Nat
  ts : TsReq
  arrival : Nat
  bytes : List Byte
  hdrOk : Bool
  tr : Option Trace
  deriving DecidableEq, Repr

/-- What becomes of one copy of a unit (R514): a frame to transmit, its disposal with the counter index that counted
it, an abort that is sent again under its number (R390), or one for a port that is down (R863). -/
inductive CopyFate where
  | send (bytes : List Byte)
  | discard (k : Nat)
  | punt (k : Nat)
  | abort
  | down
  deriving DecidableEq, Repr

/-- A copy of a unit at the MAC of its physical port (R513, R516, R541): `last` of its unit, `listed` by an egress list,
and how far it is: 0 waiting, 1 being transmitted, 2 delivered, 3 ended by its fate or an abort, 4 reported while its unit
is still the next. -/
structure TxCopy where
  handle : Nat
  eseq : Nat
  copy : Nat
  last : Bool
  listed : Bool
  lport : Nat
  cls : Nat
  ts : TsReq
  fate : CopyFate
  stage : Nat
  exported : List Byte
  sentAt : Nat
  tr : Option Trace
  deriving DecidableEq, Repr

/-- A delivery report (R514, R515): of one copy, with the trace of a tagged one, or of a run of units. -/
inductive Report where
  | one (handle copy status reason sentAt : Nat) (exported : List Byte) (tr : Option Trace)
  | run (firstEseq port count : Nat) (sent : List (Nat × List Byte × Option Trace))
  deriving DecidableEq, Repr

/-- A unit delivered and waiting for the report of its run (R515): eseq, time, exported bytes and trace. -/
structure RunUnit where
  eseq : Nat
  sentAt : Nat
  exported : List Byte
  tr : Option Trace
  deriving DecidableEq, Repr

/-- A physical port (R121 to R125, R512 to R516): the last sequence number given and whether one was, the pipeline
that took the last frame, MAC input buffer, the input FIFOs of its two ingress pipelines, the units dispatched and
the pipeline that took the last one, units in its two egress pipelines, the next unit to start, the copies at the
MAC, and the run of delivered units not yet reported. -/
structure PhysPort where
  seq : Nat
  anySeq : Bool
  lastB : Bool
  inbuf : List RxFrame
  fifoA : List RxFrame
  fifoB : List RxFrame
  eseq : Nat
  egLastB : Bool
  egA : List EgUnit
  egB : List EgUnit
  nextEseq : Nat
  tx : List TxCopy
  run : List RunUnit
  deriving DecidableEq, Repr

/-- A physical port after system reset. With no frame before it, the first frame of an ingress or an egress pair goes to the
even pipeline (DESIGN CHOICE: R123 and R512 name the pipeline that did not take the previous one; log 122). -/
def physPort0 : PhysPort := ⟨0, false, true, [], [], [], 0, true, [], [], 0, [], []⟩

/-- A logical port beyond its registers (R96, R110, R111, R118, R127): FEC and PCS lock held, the pause time of each class in
quanta, the transmit timestamps waiting, the lanes whose signal degrade holds it in FAULT; and when it entered its link state,
when lock came, when each class was last paused by a frame and since when it is paused (R72), and when XOFF was last sent for
it. -/
structure LPort where
  locked : Bool
  quanta : List Nat
  txts : List (Nat × Nat)
  sdHeld : List Nat
  at' : Nat
  lockAt : Nat
  pauseAt : List Nat
  since : List Nat
  xoffAt : List Nat
  deriving DecidableEq, Repr

/-- A logical port after system reset. -/
def lport0 : LPort :=
  ⟨false, [0, 0, 0, 0, 0, 0, 0, 0], [], [], 0, 0, [0, 0, 0, 0, 0, 0, 0, 0], [0, 0, 0, 0, 0, 0, 0, 0], [0, 0, 0, 0, 0, 0, 0, 0]⟩

/-- A lane's equaliser (R103, R104): the five transmit taps and the receive coefficients. -/
structure LaneEq where
  taps : List Int
  coef : List Int
  deriving DecidableEq, Repr

/-- A lane before training. -/
def laneEq0 : LaneEq := ⟨[0, 0, 0, 0, 0], []⟩

end Sys2Proof.Machine
end

