-- ==== Sys2Proof/Machine/BufTypes.lean ====
section
/-! DEFINITION. What the packet buffer, the resequencers, the queues and the tail hold (R357 to R404, R412 to R443,
R554). -/

namespace Sys2Proof.Machine

/-- The kinds of unit on the TF to DT direction of the IDL (R357, R538). -/
inductive UnitKind where
  | packet | disposition | progress | mirrorCopy
  deriving DecidableEq, Repr

/-- A unit in flight from TF to DT: physical port, pipeline of the pair (false the first), kind, the four header words
and the body (frame without FCS), and what it gathers for its trace. -/
structure IdlUnit where
  port : Nat
  pipeB : Bool
  kind : UnitKind
  w0 : Word
  w1 : Word
  w2 : Word
  w3 : Word
  bytes : List Byte
  tr : Option Trace
  deriving DecidableEq, Repr

/-- A block (R368, R370, R442): its pool (0 to 2), and the split block it is a part of. -/
structure Blk where
  pool : Nat
  split : Option Nat
  deriving DecidableEq, Repr

/-- A split block (R442): its pool, the pool whose block size its parts have, and the parts free. -/
structure SplitBlk where
  pool : Nat
  part : Nat
  free : Nat
  deriving DecidableEq, Repr

/-- What a body's bytes are charged to (R372): a port's resequencing allowance, the shared region (bytes staged for the tail
among them), the tether, the account of a lossless (port, class), or nothing. -/
inductive Charge where
  | reseq (p : Nat)
  | shared
  | tether
  | lossless (lc : Nat)
  | free
  deriving DecidableEq, Repr

/-- A packet body in the buffer or the tail (R371, R375): the frame without FCS, its blocks, its charge, its count of
unresolved copies, and whether all its bytes have arrived (R388). -/
structure Body where
  bytes : List Byte
  blks : List Blk
  charge : Charge
  refs : Nat
  complete : Bool
  deriving DecidableEq, Repr

/-- A copy's descriptor, in a VOQ, in the fabric streams or in an egress queue (R387, R412, R511): body, destination,
class, length with FCS, route tag, RW index, receiving port and its speed code, egress list, mirror session, marks,
arrival, transmit requests, bytes A it counts, source module, whether it came from a port of this module (R655),
whether it was moved (R399), whether it may cut through (R388), first copy of its list to produce, best outcome of
its copies so far (R532: 0 none, 1 discarded, 2 punted, 3 delivered), and the eseq it was returned with (R863). -/
structure Pkt where
  body : Nat
  dm : Nat
  dl : Nat
  cls : Nat
  length : Nat
  tag : Nat
  rw : Nat
  inLport : Nat
  inSpeed : Nat
  egList : Option Nat
  session : Option Nat
  sample : Bool
  multiHit : Bool
  arrival : Nat
  ts : TsReq
  a : Nat
  src : Nat
  counted : Bool
  moved : Bool
  ct : Bool
  start : Nat
  best : Nat
  ret : Option Nat
  tr : Option Trace
  deriving DecidableEq, Repr

/-- A unit held by a resequencer (R361): a packet with its body, a disposition with its reason, port and arrival, or a
sequence number consumed under PIPE_FAIL. -/
inductive HeldUnit where
  | packet (u : IdlUnit) (body : Nat)
  | disposition (u : IdlUnit)
  | pipeFail (lport arrival : Nat)
  deriving DecidableEq, Repr

/-- One ingress resequencer (R361 to R367): the finished value of each pipeline, if any, whether each is stalled,
whether the IDL credit of each is withheld, the units held by sequence number, and the units that wait at the IDL
receiver for blocks (R371). -/
structure Reseq where
  next : Nat
  finA : Option Nat
  finB : Option Nat
  stallA : Bool
  stallB : Bool
  holdA : Bool
  holdB : Bool
  held : Tab HeldUnit
  waiting : List IdlUnit
  deriving DecidableEq, Repr

/-- A resequencer after reset. -/
def reseq0 : Reseq := ⟨0, none, none, false, false, false, false, [], []⟩

/-- Where a queued copy of a VOQ lies (R391 to R394): on die, in staging, or written to the tail. -/
inductive Place where
  | die | staged | tail
  deriving DecidableEq, Repr

/-- An entry of a VOQ: the copy, where it lies, and its byte offset in the queue's spill chain. -/
structure VPkt where
  pkt : Pkt
  place : Place
  off : Nat
  deriving DecidableEq, Repr

/-- A virtual output queue (R391, R393, R437, R438): its FIFO, the spill state, its segments in chain order with the
number of segments before them, the write offset and the offset up to which rows are written, the credit balance,
the last request sent, and when bytes were last staged. -/
structure Voq where
  q : List VPkt
  spilling : Bool
  segs : List Nat
  segBase : Nat
  wOff : Nat
  written : Nat
  balance : Nat
  reqOn : Bool
  fedAt : Nat
  deriving DecidableEq, Repr

/-- An empty VOQ. -/
def voq0 : Voq := ⟨[], false, [], 0, 0, 0, 0, false, 0⟩

/-- The port views of R397. -/
inductive PView where
  | up | hold | prot | down
  deriving DecidableEq, Repr

/-- The lossless accounts of a (port, class) (R383): bytes charged to shared and to headroom. -/
structure LossAcct where
  s : Nat
  h : Nat
  deriving DecidableEq, Repr

/-- A node of the egress hierarchy beyond its words (R421 to R430): the words whose rates, bursts and `ovh` are in
force, virtual time, start and finish tag of the packet it offers, finish tag of its last served packet, whether it
is active, its buckets in bits, and the words that wait for a refill boundary. -/
structure Node where
  rate : Word × Word × Word
  vt : Nat
  st : Nat
  fin : Nat
  last : Option Nat
  active : Bool
  c : Int
  p : Int
  pend : Option (Word × Word × Word)
  deriving DecidableEq, Repr

/-- A policer (R431 to R435, R450): words in force, buckets in bits and waiting words. -/
structure Policer where
  w : Word × Word × Word
  b0 : Nat
  b1 : Nat
  pend : Option (Word × Word × Word)
  deriving DecidableEq, Repr

/-- A policer never set: disabled. -/
def policer0 : Policer := ⟨(0, 0, 0), 0, 0, none⟩

/-- What DT keeps of a dispatched unit (R540): the descriptor, physical port, pipeline, eseq and queue, the copies
reported so far, whether its port's view has left UP since (R863), and, until a report arrives, when it was sent. -/
structure Outstanding where
  pkt : Pkt
  port : Nat
  pipeB : Bool
  eseq : Nat
  queue : Nat
  copies : Nat
  down : Bool
  sentAt : Option Nat
  deriving DecidableEq, Repr

end Sys2Proof.Machine
end

