-- ==== Sys2Proof/Machine/Parser.lean ====
section
/-! DEFINITION. The parse walk, the key templates and the hashes (R167 to R191). -/

namespace Sys2Proof.Machine

/-- One copy of the parser tables (R206): state, transition and template records, and the hash seeds
in force. An unlisted record is zero, an unlisted hash profile has its reset seeds (R211). -/
structure ParseTables where
  states : Tab (BitVec 128)
  trans : Tab (BitVec 128)
  tmpl : Tab (BitVec 384)
  hash : Tab Word
  deriving DecidableEq, Repr

/-- The parse exceptions, as indices of TF_PARSE_CNT (R181, R212). -/
inductive PExc where
  | excState | short | zeroLen | stepLimit | noTemplate
  deriving DecidableEq, Repr

/-- The index k of an exception (R181). -/
def pexcIdx : PExc → Nat
  | .excState => 0 | .short => 1 | .zeroLen => 2 | .stepLimit => 3 | .noTemplate => 4

/-- A walk in progress: state, offset, header stack (oldest first), field vector (bytes not listed are
0), the truncated flag, and whether a header ran past byte 255 (R184). -/
structure Walk where
  st : Nat
  off : Nat
  stack : List (Nat × Nat)
  fv : Tab Byte
  trunc : Bool
  cut : Bool
  exc : Option PExc
  deriving DecidableEq, Repr

/-- The parse limit L (R167). -/
def parseLimit (bytes : List Byte) : Nat := min 256 bytes.length

/-- A byte the parser addresses (R174). -/
def pbyte (bytes : List Byte) (i : Nat) : Nat :=
  if i < parseLimit bytes then (bytes.getD i 0).toNat else 0

/-- Does addressing [i, i+n) reach L? (R174) -/
def past (bytes : List Byte) (i n : Nat) : Bool := decide (n ≠ 0 ∧ parseLimit bytes < i + n)

/-- A selection field of width code w at byte i (R174's selector): value and bytes read. -/
def selField (bytes : List Byte) (i w : Nat) : Nat :=
  match w with
  | 0 => 0
  | 1 => pbyte bytes i / 16
  | 2 => pbyte bytes i
  | _ => pbyte bytes i * 256 + pbyte bytes (i + 1)

/-- Bytes a selection field reads. -/
def selBytes (w : Nat) : Nat := if w = 0 then 0 else if w = 3 then 2 else 1

/-- The header length (R172). -/
def hdrLen (bytes : List Byte) (sr off : Nat) : Nat :=
  let b := pbyte bytes (off + bits sr 16 6)
  let v := match bits sr 22 2 with
    | 0 => 0
    | 1 => b
    | 2 => b / 16
    | _ => b % 16
  bits sr 8 8 + v * 2 ^ bits sr 24 2

/-- One extract (R177, R178): field vector afterwards. -/
def extract1 (bytes : List Byte) (off e : Nat) (fv : Tab Byte) : Tab Byte :=
  let dest := bits e 11 8
  if 192 ≤ dest then fv
  else (List.range (min (bits e 6 5 + 1) (192 - dest))).foldl
    (fun fv i => tput fv (dest + i) (BitVec.ofNat 8 (pbyte bytes (off + bits e 0 6 + i))) 0) fv

/-- Does an extract address a byte at or beyond L? -/
def extractPast (bytes : List Byte) (off e : Nat) : Bool :=
  let dest := bits e 11 8
  if 192 ≤ dest then false
  else past bytes (off + bits e 0 6) (min (bits e 6 5 + 1) (192 - dest))

/-- The first matching transition of a block (R175, R179). -/
def transMatch (pt : ParseTables) (sel : Nat) (base : Nat) : Nat → Option Nat
  | 0 => none
  | n + 1 =>
    if 2048 ≤ base then none
    else
      let e := (tget pt.trans base 0).toNat
      let m := bits e 32 32
      if sel &&& m = bits e 0 32 &&& m then some (bits e 64 9)
      else transMatch pt sel (base + 1) n

/-- One step of the walk (R168, R181, R184); none when the walk has ended. Where a 25th step would be needed its record is read,
so that of the exceptions that apply at that step the lowest k is taken (DEDUCED, log 138). -/
def walkStep (pt : ParseTables) (bytes : List Byte) (w : Walk) : Walk × Bool :=
  let sr := (tget pt.states w.st 0).toNat
  let term := bits sr 26 2
  let len := hdrLen bytes sr w.off
  let big := decide (256 < bytes.length)
  let fin := w.off + len
  let wa := bits sr 34 2
  let wb := bits sr 42 2
  let pa := w.off + bits sr 28 6
  let pb := w.off + bits sr 36 6
  let selPast := past bytes pa (selBytes wa) || past bytes pb (selBytes wb)
  let lenPast := decide (bits sr 22 2 ≠ 0) && past bytes (w.off + bits sr 16 6) 1
  if 2 ≤ term then ({ w with exc := some .excState }, true)
  else if !big && (decide (parseLimit bytes < fin) || (decide (term = 0) && selPast)) then
    ({ w with exc := some .short, trunc := w.trunc || lenPast }, true)
  else if len = 0 ∧ term = 0 then ({ w with exc := some .zeroLen, trunc := w.trunc || lenPast }, true)
  else if w.stack.length = 24 then ({ w with exc := some .stepLimit, trunc := w.trunc || lenPast }, true)
  else
    let e0 := bits sr 68 19
    let e1 := bits sr 87 19
    let e2 := bits sr 106 19
    let fv := extract1 bytes w.off e2 (extract1 bytes w.off e1 (extract1 bytes w.off e0 w.fv))
    let tr := w.trunc || lenPast || extractPast bytes w.off e0 || extractPast bytes w.off e1
      || extractPast bytes w.off e2
    let w1 := { w with stack := w.stack ++ [(bits sr 0 8, w.off)], fv := fv, trunc := tr }
    if big && decide (256 < fin) then ({ w1 with trunc := true, cut := true }, true)
    else if term = 1 then (w1, true)
    else
      let sel := selField bytes pa wa * 65536 + selField bytes pb wb
      let nx := (transMatch pt sel (bits sr 44 11) (bits sr 55 4)).getD (bits sr 59 9)
      ({ w1 with st := nx, off := fin, trunc := tr || selPast }, false)

/-- The walk, with a bound on its steps (R169). -/
def walkLoop (pt : ParseTables) (bytes : List Byte) : Nat → Walk → Walk
  | 0, w => w
  | n + 1, w =>
    let (w', fin) := walkStep pt bytes w
    if fin then w' else walkLoop pt bytes n w'

/-- Metadata bytes of the field vector (R180), before the truncated flag is known. -/
def fvMeta (lport vrf cls : Nat) (marked : Bool) : Tab Byte :=
  let p (fv : Tab Byte) (i v : Nat) := tput fv i (BitVec.ofNat 8 v) 0
  p (p (p (p (p (p [] 192 (lport / 256)) 193 lport) 194 (vrf / 256)) 195 vrf) 196 (cls % 8)) 197 (b2n marked)

/-- The whole walk of a frame, with the truncated flag put into byte 197 (R180). -/
def parseWalk (pt : ParseTables) (bytes : List Byte) (start lport vrf cls : Nat) (marked : Bool) : Walk :=
  let w := walkLoop pt bytes 25 ⟨start, 0, [], fvMeta lport vrf cls marked, false, false, none⟩
  { w with fv := tput w.fv 197 (BitVec.ofNat 8 (b2n marked + 2 * b2n w.trunc)) 0 }

/-- Field `i` of a template word (R185): the words of a template record, first word lowest. -/
def tmplWord (t : BitVec 384) (i : Nat) : Nat := bits t.toNat (64 * i) 64

/-- Does a template apply to a header stack? (R187) -/
def tmplApplies (t : BitVec 384) (stack : List (Nat × Nat)) : Bool :=
  let w0 := tmplWord t 0
  let has (g : Nat) : Bool := decide (g = 0) || stack.any (fun h => decide (h.1 = g))
  bitOf w0 16 && has (bits w0 0 8) && has (bits w0 8 8)


/-- The ranges in use of a key descriptor, as (first byte, count) (R186). -/
def keyRanges (d : Nat) : List (Nat × Nat) :=
  (List.range (min (bits d 52 3) 4)).map (fun i => (bits d (13 * i) 8, bits d (13 * i + 8) 5 + 1))

/-- The bytes of one range. -/
def rangeBytes (fv : Tab Byte) (r : Nat × Nat) : List Byte :=
  (List.range r.2).map (fun i => tget fv (r.1 + i) 0)

/-- A key: its ranges in order (R186). -/
def keyBytes (fv : Tab Byte) (d : Nat) : List Byte := ((keyRanges d).map (rangeBytes fv)).flatten

/-- Exchange two ranges for a symmetric hash key (R191). -/
def symPair (a b : List Byte) : List Byte :=
  if a.length = b.length ∧ beNat b < beNat a then b ++ a else a ++ b

/-- The hash key (R188, R191). -/
def hashKey (fv : Tab Byte) (t : BitVec 384) : List Byte :=
  let rs := (keyRanges (tmplWord t 5)).map (rangeBytes fv)
  if bitOf (tmplWord t 0) 21 then
    match rs with
    | [a, b] => symPair a b
    | [a, b, c] => symPair a b ++ c
    | [a, b, c, d] => symPair a b ++ symPair c d
    | _ => rs.flatten
  else rs.flatten

/-- One bit step of a reflected CRC. -/
def crcBit (poly c : Nat) : Nat := if c % 2 = 1 then (c / 2) ^^^ poly else c / 2

/-- One byte of a reflected CRC. -/
def crcByte (poly c : Nat) (b : Byte) : Nat :=
  let x := c ^^^ b.toNat
  crcBit poly (crcBit poly (crcBit poly (crcBit poly (crcBit poly (crcBit poly (crcBit poly (crcBit poly x)))))))

/-- A reflected 32-bit CRC over bytes, from an initial register value, no final exclusive-or (R189). -/
def crcRefl (poly init : Nat) (l : List Byte) : Nat := l.foldl (crcByte poly) init

/-- H1, CRC-32C (R189). -/
def hashH1 (seed : Nat) (l : List Byte) : Nat := crcRefl 0x82F63B78 seed l

/-- H2, the IEEE CRC-32 (R189). -/
def hashH2 (seed : Nat) (l : List Byte) : Nat := crcRefl 0xEDB88320 seed l

/-- The slot index in a group of 2^s slots (R190). -/
def slotIndex (h s : Nat) : Nat := (bits h 16 16 ^^^ bits h 0 16) % 2 ^ s

/-- The two hashes of a packet under a template (R189). -/
def packetHashes (pt : ParseTables) (fv : Tab Byte) (t : BitVec 384) : Nat × Nat :=
  let w := (tget pt.hash (bits (tmplWord t 0) 17 4) 0xFFFFFFFFFFFFFFFF#64).toNat
  let k := hashKey fv t
  (hashH1 (bits w 0 32) k, hashH2 (bits w 32 32) k)

/-- May a key descriptor stand: reserved bits 0, at most 4 ranges, none past byte 255 (R186, R188). -/
def descOk (d : Nat) : Bool :=
  decide (bits d 55 9 = 0) && decide (bits d 52 3 ≤ 4)
    && (keyRanges d).all (fun r => decide (r.1 + r.2 ≤ 256))

/-- Length of a key that a descriptor forms. -/
def descLen (d : Nat) : Nat := ((keyRanges d).map (·.2)).sum

/-- May a key template stand (R185, R188, R290)? `learning` says whether its table is a learning table. -/
def tmplOk (t : BitVec 384) (learning : Bool) : Bool :=
  let w0 := tmplWord t 0
  let n (i : Nat) := descLen (tmplWord t i)
  decide (bits w0 30 34 = 0)
    && (List.range 5).all (fun i => descOk (tmplWord t (i + 1)))
    && (!bitOf w0 22 || decide (n 1 = 4) || decide (n 1 = 16))
    && (!learning || (!bitOf w0 22 && decide (1 ≤ n 1) && decide (n 1 ≤ 8)))
    && (!bitOf w0 23 || (decide (1 ≤ n 2) && decide (n 2 ≤ 16)))
    && (!bitOf w0 24 || (decide (1 ≤ n 3) && decide (n 3 ≤ 64)))
    && (!bitOf w0 25 || (decide (1 ≤ n 4) && decide (n 4 ≤ 20)))
    && decide (n 5 ≤ 64)

end Sys2Proof.Machine
end

