-- ==== Sys2Proof/Machine/Em.lean ====
section
/-! DEFINITION. The exact-match store: buckets, overflow, placement, and the application of learning records
(R262 to R300) as data and pure functions. -/

namespace Sys2Proof.Machine

/-- A learning record (R294). -/
structure LearnRec where
  table : Nat
  kind : Nat
  origin : Nat
  lport : Nat
  keyLen : Nat
  key : Nat
  seq : Nat
  time : Nat
  deriving DecidableEq, Repr

/-- A stored entry (R269, R274, R279): the bucket that holds it (overflow bucket o stands at 2031616 + o),
its first slot, and its fields. -/
structure EmEntry where
  bucket : Nat
  slot : Nat
  static : Bool
  learned : Bool
  result : Nat
  stamp : Nat
  origin : Nat
  time : Nat
  deriving DecidableEq, Repr

/-- The store: entries by key (table, length, bytes), and the overflow pointers of the spilled home
buckets (R266). -/
structure EmStore where
  ents : Tab EmEntry
  spill : Tab Nat
  deriving DecidableEq, Repr

/-- Main buckets (R262). -/
def mainBuckets : Nat := 2031616
/-- Overflow buckets (R262). -/
def ovfBuckets : Nat := 65536

/-- The key of an entry: table number, key length minus 1, and 16 key bytes as one number (byte 0 highest). -/
def emKey (table klen key : Nat) : Nat := (table * 16 + klen) * 2 ^ 128 + key
/-- Table of an entry key. -/
def ekTable (k : Nat) : Nat := k / 2 ^ 132
/-- Key length minus 1 of an entry key. -/
def ekLen (k : Nat) : Nat := bits k 128 4
/-- Is the entry wide (R263)? -/
def ekWide (k : Nat) : Bool := decide (8 ≤ ekLen k)
/-- Units of an entry (R263). -/
def ekUnits (k : Nat) : Nat := if ekWide k then 2 else 1

/-- The bytes hashed: table number, then the key bytes (R265). -/
def emHashBytes (k : Nat) : List Byte :=
  BitVec.ofNat 8 (ekTable k) :: (beBytes 16 (bits k 0 128)).take (ekLen k + 1)

/-- Home bucket of a hash (R265). -/
def emBucketOf (h : Nat) : Nat := h * 31 / 2 ^ 16

/-- Home and alternate buckets (R265). -/
def emB12 (seedA seedB k : Nat) : Nat × Nat :=
  let bs := emHashBytes k
  let b1 := emBucketOf (hashH1 seedA bs)
  let b2 := emBucketOf (hashH2 seedB bs)
  (b1, if b2 = b1 then (b1 + 1) % mainBuckets else b2)

/-- The second place of a key (R266). -/
def emSecond (st : EmStore) (b1 b2 : Nat) : Nat :=
  match tget? st.spill b1 with
  | some o => mainBuckets + o
  | none => b2

/-- The entries of a bucket, as (key, entry). -/
def emIn (st : EmStore) (b : Nat) : List (Nat × EmEntry) := st.ents.filter (fun e => decide (e.2.bucket = b))

/-- The slots in use of a bucket, entry `skip` left out. -/
def emUsed (st : EmStore) (b : Nat) (skip : Nat → Bool) : List Nat :=
  ((emIn st b).filter (fun e => !skip e.1)).flatMap
    (fun e => if ekWide e.1 then [e.2.slot, e.2.slot + 1] else [e.2.slot])

/-- A free slot, or a free pair for a wide entry (R263). -/
def freeSlot (used : List Nat) (wide : Bool) : Option Nat :=
  if wide then [0, 2].find? (fun s => !used.contains s && !used.contains (s + 1))
  else (List.range 4).find? (fun s => !used.contains s)

/-- Room in a bucket for an entry of a width. -/
def emRoom (st : EmStore) (b : Nat) (wide : Bool) : Option Nat := freeSlot (emUsed st b (fun _ => false)) wide

/-- Where a resident could go: its home bucket if it is not there, else its second place (R267, R270). -/
def emOther (st : EmStore) (sa sb k b : Nat) : Nat :=
  let (b1, b2) := emB12 sa sb k
  if b = b1 then emSecond st b1 b2 else b1

/-- Move an entry. -/
def emMove (st : EmStore) (k b slot : Nat) : EmStore :=
  match tget? st.ents k with
  | some e => { st with ents := tset st.ents k { e with bucket := b, slot := slot } }
  | none => st

/-- A chain of moves under search (R270 step 3): the moves so far, last first, as (key, destination), and the
bucket the chain has reached. -/
structure EmChain where
  moves : List (Nat × Nat)
  bucket : Nat
  deriving DecidableEq, Repr

/-- Carry out a chain, last move first; every destination has room when its turn comes, or the chain is
given up. -/
def emRun (st : EmStore) : List (Nat × Nat) → Option EmStore
  | [] => some st
  | (k, b) :: r =>
    match emRoom st b (ekWide k) with
    | none => none
    | some s => emRun (emMove st k b s) r

/-- The chains one move longer than `c`: every resident whose removal makes room for what comes (an entry of
width `wide` into the chain's last bucket). -/
def emExtend (st : EmStore) (sa sb : Nat) (wide : Bool) (c : EmChain) : List EmChain :=
  let need : Bool := match c.moves with
    | [] => wide
    | (k, _) :: _ => ekWide k
  ((emIn st c.bucket).filter (fun e =>
      (freeSlot (emUsed st c.bucket (fun k => decide (k = e.1))) need).isSome
        && !c.moves.any (fun m => decide (m.1 = e.1)))).map
    (fun e =>
      let o := emOther st sa sb e.1 c.bucket
      ⟨(e.1, o) :: c.moves, o⟩)

/-- Breadth-first search for a chain of at most 8 moves, with at most `fuel` buckets examined (R270 step 3). -/
def emSearch (st : EmStore) (sa sb : Nat) (wide : Bool) : Nat → List EmChain → Option EmStore
  | 0, _ => none
  | _, [] => none
  | n + 1, c :: r =>
    match (if c.moves.isEmpty then none else emRun st c.moves) with
    | some st' => some st'
    | none =>
      if 8 ≤ c.moves.length then emSearch st sa sb wide n r
      else emSearch st sa sb wide n (r ++ emExtend st sa sb wide c)

/-- Place several entries into one bucket, wide ones first: their slots, none when they do not fit. -/
def packInto (used : List Nat) : List Nat → Option (List (Nat × Nat))
  | [] => some []
  | k :: r =>
    match freeSlot used (ekWide k) with
    | none => none
    | some s =>
      match packInto (if ekWide k then s :: (s + 1) :: used else s :: used) r with
      | none => none
      | some l => some ((k, s) :: l)

/-- Wide keys before narrow ones. -/
def wideFirst (ks : List Nat) : List Nat := ks.filter ekWide ++ ks.filter (fun k => !ekWide k)

/-- The overflow bucket with the most free slots, lowest index on a tie, `skip` left out (R270 step 4). -/
def emBestOvf (st : EmStore) (skip : Option Nat) : Option Nat :=
  let used := (st.ents.filter (fun e => decide (mainBuckets ≤ e.2.bucket))).map (fun e => e.2.bucket - mainBuckets)
  match ((List.range (min ovfBuckets (used.length + 2))).find? (fun o => !used.contains o && decide (some o ≠ skip))) with
  | some o => some o
  | none =>
    (List.range ovfBuckets).foldl (fun b o =>
      if some o = skip then b
      else
        let f := 4 - (emUsed st (mainBuckets + o) (fun _ => false)).length
        match b with
        | none => some (o, f)
        | some (o', f') => if f' < f then some (o, f) else some (o', f')) none |>.map (·.1)

/-- Move the entries `ks` and make room for the new key `k` in overflow bucket `o`; the slot of `k`. -/
def emGroupTo (st : EmStore) (o : Nat) (ks : List Nat) (k : Nat) : Option (EmStore × Nat) :=
  match packInto (emUsed st (mainBuckets + o) (fun _ => false)) (wideFirst (ks ++ [k])) with
  | none => none
  | some pl =>
    let st' := pl.foldl (fun s (p : Nat × Nat) => if p.1 = k then s else emMove s p.1 (mainBuckets + o) p.2) st
    (pl.find? (fun p => decide (p.1 = k))).map (fun p => (st', p.2))

/-- Where an insert ends: the store with room made, and the bucket and slot of the new entry (R270). -/
structure EmPlace where
  store : EmStore
  bucket : Nat
  slot : Nat
  deriving DecidableEq, Repr

/-- The entries that leave their alternate bucket when their home bucket spills: those homed at b1 that live in their own b2
(R267, R270 step 4). -/
def emSpilled (st : EmStore) (sa sb b1 : Nat) : List (Nat × EmEntry) :=
  st.ents.filter (fun e => decide ((emB12 sa sb e.1).1 = b1 ∧ e.2.bucket ≠ b1))

/-- Steps 4 and 5 of R270. -/
def emPlaceOvf (st : EmStore) (sa sb k b1 : Nat) : Option EmPlace :=
  match tget? st.spill b1 with
  | none =>
    match emBestOvf st none with
    | none => none
    | some o =>
      let ks := (emSpilled st sa sb b1).map (·.1)
      match emGroupTo st o ks k with
      | none => none
      | some (st', s) => some ⟨{ st' with spill := tset st'.spill b1 o }, mainBuckets + o, s⟩
  | some o0 =>
    match emBestOvf st (some o0) with
    | none => none
    | some o =>
      let ks := ((emIn st (mainBuckets + o0)).filter (fun e => decide ((emB12 sa sb e.1).1 = b1))).map (·.1)
      match emGroupTo st o ks k with
      | none => none
      | some (st', s) => some ⟨{ st' with spill := tset st'.spill b1 o }, mainBuckets + o, s⟩

/-- Placement of a new key (R270). -/
def emPlace (st : EmStore) (sa sb k : Nat) : Option EmPlace :=
  let (b1, b2) := emB12 sa sb k
  let p2 := emSecond st b1 b2
  let w := ekWide k
  match emRoom st b1 w with
  | some s => some ⟨st, b1, s⟩
  | none =>
    match emRoom st p2 w with
    | some s => some ⟨st, p2, s⟩
    | none =>
      match emSearch st sa sb w 64 [⟨[], b1⟩, ⟨[], p2⟩] with
      | some st' =>
        match emRoom st' b1 w with
        | some s => some ⟨st', b1, s⟩
        | none =>
          match emRoom st' p2 w with
          | some s => some ⟨st', p2, s⟩
          | none => none
      | none => emPlaceOvf st sa sb k b1

/-- The buckets whose content a change of the store touches. -/
def emTouched (a b : EmStore) : List Nat :=
  (b.ents.filter (fun e => decide (tget? a.ents e.1 ≠ some e.2))).flatMap
    (fun e => e.2.bucket :: ((tget? a.ents e.1).map (·.bucket)).toList)

/-- The slots of an entry. -/
def emSlots (k : Nat) (e : EmEntry) : List (Nat × Nat) :=
  (e.bucket, e.slot) :: (if ekWide k then [(e.bucket, e.slot + 1)] else [])

/-- The slots of a store that another leaves: what a predecessor epoch still reads (R272). -/
def emLeft (old new : EmStore) : List (Nat × Nat) :=
  (old.ents.filter (fun e => !(tget? new.ents e.1).any (fun x => x.bucket == e.2.bucket && x.slot == e.2.slot))).flatMap
    (fun e => emSlots e.1 e.2)

/-- Is it the same entry, but for its stamp and place? -/
def emSame (a b : EmEntry) : Bool :=
  decide ({ a with bucket := b.bucket, slot := b.slot, stamp := b.stamp } = b)

/-- Does a home bucket have an entry in the overflow store? -/
def emHomed (st : EmStore) (sa sb home : Nat) : Bool :=
  st.ents.any (fun e => decide (mainBuckets ≤ e.2.bucket ∧ (emB12 sa sb e.1).1 = home))

/-- Clear the spill indication of the home buckets that have had no entry in the overflow store since before this commit
(R271). -/
def emUnspill (old st : EmStore) (sa sb : Nat) : EmStore :=
  { st with spill := st.spill.filter (fun p => emHomed old sa sb p.1 || emHomed st sa sb p.1) }

/-- Units of the store, or of one table (R263). -/
def emUnits (st : EmStore) : Nat := ((tkeys st.ents).map ekUnits).sum
/-- Units of table t (R311). -/
def emTableUnits (st : EmStore) (t : Nat) : Nat :=
  (((tkeys st.ents).filter (fun k => decide (ekTable k = t))).map ekUnits).sum
/-- Overflow slots in use (R311). -/
def emOvfUsed (st : EmStore) : Nat :=
  ((st.ents.filter (fun e => decide (mainBuckets ≤ e.2.bucket))).map (fun e => ekUnits e.1)).sum

/-- Age of an entry (R284). -/
def emAge (tick stamp : Nat) : Nat := (tick + 65536 - stamp % 65536) % 65536

/-- age_limit in force (R287). -/
def ageLimit (x : Nat) : Nat := if x = 0 then 1 else x
/-- refresh_ticks in force (R287). -/
def refreshTicks (limit x : Nat) : Nat := min x (ageLimit limit / 2)

/-- The forwarding result of a learned entry (R292): kind NEXT_HOP, tag 0. -/
def learnedFwd (base m l : Nat) : Nat := (base + 256 * m + l) % 2 ^ 22
/-- The 64-bit result of a learned entry: `fwd` with `fwd_en` (R274, R292). -/
def learnedResult (base m l : Nat) : Nat := learnedFwd base m l + 2 ^ 32

/-- What applying a record does (R297). -/
inductive LearnAct where
  | insert | relocate | stamp | remove | discard
  deriving DecidableEq, Repr

/-- Is (time, origin) of a record later than that of an entry (R297)? -/
def recLater (r : LearnRec) (e : EmEntry) : Bool :=
  decide (e.time < r.time) || (decide (r.time = e.time) && decide (e.origin < r.origin))

/-- The action table of R297. -/
def learnAct (r : LearnRec) (e : Option EmEntry) : LearnAct :=
  match e with
  | none => if r.kind = 3 then .discard else .insert
  | some e =>
    if !e.learned then .discard
    else if r.kind = 3 then (if e.origin = r.origin ∧ e.time ≤ r.time then .remove else .discard)
    else if r.kind = 2 then
      (if e.origin = r.origin then .stamp else if recLater r e then .relocate else .discard)
    else if recLater r e then .relocate else .discard

/-- The 32 bytes of a learning record, as four words (R294). -/
def learnWords (r : LearnRec) : List Word :=
  [BitVec.ofNat 64 (r.table % 16 + 16 * (r.kind % 8) + 2 ^ 8 * (r.origin % 256) + 2 ^ 16 * (r.lport % 256)
      + 2 ^ 24 * (r.keyLen % 16)),
   BitVec.ofNat 64 r.key, BitVec.ofNat 64 (r.seq % 2 ^ 32), BitVec.ofNat 64 r.time]

/-- The learning record that four words spell (R294). -/
def learnOfWords (l : List Word) : LearnRec :=
  let w := (l.getD 0 0).toNat
  ⟨bits w 0 4, bits w 4 3, bits w 8 8, bits w 16 8, bits w 24 4, (l.getD 1 0).toNat,
    bits (l.getD 2 0).toNat 0 32, (l.getD 3 0).toNat⟩

end Sys2Proof.Machine
end

