-- ==== Sys2Proof/Machine/FabTypes.lean ====
section
/-! DEFINITION. What the fabric interface and the memory controllers hold (R460 to R504, R550 to R578). -/

namespace Sys2Proof.Machine

/-- A Rinunwa cell (R464, R465): the four header words and the payload. -/
structure Cell where
  w0 : Word
  w1 : Word
  w2 : Word
  w3 : Word
  payload : List Byte
  deriving DecidableEq, Repr

/-- The kinds of link frame (R460, R813). -/
inductive LinkKind where
  | cell | idle | nak
  deriving DecidableEq, Repr

/-- A fabric lane's link layer (R460): next sequence to send, frames sent and not acknowledged, replays of
the oldest, next sequence expected, and whether frames are discarded until a replay. -/
structure FabLink where
  txSeq : Nat
  replay : List (Nat × Cell)
  replays : Nat
  rxSeq : Nat
  nakked : Bool
  deriving DecidableEq, Repr

/-- A lane's link layer at the start. -/
def fabLink0 : FabLink := ⟨0, [], 0, 0, false⟩

/-- A tether record (R489): sequence number, the cell as sent, the lane last used, the packets whose last byte it
carries, and when it was last sent, in nanoseconds since power-on. -/
structure Tether where
  seq : Nat
  cell : Cell
  lane : Nat
  ends : List Pkt
  sentAt : Nat
  deriving DecidableEq, Repr

/-- A source stream (R467, R468, R493): next sequence, acknowledgement point, tether records, the packets
served by the VOQ engine with the cells already cut from the first, the messages that wait, whether the next
cell carries `restart`, the doublings of the retransmit timer, and since when the stream has cells unacknowledged
without progress (R501). -/
structure TxStream where
  next : Nat
  acked : Nat
  recs : List Tether
  pkts : List Pkt
  cut : Nat
  restart : Bool
  backoff : Nat
  progAt : Nat
  deriving DecidableEq, Repr

/-- A stream that has sent nothing. -/
def txStream0 : TxStream := ⟨0, 0, [], [], 0, false, 0, 0⟩

/-- The control messages that wait for a cell toward a module (R445, R495, R503); credit messages with the time since
which they wait. -/
structure MsgQ where
  req : List (Nat × Word)
  grant : List (Nat × Word)
  ctl : List Word
  learn : List LearnRec
  deriving DecidableEq, Repr

/-- No message waiting. -/
def msgQ0 : MsgQ := ⟨[], [], [], []⟩

/-- A packet under reassembly at the destination (R485): its descriptor, with the body that its fragments fill, and
whether it has entered its egress queue by cut-through (R388). -/
structure Partial where
  pkt : Pkt
  queued : Bool
  deriving DecidableEq, Repr

/-- A resequencer of a source stream (R482, R484, R487, R488, R502): next number, cells held and when each arrived, cells
released since the last entry and when the first of them was, whether an entry is owed at once, the packet under
reassembly, and the number at which the stream last restarted. -/
structure RxStream where
  next : Nat
  held : Tab Cell
  heldAt : Tab Nat
  since : Nat
  sinceAt : Nat
  owed : Bool
  asm : Option Partial
  base : Option Nat
  deriving DecidableEq, Repr

/-- A resequencer at the start. -/
def rxStream0 : RxStream := ⟨0, [], [], 0, 0, false, none, none⟩

/-- What is known of another module (R478, R481, R496, R501): planes on which a heartbeat was heard in time, the
planes on which it hears this module, whether it is reachable, its incarnation, the last plane used toward it, the
round trips of the last millisecond as (time, length), when the last heartbeat came on each plane, and since when the
module is unreachable. -/
structure Peer where
  heardOn : Nat
  hears : Nat
  reachable : Bool
  inc : Option Nat
  lastPlane : Nat
  rtts : List (Nat × Nat)
  hbAt : Tab Nat
  quietAt : Nat
  deriving DecidableEq, Repr

/-- A module never heard. -/
def peer0 : Peer := ⟨0, 0, false, none, 7, [], [], 0⟩

/-- A memory channel beyond its register (R551, R563, R568, R570): when bursts with a corrected symbol on each pin came
in the last second, when uncorrectable bursts came in the last millisecond, the catch-up log and its overflow, the
delays and references trained, the drift applied, when it entered OUT, since when it retrains (R566), and when its drift was last
read (R564). -/
structure MemCh where
  pinHits : Tab (List Nat)
  ueTimes : List Nat
  log : List Nat
  overflow : Bool
  train : List Int
  drift : List Int
  outAt : Option Nat
  retrainAt : Nat
  trackAt : Option Nat
  deriving DecidableEq, Repr

/-- Where in a channel a transaction goes: its rank, which is that of its port (R559), and its address. -/
structure MemAddr where
  rank : Nat
  addr : Nat
  deriving DecidableEq, Repr

/-- A transaction of 256 B of a memory channel (R549, R559): the rank of its port, the address in the channel, and whether it
writes. -/
structure MemTx where
  rank : Nat
  addr : Nat
  write : Bool
  deriving DecidableEq, Repr

/-- A channel's transactions (R549, R561): those outstanding in the order of issue, at most 64, and those that wait at their
ports in the order of arrival. -/
structure MemQ where
  issued : List MemTx
  waiting : List MemTx
  deriving DecidableEq, Repr

/-- No transaction. -/
def memQ0 : MemQ := ⟨[], []⟩

/-- A channel before training. -/
def memCh0 : MemCh := ⟨[], [], [], false, [], [], none, 0, none⟩

/-- The channel and the byte address that hold byte b of tail segment S at grain g (R554). -/
def tailMap (g seg b : Nat) : Nat × Nat :=
  let grp := seg / 524288
  let x := 49152 * (seg % 524288) + b
  let r := x / (12 * g)
  let j := x % (12 * g) / g
  let pos := (r % 13 + 1 + j) % 13
  (13 * grp + pos, r * g + x % g)

/-- The two channels and the address that hold ballast byte y at grain g (R556). -/
def ballastMap (g y : Nat) : Nat × Nat × Nat :=
  let k := y / g % 8
  (k, k + 8, y / (8 * g) * g + y % g)

end Sys2Proof.Machine
end

