-- ==== Sys2Proof/Machine/Group.lean ====
section
/-! DEFINITION. ECMP and LAG groups and their indirection tables (R192 to R205). -/

namespace Sys2Proof.Machine

/-- One member of a group: its 22-bit entry (next-hop index, or module and logical port), its weight and
whether it is up (R196, R203). -/
structure GMember where
  entry : Nat
  weight : Nat
  up : Bool
  deriving DecidableEq, Repr

/-- A group: type, mode, log2 of its slots, members, and per slot the member numbers of primary and
alternate (R192, R200). An ECMP slot's alternate is not used. -/
structure Group where
  lag : Bool
  resilient : Bool
  s : Nat
  members : List GMember
  slots : List (Nat × Nat)
  deriving DecidableEq, Repr

/-- The weight in force: 0 means 1 (R196). -/
def gWeight (m : GMember) : Nat := if m.weight = 0 then 1 else m.weight

/-- The places of the largest remainders, ties to the lower number: `n` of them (R198). -/
def largestRem (rems : List (Nat × Nat)) : Nat → List Nat
  | 0 => []
  | n + 1 =>
    match rems.foldl (fun (b : Option (Nat × Nat)) r =>
        match b with
        | none => some r
        | some q => if q.2 < r.2 then some r else some q) none with
    | none => []
    | some b => b.1 :: largestRem (rems.filter (fun r => r.1 ≠ b.1)) n

/-- The quota of each member in a table of 2^s slots, counting only members that are up (R198). -/
def gQuotas (ms : List GMember) (s : Nat) : List Nat :=
  let ws := ms.map (fun m => if m.up then gWeight m else 0)
  let tot := ws.sum
  if tot = 0 then ws
  else
    let base := ws.map (fun w => 2 ^ s * w / tot)
    let rems := (ws.zipIdx.map (fun (w, i) => (i, 2 ^ s * w % tot))).filter
      (fun r => decide (0 < ws.getD r.1 0))
    let extra := largestRem rems (2 ^ s - base.sum)
    base.zipIdx.map (fun (b, i) => if extra.contains i then b + 1 else b)

/-- The next member from `start` in cyclic order still below its quota. -/
def nextBelow (left : List Nat) (start : Nat) : Nat → Option Nat
  | 0 => none
  | n + 1 =>
    let i := start % left.length
    if 0 < left.getD i 0 then some i else nextBelow left (start + 1) n

/-- Assign slots in slot order, each to the next member in cyclic order below its quota (R198). -/
def gFillLoop : Nat → Nat → List Nat → List Nat
  | 0, _, _ => []
  | n + 1, start, left =>
    match nextBelow left start left.length with
    | none => []
    | some i => i :: gFillLoop n (i + 1) (left.set i (left.getD i 0 - 1))

/-- The primaries of a freshly filled table (R198). -/
def gFill (ms : List GMember) (s : Nat) : List Nat := gFillLoop (2 ^ s) 0 (gQuotas ms s)

/-- Slots that each member holds. -/
def gCounts (n : Nat) (prim : List Nat) : List Nat :=
  (List.range n).map (fun i => prim.count i)

/-- The surviving member with the smallest ratio of slots to weight, ties to the lower number (R199). -/
def leastLoaded (ms : List GMember) (cnt : List Nat) (alive : Nat → Bool) : Option Nat :=
  (List.range ms.length).foldl (fun b i =>
    if !alive i then b
    else match b with
      | none => some i
      | some j =>
        if cnt.getD i 0 * ((ms[j]?).map gWeight).getD 1 < cnt.getD j 0 * ((ms[i]?).map gWeight).getD 1
        then some i else some j) none

/-- R199: rewrite, in slot order, the slots that member `m` holds; the others keep their primary. With no survivor, for which
the spec gives no outcome, the slots keep member `m` (DESIGN CHOICE, log 133). -/
def gMoveOff (ms : List GMember) (m : Nat) (alive : Nat → Bool) : List Nat → List Nat → List Nat
  | [], _ => []
  | p :: r, cnt =>
    if p = m then
      match leastLoaded ms cnt alive with
      | none => p :: gMoveOff ms m alive r cnt
      | some j => j :: gMoveOff ms m alive r (cnt.set j (cnt.getD j 0 + 1))
    else p :: gMoveOff ms m alive r cnt

/-- The primaries after member `m` fails (R199). -/
def gFail (ms : List GMember) (m : Nat) (prim : List Nat) : List Nat :=
  let cnt := (gCounts ms.length prim).set m 0
  gMoveOff ms m (fun i => decide (i ≠ m) && ((ms[i]?).map (·.up)).getD false) prim cnt

/-- The alternate of each slot: the member R199 would give it if its primary failed (R200). -/
def gAlternates (ms : List GMember) (prim : List Nat) : List Nat :=
  let per := (List.range ms.length).map (fun m => gFail ms m prim)
  prim.zipIdx.map (fun (p, i) => ((per[p]?).getD []).getD i p)

/-- R204: the member with the largest ratio of slots to weight, ties to the higher number. -/
def mostLoaded (ms : List GMember) (cnt : List Nat) (skip : Nat) : Option Nat :=
  (List.range ms.length).foldl (fun b i =>
    if i = skip ∨ cnt.getD i 0 = 0 then b
    else match b with
      | none => some i
      | some j =>
        if cnt.getD j 0 * ((ms[i]?).map gWeight).getD 1 ≤ cnt.getD i 0 * ((ms[j]?).map gWeight).getD 1
        then some i else some j) none

/-- The highest-numbered place of a value. -/
def lastIdx (l : List Nat) (v : Nat) : Option Nat :=
  (l.zipIdx.filter (fun p => decide (p.1 = v))).getLast?.map (·.2)

/-- R204: a member of a RESILIENT group takes slots back one at a time until it reaches its quota. -/
def gTakeBack (ms : List GMember) (m : Nat) : Nat → List Nat → List Nat
  | 0, prim => prim
  | n + 1, prim =>
    match mostLoaded ms (gCounts ms.length prim) m with
    | none => prim
    | some j =>
      match lastIdx prim j with
      | none => prim
      | some i => gTakeBack ms m n (prim.set i m)

/-- A group with primaries set, and alternates for a LAG group (R200). -/
def gWithPrimaries (g : Group) (prim : List Nat) : Group :=
  let alt := if g.lag then gAlternates g.members prim else prim
  { g with slots := prim.zip alt }

/-- A group newly set (R198). -/
def gSet (lag resilient : Bool) (s : Nat) (ms : List GMember) : Group :=
  gWithPrimaries ⟨lag, resilient, s, ms, []⟩ (gFill ms s)

/-- A group with member `m` marked up or down. -/
def gMark (g : Group) (m : Nat) (up : Bool) : Group :=
  { g with members := g.members.zipIdx.map (fun (x, i) => if i = m then { x with up := up } else x) }

/-- Member `m` fails: R199 rewrites its slots; of the others only alternates that name it change (R200). -/
def gMemberDown (g : Group) (m : Nat) : Group :=
  let g1 := gMark g m false
  let prim := gFail g1.members m (g.slots.map (·.1))
  if g.lag then
    let alt := gAlternates g1.members prim
    { g1 with slots := (g.slots.zip (prim.zip alt)).map (fun (o, n) =>
        if o.1 = m ∨ o.2 = m then n else o) }
  else { g1 with slots := prim.zip prim }

/-- Member `m` returns (R204). The alternates of all slots are computed anew; R200 tells which are rewritten only for a member
that fails (DESIGN CHOICE, log 134). -/
def gMemberUp (g : Group) (m : Nat) : Group :=
  let g1 := gMark g m true
  let quota := (gQuotas g1.members g.s).getD m 0
  let prim0 := g.slots.map (·.1)
  if g.resilient then gWithPrimaries g1 (gTakeBack g1.members m (quota - prim0.count m) prim0)
  else gWithPrimaries g1 (gFill g1.members g.s)

/-- The member that a slot selects; a LAG slot whose primary is a local port that has left UP selects its
alternate unless that is down as well (R201). `down` says whether a member's port is a local port not UP. -/
def gSelect (g : Group) (slot : Nat) (down : Nat → Bool) : Nat :=
  let (p, a) := g.slots.getD slot (0, 0)
  if g.lag && down p && !down a then a else p

/-- The entry word of member `m`. -/
def gEntry (g : Group) (m : Nat) : Nat := ((g.members[m]?).map (·.entry)).getD 0

/-- Members that a group names, from a GROUP_SET payload (R196). -/
def gsMembers (pl : List Word) (n : Nat) : List GMember :=
  (List.range n).map (fun m =>
    let x := bits ((pl.getD (1 + m / 2) 0).toNat) (32 * (m % 2)) 32
    ⟨bits x 0 22, bits x 24 8, true⟩)

end Sys2Proof.Machine
end

