-- ==== Sys2Proof/Machine/Route.lean ====
section
/-! DEFINITION. The route tables and the next-hop space as data and their pure functions (R214 to R237). -/

namespace Sys2Proof.Machine

/-- The miss action of a VRF (R221): punt or drop, and the punt queue. -/
structure VrfMiss where
  punt : Bool
  missQ : Nat
  deriving DecidableEq, Repr

/-- An entry of the next-hop space (R230): its two words, and whether it is in quarantine (R237). -/
structure NhEntry where
  w0 : Word
  w1 : Word
  quar : Bool
  deriving DecidableEq, Repr

/-- Address bits of a family (R216). -/
def famBits (fam : Nat) : Nat := if fam = 0 then 32 else 128

/-- An address with the bits below the prefix length cleared (R225). -/
def maskAddr (fam plen addr : Nat) : Nat :=
  let k := famBits fam - plen
  addr / 2 ^ k * 2 ^ k

/-- The key of a prefix in the route table: VRF, family, prefix length, masked address. -/
def routeKey (vrf fam plen addr : Nat) : Nat :=
  ((vrf * 2 + fam) * 256 + plen) * 2 ^ 128 + maskAddr fam plen addr

/-- VRF of a route key. -/
def rkVrf (k : Nat) : Nat := k / 2 ^ 137
/-- Family of a route key. -/
def rkFam (k : Nat) : Nat := bits k 136 1
/-- Prefix length of a route key. -/
def rkLen (k : Nat) : Nat := bits k 128 8

/-- The longest matching prefix (R216): its length and result. -/
def routeLpm (t : Tab (BitVec 32)) (vrf fam addr : Nat) : Nat → Option (Nat × Nat)
  | 0 => (tget? t (routeKey vrf fam 0 addr)).map (fun r => (0, r.toNat))
  | n + 1 =>
    match tget? t (routeKey vrf fam (n + 1) addr) with
    | some r => some (n + 1, r.toNat)
    | none => routeLpm t vrf fam addr n

/-- Length class of a prefix (R226). -/
def routeClass (fam plen : Nat) : Nat :=
  if fam = 0 then (if plen ≤ 16 then 0 else if plen ≤ 24 then 1 else 2)
  else if plen ≤ 32 then 3 else if plen ≤ 48 then 4 else if plen ≤ 64 then 5
  else if plen ≤ 127 then 6 else 7

/-- Weight of a class (R226). -/
def classWeight : Nat → Nat
  | 0 => 8 | 1 => 11 | 2 => 16 | 3 => 12 | 4 => 14 | 5 => 17 | 6 => 22 | _ => 20

/-- Consecutive equal values of a rising list counted once. -/
def countDistinct : List Nat → Nat
  | [] => 0
  | [_] => 1
  | a :: b :: r => (if a = b then 0 else 1) + countDistinct (b :: r)

/-- VRFs in use (R220); the keys rise by VRF. -/
def vrfsInUse (t : Tab (BitVec 32)) : Nat := countDistinct ((tkeys t).map rkVrf)

/-- The charge of the spar trie (R226). -/
def routeCharge (t : Tab (BitVec 32)) : Nat :=
  512 * vrfsInUse t + ((tkeys t).map (fun k => classWeight (routeClass (rkFam k) (rkLen k)))).sum

/-- Prefixes in class c (R258). -/
def routeClassCount (t : Tab (BitVec 32)) (c : Nat) : Nat :=
  ((tkeys t).filter (fun k => decide (routeClass (rkFam k) (rkLen k) = c))).length

/-- Kind of a route result (R224). -/
def rrKind (r : Nat) : Nat := bits r 22 2
/-- Target of a route result. -/
def rrTarget (r : Nat) : Nat := bits r 0 22
/-- Route tag of a route result. -/
def rrTag (r : Nat) : Nat := bits r 24 8

/-- Type of a next-hop entry (R230): 0 FWD, 1 RW, 2 ENCAP. -/
def nhType (e : NhEntry) : Nat := bits e.w0.toNat 0 2
/-- Is the entry valid? -/
def nhValid (e : NhEntry) : Bool := bitOf e.w0.toNat 2

/-- A node group whose reads a bank counts (R247, R248): its rate in M reads/s, the bytes of one copy, and the copies that a
replication would make. -/
structure NodeGroup where
  rate : Nat
  bytes : Nat
  copies : Nat
  deriving DecidableEq, Repr

/-- What a bank reports at the end of a load window (R247): percent of 2.5 G reads/s, and its node groups in the order in
which balancing takes them. -/
structure BankLoad where
  pct : Nat
  groups : List NodeGroup
  deriving DecidableEq, Repr

/-- The end of a bank window (R247, R248, R261): the banks' reports, the clocks in which any bank delayed, and how
many groups the background limit of R32 lets the engine copy now. -/
structure BankWindow where
  loads : List BankLoad
  delayed : Nat
  room : Nat
  deriving DecidableEq, Repr

/-- A move or replication under way (R249): the bank it relieves, the bank it goes to, how many node groups, whether they are
moved or replicated, and whether its new copy is in force and the old one waits for the epoch to retire. -/
structure NodeMove where
  bank : Nat
  target : Nat
  n : Nat
  moved : Bool
  live : Bool
  deriving DecidableEq, Repr

/-- Does a node that stands at a prefix lie on the way of a lookup of an address (R252)? -/
def nodeOnPath (k vrf fam addr : Nat) : Bool :=
  decide (rkVrf k = vrf ∧ rkFam k = fam ∧ maskAddr fam (rkLen k) addr = k % 2 ^ 128)

/-- Do the ranges of a node and of a prefix meet: does one contain the other? -/
def nodeMeets (k p : Nat) : Bool :=
  nodeOnPath k (rkVrf p) (rkFam p) (p % 2 ^ 128) && decide (rkLen k ≤ rkLen p) ||
    nodeOnPath p (rkVrf k) (rkFam k) (k % 2 ^ 128) && decide (rkLen p ≤ rkLen k)

/-- Is the index a valid entry of a type for references and ingress lookups (R235, R237)? -/
def nhIs (t : Tab NhEntry) (i ty : Nat) : Bool :=
  match tget? t i with
  | some e => nhValid e && !e.quar && decide (nhType e = ty)
  | none => false

end Sys2Proof.Machine
end

