-- ==== Sys2Proof/Machine/MgmtTypes.lean ====
section
/-! DEFINITION. What the reset controller, the loader, the table engine, the management controllers, the host
interface, the power logic and telemetry hold (chapters 14 to 19), and the operands of their commands. -/

namespace Sys2Proof.Machine

/-- What a register write brings (R9): its bytes, and the bytes of a frame that a port it takes out of UP has received in
part (R113). -/
structure WriteData where
  bytes : List Byte
  part : List Byte
  deriving DecidableEq, Repr

/-- The reset sources (R678), with the system reset that ends a drain from SAFE (R36). -/
inductive RSrc where
  | por | porstPin | sysrstPin | swSys | chainSys | wdogSys | loadFail | trainLimit | ripcord
  | swCore | chainCore | wdogCore | probation | activation | safeDrain
  deriving DecidableEq, Repr

/-- A source that releases, and the straps sampled when it ends an episode of power-on reach (R684, R697). -/
structure Release where
  src : RSrc
  straps : Nat
  deriving DecidableEq, Repr

/-- What a crossing answers (R721, R727): n events or entries arrive, and then its acknowledge, or for a data crossing a
read, goes high. -/
structure XingAnswer where
  n : Nat
  high : Bool
  deriving DecidableEq, Repr

/-- The fields of an image header (R754) that the rules read, and whether the header and directory keep the
format rules of R754 and R755. -/
structure ImgHdr where
  formatOk : Bool
  part : Nat
  step : Nat
  size : Nat
  fwVersion : Nat
  minHitless : Nat
  generation : Nat
  security : Nat
  stateFormat : Nat
  probationS : Nat
  bodyCrc : Nat
  sections : List (Nat × Nat × Nat)
  keyFused : Bool
  keyRevoked : Bool
  sigOk : Bool
  deriving DecidableEq, Repr

/-- What the sections of an image say (R711): the topology profile, the register values of the port profile, the
memory partition and the profile registers, the SerDes tables and training seeds, the shares of table
SRAM in MiB, and the initial tables as batches of commands, each a header word and its payload; with whether the digest
of the firmware section and those of the others match, and whether each section keeps its format. -/
structure ImgContent where
  fwDigestOk : Bool
  digestsOk : Bool
  contentOk : Bool
  profile : Nat
  moduleId : Nat
  subsys : Option (Nat × Nat)
  portRegs : List (Nat × Word)
  bufCfg : Word
  dtMemCfg : Word
  tfMemCfg : Word
  emSeed : Word
  fabCtl : Word
  shares : List Nat
  serdes : List (List Int)
  seeds : List (List Int)
  tables : List (List (List Word))
  tableRegs : List (Nat × Word)
  deriving DecidableEq, Repr

/-- An image: header, contents, and whether it could be read (R707). -/
structure Image where
  hdr : ImgHdr
  content : ImgContent
  deriving DecidableEq, Repr

/-- A flash bank (R705, R756): its state byte and the image whose header stands in it, if any. -/
structure Bank where
  state : Nat
  image : Option Image
  deriving DecidableEq, Repr

/-- An erased bank (R756). -/
def bank0 : Bank := ⟨0xFF, none⟩

/-- A probation record in retained SRAM (R701, R770): bank, seconds left, firmware slot. -/
structure ProbRec where
  bank : Nat
  left : Nat
  slot : Nat
  deriving DecidableEq, Repr

/-- The boot record of the retained SRAM, whose layout within its 256 bytes the spec leaves open (R701): failure
count, probation record, incarnation, and the ballast write-completion flag. -/
structure BootRec where
  fails : Nat
  prob : Option ProbRec
  inc : Nat
  ballastDone : Bool
  deriving DecidableEq, Repr

/-- The boot record cleared by power-on. -/
def bootRec0 : BootRec := ⟨0, none, 0, false⟩

/-- The reset controller (R678 to R689, R697, R709): reach of the episode in progress (0 none, 1 core, 2
system, 3 power-on), sources asserted, next step of the exit sequence, whether the incarnation has been
incremented in this episode, the sources a drain serves, whether the drain is one from SAFE, and the uptime
at which the watchdog was last restarted and a drain last entered. -/
structure RstSt where
  reach : Nat
  asserted : List RSrc
  exit : Option Nat
  incDone : Bool
  serves : List RSrc
  fromSafe : Bool
  wdogStart : Nat
  drainStart : Nat
  exitAt : Nat
  blkAt : Tab Nat
  tripAt : Nat
  deriving DecidableEq, Repr

/-- The access mode of a boot flash (R706): its default, or the one that an interrupted access left it in. -/
inductive FlashMode where
  | default | left
  deriving DecidableEq, Repr

/-- What the loader sends to a flash port on entering LOAD (R706). -/
inductive FlashCmd where
  | resetEnable | reset
  deriving DecidableEq, Repr

/-- The loader and the boot flashes (R705 to R715, R756): banks A and B, the fallback regions, the access mode of each
flash, the event log, the image in use, the copy that the ROM window shows (R635), whether probation runs or resumes
at RAISE (R708, R770), whether configuration requests are answered with Retry (R715), the next step of bring-up (R736), and
when LOAD and TRAIN were entered (R35, R687). -/
structure BootSt where
  bankA : Bank
  bankB : Bank
  fbA : Option Image
  fbB : Option Image
  modeA : FlashMode
  modeB : FlashMode
  eventLog : List (List Word)
  image : Option Image
  rom : Option Image
  resume : Bool
  rrs : Bool
  bringup : Nat
  loadAt : Nat
  trainAt : Nat
  deriving DecidableEq, Repr

/-- The transfer step of R761 that a module is in: no transfer; receiving the body; the body received and checked
while the erase still runs; programming it; reading it back; relaying a transfer it refused. -/
inductive XferStep where
  | idle | receiving | ended | programming | reading | relaying (status : Nat)
  deriving DecidableEq, Repr

/-- The reel chain and firmware slots (R757 to R774): link state, transfer step, header, staged body, image checked,
next frame number, frames that wait to be sent downstream, credit for DATA, whether the erase has ended, the two
firmware slots of the ballast and the running one, the rollback copy, the firmware-defined region, and the
positions whose STATUS the head has. -/
structure FwSt where
  linkUp : Bool
  step : XferStep
  hdr : Option ImgHdr
  staged : List Byte
  stagedImg : Option Image
  nextSeq : Nat
  relayQ : List (Nat × Nat × List Byte)
  credit : Nat
  erased : Bool
  slots : List (Option Image)
  running : Nat
  rollback : Option (List Word)
  statusFrom : List Nat
  deriving DecidableEq, Repr

/-- A table command as the engine takes it (R607): queue, header fields and payload words. -/
structure TCmd where
  q : Nat
  tag : Nat
  commit : Bool
  words : List Word
  deriving DecidableEq, Repr

/-- A completion (R609): queue, tag, status, epoch and returned words. -/
structure Cpl where
  q : Nat
  tag : Nat
  status : Nat
  epoch : Nat
  words : List Word
  deriving DecidableEq, Repr

/-- One consistent set of tables (R207, R208, R239, R241): parser tables, routes, next hops, groups, exact match,
classification, the egress hierarchy's words, the egress queue map, policers, lists and addresses, and the
profile registers whose value in force is that of the last commit, by BAR0 address. -/
structure View where
  parse : ParseTables
  vrf : Tab VrfMiss
  routes : Tab (BitVec 32)
  nh : Tab NhEntry
  groups : Tab Group
  em : EmStore
  trees : Tab Tree
  rules : Tab Rule
  nodes : Tab (Word × Word × Word)
  eqMap : Tab Nat
  pols : Tab (Word × Word × Word)
  mcLists : Tab (List Nat)
  egHdrs : Tab (Word × Word)
  addrs : Tab (Word × Word)
  profs : Tab Word
  deriving DecidableEq, Repr

/-- Empty tables. -/
def view0 : View :=
  ⟨⟨[], [], [], []⟩, [], [], [], [], ⟨[], []⟩, [], [], [], [], [], [], [], [], []⟩

/-- The walk of an EM_FLUSH (R278): queue and tag of the command, its filter, the epoch of its batch, and the entries that its
filter named when the walk began. -/
structure EmWalk where
  q : Nat
  tag : Nat
  w : Nat
  epoch : Nat
  found : Tab EmEntry
  deriving DecidableEq, Repr

/-- The table engine (R610 to R619): owner and owed completions of the open batch (queue, tag, and for an EM_FLUSH its
payload), whether it is ready, the commit step in progress, whether the engine holds changes of its own that it has
not committed, the walks and rebuilds (queue, tag, tree, ended) in progress, the
journal's write and checkpoint points, the REFUSED entry of each queue that may still coalesce, the ballast record,
whether the commit phase in progress is the engine's own (R619), the pipelines (cluster, egress, position) that
passed a retest and return at the next epoch boundary (R606), the opcode and command that wait for a repair (R255), the queue
last fetched from (R613), and when that was (R615). -/
structure EngSt where
  batchQ : Option Nat
  owed : List (Nat × Nat × Option Nat)
  ready : Bool
  phase : Nat
  dirty : Bool
  flushes : List EmWalk
  rebuilds : List (Nat × Nat × Nat × Bool)
  jHead : Nat
  jIdx : Nat
  refused : Tab Nat
  recEpoch : Nat
  recFold : Bool
  own : Bool
  returns : List (Nat × Bool × Nat)
  waiting : Option (Nat × TCmd)
  lastQ : Nat
  fetchAt : Nat
  deriving DecidableEq, Repr

/-- The engine after system reset. -/
def eng0 : EngSt := ⟨none, [], false, 0, false, [], [], 0, 0, [], 0, false, false, [], none, 31, 0⟩

/-- A controller (R592, R593, R599): beats missed in a row on both paths, whether a beat was missed since the
pass began, and whether it is loading its firmware to become ACTIVE. -/
structure McOne where
  missed : Nat
  beatMiss : Bool
  loading : Bool
  deriving DecidableEq, Repr

/-- The bridle pair and the mailbox (R585 to R602, R620 to R624): the two controllers, the checkpoint number
and slot, the snapshot slots, the mailbox arguments latched, whether no controller has been ACTIVE since RAISE or
a core reset began, the controller that a handover goes to, the state format of the checkpoint, and the controllers
with a declared fault that have not passed a test since (R65). -/
structure McSt where
  mc0 : McOne
  mc1 : McOne
  ckptSeq : Nat
  snapshots : List (List Word)
  args : List Word
  starting : Bool
  handTo : Option Nat
  fmt : Nat
  lost : List Nat
  deriving DecidableEq, Repr

/-- The bridle pair after system reset. -/
def mcSt0 : McSt := ⟨⟨0, false, false⟩, ⟨0, false, false⟩, 0, [[], []], [], false, none, 0, []⟩

/-- An outstanding device read (R632, R638, R671): function, tag, the queue and entry it serves, and when it was issued. -/
structure DmaReq where
  fn : Nat
  tag : Nat
  q : Option Nat
  idx : Nat
  at' : Nat
  deriving DecidableEq, Repr

/-- A punted frame with its descriptor fields (R650, R651). -/
structure PuntFrame where
  bytes : List Byte
  multiHit : Bool
  inLport : Nat
  destLport : Nat
  cls : Nat
  accepted : Bool
  reason : Nat
  tag : Nat
  arrival : Nat
  deriving DecidableEq, Repr

/-- The host interface beyond its registers (R627 to R673): configuration space by function and offset, the
MSI-X table and pending bits, PF0's pending messages, device reads outstanding, tags held and since when, punt FIFOs,
index advances of each queue not yet covered by an interrupt and when the first was, and the turn of the inject queues: the
last one served, and the turns that each has left in this round (R657). -/
structure HostSt where
  cfg : Tab (BitVec 32)
  msix : Tab (BitVec 32)
  pba : Tab Bool
  msiPend : Tab Bool
  reqs : List DmaReq
  held : List Nat
  fifos : Tab (List PuntFrame)
  adv : Tab Nat
  cplIdx : Tab (Nat × Nat)
  inta : Bool
  heldAt : Tab Nat
  advAt : Tab Nat
  injLast : Nat
  injLeft : Tab Nat
  deriving DecidableEq, Repr

/-- The host interface after a conventional reset. -/
def host0 : HostSt := ⟨[], [], [], [], [], [], [], [], [], false, [], [], 63, []⟩

/-- States of an event crossing (R721). -/
inductive XState where
  | idle | req | ack | peerReset | timeout
  deriving DecidableEq, Repr

/-- What a crossing holds on its sending side: its state, whether an event is pending, and its merge count (R721 to R723);
when it last made progress (R721, R728); and the entries written to and read from the FIFO of a data crossing (R727): entry k
is the k-th written, and those from `rd` up to `wr` are held. -/
structure Crossing where
  st : XState
  pend : Bool
  merge : Nat
  at' : Nat
  wr : Nat
  rd : Nat
  deriving DecidableEq, Repr

/-- A crossing that is idle. -/
def xing0 : Crossing := ⟨.idle, false, 0, 0, 0, 0⟩

/-- Power (R730 to R749): crossings by number, set voltage of each island, islands whose last loop step had slack
enough for a rise, frames of each port in its current microsecond, the time each cluster's packet-rate demand was
last seen, voltage changes that a rail has not completed, when each updraft began, when a MAC input buffer of each
cluster last held 16 KiB (R740), the excursion credit in microseconds, whether it bars updraft, the second and its peak estimate, and sensors excluded. -/
structure PwrSt where
  xings : Tab Crossing
  setMv : Tab Nat
  steady : Tab Bool
  rate : Tab (Nat × Nat)
  demand : Tab Nat
  avsDue : Tab Nat
  updraftAt : Tab Nat
  highAt : Tab Nat
  creditUs : Nat
  barred : Bool
  sec : Nat
  secPeak : Nat
  bad : List Nat
  deriving DecidableEq, Repr

/-- Power after system reset: 0.75 V is requested of both rails (R820). -/
def pwr0 : PwrSt := ⟨[], [], [], [], [], [(0, 750), (1, 750)], [], [], 0, false, 0, 0, []⟩

/-- A shadow set (R781 to R783): window number, device time of its tick and of the tick that closed it, length on
the reference, step mark, counts, the selection and bandwidth ring that were in force, and the index of the free values of
its rates. -/
structure Shadow where
  window : Nat
  start : Nat
  finish : Nat
  lenNs : Nat
  stepped : Bool
  counts : Tab Nat
  sel : Tab Word
  bw : Option Nat
  fv : Nat
  deriving DecidableEq, Repr

/-- A record of a selection entry shown on counter pages (R791). -/
structure PageRec where
  window : Nat
  start : Nat
  word2 : Word
  counts : List Nat
  deriving DecidableEq, Repr

/-- Telemetry (R779 to R796): whether windows run and with which length, the live window counts by counter, the
accumulators and totals of backed groups, the open shadow set, whether the window holds a step, counters marked
late and entries marked truncated, the selection and the bandwidth ring in force, the draw counters and LFSRs of
the pipelines, the last record of each selection entry, the ballast rings, trace records in this second, closed shadow sets
whose records wait while dumps are paused, with the ticks since their own (R746, R783), the bytes sent to host rings in this
window (R784), and the value of `KV_TLM_CTL` that the last tick took up (R785). -/
structure TlmSt where
  running : Bool
  lenMs : Nat
  start : Nat
  startUp : Nat
  nextB : Nat
  live : Tab Nat
  accum : Tab Nat
  totals : Tab Nat
  shadow : Option Shadow
  stepped : Bool
  late : List Nat
  trunc : List Nat
  sel : Tab Word
  bw : Option Nat
  draw : Tab Nat
  lfsr : Tab Nat
  pages : Tab PageRec
  rings : Tab (List (List Word))
  traceSec : Nat
  unwritten : List (Nat × Shadow)
  sent : Nat
  ctl : Word
  deriving DecidableEq, Repr

/-- Telemetry after system reset. -/
def tlm0 : TlmSt :=
  ⟨false, 1000, 0, 0, 0, [], [], [], none, false, [], [], [], none, [], [], [], [], 0, [], 0, 0⟩

end Sys2Proof.Machine
end

