-- ==== Sys2Proof/Syntax.lean ====
section
/-! DEFINITION. The commands of the module: one constructor for each row of the opcode table, with its operands.
Commands are the writes, frames, cells, events of pins and timers, and table commands that the table lists; what
each operand is, its constructor says. -/

namespace Sys2Proof

open Machine

/-- The commands (opcode table). -/
inductive Instr where
  /-- REGISTER_WRITE (R9): A write through PF0, the sideband or a controller to a register that has no row of its own stores or acts on each field according to its access type. -/
  | registerWrite (src addr : Nat) (data : WriteData)
  /-- POWER_ON_DETECT (R821): A monitored rail or SYS_REFCLK leaves its limits; the power-on source asserts and the mode goes to OFF or HELD. -/
  | powerOnDetect (railAbsent : Bool)
  /-- PORST_PIN (R678): PORST_N goes low and asserts a reset source of power-on reach. -/
  | porstPin
  /-- SYSRST_PIN (R678): SYSRST_N goes low and asserts a system reset source without drain. -/
  | sysrstPin
  /-- SYS_REQ (R717): A keyed write of sys_req requests a software system reset, which drains first. -/
  | sysReq
  /-- CORE_REQ (R717): A keyed write of core_req asserts the software core reset. -/
  | coreReq
  /-- FAIL_CLEAR (R709): A write of fail_clear clears the boot failure count. -/
  | failClear
  /-- WDOG_PET (R681): A write of pet restarts the watchdog count. -/
  | wdogPet
  /-- WDOG_CTL_WRITE (R681): A write of KV_WDOG_CTL enables the watchdog or changes its timeout or reach, judged against the last restart. -/
  | wdogCtlWrite (v : Word)
  /-- WATCHDOG_EXPIRY (R681): The watchdog count reaches timeout_ms and asserts its reset source of the reach that wd_reach selects. -/
  | watchdogExpiry
  /-- RESET_SOURCE_RELEASE (R684): The last asserted reset source of an episode releases and the exit sequence of the episode's reach starts, or starts again. -/
  | resetSourceRelease (r : Release)
  /-- EXIT_SEQUENCE_STEP (R686): A timed step of the reset exit sequence runs: incarnation, clearing, island release, loader start, or controller release for a core episode. -/
  | exitSequenceStep (low high : Nat)
  /-- ISLAND_LOCK_TIMEOUT (R688): An island clock has not locked within 1 ms and the block stays in RESET with LOCK_FAIL. -/
  | islandLockTimeout (i : Nat)
  /-- LOAD_IMAGE_DONE (R708): The loader finishes checking an image and boots it, resumes probation, loads the fallback firmware, or raises an image failure. -/
  | loadImageDone (readErr : Nat)
  /-- LOAD_TIMEOUT (R687): LOAD reaches its 1 s limit with a flash boot source and ends as an image failure. -/
  | loadTimeout
  /-- HOSTLOAD_GO (R714): A write of go to KV_HOSTLOAD_CTL starts a DMA read and check of a host-supplied image. -/
  | hostloadGo (length : Nat) (img : Option Image)
  /-- RRS_TIMEOUT (R715): 900 ms after PERST_N release in LOAD the endpoint stops answering with Request Retry Status. -/
  | rrsTimeout
  /-- TRAINING_COMPLETE (R35): All SerDes, IDL and LPDDR6 trainings finish and the mode moves from TRAIN to RAISE. -/
  | trainingComplete
  /-- TRAIN_LIMIT (R35): TRAIN exceeds 5 s and a watchdog system reset with train_limit asserts. -/
  | trainLimit
  /-- BRINGUP_STEP (R736): A timed step of staggered bring-up powers or releases its islands, ending with the mode leaving RAISE. -/
  | bringupStep
  /-- DRAIN_REQ (R40): A write of drain_req requests DRAIN, joins a drain in progress, or is refused. -/
  | drainReq
  /-- RESUME_REQ (R45): A write of resume_req moves QUIESCED to RUN, DEGRADED or PROBATION, or is refused. -/
  | resumeReq
  /-- MAINT_REQ (R34): A write of maint_req moves QUIESCED to MAINTENANCE, or is refused. -/
  | maintReq
  /-- MAINT_EXIT (R34): A write of maint_exit moves MAINTENANCE to QUIESCED, or is refused. -/
  | maintExit
  /-- DRAIN_PHASE_END (R71): The condition of the current drain phase holds; the next phase starts, or the drain completes to QUIESCED or to the pending reset. -/
  | drainPhaseEnd
  /-- RIPCORD_TRIP (R747): A hot-spot reading reaches 115 °C; THERMTRIP_N asserts and the ripcord drain starts. -/
  | ripcordTrip
  /-- RIPCORD_DRAIN_LIMIT (R76): 10 ms after THERMTRIP_N the ripcord drain ends, held packets are counted under RIPCORD and the device resets. -/
  | ripcordDrainLimit
  /-- RIPCORD_RELEASE (R747): Every valid reading falls below 95 °C and the ripcord source releases. -/
  | ripcordRelease
  /-- PROBATION_EXPIRY (R44): The probation window ends unconfirmed and the fallback core reset runs. -/
  | probationExpiry
  /-- FW_CONFIRM (R771): A write of confirm by the ACTIVE controller commits the trial bank and ends probation. -/
  | fwConfirm (src : Nat)
  /-- FW_ACTIVATE (R769): A keyed write of activate starts activation of the staged image, or is refused. -/
  | fwActivate
  /-- FW_SEND_GO (R768): A write of go to KV_FW_SEND_CTL at the head starts a reel-chain transfer of a host image. -/
  | fwSendGo (length : Nat) (img : Image) (body : List Byte)
  /-- CHAIN_HDR (R762): An HDR frame arrives; it is checked, relayed and either accepted, with the inactive bank erased, or refused. -/
  | chainHdr (xfer : Nat) (frameOk : Bool) (hdr : ImgHdr)
  /-- CHAIN_DATA (R760): A DATA frame arrives, is relayed downstream and written to staging, or ends the transfer on a CRC or sequence fault. -/
  | chainData (xfer seq : Nat) (frameOk : Bool) (bytes : List Byte)
  /-- CHAIN_END (R764): An END frame arrives and the staged body is checked before it is written to flash. -/
  | chainEnd (xfer seq : Nat) (frameOk : Bool) (sent crc : Nat) (content : ImgContent)
  /-- CHAIN_ABORT (R760): An ABORT frame from upstream ends the transfer at the module and is relayed. -/
  | chainAbort (xfer reason : Nat)
  /-- CHAIN_STATUS (R759): A STATUS frame arrives from downstream and is relayed or counted at the head. -/
  | chainStatus (xfer pos : Nat) (ack : Bool) (status gen : Nat)
  /-- CHAIN_CREDIT (R760): A CREDIT frame returns frame credit for sending DATA downstream. -/
  | chainCredit (n : Nat)
  /-- CHAIN_CORE_RESET (R766): A CMD CORE_RESET addressed to the module asserts the chain reset of core reach. -/
  | chainCoreReset (target gen : Nat)
  /-- CHAIN_SYS_RESET (R766): A CMD SYS_RESET addressed to the module asserts the chain reset of system reach, drained first. -/
  | chainSysReset (target gen : Nat)
  /-- CHAIN_ACTIVATE (R766): A CMD ACTIVATE addressed to the module starts activation when its generation matches the staged bank. -/
  | chainActivate (target gen : Nat)
  /-- FLASH_OP_DONE (R761): A flash erase, program or read-back of a transfer completes and the module moves to its next transfer step or reports STATUS. -/
  | flashOpDone (ok : Bool)
  /-- CHAIN_LINK_UP (R816): The chain input sees 10 µs of valid commas and comes up. -/
  | chainLinkUp (upstream : Nat)
  /-- CHAIN_LINK_DOWN (R767): The chain input loses valid characters for 2 µs and any transfer ends with STATUS LINK. -/
  | chainLinkDown
  /-- IDL_LANE_FAULT (R21): An IDL lane fails and is replaced by a spare, or its group narrows or is withdrawn. -/
  | idlLaneFault (dir group lane : Nat)
  /-- IDL_LINK_RETRY (R23): An unacknowledged IDL unit is retried at link level. -/
  | idlLinkRetry (dir group : Nat)
  /-- FRAME_RECEIVE (R123): The MAC receives a frame, stamps sequence and time, and passes it to a pipeline or discards it under PORT_OVERRUN. -/
  | frameReceive (l : Nat) (bytes : List Byte) (fcsOk pcsErr : Bool) (fecBad fecCorr : Nat)
  /-- PAUSE_FRAME_RX (R109): A PAUSE or PFC frame is received and terminated, pausing or resuming classes. -/
  | pauseFrameRx (l : Nat) (pfc : Bool) (enable : Nat) (times : List Nat)
  /-- PAUSE_TIMER_EXPIRY (R110): The pause time of a class runs out and the class resumes. -/
  | pauseTimerExpiry (l c : Nat)
  /-- PFC_TX_REQUEST (R111): DT requests XOFF or XON for a port and class, and the MAC sends PFC or records it while not UP. -/
  | pfcTxRequest (l c : Nat) (xoff : Bool)
  /-- XOFF_REFRESH (R111): An XOFF in force is refreshed every 0x8000 quanta. -/
  | xoffRefresh (l c : Nat)
  /-- ADMIN_UP_WRITE (R98): A write of admin_up moves the logical port to DISABLED or lets it leave DISABLED. -/
  | adminUpWrite (l : Nat) (up : Bool) (part : List Byte)
  /-- AN_RESOLVED (R99): Auto-negotiation resolves; the partner page is recorded and the port moves to TRAINING. -/
  | anResolved (l : Nat) (page : Word) (rate : Nat)
  /-- AN_TIMEOUT (R96): AN fails to resolve in 5 s and restarts. -/
  | anTimeout (l : Nat)
  /-- LINK_TRAINING_DONE (R96): Every lane has trained and the port moves to WAIT_LOCK. -/
  | linkTrainingDone (l : Nat) (taps : List (List Int))
  /-- TRAINING_TIMEOUT (R96): Link training exceeds 3 s and the port restarts AN or TRAINING. -/
  | trainingTimeout (l lanes : Nat)
  /-- LINK_UP (R96): Lock has held for up_filter_ms and the port enters UP, informing DT. -/
  | linkUp (l : Nat)
  /-- WAIT_LOCK_TIMEOUT (R96): Lock is not held within 500 ms in WAIT_LOCK and the port restarts. -/
  | waitLockTimeout (l : Nat)
  /-- LANE_SIGNAL_LOSS (R126): A lane loses signal or CDR lock and raises sig_loss or cdr_loss. -/
  | laneSignalLoss (n : Nat) (cdr : Bool)
  /-- LINK_FAULT (R126): Lock loss outlasts down_filter_us, or a fault is seen, and the port goes from UP to FAULT and down to DT. -/
  | linkFault (l cause : Nat) (part : List Byte)
  /-- LANE_SIGNAL_RESTORE (R96): Every lane shows signal and CDR lock and the port moves from FAULT to WAIT_LOCK. -/
  | laneSignalRestore (l : Nat)
  /-- FAULT_TIMEOUT (R96): Signal is not back within 500 ms in FAULT and the port restarts. -/
  | faultTimeout (l : Nat)
  /-- SIGNAL_DEGRADE (R127): A lane's ber_log stays below 45 for 100 ms; sd is raised and the port may go to FAULT. -/
  | signalDegrade (n ber : Nat) (part : List Byte)
  /-- SD_CLEAR (R127): ber_log has stayed at or above 45 for 1 s and the degraded port may re-enter WAIT_LOCK. -/
  | sdClear (n ber : Nat)
  /-- ADAPT_STEP (R104): Receiver adaptation moves each coefficient by at most one step per 10 µs. -/
  | adaptStep (n : Nat) (target : List Int)
  /-- ADAPT_LIMIT (R105): A coefficient held at its limit for over 1 s raises adapt_limit. -/
  | adaptLimit (n : Nat)
  /-- LOSS_MEASURE (R106): A lane measures channel loss and sets its length class. -/
  | lossMeasure (n loss : Nat)
  /-- TIME_STEP (R115): A write of step_go adds step_ns to device time in one clock. -/
  | timeStep
  /-- PPS_OUT (R120): Device time reaches a whole second and PPS_OUT rises for 100 µs. -/
  | ppsOut
  /-- PPS_IN_EDGE (R120): A PPS_IN rising edge records device time in TF_PPS_CAP and clears the time-of-day valid bit. -/
  | ppsInEdge
  /-- TOD_TX_START (R832): 10 ms after a PPS_OUT edge a time-of-day message starts on TOD_TX. -/
  | todTxStart
  /-- TOD_MESSAGE_RX (R833): The 11 bytes of a time-of-day message are received, and stored when its CRC passes within 900 ms of the edge. -/
  | todMessageRx (head body check : List Byte)
  /-- PTP_TXTS_POP (R118): A write of pop removes the head of the transmit timestamp FIFO. -/
  | ptpTxtsPop (l : Nat)
  /-- PORT_RECONFIG (R86): The mailbox port reconfigure operation changes a physical port's breakout or framing, or is refused. -/
  | portReconfig
  /-- INSTANCE_LOCK_LOSS (R148): A FlexO instance loses marker lock; the aligner goes to OOF and dLOL is declared. -/
  | instanceLockLoss (l inst : Nat)
  /-- DLOL_CLEAR (R148): Every instance has held lock for 1 ms and dLOL clears. -/
  | dlolClear (l : Nat)
  /-- DESKEW_RETRY (R147): With skew over 1 µs the device reattempts deskew every 1 ms. -/
  | deskewRetry (l skew : Nat)
  /-- FAS_MATCH (R136): An exact FAS match in slice 1 during search opens a candidate when a slot is free. -/
  | fasMatch (l offset mfas : Nat)
  /-- OTUC_FRAME (R139): A frame arrives at a candidate or held position and the aligner judges pattern and MFAS and changes state. -/
  | otucFrame (l : Nat) (f : OtucFrame)
  /-- DEFECT_FILTER_EXPIRY (R145): The aligner has stayed in or out of a state for 3 ms and dLOF or dLOM is declared or cleared. -/
  | defectFilterExpiry (f : DefectFilter)
  /-- INGRESS_PROCESS (R168): An ingress pipeline parses a frame, forms keys, performs its lookups and emits a unit to DT. -/
  | ingressProcess (p : Nat) (pipeB : Bool) (bad mc : Option Nat)
  /-- PROGRESS_UNIT (R359): After 256 ns without emission a pipeline emits a PROGRESS unit with its finished value. -/
  | progressUnit (p : Nat) (pipeB : Bool)
  /-- PARSE_STATE (R176): The PARSE_STATE command writes one parse state record into the inactive copy. -/
  | parseState (c : TCmd)
  /-- PARSE_TRANS (R179): The PARSE_TRANS command writes one transition entry into the inactive copy. -/
  | parseTrans (c : TCmd)
  /-- KEY_TEMPLATE (R188): The KEY_TEMPLATE command writes one key template, or is refused with BAD_KEY. -/
  | keyTemplate (c : TCmd)
  /-- HASH_PROF_WRITE (R211): A write of TF_HASH_PROF reaches the inactive copy and takes effect at the next commit. -/
  | hashProfWrite (i : Nat) (v : Word)
  /-- GROUP_SET (R198): The GROUP_SET command creates or replaces a group and fills its indirection table. -/
  | groupSet (c : TCmd)
  /-- GROUP_DELETE (R197): The GROUP_DELETE command removes a group, or is refused while it is named. -/
  | groupDelete (c : TCmd)
  /-- GROUP_MEMBER (R203): The GROUP_MEMBER command marks a member down or up and rewrites its slots. -/
  | groupMember (c : TCmd)
  /-- LAG_MEMBER_REWRITE (R202): A local LAG member port has been down for 100 µs and the engine rewrites its slots. -/
  | lagMemberRewrite (l : Nat)
  /-- ROUTE_ADD (R227): The ROUTE_ADD command inserts a prefix or replaces its result, or is refused. -/
  | routeAdd (c : TCmd)
  /-- ROUTE_DELETE (R223): The ROUTE_DELETE command removes a prefix, or is refused. -/
  | routeDelete (c : TCmd)
  /-- VRF_SET (R221): The VRF_SET command sets the miss action and queue of a VRF. -/
  | vrfSet (c : TCmd)
  /-- NH_SET (R230): The NH_SET command writes one next-hop space entry, or is refused. -/
  | nhSet (c : TCmd)
  /-- NH_DELETE (R237): The NH_DELETE command invalidates an entry for ingress and starts its quarantine, or is refused. -/
  | nhDelete (c : TCmd)
  /-- NH_QUARANTINE_EXPIRY (R237): nh_quarantine_ms after the deleting commit the index leaves quarantine. -/
  | nhQuarantineExpiry (i : Nat)
  /-- BANK_LOAD_WINDOW (R247): A 1 ms bank window ends; load_pct is reported and balancing moves or replicates node groups. -/
  | bankLoadWindow (win : BankWindow)
  /-- TABLE_REPAIR (R252): A poisoned node, entry or bucket is repaired from the ballast and waiting commands proceed. -/
  | tableRepair
  /-- EM_ADD (R270): The EM_ADD command places or replaces an exact-match entry, or is refused. -/
  | emAdd (c : TCmd)
  /-- EM_DELETE (R275): The EM_DELETE command removes an exact-match entry, or is refused. -/
  | emDelete (c : TCmd)
  /-- EM_FLUSH (R277): The EM_FLUSH command starts a walk deleting every matching entry of a table. -/
  | emFlush (c : TCmd)
  /-- EM_FLUSH_DONE (R278): The EM_FLUSH walk ends and the command completes. -/
  | emFlushDone
  /-- EM_READ (R279): The EM_READ command returns an entry and its placement from the active view. -/
  | emRead (c : TCmd)
  /-- AGING_SWEEP (R285): The sweeper visits a bucket and removes entries whose age exceeds age_limit. -/
  | agingSweep (b : Nat)
  /-- LEARN_RECORD_RECEIVE (R295): A learning record from a pipeline or a peer enters the learning queue, or is dropped when it is full. -/
  | learnRecordReceive
  /-- LEARN_RECORD_APPLY (R297): The engine applies a queued learning record to its entry and sends applied local records to peers. -/
  | learnRecordApply
  /-- BALLAST_COMPARE (R305): A bucket is compared with its ballast copy and rewritten on mismatch. -/
  | ballastCompare (b : Nat) (mismatch : Bool)
  /-- TABLE_SCRUB (R351): The scrub reads table banks and associative entries and rewrites any that fail their check. -/
  | tableScrub (bank : Nat) (uncorr : Option Bool)
  /-- ENGINE_COMMIT (R619): The engine commits its own changes: learned inserts, moves, relocations, spills and rebuilds. -/
  | engineCommit
  /-- CLASS_TREE_SET (R319): The CLASS_TREE_SET command creates a tree or changes its default. -/
  | classTreeSet (c : TCmd)
  /-- CLASS_TREE_DELETE (R321): The CLASS_TREE_DELETE command removes a tree, or is refused while it is used. -/
  | classTreeDelete (c : TCmd)
  /-- CLASS_RULE_ADD (R322): The CLASS_RULE_ADD command inserts or replaces a rule and compiles its regions. -/
  | classRuleAdd (c : TCmd)
  /-- CLASS_RULE_DELETE (R325): The CLASS_RULE_DELETE command removes a rule. -/
  | classRuleDelete (c : TCmd)
  /-- CLASS_RULE_READ (R325): The CLASS_RULE_READ command returns a rule, its copies and hit count. -/
  | classRuleRead (c : TCmd)
  /-- CLASS_TREE_REBUILD (R331): The CLASS_TREE_REBUILD command recompiles a tree into free copy space. -/
  | classTreeRebuild (c : TCmd)
  /-- REBUILD_DONE (R331): A tree rebuild ends and its build becomes active at the next commit. -/
  | rebuildDone
  /-- ASSOC_ADD (R343): The ASSOC_ADD command places an entry in a bank, starting a shift when needed. -/
  | assocAdd (c : TCmd)
  /-- ASSOC_SET (R342): The ASSOC_SET command replaces the result of an entry. -/
  | assocSet (c : TCmd)
  /-- ASSOC_DELETE (R342): The ASSOC_DELETE command removes an entry. -/
  | assocDelete (c : TCmd)
  /-- ASSOC_READ (R342): The ASSOC_READ command returns an entry and its index. -/
  | assocRead (c : TCmd)
  /-- ASSOC_SHIFT_STEP (R344): A shift moves one entry one place every 4 ns. -/
  | assocShiftStep (b : Nat)
  /-- ASSOC_ENTRY_REWRITE (R350): An entry excluded for a parity error is rewritten from its ballast copy. -/
  | assocEntryRewrite (i : Nat)
  /-- IDL_UNIT_RECEIVE (R360): A unit from an ingress pipeline arrives at DT, is checked, allocated blocks and resequenced, releasing units to admission. -/
  | idlUnitReceive (p flip : Nat) (cut : Nat)
  /-- PIPE_STALL (R363): No unit has arrived from a pipeline for gap_timeout_us and it is stalled, closing its port's gaps. -/
  | pipeStall (p : Nat) (pipeB : Bool)
  /-- IDL_CREDIT_RETURN (R367): Withheld IDL credit of a pipeline returns once its allowance or blocks are free, and a waiting unit proceeds. -/
  | idlCreditReturn (p : Nat) (pipeB : Bool)
  /-- MIRROR_COPY_TIMEOUT (R358): An egress mirror copy finds no IDL room within 10 µs and is discarded at TF. -/
  | mirrorCopyTimeout
  /-- ADMISSION_LOOP_STEP (R381): Every loop_us the admission loop adjusts each profile's factor exponent. -/
  | admissionLoopStep
  /-- TAIL_ROW_WRITE (R394): A staged tail row is written with parity and its blocks are freed when the write completes. -/
  | tailRowWrite (v : Nat)
  /-- TAIL_ROW_TIMEOUT (R555): An open tail row with no bytes for 100 µs is written padded with 0. -/
  | tailRowTimeout (v : Nat)
  /-- TAIL_READBACK (R395): A spilling VOQ's next tail segment is read back into blocks behind its on-die packets. -/
  | tailReadback (v : Nat)
  /-- HOLD_EXPIRY (R397): A port view's hold expires and its queues are moved to the protect port or flushed. -/
  | holdExpiry (m l : Nat)
  /-- CT_HOLDOFF_EXPIRY (R390): 1 ms after a cut-through abort the port and class may cut through again. -/
  | ctHoldoffExpiry (l c : Nat)
  /-- SCHED_DECISION (R419): An egress scheduling decision selects a queue, dequeues its head and charges every node on the path. -/
  | schedDecision (p : Nat)
  /-- SHAPER_REFILL (R426): Every 1 µs shaper and policer buckets are refilled and committed changes are installed. -/
  | shaperRefill
  /-- VOQ_SERVICE (R437): An eligible VOQ is served one packet toward the fabric or hairpin and its credit balance falls. -/
  | voqService
  /-- CREDIT_REQ_RECEIVE (R440): A credit request message updates the destination's request set or returns a balance. -/
  | creditReqReceive (src : Nat) (w : Word)
  /-- CREDIT_GRANT_ISSUE (R440): The destination grants one credit to the next hungry VOQ when window and buffer allow. -/
  | creditGrantIssue (l c : Nat)
  /-- CREDIT_GRANT_RECEIVE (R439): A grant reaches a VOQ, adding to its balance or being returned at once. -/
  | creditGrantReceive (src : Nat) (w : Word)
  /-- NODE_SET (R446): The NODE_SET command writes one node of the egress hierarchy, or is refused. -/
  | nodeSet (c : TCmd)
  /-- NODE_READ (R448): The NODE_READ command returns a node with its buckets and state. -/
  | nodeRead (c : TCmd)
  /-- EQ_MAP_SET (R449): The EQ_MAP_SET command writes one egress queue map entry. -/
  | eqMapSet (c : TCmd)
  /-- POLICER_SET (R450): The POLICER_SET command writes one policer. -/
  | policerSet (c : TCmd)
  /-- POLICER_READ (R451): The POLICER_READ command returns a policer, its buckets and colour counts. -/
  | policerRead (c : TCmd)
  /-- DEF_SUB_WRITE (R453): A write of def_sub is stored, or ignored with def_sub_bad when it names an unusable subscriber. -/
  | defSubWrite (l : Nat) (v : Word)
  /-- FAB_LANE_SIGNAL_DETECT (R462): A fabric lane sees its partner's signal and enters TRAINING. -/
  | fabLaneSignalDetect (n : Nat)
  /-- FAB_LANE_TRAINED (R462): Link frames pass both ways and the lane enters TRIAL. -/
  | fabLaneTrained (n : Nat)
  /-- FAB_LANE_TRAIN_TIMEOUT (R462): A lane fails to train in 500 ms and returns to DOWN. -/
  | fabLaneTrainTimeout (n : Nat)
  /-- FAB_LANE_TRIAL_PASS (R462): A lane passes 1 ms of trial and enters UP. -/
  | fabLaneTrialPass (n : Nat)
  /-- FAB_LANE_FAIL (R461): A fabric lane is declared failed, leaves the spray maps and its records are queued for retransmission. -/
  | fabLaneFail (n : Nat) (signal : Bool)
  /-- LINK_FRAME_RECEIVE (R460): A link frame arrives, is acknowledged or NAKed, and delivers its cell in order. -/
  | linkFrameReceive (n seq ack : Nat) (kind : LinkKind) (cell : Option Cell) (crcOk : Bool)
  /-- LINK_IDLE_FRAME (R461): A lane with nothing to send for 1 µs sends an idle link frame. -/
  | linkIdleFrame (n : Nat)
  /-- CELL_SEND (R473): A lane slot is offered and the cell builder emits the next cell of a stream, packing when allowed. -/
  | cellSend (m st : Nat)
  /-- CELL_RECEIVE (R482): A cell arrives at the destination resequencer and is taken in, released in order or discarded. -/
  | cellReceive
  /-- ACK_SEND (R488): An ACK entry is sent after ack_cells releases or ack_us, or at once for a duplicate. -/
  | ackSend (src : Nat)
  /-- ACK_RECEIVE (R490): An ACK entry frees tether records below next, or is ignored. -/
  | ackReceive (src : Nat) (w : Word)
  /-- RETX_TIMEOUT (R493): A stream's oldest unacknowledged cell passes the retransmit timer and is resent. -/
  | retxTimeout (m c : Nat)
  /-- CREDIT_CELL_SEND (R495): A credit cell is sent when 60 messages wait or grant_us has passed. -/
  | creditCellSend (m : Nat) (grant : Bool)
  /-- HEARTBEAT_SEND (R496): Every hb_us a heartbeat is sent on each plane to every module of the profile. -/
  | heartbeatSend
  /-- HEARTBEAT_RECEIVE (R496): A heartbeat arrives and updates reachability, spray maps and incarnation. -/
  | heartbeatReceive (plane : Nat) (c : Cell)
  /-- HEARTBEAT_TIMEOUT (R481): No heartbeat for 3 × hb_us makes a plane unusable or a module unreachable. -/
  | heartbeatTimeout (m plane : Nat)
  /-- STREAM_ABANDON (R501): Streams toward a destination are abandoned, lost packets counted under BREACH and restarted at 0. -/
  | streamAbandon (m : Nat)
  /-- GAP_OLD_TIMER (R484): A fabric resequencer gap stays open for 200 µs and raises gap_old. -/
  | gapOldTimer (m c : Nat)
  /-- PORT_STATE_MESSAGE (R503): A PORT_STATE control message updates the view of another module's port. -/
  | portStateMessage (m : Nat) (w : Word)
  /-- PORT_STATE_REFRESH (R503): Each 1 ms a module repeats the full set of its port states to every reachable module. -/
  | portStateRefresh
  /-- EGRESS_PROCESS (R517): An egress pipeline rewrites, replicates and classifies a unit and hands its frames to the MAC. -/
  | egressProcess (p : Nat) (pipeB : Bool) (bad : Option Nat)
  /-- TX_UNIT_START (R513): The MAC starts transmitting the unit at next_eseq once earlier units have started. -/
  | txUnitStart (p : Nat)
  /-- FRAME_DELIVERED (R54): The MAC transmits a frame's last byte with a correct FCS and reports it. -/
  | frameDelivered (l : Nat)
  /-- PORT_DOWN_ABORT (R863): A unit held or transmitting when its port leaves UP is aborted and returned to its queue. -/
  | portDownAbort (l : Nat)
  /-- RUN_REPORT_FLUSH (R515): A RUN report is sent at 64 units, on another outcome, or 128 ns after its first delivery. -/
  | runReportFlush (p : Nat)
  /-- DELIVERY_REPORT_RECEIVE (R540): DT receives a delivery report and resolves, frees or resends the unit. -/
  | deliveryReportReceive
  /-- EGRESS_RESEND_TIMEOUT (R540): No report arrives within 100 µs of dispatch and DT resends the unit to the survivor. -/
  | egressResendTimeout (h : Nat)
  /-- MC_LIST_SET (R526): The MC_LIST_SET command creates or replaces a fabric list. -/
  | mcListSet (c : TCmd)
  /-- MC_LIST_DELETE (R526): The MC_LIST_DELETE command removes a fabric list. -/
  | mcListDelete (c : TCmd)
  /-- EG_LIST_SET (R527): The EG_LIST_SET command writes one egress list header. -/
  | egListSet (c : TCmd)
  /-- EG_LIST_DELETE (R527): The EG_LIST_DELETE command removes an egress list. -/
  | egListDelete (c : TCmd)
  /-- ENCAP_ADDR_SET (R521): The ENCAP_ADDR_SET command writes one address-table entry. -/
  | encapAddrSet (c : TCmd)
  /-- MEM_TRANSACTION_COMPLETE (R572): An LPDDR6 transaction completes and its burst is corrected, reconstructed or served by the mirror. -/
  | memTransactionComplete (ch : Nat) (a : MemAddr) (write : Bool) (bursts : List (List Nat)) (other : Bool)
  /-- CHANNEL_TRAIN_DONE (R563): A channel finishes training and enters IN, or enters OUT on failure. -/
  | channelTrainDone (ch : Nat) (pass : Bool) (eye : Nat) (train : List Int)
  /-- DRIFT_TRACK (R564): Every track_ms drift is applied or a full retrain is started. -/
  | driftTrack (ch : Nat) (drift : List Int)
  /-- RETRAIN_DONE (R567): A full retrain passes and the channel enters CATCHUP. -/
  | retrainDone (ch : Nat) (train : List Int)
  /-- RETRAIN_TIMEOUT (R566): A retrain not passed within 200 µs takes the channel OUT. -/
  | retrainTimeout (ch : Nat)
  /-- CATCHUP_DONE (R567): The catch-up log empties and the channel returns to IN. -/
  | catchupDone (ch : Nat)
  /-- CHANNEL_FAIL (R570): A channel meets a failure condition and enters OUT. -/
  | channelFail (ch cause : Nat)
  /-- MEM_SCRUB (R575): A patrol scrub transaction reads a location and rewrites corrected or mismatched data. -/
  | memScrub (ch addr : Nat) (bursts : List (List Nat)) (other differs : Bool) (pct : Nat)
  /-- SCRUB_LATE (R575): A scrub pass not complete within 24 h raises scrub_late. -/
  | scrubLate (dt : Bool)
  /-- MEM_REFRESH (R560): Refresh is issued as the parts require for their temperature. -/
  | memRefresh (ch : Nat)
  /-- CHECKPOINT (R588): Every 10 ms the ACTIVE firmware writes a snapshot and checkpoint record, handing over when due. -/
  | checkpoint (snapshot : List Word)
  /-- MC_BEAT (R592): A controller beats on its counter word and wire pair. -/
  | mcBeat (m : Nat) (word wire : Bool)
  /-- MC_FAULT_DECLARE (R593): Missed beats or an explicit fault declare a controller fault and reset its island. -/
  | mcFaultDeclare (m : Nat) (explicit : Bool)
  /-- MC_TAKEOVER_COMPLETE (R596): A controller finishes loading firmware, restoring its checkpoint and replaying the journal, and becomes ACTIVE. -/
  | mcTakeoverComplete (m : Nat)
  /-- SELFTEST_PASS_END (R598): A controller self-test pass ends and its role and health are updated. -/
  | selftestPassEnd (m code : Nat)
  /-- HANDOVER_COMPLETE (R601): The home controller restores the handover checkpoint and becomes ACTIVE. -/
  | handoverComplete
  /-- PIPE_FAULT_DETECT (R603): The spare sequencer declares a pipeline failed and moves its port to the survivor. -/
  | pipeFaultDetect (cl : Nat) (egress : Bool) (pos : Nat)
  /-- SPARE_POWER_DONE (R604): The spare's section is powered and the spare enters LOAD. -/
  | sparePowerDone (cl : Nat) (egress : Bool)
  /-- SPARE_LOAD_DONE (R604): The spare's tables are copied and it enters CHECK. -/
  | spareLoadDone (cl : Nat) (egress : Bool)
  /-- SPARE_CHECK_DONE (R604): The spare's check ends and it joins the pair or enters FAILED. -/
  | spareCheckDone (cl : Nat) (egress : Bool) (pass : Bool)
  /-- SPARE_RELEASE_DONE (R604): A releasing spare has no unit in hand and returns to COLD. -/
  | spareReleaseDone (cl : Nat) (egress : Bool)
  /-- SPARES_EN_WRITE (R605): A write of spares_en enables or disables spare call-in, setting cover_lost when disabled. -/
  | sparesEnWrite (en : Bool)
  /-- DOORBELL_WRITE (R648): A doorbell write sets a queue's host index, or stops it with BAD_DOORBELL. -/
  | doorbellWrite (q : Nat) (v : Word)
  /-- COMMIT (R613): The COMMIT command ends the open batch and makes it ready for commit. -/
  | commit (c : TCmd)
  /-- BATCH_ABORT (R615): The BATCH_ABORT command discards the open batch. -/
  | batchAbort (c : TCmd)
  /-- BATCH_IDLE_TIMEOUT (R615): The owning queue offers no command for batch_idle_ms and the batch is aborted. -/
  | batchIdleTimeout
  /-- COMMIT_PHASE_START (R617): A ready batch starts its commit phase. -/
  | commitPhaseStart
  /-- COMMIT_STEP_END (R617): A step of the commit phase ends and the next starts, completions following the last. -/
  | commitStepEnd
  /-- EPOCH_RETIRE (R242): No packet of the predecessor epoch remains and its freed entries are released. -/
  | epochRetire
  /-- REPARTITION (R623): The mailbox REPARTITION operation changes the table SRAM partition, or is refused. -/
  | repartition
  /-- PIPE_RETEST (R606): The mailbox PIPE_RETEST operation tests a failed pipeline and returns it when it passes. -/
  | pipeRetest
  /-- MC_SWITCH (R623): The mailbox MC_SWITCH operation hands control to the other controller. -/
  | mcSwitch
  /-- EPOCH_QUERY (R623): The mailbox EPOCH_QUERY operation returns the active epoch, ballast record and open batch. -/
  | epochQuery
  /-- QUEUE_RESET (R623): The mailbox QUEUE_RESET operation aborts a queue's batch and completes its commands as ABORTED. -/
  | queueReset
  /-- MBOX_UNKNOWN_OP (R623): A go with an undefined op ends at once with BAD_OPCODE. -/
  | mboxUnknownOp (op : Nat)
  /-- MBOX_OP_DONE (R620): A mailbox operation ends and sets done, status and results. -/
  | mboxOpDone (passed : Bool)
  /-- CONFIG_WRITE (R636): A configuration write takes effect in arrival order, changing decode when it touches a BAR or enable. -/
  | configWrite (fn off : Nat) (v be : BitVec 32)
  /-- MEM_REQUEST_UNSUPPORTED (R637): A memory request matching no window completes with UR or is dropped and logged. -/
  | memRequestUnsupported (fn : Nat) (read : Bool) (addr : Nat)
  /-- ATOMICOP_REQUEST (R850): An AtomicOp request to BAR0 completes with UR. -/
  | atomicopRequest (addr : Nat)
  /-- PCIE_LINK_UP (R631): The PCIe link trains and comes up at its width and rate. -/
  | pcieLinkUp (width speed : Nat) (flit : Bool)
  /-- MSIX_VECTOR_UNMASK (R643): The sending conditions of a pending vector come to hold and one message is sent. -/
  | msixVectorUnmask (v : Nat)
  /-- IRQ_COALESCE_TIMEOUT (R645): coal_us after an uncovered index advance the queue raises its vector. -/
  | irqCoalesceTimeout (q : Nat)
  /-- PUNT_DELIVER (R650): A punt FIFO frame is written into a posted host buffer with its descriptor words. -/
  | puntDeliver (q : Nat) (addr len : Nat)
  /-- INJECT_DESCRIPTOR (R653): An inject descriptor is served, entering a frame into a MAC input buffer or admitting it toward an egress port. -/
  | injectDescriptor (q : Nat) (w0 w1 : Word) (bytes : List Byte)
  /-- QUEUE_ENABLE_WRITE (R661): A write of enable in a queue context starts or stops the queue and resets its indices. -/
  | queueEnableWrite (q : Nat) (en : Bool)
  /-- FUNCTION_FREEZE (R663): AER logs a trigger error and the function freezes. -/
  | functionFreeze (fn bit : Nat)
  /-- FREEZE_NOW (R663): A write of freeze_now freezes the function with cause 0xFF. -/
  | freezeNow (fn : Nat)
  /-- UNFREEZE (R665): A write of unfreeze releases the function or sets unfreeze_pending. -/
  | unfreeze (fn : Nat)
  /-- UNFREEZE_RELEASE (R665): The last outstanding request completes or times out and a pending release takes place. -/
  | unfreezeRelease (fn : Nat)
  /-- FLR (R668): A function-level reset restores one function's state. -/
  | flr (fn : Nat)
  /-- CONVENTIONAL_RESET (R668): A fundamental reset, hot reset or link down resets both functions. -/
  | conventionalReset (linkDown : Bool)
  /-- COMPLETION_TIMEOUT (R671): A device read times out, fails its entry and may freeze the function. -/
  | completionTimeout (tag : Nat)
  /-- DMA_COMPLETION (R638): A completion for an outstanding device read arrives and its data is used. -/
  | dmaCompletion (tag status : Nat) (poisoned : Bool)
  /-- LATE_COMPLETION (R672): A completion for a timed-out or unknown request is discarded and logged. -/
  | lateCompletion (tag : Nat)
  /-- TAG_HOLD_EXPIRY (R673): tag_hold_ms after a timeout the tag may be reused. -/
  | tagHoldExpiry (tag : Nat)
  /-- BLOCK_RESET_REQ (R691): A write of reset_req starts a block reset, or is refused BUSY or DENIED. -/
  | blockResetReq (i : Nat)
  /-- BLOCK_ENABLE_WRITE (R694): A write of enable disables, restarts or queues a restart of a block. -/
  | blockEnableWrite (i : Nat) (en : Bool)
  /-- BLOCK_STOP_DONE (R691): The isolation wrapper finishes stopping a block and it enters RESET. -/
  | blockStopDone (i errored : Nat)
  /-- BLOCK_START_DONE (R690): A starting block's clock locks and it initialises and returns to ON. -/
  | blockStartDone (i : Nat)
  /-- BLOCK_LOCK_TIMEOUT (R690): A starting block has no lock after 1 ms and returns to RESET with LOCK_FAIL. -/
  | blockLockTimeout (i : Nat)
  /-- QUIESCE_TIMEOUT (R692): A quiesce wait expires and the wrapper finishes by the native method. -/
  | quiesceTimeout (i : Nat)
  /-- XING_TIMEOUT (R728): A crossing makes no progress for xing_timeout_us and aborts, discarding its events or entries. -/
  | xingTimeout (data : Bool) (src dst n : Nat)
  /-- AVFS_STEP (R732): Every 20 µs the AVFS loop adjusts an island's voltage or frequency. -/
  | avfsStep (i slack : Nat)
  /-- DROOP_DETECT (R733): Slack below 5 ps or a supply dip lowers the island's frequency within 100 ns. -/
  | droopDetect (i : Nat)
  /-- AVS_COMPLETE (R820): A rail regulator reports completion of a requested voltage change. -/
  | avsComplete (rail mv : Nat)
  /-- POWER_ESTIMATE (R738): Every 20 µs the power estimate updates the excursion credit. -/
  | powerEstimate (watts : Nat)
  /-- UPDRAFT_ENTER (R740): A MAC input buffer passes 64 KiB and its cluster enters updraft when allowed. -/
  | updraftEnter (cl : Nat) (est : Nat)
  /-- UPDRAFT_EXIT (R740): The buffers stay below 16 KiB for 10 µs, or updraft stops being allowed, and the cluster leaves updraft. -/
  | updraftExit (cl : Nat)
  /-- AGE_COUNTER_SAVE (R742): Every 10 minutes firmware saves the aging counters to the flash event log. -/
  | ageCounterSave
  /-- SENSOR_READ (R744): Every 10 µs sensors are read and the thermal state moves. -/
  | sensorRead (temps : List Int) (valid : List Bool)
  /-- COUNTER_FLUSH (R779): Every 500 µs, and at each tick, backed accumulators are added to their totals. -/
  | counterFlush
  /-- WINDOW_TICK (R781): A window boundary is reached and every selected counter moves to a shadow set. -/
  | windowTick
  /-- SHADOW_CLOSE (R782): 1 ms after a tick the shadow set closes and its records are written. -/
  | shadowClose
  /-- EVT_ARM_WRITE (R802): A write of an arm bit re-arms a source and sends a message when it is still pending. -/
  | evtArmWrite (v : Word)
  /-- BUFFER_MACRO_FAULT (R65): A packet-buffer macro fails and its symbols are treated as erasures. -/
  | bufferMacroFault (m : Nat)
  /-- SMB_WRITE (R855): Sideband command 0x01 writes one register, or is denied. -/
  | smbWrite (bytes : List Byte) (pecOk : Bool)
  /-- SMB_READ_START (R857): Sideband command 0x02 starts a read of one register. -/
  | smbReadStart (bytes : List Byte) (pecOk : Bool)
  /-- SMB_READ_RESULT (R856): Sideband command 0x03 returns the data and status of the last read. -/
  | smbReadResult
  /-- RAILS_UP (R35): The rails come up from OFF and the internal power-on detector asserts, taking the mode from OFF to HELD. -/
  | railsUp
  /-- FEC_PCS_LOCK (R862): In WAIT_LOCK the receiver reaches FEC and PCS alignment lock on every lane and the up filter starts. -/
  | fecPcsLock (l : Nat)
  /-- ALIGNMENT_MARKER_LOCK (R146): The alignment markers of the FlexO instances of a framed group lock and their skew is measured, starting deskew and frame alignment or raising skew_exceeded. -/
  | alignmentMarkerLock (l : Nat) (m : MarkerLock)
  /-- PAUSE_HOLD_EXPIRY (R72): In DRAIN or QUIESCED a queue paused by flow control for longer than its port's hold time is moved to the protect port or flushed. -/
  | pauseHoldExpiry (l c : Nat)
  /-- GRANT_WAIT_F_TIMEOUT (R457): A grant has waited on free shared buffer for longer than 100 µs and grant_wait_f is raised. -/
  | grantWaitFTimeout
  /-- TX_HOLD_TIMEOUT (R457): A full TF transmit buffer has held a port node ineligible for longer than 1 ms and tx_hold is raised. -/
  | txHoldTimeout (p : Nat)
  /-- TABLE_UNKNOWN_OPCODE (R608): A fetched table command with an undefined opcode completes at once with BAD_OPCODE. -/
  | tableUnknownOpcode (opcode : Nat) (c : TCmd)
  /-- XING_ACKNOWLEDGE (R721): The acknowledge of an event crossing rises or falls, moving the sender from REQ to ACK or from ACK to IDLE and starting any pending event; or, for a data crossing, its read pointer advances (R727). -/
  | xingAcknowledge (data : Bool) (src dst : Nat) (x : XingAnswer)
  /-- XING_RESYNC (R728): The peer clock of a timed-out crossing runs again and both sides resynchronise, returning the crossing to IDLE and accepting writes. -/
  | xingResync (data : Bool) (src dst n : Nat)
  deriving DecidableEq, Repr

end Sys2Proof
end

