-- ==== Sys2Proof/Decode.lean ====
section
/-! DEFINITION. The table gives none of its rows any bits: the commands are events and writes, and no word spells one
of them. -/

namespace Sys2Proof

/-- The command that a word of the table spells: none, since no row of the table has bits. -/
def decodeTableWord (_nbits _w : Nat) : Option Instr := none

end Sys2Proof
end

