-- ==== Sys2Proof/Config.lean ====
section
/-! DEFINITION. What an implementation fixes and the spec does not: constants without a body, of which no proof
can know a value. -/

namespace Sys2Proof

/-- Free values, one for each number: what the spec leaves open (log 5). -/
opaque Config.free : Nat → Nat

/-- The fused minimum security version (R707 step 4). -/
opaque Config.minSecurity : Nat

/-- The fused module serial number (R629, R852). -/
opaque Config.serial : Word

/-- Where in its region of the ballast an item lies, for each transaction: the spec gives no layout (log 141). -/
opaque Config.place : Nat → Nat

/-- Has the walk of an EM_FLUSH passed the place of a key when an entry of that key is learned? For each walk and key (R278,
log 158). -/
opaque Config.passed : Nat → Nat → Bool

/-- How many modules the reel chain of the board holds, the head included (log 12). -/
opaque Config.chainModules : Nat

/-- How many entries the FIFO of a data crossing holds (R727), by crossing (log 145). -/
opaque Config.xingDepth : Nat → Nat

end Sys2Proof
end

