-- ==== Sys2Proof/Machine/RegTypes.lean ====
section
/-! DEFINITION. The types of the register tables (R8, R9, R14): access, reach, the descriptor of a register
array and of a field. -/

namespace Sys2Proof.Machine

/-- The Access column (R9). -/
inductive Acc where
  | rw | ro | wo | w1c | w1s | rwl
  deriving DecidableEq, Repr

/-- The Reach column (R14); `none` for fields that hold nothing. -/
inductive Reach where
  | p | s | c | kept | none
  deriving DecidableEq, Repr

/-- One field of a register table: lowest bit, width, access and reach. -/
structure FldD where
  lo : Nat
  w : Nat
  acc : Acc
  reach : Reach
  deriving DecidableEq, Repr

/-- A register array: address of instance 0, stride and number of instances of the first index, stride and
number of the second index (0 when there is none), owning island of instance 0 and instances per island
(0: one island for all, R838), the reset word, and what each further instance adds to it. -/
structure RegD where
  base : Nat
  stride : Nat
  n : Nat
  stride2 : Nat
  n2 : Nat
  isl : Nat
  islDiv : Nat
  reset : Word
  resetMul : Nat
  fields : List FldD
  deriving DecidableEq, Repr

/-- A named field of a register array. -/
structure Fld where
  reg : RegD
  lo : Nat
  w : Nat
  deriving DecidableEq, Repr

end Sys2Proof.Machine
end

