-- ==== Sys2Proof/Machine/Regs.lean ====
section
/-! DEFINITION. The software-visible registers of the module (R8, R838, R840): one descriptor per
register array, written from the register tables and the offset tables of the owning chapters, and one
constant per field. A descriptor's address is the BAR0 byte address of instance 0; the queue contexts
of PF1 BAR2 (R646, R661) stand at `bar2Base` plus their BAR2 offset. -/

namespace Sys2Proof.Machine

/-- `KV_ID` (R852). -/
def R.KV_ID : RegD :=
  ⟨0x0, 0x0, 1, 0x0, 0, 0, 0, 0x11d5b10109420#64, 0, [
   ⟨0, 16, .ro, .kept⟩, ⟨16, 8, .ro, .kept⟩, ⟨24, 8, .ro, .kept⟩, ⟨32, 16, .ro, .kept⟩,
   ⟨48, 8, .ro, .kept⟩]⟩

/-- `KV_SERIAL` (R852). -/
def R.KV_SERIAL : RegD :=
  ⟨0x8, 0x0, 1, 0x0, 0, 0, 0, 0x0#64, 0, [
   ⟨0, 64, .ro, .kept⟩]⟩

/-- `KV_MODE` (R33). -/
def R.KV_MODE : RegD :=
  ⟨0x10, 0x0, 1, 0x0, 0, 0, 0, 0x1#64, 0, [
   ⟨0, 4, .ro, .kept⟩, ⟨8, 4, .ro, .s⟩, ⟨16, 1, .ro, .kept⟩, ⟨17, 1, .ro, .s⟩, ⟨18, 1, .w1c, .s⟩,
   ⟨20, 2, .ro, .s⟩, ⟨24, 8, .ro, .s⟩, ⟨32, 16, .ro, .s⟩, ⟨48, 16, .ro, .s⟩]⟩

/-- `KV_MODE_REQ` (R34). -/
def R.KV_MODE_REQ : RegD :=
  ⟨0x18, 0x0, 1, 0x0, 0, 0, 0, 0x0#64, 0, [
   ⟨0, 1, .w1s, .s⟩, ⟨1, 1, .w1s, .s⟩, ⟨2, 1, .w1s, .s⟩, ⟨3, 1, .w1s, .s⟩, ⟨8, 1, .w1c, .s⟩,
   ⟨12, 4, .ro, .s⟩]⟩

/-- `KV_ACC_ERR_STAT` (R853). -/
def R.KV_ACC_ERR_STAT : RegD :=
  ⟨0x20, 0x0, 1, 0x0, 0, 0, 0, 0x0#64, 0, [
   ⟨0, 16, .ro, .s⟩, ⟨16, 3, .ro, .s⟩, ⟨19, 1, .w1c, .s⟩]⟩

/-- `KV_ACC_ERR_LOG[j]` (R853). -/
def R.KV_ACC_ERR_LOG : RegD :=
  ⟨0x100, 0x8, 8, 0x0, 0, 0, 0, 0x0#64, 0, [
   ⟨0, 26, .ro, .s⟩, ⟨26, 1, .ro, .s⟩, ⟨27, 3, .ro, .s⟩, ⟨30, 2, .ro, .s⟩, ⟨32, 32, .ro, .s⟩]⟩

/-- `KV_MC_CTL` (R625). -/
def R.KV_MC_CTL : RegD :=
  ⟨0x1000, 0x0, 1, 0x0, 0, 0, 0, 0x0#64, 0, [
   ⟨0, 1, .rw, .s⟩]⟩

/-- `KV_MC_STAT` (R625). -/
def R.KV_MC_STAT : RegD :=
  ⟨0x1008, 0x0, 1, 0x0, 0, 0, 0, 0x0#64, 0, [
   ⟨0, 2, .ro, .kept⟩, ⟨2, 2, .ro, .kept⟩, ⟨4, 1, .ro, .kept⟩, ⟨5, 1, .ro, .kept⟩, ⟨16, 2, .ro, .s⟩,
   ⟨18, 2, .ro, .s⟩, ⟨20, 12, .ro, .s⟩, ⟨32, 32, .ro, .s⟩]⟩

/-- `KV_MC_HEALTH[m]` (R625). -/
def R.KV_MC_HEALTH : RegD :=
  ⟨0x1010, 0x8, 2, 0x0, 0, 0, 0, 0x0#64, 0, [
   ⟨0, 1, .ro, .kept⟩, ⟨1, 1, .ro, .s⟩, ⟨8, 8, .ro, .s⟩, ⟨16, 32, .ro, .s⟩, ⟨48, 16, .ro, .kept⟩]⟩

/-- `KV_MBOX_CMD` (R625). -/
def R.KV_MBOX_CMD : RegD :=
  ⟨0x1100, 0x0, 1, 0x0, 0, 0, 0, 0x0#64, 0, [
   ⟨0, 8, .rw, .s⟩, ⟨8, 1, .w1s, .s⟩]⟩

/-- `KV_MBOX_STAT` (R625). -/
def R.KV_MBOX_STAT : RegD :=
  ⟨0x1108, 0x0, 1, 0x0, 0, 0, 0, 0x0#64, 0, [
   ⟨0, 1, .ro, .kept⟩, ⟨1, 1, .w1c, .s⟩, ⟨2, 1, .ro, .kept⟩, ⟨3, 1, .w1c, .s⟩, ⟨4, 4, .ro, .s⟩,
   ⟨8, 8, .ro, .s⟩, ⟨16, 7, .ro, .kept⟩]⟩

/-- `KV_MBOX_ARG[i]` (R625). -/
def R.KV_MBOX_ARG : RegD :=
  ⟨0x1120, 0x8, 4, 0x0, 0, 0, 0, 0x0#64, 0, [
   ⟨0, 64, .rw, .s⟩]⟩

/-- `KV_MBOX_RES[i]` (R625). -/
def R.KV_MBOX_RES : RegD :=
  ⟨0x1140, 0x8, 4, 0x0, 0, 0, 0, 0x0#64, 0, [
   ⟨0, 64, .ro, .s⟩]⟩

/-- `KV_RESET_CAUSE` (R716). -/
def R.KV_RESET_CAUSE : RegD :=
  ⟨0x2000, 0x0, 1, 0x0, 0, 0, 0, 0x30001#64, 0, [
   ⟨0, 1, .ro, .p⟩, ⟨1, 1, .ro, .p⟩, ⟨2, 1, .ro, .p⟩, ⟨3, 1, .ro, .p⟩, ⟨4, 1, .ro, .p⟩, ⟨5, 1, .ro, .p⟩,
   ⟨6, 1, .ro, .p⟩, ⟨7, 1, .ro, .p⟩, ⟨8, 1, .ro, .p⟩, ⟨9, 1, .ro, .p⟩, ⟨10, 1, .ro, .p⟩,
   ⟨11, 1, .ro, .p⟩, ⟨12, 1, .ro, .p⟩, ⟨13, 1, .ro, .p⟩, ⟨16, 2, .ro, .p⟩, ⟨18, 1, .ro, .p⟩,
   ⟨19, 1, .ro, .p⟩, ⟨32, 16, .ro, .p⟩, ⟨48, 16, .ro, .p⟩]⟩

/-- `KV_RESET_REQ` (R717). -/
def R.KV_RESET_REQ : RegD :=
  ⟨0x2008, 0x0, 1, 0x0, 0, 0, 0, 0x0#64, 0, [
   ⟨0, 1, .w1s, .s⟩, ⟨1, 1, .w1s, .s⟩, ⟨2, 1, .w1s, .s⟩, ⟨8, 8, .wo, .none⟩]⟩

/-- `KV_WDOG_CTL` (R717). -/
def R.KV_WDOG_CTL : RegD :=
  ⟨0x2010, 0x0, 1, 0x0, 0, 0, 0, 0x3e80000#64, 0, [
   ⟨0, 1, .rw, .s⟩, ⟨1, 1, .rw, .s⟩, ⟨2, 1, .wo, .none⟩, ⟨16, 16, .rw, .s⟩, ⟨32, 16, .ro, .kept⟩]⟩

/-- `KV_STRAP` (R717). -/
def R.KV_STRAP : RegD :=
  ⟨0x2018, 0x0, 1, 0x0, 0, 0, 0, 0x0#64, 0, [
   ⟨0, 2, .ro, .p⟩, ⟨2, 2, .ro, .p⟩, ⟨4, 1, .ro, .p⟩, ⟨8, 5, .ro, .p⟩, ⟨13, 1, .ro, .p⟩]⟩

/-- `KV_BOOT_STAT` (R718). -/
def R.KV_BOOT_STAT : RegD :=
  ⟨0x2020, 0x0, 1, 0x0, 0, 0, 0, 0x0#64, 0, [
   ⟨0, 2, .ro, .s⟩, ⟨2, 1, .ro, .s⟩, ⟨3, 1, .ro, .s⟩, ⟨4, 1, .ro, .s⟩, ⟨5, 1, .ro, .s⟩, ⟨8, 4, .ro, .s⟩,
   ⟨12, 3, .ro, .s⟩, ⟨16, 2, .ro, .kept⟩, ⟨18, 14, .ro, .s⟩, ⟨32, 32, .ro, .s⟩]⟩

/-- `KV_HOSTLOAD_ADDR` (R718). -/
def R.KV_HOSTLOAD_ADDR : RegD :=
  ⟨0x2028, 0x0, 1, 0x0, 0, 0, 0, 0x0#64, 0, [
   ⟨0, 64, .rw, .s⟩]⟩

/-- `KV_HOSTLOAD_CTL` (R718). -/
def R.KV_HOSTLOAD_CTL : RegD :=
  ⟨0x2030, 0x0, 1, 0x0, 0, 0, 0, 0x0#64, 0, [
   ⟨0, 32, .rw, .s⟩, ⟨32, 1, .w1s, .s⟩]⟩

/-- `KV_RST_EVT` (R719). -/
def R.KV_RST_EVT : RegD :=
  ⟨0x2038, 0x0, 1, 0x0, 0, 0, 0, 0x0#64, 0, [
   ⟨0, 1, .w1c, .s⟩, ⟨1, 1, .w1c, .s⟩, ⟨2, 1, .w1c, .s⟩, ⟨3, 1, .w1c, .s⟩, ⟨4, 1, .w1c, .s⟩,
   ⟨5, 1, .w1c, .s⟩, ⟨6, 1, .w1c, .s⟩]⟩

/-- `KV_BACKUP[i]` (R718). -/
def R.KV_BACKUP : RegD :=
  ⟨0x2100, 0x8, 8, 0x0, 0, 0, 0, 0x0#64, 0, [
   ⟨0, 64, .rw, .p⟩]⟩

/-- `KV_BLK_CTL[i]` (R719). -/
def R.KV_BLK_CTL : RegD :=
  ⟨0x3000, 0x10, 68, 0x0, 0, 0, 0, 0x6401#64, 0, [
   ⟨0, 1, .rw, .s⟩, ⟨1, 1, .w1s, .s⟩, ⟨2, 1, .rw, .s⟩, ⟨3, 1, .rw, .s⟩, ⟨8, 8, .rw, .s⟩]⟩

/-- `KV_BLK_STAT[i]` (R719). -/
def R.KV_BLK_STAT : RegD :=
  ⟨0x3008, 0x10, 68, 0x0, 0, 0, 0, 0xa#64, 0, [
   ⟨0, 3, .ro, .kept⟩, ⟨3, 1, .ro, .kept⟩, ⟨4, 1, .ro, .kept⟩, ⟨5, 3, .ro, .s⟩, ⟨16, 16, .ro, .s⟩,
   ⟨32, 16, .ro, .s⟩]⟩

/-- `KV_PWR_CTL` (R752). -/
def R.KV_PWR_CTL : RegD :=
  ⟨0x4000, 0x0, 1, 0x0, 0, 0, 0, 0xffff0001#64, 0, [
   ⟨0, 1, .rw, .s⟩, ⟨16, 16, .rw, .s⟩]⟩

/-- `KV_PWR_STAT` (R752). -/
def R.KV_PWR_STAT : RegD :=
  ⟨0x4008, 0x0, 1, 0x0, 0, 0, 0, 0x0#64, 0, [
   ⟨0, 11, .ro, .kept⟩, ⟨16, 11, .ro, .s⟩, ⟨32, 10, .ro, .kept⟩, ⟨48, 16, .ro, .kept⟩]⟩

/-- `KV_THERM_STAT` (R752). -/
def R.KV_THERM_STAT : RegD :=
  ⟨0x4010, 0x0, 1, 0x0, 0, 0, 0, 0x0#64, 0, [
   ⟨0, 8, .ro, .kept⟩, ⟨8, 8, .ro, .kept⟩, ⟨16, 3, .ro, .kept⟩, ⟨24, 7, .ro, .kept⟩, ⟨32, 8, .ro, .s⟩]⟩

/-- `KV_PWR_EVT` (R753). -/
def R.KV_PWR_EVT : RegD :=
  ⟨0x4018, 0x0, 1, 0x0, 0, 0, 0, 0x0#64, 0, [
   ⟨0, 1, .w1c, .s⟩, ⟨1, 1, .w1c, .s⟩, ⟨2, 1, .w1c, .s⟩, ⟨3, 1, .w1c, .s⟩, ⟨4, 1, .w1c, .s⟩,
   ⟨5, 1, .w1c, .s⟩, ⟨6, 1, .w1c, .s⟩, ⟨7, 1, .w1c, .s⟩, ⟨8, 1, .w1c, .s⟩, ⟨9, 1, .w1c, .s⟩,
   ⟨10, 1, .w1c, .s⟩, ⟨11, 1, .w1c, .s⟩]⟩

/-- `KV_AGE_ON` (R752). -/
def R.KV_AGE_ON : RegD :=
  ⟨0x4020, 0x0, 1, 0x0, 0, 0, 0, 0x0#64, 0, [
   ⟨0, 32, .ro, .p⟩]⟩

/-- `KV_AGE_UPD[c]` (R752). -/
def R.KV_AGE_UPD : RegD :=
  ⟨0x4100, 0x8, 16, 0x0, 0, 0, 0, 0x0#64, 0, [
   ⟨0, 32, .ro, .p⟩, ⟨32, 1, .ro, .kept⟩]⟩

/-- `KV_ISL_CTL[i]` (R751). -/
def R.KV_ISL_CTL : RegD :=
  ⟨0x5000, 0x10, 68, 0x0, 0, 0, 0, 0x18a#64, 0, [
   ⟨0, 7, .rw, .s⟩, ⟨7, 1, .rw, .s⟩, ⟨8, 1, .rw, .s⟩]⟩

/-- `KV_ISL_STAT[i]` (R751). -/
def R.KV_ISL_STAT : RegD :=
  ⟨0x5008, 0x10, 68, 0x0, 0, 0, 0, 0x0#64, 0, [
   ⟨0, 12, .ro, .kept⟩, ⟨12, 10, .ro, .kept⟩, ⟨22, 8, .ro, .kept⟩, ⟨32, 8, .ro, .kept⟩,
   ⟨40, 1, .ro, .kept⟩, ⟨41, 1, .ro, .kept⟩, ⟨42, 1, .ro, .s⟩]⟩

/-- `KV_ISL_XING[i]` (R751). -/
def R.KV_ISL_XING : RegD :=
  ⟨0x6000, 0x8, 68, 0x0, 0, 0, 0, 0x0#64, 0, [
   ⟨0, 16, .ro, .s⟩, ⟨16, 16, .ro, .s⟩, ⟨32, 16, .ro, .s⟩, ⟨48, 8, .ro, .s⟩]⟩

/-- `KV_FW_CTL` (R775). -/
def R.KV_FW_CTL : RegD :=
  ⟨0x8000, 0x0, 1, 0x0, 0, 0, 0, 0x0#64, 0, [
   ⟨0, 1, .w1s, .s⟩, ⟨1, 1, .w1s, .s⟩, ⟨8, 8, .wo, .none⟩]⟩

/-- `KV_FW_STAT` (R775). -/
def R.KV_FW_STAT : RegD :=
  ⟨0x8008, 0x0, 1, 0x0, 0, 0, 0, 0xff00000000#64, 0, [
   ⟨0, 32, .ro, .c⟩, ⟨32, 8, .ro, .kept⟩, ⟨40, 8, .ro, .s⟩, ⟨48, 8, .ro, .c⟩, ⟨56, 8, .ro, .c⟩]⟩

/-- `KV_FW_XFER` (R775). -/
def R.KV_FW_XFER : RegD :=
  ⟨0x8010, 0x0, 1, 0x0, 0, 0, 0, 0x0#64, 0, [
   ⟨0, 16, .ro, .s⟩, ⟨16, 1, .ro, .kept⟩, ⟨24, 8, .ro, .s⟩, ⟨32, 7, .ro, .s⟩, ⟨39, 7, .ro, .s⟩,
   ⟨46, 6, .ro, .s⟩, ⟨52, 4, .ro, .s⟩, ⟨56, 6, .ro, .kept⟩]⟩

/-- `KV_FW_SEND_ADDR` (R775). -/
def R.KV_FW_SEND_ADDR : RegD :=
  ⟨0x8018, 0x0, 1, 0x0, 0, 0, 0, 0x0#64, 0, [
   ⟨0, 64, .rw, .s⟩]⟩

/-- `KV_FW_SEND_CTL` (R775). -/
def R.KV_FW_SEND_CTL : RegD :=
  ⟨0x8020, 0x0, 1, 0x0, 0, 0, 0, 0x0#64, 0, [
   ⟨0, 32, .rw, .s⟩, ⟨32, 1, .w1s, .s⟩]⟩

/-- `KV_FW_EVT` (R775). -/
def R.KV_FW_EVT : RegD :=
  ⟨0x8028, 0x0, 1, 0x0, 0, 0, 0, 0x0#64, 0, [
   ⟨0, 1, .w1c, .s⟩, ⟨1, 1, .w1c, .s⟩, ⟨2, 1, .w1c, .s⟩, ⟨3, 1, .w1c, .s⟩, ⟨4, 1, .w1c, .s⟩,
   ⟨5, 1, .w1c, .s⟩, ⟨6, 1, .w1c, .s⟩]⟩

/-- `KV_TLM_CTL` (R806). -/
def R.KV_TLM_CTL : RegD :=
  ⟨0x20000, 0x0, 1, 0x0, 0, 0, 0, 0x7d00003e8#64, 0, [
   ⟨0, 14, .rw, .s⟩, ⟨14, 1, .rw, .s⟩, ⟨15, 1, .rw, .s⟩, ⟨16, 4, .rw, .s⟩, ⟨20, 4, .rw, .s⟩,
   ⟨24, 16, .rw, .s⟩]⟩

/-- `KV_TLM_STAT` (R806). -/
def R.KV_TLM_STAT : RegD :=
  ⟨0x20008, 0x0, 1, 0x0, 0, 0, 0, 0x0#64, 0, [
   ⟨0, 32, .ro, .s⟩, ⟨32, 1, .ro, .kept⟩, ⟨33, 1, .ro, .kept⟩]⟩

/-- `KV_TLM_EVT` (R806). -/
def R.KV_TLM_EVT : RegD :=
  ⟨0x20010, 0x0, 1, 0x0, 0, 0, 0, 0x0#64, 0, [
   ⟨0, 1, .w1c, .s⟩, ⟨1, 1, .w1c, .s⟩, ⟨2, 1, .w1c, .s⟩, ⟨3, 1, .w1c, .s⟩, ⟨4, 1, .w1c, .s⟩]⟩

/-- `KV_USER_COUNTER_GRANT` (R806). -/
def R.KV_USER_COUNTER_GRANT : RegD :=
  ⟨0x20018, 0x0, 1, 0x0, 0, 0, 0, 0x0#64, 0, [
   ⟨0, 16, .rw, .s⟩]⟩

/-- `KV_EVT` (R805). -/
def R.KV_EVT : RegD :=
  ⟨0x20020, 0x0, 1, 0x0, 0, 0, 0, 0x0#64, 0, [
   ⟨0, 1, .w1c, .s⟩, ⟨1, 1, .w1c, .s⟩]⟩

/-- `KV_EVT_SRC` (R808). -/
def R.KV_EVT_SRC : RegD :=
  ⟨0x20028, 0x0, 1, 0x0, 0, 0, 0, 0x0#64, 0, [
   ⟨0, 32, .ro, .kept⟩]⟩

/-- `KV_EVT_SRC_MASK` (R808). -/
def R.KV_EVT_SRC_MASK : RegD :=
  ⟨0x20030, 0x0, 1, 0x0, 0, 0, 0, 0x0#64, 0, [
   ⟨0, 32, .rw, .s⟩]⟩

/-- `KV_EVT_ARM` (R808). -/
def R.KV_EVT_ARM : RegD :=
  ⟨0x20038, 0x0, 1, 0x0, 0, 0, 0, 0xffffffff#64, 0, [
   ⟨0, 32, .w1s, .s⟩]⟩

/-- `KV_ALERT_CTL` (R808). -/
def R.KV_ALERT_CTL : RegD :=
  ⟨0x20040, 0x0, 1, 0x0, 0, 0, 0, 0x0#64, 0, [
   ⟨0, 32, .rw, .s⟩, ⟨32, 1, .ro, .kept⟩]⟩

/-- `KV_TLM_CNT[k]` (R807). -/
def R.KV_TLM_CNT : RegD :=
  ⟨0x20100, 0x8, 8, 0x0, 0, 0, 0, 0x0#64, 0, [
   ⟨0, 63, .ro, .s⟩, ⟨63, 1, .ro, .s⟩]⟩

/-- `KV_USER_PAGE_SEL[p]` (R806). -/
def R.KV_USER_PAGE_SEL : RegD :=
  ⟨0x20200, 0x8, 16, 0x0, 0, 0, 0, 0x0#64, 0, [
   ⟨0, 6, .rw, .s⟩, ⟨6, 1, .rw, .s⟩]⟩

/-- `KV_TLM_SEL[s]` (R806). -/
def R.KV_TLM_SEL : RegD :=
  ⟨0x20400, 0x8, 64, 0x0, 0, 0, 0, 0x8000000#64, 0, [
   ⟨0, 1, .rw, .s⟩, ⟨1, 5, .rw, .s⟩, ⟨6, 21, .rw, .s⟩, ⟨27, 17, .rw, .s⟩, ⟨44, 4, .rw, .s⟩]⟩

/-- `KV_BW[l]` (R806). -/
def R.KV_BW : RegD :=
  ⟨0x21000, 0x8, 256, 0x0, 0, 0, 0, 0x0#64, 0, [
   ⟨0, 32, .ro, .s⟩, ⟨32, 32, .ro, .s⟩]⟩

/-- `TF_PORT_CFG[p]` (R87). -/
def R.TF_PORT_CFG : RegD :=
  ⟨0x1000000, 0x40, 32, 0x0, 0, 17, 4, 0x0#64, 0, [
   ⟨0, 3, .ro, .s⟩, ⟨3, 1, .ro, .s⟩, ⟨4, 1, .ro, .s⟩, ⟨5, 1, .ro, .s⟩, ⟨8, 8, .ro, .s⟩,
   ⟨16, 8, .ro, .kept⟩]⟩

/-- `TF_PORT_LANEMAP[p]` (R88). -/
def R.TF_PORT_LANEMAP : RegD :=
  ⟨0x1001000, 0x40, 32, 0x0, 0, 17, 4, 0xfac68800fac688#64, 0, [
   ⟨0, 24, .rwl, .s⟩, ⟨24, 8, .rwl, .s⟩, ⟨32, 24, .rwl, .s⟩, ⟨56, 8, .rwl, .s⟩]⟩

/-- `TF_LPORT_CTL[l]` (R101). -/
def R.TF_LPORT_CTL : RegD :=
  ⟨0x1010000, 0x40, 256, 0x0, 0, 17, 32, 0x10a2400000000#64, 0, [
   ⟨0, 1, .rw, .s⟩, ⟨1, 1, .rw, .s⟩, ⟨2, 1, .rw, .s⟩, ⟨3, 1, .rw, .s⟩, ⟨4, 2, .rw, .s⟩, ⟨6, 2, .rw, .s⟩,
   ⟨8, 8, .rw, .s⟩, ⟨16, 8, .rw, .s⟩, ⟨24, 14, .rw, .s⟩, ⟨40, 8, .rw, .s⟩, ⟨48, 8, .rw, .s⟩]⟩

/-- `TF_LPORT_STAT[l]` (R102). -/
def R.TF_LPORT_STAT : RegD :=
  ⟨0x1018000, 0x40, 256, 0x0, 0, 17, 32, 0x0#64, 0, [
   ⟨0, 3, .ro, .kept⟩, ⟨3, 1, .ro, .kept⟩, ⟨4, 1, .ro, .kept⟩, ⟨5, 3, .ro, .s⟩, ⟨8, 8, .ro, .kept⟩,
   ⟨16, 8, .ro, .kept⟩, ⟨24, 8, .ro, .s⟩, ⟨32, 32, .ro, .s⟩]⟩

/-- `TF_LINK_PARTNER[l]` (R99). -/
def R.TF_LINK_PARTNER : RegD :=
  ⟨0x1020000, 0x40, 256, 0x0, 0, 17, 32, 0x0#64, 0, [
   ⟨0, 48, .ro, .s⟩, ⟨48, 8, .ro, .s⟩, ⟨56, 3, .ro, .s⟩, ⟨59, 1, .ro, .s⟩, ⟨63, 1, .ro, .s⟩]⟩

/-- `TF_LPORT_EVT[l]` (R128). -/
def R.TF_LPORT_EVT : RegD :=
  ⟨0x1028000, 0x40, 256, 0x0, 0, 17, 32, 0x0#64, 0, [
   ⟨0, 1, .w1c, .s⟩, ⟨1, 1, .w1c, .s⟩, ⟨2, 1, .w1c, .s⟩, ⟨3, 1, .w1c, .s⟩]⟩

/-- `TF_PTP_TXTS[l]` (R120). -/
def R.TF_PTP_TXTS : RegD :=
  ⟨0x1030000, 0x40, 256, 0x0, 0, 17, 32, 0x0#64, 0, [
   ⟨0, 48, .ro, .s⟩, ⟨48, 14, .ro, .s⟩, ⟨62, 1, .wo, .none⟩, ⟨63, 1, .ro, .s⟩]⟩

/-- `TF_LANE_STAT[n]` (R107). -/
def R.TF_LANE_STAT : RegD :=
  ⟨0x1040000, 0x40, 256, 0x0, 0, 17, 32, 0x0#64, 0, [
   ⟨0, 1, .ro, .kept⟩, ⟨1, 1, .ro, .kept⟩, ⟨2, 1, .ro, .kept⟩, ⟨8, 8, .ro, .s⟩, ⟨16, 3, .ro, .s⟩,
   ⟨24, 8, .ro, .kept⟩]⟩

/-- `TF_LANE_EVT[n]` (R128). -/
def R.TF_LANE_EVT : RegD :=
  ⟨0x1048000, 0x40, 256, 0x0, 0, 17, 32, 0x0#64, 0, [
   ⟨0, 1, .w1c, .s⟩, ⟨1, 1, .w1c, .s⟩, ⟨2, 1, .w1c, .s⟩, ⟨3, 1, .w1c, .s⟩, ⟨4, 1, .w1c, .s⟩,
   ⟨5, 1, .w1c, .s⟩]⟩

/-- `TF_TIME_NOW` (R120). -/
def R.TF_TIME_NOW : RegD :=
  ⟨0x1050000, 0x0, 1, 0x0, 0, 0, 0, 0x0#64, 0, [
   ⟨0, 64, .ro, .kept⟩]⟩

/-- `TF_TIME_ADJ` (R120). -/
def R.TF_TIME_ADJ : RegD :=
  ⟨0x1050008, 0x0, 1, 0x0, 0, 0, 0, 0x0#64, 0, [
   ⟨0, 32, .rw, .s⟩]⟩

/-- `TF_TIME_STEP` (R120). -/
def R.TF_TIME_STEP : RegD :=
  ⟨0x1050010, 0x0, 1, 0x0, 0, 0, 0, 0x0#64, 0, [
   ⟨0, 40, .rw, .s⟩, ⟨63, 1, .w1s, .s⟩]⟩

/-- `TF_PPS_CAP` (R120). -/
def R.TF_PPS_CAP : RegD :=
  ⟨0x1050018, 0x0, 1, 0x0, 0, 0, 0, 0x0#64, 0, [
   ⟨0, 64, .ro, .s⟩]⟩

/-- `TF_TOD_RX` (R833). -/
def R.TF_TOD_RX : RegD :=
  ⟨0x1050020, 0x0, 1, 0x0, 0, 0, 0, 0x0#64, 0, [
   ⟨0, 48, .ro, .s⟩, ⟨48, 8, .ro, .s⟩, ⟨63, 1, .ro, .s⟩]⟩

/-- `TF_TOD_TX` (R833). -/
def R.TF_TOD_TX : RegD :=
  ⟨0x1050028, 0x0, 1, 0x0, 0, 0, 0, 0x0#64, 0, [
   ⟨0, 1, .rw, .s⟩, ⟨1, 8, .rw, .s⟩]⟩

/-- `TF_FRM_CTL[l]` (R165). -/
def R.TF_FRM_CTL : RegD :=
  ⟨0x1060000, 0x40, 256, 0x0, 0, 17, 32, 0xe#64, 0, [
   ⟨0, 1, .rw, .s⟩, ⟨1, 1, .rw, .s⟩, ⟨2, 1, .rw, .s⟩, ⟨3, 1, .rw, .s⟩, ⟨4, 3, .rw, .s⟩]⟩

/-- `TF_FRM_STAT[l]` (R165). -/
def R.TF_FRM_STAT : RegD :=
  ⟨0x1068000, 0x40, 256, 0x0, 0, 17, 32, 0x0#64, 0, [
   ⟨0, 2, .ro, .kept⟩, ⟨2, 3, .ro, .kept⟩, ⟨5, 1, .ro, .kept⟩, ⟨6, 1, .ro, .kept⟩, ⟨7, 1, .ro, .kept⟩,
   ⟨8, 1, .ro, .kept⟩, ⟨9, 1, .ro, .kept⟩, ⟨10, 1, .ro, .kept⟩, ⟨11, 1, .ro, .kept⟩,
   ⟨12, 1, .ro, .kept⟩, ⟨13, 3, .ro, .kept⟩, ⟨16, 12, .ro, .kept⟩, ⟨32, 8, .ro, .kept⟩,
   ⟨40, 16, .ro, .kept⟩]⟩

/-- `TF_FRM_APS[l]` (R165). -/
def R.TF_FRM_APS : RegD :=
  ⟨0x1070000, 0x40, 256, 0x0, 0, 17, 32, 0x0#64, 0, [
   ⟨0, 32, .rw, .s⟩, ⟨32, 32, .ro, .s⟩]⟩

/-- `TF_FRM_EVT[l]` (R165). -/
def R.TF_FRM_EVT : RegD :=
  ⟨0x1078000, 0x40, 256, 0x0, 0, 17, 32, 0x0#64, 0, [
   ⟨0, 1, .w1c, .s⟩, ⟨1, 1, .w1c, .s⟩, ⟨2, 1, .w1c, .s⟩, ⟨3, 1, .w1c, .s⟩, ⟨4, 1, .w1c, .s⟩,
   ⟨5, 1, .w1c, .s⟩, ⟨6, 1, .w1c, .s⟩, ⟨7, 1, .w1c, .s⟩]⟩

/-- `TF_FRM_CNT[l][k]` (R166). -/
def R.TF_FRM_CNT : RegD :=
  ⟨0x1080000, 0x40, 256, 0x8, 8, 17, 32, 0x0#64, 0, [
   ⟨0, 63, .ro, .s⟩, ⟨63, 1, .ro, .s⟩]⟩

/-- `TF_MAC_CNT[l][k]` (R777). -/
def R.TF_MAC_CNT : RegD :=
  ⟨0x1090000, 0x80, 256, 0x8, 16, 17, 32, 0x0#64, 0, [
   ⟨0, 63, .ro, .s⟩, ⟨63, 1, .ro, .s⟩]⟩

/-- `TF_PARSE_PORT[l]` (R210). -/
def R.TF_PARSE_PORT : RegD :=
  ⟨0x1100000, 0x40, 256, 0x0, 0, 25, 0, 0x0#64, 0, [
   ⟨0, 9, .rw, .s⟩, ⟨9, 1, .rw, .s⟩, ⟨10, 6, .rw, .s⟩, ⟨16, 16, .rw, .s⟩, ⟨32, 3, .rw, .s⟩]⟩

/-- `TF_HASH_PROF[h]` (R211). -/
def R.TF_HASH_PROF : RegD :=
  ⟨0x1104000, 0x40, 16, 0x0, 0, 25, 0, 0xffffffffffffffff#64, 0, [
   ⟨0, 32, .rw, .s⟩, ⟨32, 32, .rw, .s⟩]⟩

/-- `TF_PARSE_CNT[k]` (R212). -/
def R.TF_PARSE_CNT : RegD :=
  ⟨0x1105000, 0x8, 8, 0x0, 0, 25, 0, 0x0#64, 0, [
   ⟨0, 63, .ro, .s⟩, ⟨63, 1, .ro, .s⟩]⟩

/-- `TF_SPREAD_STAT` (R213). -/
def R.TF_SPREAD_STAT : RegD :=
  ⟨0x1105100, 0x0, 1, 0x0, 0, 25, 0, 0x300000#64, 0, [
   ⟨0, 22, .ro, .s⟩, ⟨22, 17, .ro, .s⟩, ⟨39, 9, .ro, .s⟩]⟩

/-- `TF_ROUTE_CTL` (R257). -/
def R.TF_ROUTE_CTL : RegD :=
  ⟨0x1200000, 0x0, 1, 0x0, 0, 25, 0, 0x7d03c500100#64, 0, [
   ⟨0, 6, .rw, .s⟩, ⟨8, 1, .rw, .s⟩, ⟨16, 7, .rw, .s⟩, ⟨24, 7, .rw, .s⟩, ⟨32, 16, .rw, .s⟩]⟩

/-- `TF_ROUTE_STAT` (R258). -/
def R.TF_ROUTE_STAT : RegD :=
  ⟨0x1200008, 0x0, 1, 0x0, 0, 25, 0, 0x0#64, 0, [
   ⟨0, 25, .ro, .s⟩, ⟨25, 17, .ro, .s⟩]⟩

/-- `TF_ROUTE_SPACE` (R258). -/
def R.TF_ROUTE_SPACE : RegD :=
  ⟨0x1200010, 0x0, 1, 0x0, 0, 25, 0, 0x0#64, 0, [
   ⟨0, 28, .ro, .s⟩, ⟨28, 28, .ro, .s⟩]⟩

/-- `TF_NH_STAT` (R258). -/
def R.TF_NH_STAT : RegD :=
  ⟨0x1200018, 0x0, 1, 0x0, 0, 25, 0, 0x0#64, 0, [
   ⟨0, 23, .ro, .s⟩, ⟨23, 23, .ro, .s⟩]⟩

/-- `TF_EPOCH` (R258). -/
def R.TF_EPOCH : RegD :=
  ⟨0x1200020, 0x0, 1, 0x0, 0, 25, 0, 0x0#64, 0, [
   ⟨0, 32, .ro, .s⟩, ⟨32, 1, .ro, .kept⟩]⟩

/-- `TF_ROUTE_EVT` (R260). -/
def R.TF_ROUTE_EVT : RegD :=
  ⟨0x1200028, 0x0, 1, 0x0, 0, 25, 0, 0x0#64, 0, [
   ⟨0, 1, .w1c, .s⟩, ⟨1, 1, .w1c, .s⟩, ⟨2, 1, .w1c, .s⟩, ⟨3, 1, .w1c, .s⟩, ⟨4, 1, .w1c, .s⟩]⟩

/-- `TF_ROUTE_CLASS[c]` (R258). -/
def R.TF_ROUTE_CLASS : RegD :=
  ⟨0x1200100, 0x8, 8, 0x0, 0, 25, 0, 0x0#64, 0, [
   ⟨0, 25, .ro, .s⟩]⟩

/-- `TF_ROUTE_CNT[k]` (R261). -/
def R.TF_ROUTE_CNT : RegD :=
  ⟨0x1200200, 0x8, 8, 0x0, 0, 25, 0, 0x0#64, 0, [
   ⟨0, 63, .ro, .s⟩, ⟨63, 1, .ro, .s⟩]⟩

/-- `TF_BANK_STAT[b]` (R259). -/
def R.TF_BANK_STAT : RegD :=
  ⟨0x1210000, 0x8, 1024, 0x0, 0, 1, 64, 0x0#64, 0, [
   ⟨0, 8, .ro, .kept⟩, ⟨8, 1, .ro, .kept⟩, ⟨9, 1, .ro, .s⟩, ⟨10, 2, .ro, .s⟩, ⟨16, 16, .ro, .s⟩]⟩

/-- `TF_EM_CTL` (R309). -/
def R.TF_EM_CTL : RegD :=
  ⟨0x1220000, 0x0, 1, 0x0, 0, 25, 0, 0x303e8#64, 0, [
   ⟨0, 16, .rw, .s⟩, ⟨16, 1, .rw, .s⟩, ⟨17, 1, .rw, .s⟩]⟩

/-- `TF_EM_SEED` (R309). -/
def R.TF_EM_SEED : RegD :=
  ⟨0x1220008, 0x0, 1, 0x0, 0, 25, 0, 0x0#64, 0, [
   ⟨0, 32, .rwl, .s⟩, ⟨32, 32, .rwl, .s⟩]⟩

/-- `TF_EM_STAT` (R311). -/
def R.TF_EM_STAT : RegD :=
  ⟨0x1220010, 0x0, 1, 0x0, 0, 25, 0, 0x0#64, 0, [
   ⟨0, 24, .ro, .s⟩, ⟨24, 19, .ro, .s⟩, ⟨43, 21, .ro, .s⟩]⟩

/-- `TF_EM_LSTAT` (R311). -/
def R.TF_EM_LSTAT : RegD :=
  ⟨0x1220018, 0x0, 1, 0x0, 0, 25, 0, 0x0#64, 0, [
   ⟨0, 13, .ro, .kept⟩, ⟨16, 16, .ro, .kept⟩, ⟨32, 32, .ro, .s⟩]⟩

/-- `TF_EM_EVT` (R312). -/
def R.TF_EM_EVT : RegD :=
  ⟨0x1220020, 0x0, 1, 0x0, 0, 25, 0, 0x0#64, 0, [
   ⟨0, 1, .w1c, .s⟩, ⟨1, 1, .w1c, .s⟩, ⟨2, 1, .w1c, .s⟩, ⟨3, 1, .w1c, .s⟩, ⟨4, 1, .w1c, .s⟩,
   ⟨5, 1, .w1c, .s⟩]⟩

/-- `TF_EM_TABLE[t]` (R310). -/
def R.TF_EM_TABLE : RegD :=
  ⟨0x1220100, 0x8, 16, 0x0, 0, 25, 0, 0x4b012c1c#64, 0, [
   ⟨0, 1, .rw, .s⟩, ⟨1, 1, .rw, .s⟩, ⟨2, 1, .rw, .s⟩, ⟨3, 1, .rw, .s⟩, ⟨4, 1, .rw, .s⟩,
   ⟨8, 15, .rw, .s⟩, ⟨24, 15, .rw, .s⟩, ⟨40, 24, .rw, .s⟩]⟩

/-- `TF_EM_LEARN[t]` (R310). -/
def R.TF_EM_LEARN : RegD :=
  ⟨0x1220200, 0x8, 16, 0x0, 0, 25, 0, 0x0#64, 0, [
   ⟨0, 22, .rw, .s⟩]⟩

/-- `TF_EM_TSTAT[t]` (R311). -/
def R.TF_EM_TSTAT : RegD :=
  ⟨0x1220300, 0x8, 16, 0x0, 0, 25, 0, 0x0#64, 0, [
   ⟨0, 24, .ro, .s⟩, ⟨24, 24, .ro, .s⟩]⟩

/-- `TF_EM_CNT[k]` (R313). -/
def R.TF_EM_CNT : RegD :=
  ⟨0x1220400, 0x8, 16, 0x0, 0, 25, 0, 0x0#64, 0, [
   ⟨0, 63, .ro, .s⟩, ⟨63, 1, .ro, .s⟩]⟩

/-- `TF_CLASS_STAT` (R354). -/
def R.TF_CLASS_STAT : RegD :=
  ⟨0x1230000, 0x0, 1, 0x0, 0, 25, 0, 0x0#64, 0, [
   ⟨0, 21, .ro, .s⟩, ⟨21, 21, .ro, .s⟩, ⟨42, 9, .ro, .s⟩, ⟨51, 1, .ro, .kept⟩]⟩

/-- `TF_ASSOC_STAT` (R354). -/
def R.TF_ASSOC_STAT : RegD :=
  ⟨0x1230008, 0x0, 1, 0x0, 0, 25, 0, 0x0#64, 0, [
   ⟨0, 20, .ro, .s⟩, ⟨20, 1, .ro, .kept⟩]⟩

/-- `TF_CLASS_EVT` (R355). -/
def R.TF_CLASS_EVT : RegD :=
  ⟨0x1230010, 0x0, 1, 0x0, 0, 25, 0, 0x0#64, 0, [
   ⟨0, 1, .w1c, .s⟩, ⟨1, 1, .w1c, .s⟩, ⟨2, 1, .w1c, .s⟩, ⟨3, 1, .w1c, .s⟩, ⟨4, 1, .w1c, .s⟩,
   ⟨5, 1, .w1c, .s⟩]⟩

/-- `TF_CLASS_PROF[t]` (R353). -/
def R.TF_CLASS_PROF : RegD :=
  ⟨0x1230100, 0x8, 16, 0x0, 0, 25, 0, 0x0#64, 0, [
   ⟨0, 8, .rw, .s⟩]⟩

/-- `TF_ASSOC_BANKSEL[t]` (R353). -/
def R.TF_ASSOC_BANKSEL : RegD :=
  ⟨0x1230200, 0x8, 16, 0x0, 0, 25, 0, 0x0#64, 0, [
   ⟨0, 64, .rw, .s⟩]⟩

/-- `TF_ASSOC_GMASK0[t]` (R353). -/
def R.TF_ASSOC_GMASK0 : RegD :=
  ⟨0x1230300, 0x20, 16, 0x0, 0, 25, 0, 0xffffffffffffffff#64, 0, [
   ⟨0, 64, .rw, .s⟩]⟩

/-- `TF_ASSOC_GMASK1[t]` (R353). -/
def R.TF_ASSOC_GMASK1 : RegD :=
  ⟨0x1230308, 0x20, 16, 0x0, 0, 25, 0, 0xffffffffffffffff#64, 0, [
   ⟨0, 64, .rw, .s⟩]⟩

/-- `TF_ASSOC_GMASK2[t]` (R353). -/
def R.TF_ASSOC_GMASK2 : RegD :=
  ⟨0x1230310, 0x20, 16, 0x0, 0, 25, 0, 0xffffffff00000000#64, 0, [
   ⟨32, 32, .rw, .s⟩]⟩

/-- `TF_ASSOC_BANK[b]` (R354). -/
def R.TF_ASSOC_BANK : RegD :=
  ⟨0x1230600, 0x8, 64, 0x0, 0, 25, 0, 0x0#64, 0, [
   ⟨0, 14, .ro, .s⟩, ⟨16, 13, .ro, .s⟩]⟩

/-- `TF_CLASS_CNT[k]` (R356). -/
def R.TF_CLASS_CNT : RegD :=
  ⟨0x1230800, 0x8, 16, 0x0, 0, 25, 0, 0x0#64, 0, [
   ⟨0, 63, .ro, .s⟩, ⟨63, 1, .ro, .s⟩]⟩

/-- `TF_EG_EVT` (R545). -/
def R.TF_EG_EVT : RegD :=
  ⟨0x1300000, 0x0, 1, 0x0, 0, 25, 0, 0x0#64, 0, [
   ⟨0, 1, .w1c, .s⟩, ⟨1, 1, .w1c, .s⟩, ⟨2, 1, .w1c, .s⟩, ⟨3, 1, .w1c, .s⟩]⟩

/-- `TF_EG_CNT[k]` (R546). -/
def R.TF_EG_CNT : RegD :=
  ⟨0x1300100, 0x8, 16, 0x0, 0, 25, 0, 0x0#64, 0, [
   ⟨0, 63, .ro, .s⟩, ⟨63, 1, .ro, .s⟩]⟩

/-- `TF_EG_PROF[e]` (R543). -/
def R.TF_EG_PROF : RegD :=
  ⟨0x1301000, 0x8, 256, 0x0, 0, 25, 0, 0x1000400#64, 0, [
   ⟨0, 8, .rw, .s⟩, ⟨8, 1, .rw, .s⟩, ⟨9, 1, .rw, .s⟩, ⟨10, 1, .rw, .s⟩, ⟨11, 6, .rw, .s⟩,
   ⟨17, 14, .rw, .s⟩]⟩

/-- `TF_EG_PORT[l]` (R543). -/
def R.TF_EG_PORT : RegD :=
  ⟨0x1310000, 0x40, 256, 0x0, 0, 25, 0, 0x0#64, 0, [
   ⟨0, 48, .rw, .s⟩]⟩

/-- `TF_MEM_CFG` (R579). -/
def R.TF_MEM_CFG : RegD :=
  ⟨0x1400000, 0x0, 1, 0x0, 0, 31, 0, 0x1086404#64, 0, [
   ⟨0, 4, .rwl, .s⟩, ⟨8, 8, .rw, .s⟩, ⟨16, 8, .rw, .s⟩, ⟨24, 1, .rw, .s⟩]⟩

/-- `TF_MEM_STAT` (R582). -/
def R.TF_MEM_STAT : RegD :=
  ⟨0x1400008, 0x0, 1, 0x0, 0, 31, 0, 0x0#64, 0, [
   ⟨0, 7, .ro, .kept⟩, ⟨8, 8, .ro, .kept⟩, ⟨16, 8, .ro, .kept⟩, ⟨24, 1, .ro, .s⟩, ⟨32, 16, .ro, .s⟩]⟩

/-- `TF_MEM_EVT` (R583). -/
def R.TF_MEM_EVT : RegD :=
  ⟨0x1400010, 0x0, 1, 0x0, 0, 31, 0, 0x0#64, 0, [
   ⟨0, 1, .w1c, .s⟩, ⟨1, 1, .w1c, .s⟩, ⟨2, 1, .w1c, .s⟩, ⟨3, 1, .w1c, .s⟩, ⟨4, 1, .w1c, .s⟩,
   ⟨5, 1, .w1c, .s⟩, ⟨6, 1, .w1c, .s⟩, ⟨7, 1, .w1c, .s⟩, ⟨8, 1, .w1c, .s⟩]⟩

/-- `TF_MEM_CNT[k]` (R584). -/
def R.TF_MEM_CNT : RegD :=
  ⟨0x1400100, 0x8, 16, 0x0, 0, 31, 0, 0x0#64, 0, [
   ⟨0, 63, .ro, .s⟩, ⟨63, 1, .ro, .s⟩]⟩

/-- `TF_MEM_PKG[k]` (R581). -/
def R.TF_MEM_PKG : RegD :=
  ⟨0x1400200, 0x8, 2, 0x0, 0, 31, 0, 0x0#64, 0, [
   ⟨0, 8, .ro, .s⟩, ⟨8, 8, .ro, .s⟩, ⟨16, 8, .ro, .s⟩, ⟨24, 1, .ro, .s⟩, ⟨32, 8, .ro, .kept⟩]⟩

/-- `TF_MEM_CH[n]` (R580). -/
def R.TF_MEM_CH : RegD :=
  ⟨0x1401000, 0x40, 16, 0x0, 0, 31, 8, 0x0#64, 0, [
   ⟨0, 3, .ro, .kept⟩, ⟨3, 5, .ro, .s⟩, ⟨8, 1, .ro, .s⟩, ⟨16, 7, .ro, .kept⟩, ⟨24, 8, .ro, .s⟩,
   ⟨32, 16, .ro, .s⟩, ⟨48, 13, .ro, .kept⟩]⟩

/-- `TF_TBL_CTL` (R626). -/
def R.TF_TBL_CTL : RegD :=
  ⟨0x1500000, 0x0, 1, 0x0, 0, 25, 0, 0x64#64, 0, [
   ⟨0, 16, .rw, .s⟩]⟩

/-- `TF_TBL_STAT` (R626). -/
def R.TF_TBL_STAT : RegD :=
  ⟨0x1500008, 0x0, 1, 0x0, 0, 25, 0, 0x0#64, 0, [
   ⟨0, 15, .ro, .kept⟩, ⟨15, 5, .ro, .kept⟩, ⟨20, 1, .ro, .kept⟩, ⟨21, 15, .ro, .kept⟩,
   ⟨36, 3, .ro, .kept⟩, ⟨40, 12, .ro, .kept⟩, ⟨52, 1, .ro, .kept⟩]⟩

/-- `TF_TBL_EVT` (R626). -/
def R.TF_TBL_EVT : RegD :=
  ⟨0x1500010, 0x0, 1, 0x0, 0, 25, 0, 0x0#64, 0, [
   ⟨0, 1, .w1c, .s⟩, ⟨1, 1, .w1c, .s⟩, ⟨2, 1, .w1c, .s⟩, ⟨3, 1, .w1c, .s⟩, ⟨4, 1, .w1c, .s⟩,
   ⟨5, 1, .w1c, .s⟩, ⟨6, 1, .w1c, .s⟩]⟩

/-- `TF_SPARE_CTL` (R626). -/
def R.TF_SPARE_CTL : RegD :=
  ⟨0x1500018, 0x0, 1, 0x0, 0, 25, 0, 0x1#64, 0, [
   ⟨0, 1, .rw, .s⟩]⟩

/-- `TF_SPARE_STAT[c]` (R626). -/
def R.TF_SPARE_STAT : RegD :=
  ⟨0x1500100, 0x8, 16, 0x0, 0, 25, 0, 0x0#64, 0, [
   ⟨0, 3, .ro, .kept⟩, ⟨3, 2, .ro, .kept⟩, ⟨5, 5, .ro, .s⟩, ⟨10, 3, .ro, .kept⟩, ⟨13, 2, .ro, .kept⟩,
   ⟨15, 5, .ro, .s⟩]⟩

/-- `TF_HOST_CTL` (R674). -/
def R.TF_HOST_CTL : RegD :=
  ⟨0x1600000, 0x0, 1, 0x0, 0, 30, 0, 0x3e8#64, 0, [
   ⟨0, 16, .rw, .s⟩]⟩

/-- `TF_HOST_STAT` (R674). -/
def R.TF_HOST_STAT : RegD :=
  ⟨0x1600008, 0x0, 1, 0x0, 0, 30, 0, 0x0#64, 0, [
   ⟨0, 14, .ro, .kept⟩, ⟨14, 14, .ro, .kept⟩, ⟨28, 1, .ro, .kept⟩, ⟨29, 3, .ro, .kept⟩,
   ⟨32, 4, .ro, .kept⟩, ⟨36, 1, .ro, .kept⟩, ⟨37, 1, .ro, .kept⟩, ⟨38, 1, .ro, .kept⟩]⟩

/-- `TF_HOST_EVT` (R675). -/
def R.TF_HOST_EVT : RegD :=
  ⟨0x1600010, 0x0, 1, 0x0, 0, 30, 0, 0x0#64, 0, [
   ⟨0, 1, .w1c, .s⟩, ⟨1, 1, .w1c, .s⟩, ⟨2, 1, .w1c, .s⟩, ⟨3, 1, .w1c, .s⟩, ⟨4, 1, .w1c, .s⟩,
   ⟨5, 1, .w1c, .s⟩, ⟨6, 1, .w1c, .s⟩, ⟨7, 1, .w1c, .s⟩, ⟨8, 1, .w1c, .s⟩]⟩

/-- `TF_HOST_CNT[k]` (R676). -/
def R.TF_HOST_CNT : RegD :=
  ⟨0x1600100, 0x8, 16, 0x0, 0, 30, 0, 0x0#64, 0, [
   ⟨0, 63, .ro, .s⟩, ⟨63, 1, .ro, .s⟩]⟩

/-- `TF_SAMPLE_CTL` (R806). -/
def R.TF_SAMPLE_CTL : RegD :=
  ⟨0x1700000, 0x0, 1, 0x0, 0, 0, 0, 0x0#64, 0, [
   ⟨0, 24, .rw, .s⟩, ⟨24, 16, .rw, .s⟩]⟩

/-- `TF_SAMPLE_SEED` (R806). -/
def R.TF_SAMPLE_SEED : RegD :=
  ⟨0x1700008, 0x0, 1, 0x0, 0, 0, 0, 0x1#64, 0, [
   ⟨0, 32, .rw, .s⟩]⟩

/-- `TF_EVT_SUM` (R808). -/
def R.TF_EVT_SUM : RegD :=
  ⟨0x1700010, 0x0, 1, 0x0, 0, 0, 0, 0x0#64, 0, [
   ⟨0, 15, .ro, .kept⟩]⟩

/-- `TF_EVT_MASK` (R808). -/
def R.TF_EVT_MASK : RegD :=
  ⟨0x1700018, 0x0, 1, 0x0, 0, 0, 0, 0x0#64, 0, [
   ⟨0, 15, .rw, .s⟩]⟩

/-- `TF_EVT_MAP[j]` (R808). -/
def R.TF_EVT_MAP : RegD :=
  ⟨0x1700100, 0x8, 12, 0x0, 0, 0, 0, 0x0#64, 0, [
   ⟨0, 64, .ro, .kept⟩]⟩

/-- `DT_BUF_CFG` (R405). -/
def R.DT_BUF_CFG : RegD :=
  ⟨0x2800000, 0x0, 1, 0x0, 0, 41, 0, 0x400306040#64, 0, [
   ⟨0, 8, .rwl, .s⟩, ⟨8, 8, .rwl, .s⟩, ⟨16, 8, .rwl, .s⟩, ⟨24, 12, .rwl, .s⟩]⟩

/-- `DT_POOL_FREE` (R406). -/
def R.DT_POOL_FREE : RegD :=
  ⟨0x2800008, 0x0, 1, 0x0, 0, 41, 0, 0x0#64, 0, [
   ⟨0, 21, .ro, .kept⟩, ⟨21, 21, .ro, .kept⟩, ⟨42, 21, .ro, .kept⟩]⟩

/-- `DT_SHARED_STAT` (R406). -/
def R.DT_SHARED_STAT : RegD :=
  ⟨0x2800010, 0x0, 1, 0x0, 0, 41, 0, 0x0#64, 0, [
   ⟨0, 20, .ro, .kept⟩, ⟨20, 20, .ro, .kept⟩, ⟨40, 20, .ro, .kept⟩]⟩

/-- `DT_SHARED_STAT2` (R406). -/
def R.DT_SHARED_STAT2 : RegD :=
  ⟨0x2800018, 0x0, 1, 0x0, 0, 41, 0, 0x0#64, 0, [
   ⟨0, 20, .ro, .kept⟩, ⟨20, 20, .ro, .kept⟩, ⟨40, 20, .ro, .kept⟩]⟩

/-- `DT_TAIL_STAT` (R406). -/
def R.DT_TAIL_STAT : RegD :=
  ⟨0x2800020, 0x0, 1, 0x0, 0, 41, 0, 0x0#64, 0, [
   ⟨0, 23, .ro, .kept⟩, ⟨23, 20, .ro, .kept⟩]⟩

/-- `DT_ADM_LOOP` (R407). -/
def R.DT_ADM_LOOP : RegD :=
  ⟨0x2800028, 0x0, 1, 0x0, 0, 41, 0, 0x64465a#64, 0, [
   ⟨0, 7, .rw, .s⟩, ⟨8, 7, .rw, .s⟩, ⟨16, 16, .rw, .s⟩]⟩

/-- `DT_RESEQ_CTL` (R408). -/
def R.DT_RESEQ_CTL : RegD :=
  ⟨0x2800030, 0x0, 1, 0x0, 0, 41, 0, 0x4#64, 0, [
   ⟨0, 5, .rw, .s⟩]⟩

/-- `DT_BUF_EVT` (R410). -/
def R.DT_BUF_EVT : RegD :=
  ⟨0x2800038, 0x0, 1, 0x0, 0, 41, 0, 0x0#64, 0, [
   ⟨0, 1, .w1c, .s⟩, ⟨1, 1, .w1c, .s⟩, ⟨2, 1, .w1c, .s⟩, ⟨3, 1, .w1c, .s⟩, ⟨4, 1, .w1c, .s⟩,
   ⟨5, 1, .w1c, .s⟩, ⟨6, 1, .w1c, .s⟩, ⟨7, 1, .w1c, .s⟩, ⟨8, 1, .w1c, .s⟩]⟩

/-- `DT_ADM_PROF[c]` (R407). -/
def R.DT_ADM_PROF : RegD :=
  ⟨0x2800100, 0x8, 8, 0x0, 0, 41, 0, 0x1000400001a300#64, 0, [
   ⟨0, 5, .rw, .s⟩, ⟨5, 5, .rw, .s⟩, ⟨10, 5, .rw, .s⟩, ⟨15, 1, .rw, .s⟩, ⟨16, 2, .rw, .s⟩,
   ⟨24, 16, .rw, .s⟩, ⟨40, 16, .rw, .s⟩, ⟨56, 5, .rw, .s⟩]⟩

/-- `DT_BUF_CNT[k]` (R411). -/
def R.DT_BUF_CNT : RegD :=
  ⟨0x2800200, 0x8, 16, 0x0, 0, 41, 0, 0x0#64, 0, [
   ⟨0, 63, .ro, .s⟩, ⟨63, 1, .ro, .s⟩]⟩

/-- `DT_RESEQ_STAT[p]` (R408). -/
def R.DT_RESEQ_STAT : RegD :=
  ⟨0x2801000, 0x40, 32, 0x0, 0, 43, 16, 0x0#64, 0, [
   ⟨0, 32, .ro, .kept⟩, ⟨32, 1, .ro, .kept⟩, ⟨33, 1, .ro, .kept⟩, ⟨34, 1, .ro, .kept⟩,
   ⟨35, 12, .ro, .kept⟩]⟩

/-- `DT_LOSSLESS[l]` (R409). -/
def R.DT_LOSSLESS : RegD :=
  ⟨0x2810000, 0x40, 256, 0x0, 0, 41, 0, 0x20000000#64, 0, [
   ⟨0, 8, .rw, .s⟩, ⟨8, 16, .rw, .s⟩, ⟨24, 16, .rw, .s⟩, ⟨40, 8, .ro, .kept⟩]⟩

/-- `DT_PORT_HOLD[l]` (R409). -/
def R.DT_PORT_HOLD : RegD :=
  ⟨0x2818000, 0x40, 256, 0x0, 0, 41, 0, 0x32#64, 0, [
   ⟨0, 10, .rw, .s⟩, ⟨10, 1, .rw, .s⟩, ⟨11, 8, .rw, .s⟩, ⟨19, 8, .rw, .s⟩, ⟨27, 8, .rw, .s⟩]⟩

/-- `DT_HOLD_STAT[l]` (R409). -/
def R.DT_HOLD_STAT : RegD :=
  ⟨0x2820000, 0x40, 256, 0x0, 0, 41, 0, 0x0#64, 0, [
   ⟨0, 2, .ro, .kept⟩, ⟨2, 10, .ro, .kept⟩]⟩

/-- `DT_MIRROR[m]` (R544). -/
def R.DT_MIRROR : RegD :=
  ⟨0x2828000, 0x8, 16, 0x0, 0, 41, 0, 0x0#64, 0, [
   ⟨0, 1, .rw, .s⟩, ⟨1, 8, .rw, .s⟩, ⟨9, 8, .rw, .s⟩, ⟨17, 3, .rw, .s⟩, ⟨20, 22, .rw, .s⟩,
   ⟨42, 14, .rw, .s⟩]⟩

/-- `DT_PORT_CNT[l][k]` (R777). -/
def R.DT_PORT_CNT : RegD :=
  ⟨0x2830000, 0x100, 256, 0x8, 32, 41, 0, 0x0#64, 0, [
   ⟨0, 63, .ro, .s⟩, ⟨63, 1, .ro, .s⟩]⟩

/-- `DT_SCHED_CTL` (R454). -/
def R.DT_SCHED_CTL : RegD :=
  ⟨0x2900000, 0x0, 1, 0x0, 0, 45, 0, 0x401#64, 0, [
   ⟨0, 1, .rw, .s⟩, ⟨8, 8, .rw, .s⟩]⟩

/-- `DT_CREDIT_STAT` (R456). -/
def R.DT_CREDIT_STAT : RegD :=
  ⟨0x2900008, 0x0, 1, 0x0, 0, 45, 0, 0x0#64, 0, [
   ⟨0, 20, .ro, .kept⟩, ⟨20, 20, .ro, .kept⟩]⟩

/-- `DT_SCHED_EVT` (R457). -/
def R.DT_SCHED_EVT : RegD :=
  ⟨0x2900010, 0x0, 1, 0x0, 0, 45, 0, 0x0#64, 0, [
   ⟨0, 1, .w1c, .s⟩, ⟨1, 1, .w1c, .s⟩, ⟨2, 1, .w1c, .s⟩, ⟨3, 1, .w1c, .s⟩, ⟨4, 1, .w1c, .s⟩]⟩

/-- `DT_SCHED_CNT[k]` (R458). -/
def R.DT_SCHED_CNT : RegD :=
  ⟨0x2900100, 0x8, 16, 0x0, 0, 45, 0, 0x0#64, 0, [
   ⟨0, 63, .ro, .s⟩, ⟨63, 1, .ro, .s⟩]⟩

/-- `DT_EQ_PORT[l]` (R455). -/
def R.DT_EQ_PORT : RegD :=
  ⟨0x2910000, 0x40, 256, 0x0, 0, 45, 128, 0x10001000fa500000#64, 64, [
   ⟨0, 14, .rw, .s⟩, ⟨14, 1, .rw, .s⟩, ⟨16, 16, .rw, .s⟩, ⟨32, 16, .rw, .s⟩, ⟨48, 16, .rw, .s⟩]⟩

/-- `DT_POL_PORT[l]` (R455). -/
def R.DT_POL_PORT : RegD :=
  ⟨0x2918000, 0x40, 256, 0x0, 0, 45, 128, 0x0#64, 0, [
   ⟨0, 8, .rw, .s⟩]⟩

/-- `DT_EQ_STAT[l]` (R456). -/
def R.DT_EQ_STAT : RegD :=
  ⟨0x2920000, 0x40, 256, 0x0, 0, 45, 128, 0x0#64, 0, [
   ⟨0, 24, .ro, .kept⟩, ⟨24, 24, .ro, .kept⟩, ⟨48, 1, .ro, .kept⟩]⟩

/-- `DT_FAB_CTL` (R506). -/
def R.DT_FAB_CTL : RegD :=
  ⟨0x2a00000, 0x0, 1, 0x0, 0, 67, 0, 0xa40022a0c01#64, 0, [
   ⟨0, 1, .rw, .s⟩, ⟨8, 8, .rw, .s⟩, ⟨16, 4, .rw, .s⟩, ⟨20, 4, .rw, .s⟩, ⟨24, 4, .rw, .s⟩,
   ⟨32, 8, .rw, .s⟩, ⟨40, 10, .rw, .s⟩]⟩

/-- `DT_FAB_STAT` (R508). -/
def R.DT_FAB_STAT : RegD :=
  ⟨0x2a00008, 0x0, 1, 0x0, 0, 67, 0, 0x0#64, 0, [
   ⟨0, 8, .ro, .kept⟩, ⟨8, 9, .ro, .kept⟩, ⟨32, 16, .ro, .kept⟩, ⟨48, 8, .ro, .kept⟩]⟩

/-- `DT_FAB_EVT` (R509). -/
def R.DT_FAB_EVT : RegD :=
  ⟨0x2a00010, 0x0, 1, 0x0, 0, 67, 0, 0x0#64, 0, [
   ⟨0, 1, .w1c, .s⟩, ⟨1, 1, .w1c, .s⟩, ⟨2, 1, .w1c, .s⟩, ⟨3, 1, .w1c, .s⟩, ⟨4, 1, .w1c, .s⟩,
   ⟨5, 1, .w1c, .s⟩, ⟨6, 1, .w1c, .s⟩, ⟨7, 1, .w1c, .s⟩, ⟨8, 1, .w1c, .s⟩, ⟨9, 1, .w1c, .s⟩,
   ⟨10, 1, .w1c, .s⟩, ⟨11, 1, .w1c, .s⟩]⟩

/-- `DT_FAB_CNT[k]` (R510). -/
def R.DT_FAB_CNT : RegD :=
  ⟨0x2a00100, 0x8, 16, 0x0, 0, 67, 0, 0x0#64, 0, [
   ⟨0, 63, .ro, .s⟩, ⟨63, 1, .ro, .s⟩]⟩

/-- `DT_FAB_PLANE[k]` (R507). -/
def R.DT_FAB_PLANE : RegD :=
  ⟨0x2a00200, 0x8, 8, 0x0, 0, 49, 1, 0x0#64, 0, [
   ⟨0, 1, .ro, .kept⟩, ⟨1, 1, .rw, .s⟩, ⟨8, 6, .ro, .kept⟩, ⟨16, 9, .ro, .kept⟩]⟩

/-- `DT_FAB_LANE[n]` (R507). -/
def R.DT_FAB_LANE : RegD :=
  ⟨0x2a10000, 0x40, 320, 0x0, 0, 49, 40, 0x0#64, 0, [
   ⟨0, 2, .ro, .kept⟩, ⟨2, 1, .rw, .s⟩, ⟨3, 1, .ro, .kept⟩, ⟨8, 8, .ro, .kept⟩, ⟨16, 32, .ro, .s⟩,
   ⟨48, 8, .ro, .s⟩]⟩

/-- `DT_FAB_DEST[m]` (R508). -/
def R.DT_FAB_DEST : RegD :=
  ⟨0x2a20000, 0x40, 256, 0x0, 0, 67, 0, 0x0#64, 0, [
   ⟨0, 8, .ro, .kept⟩, ⟨8, 1, .ro, .kept⟩, ⟨9, 1, .ro, .kept⟩, ⟨10, 16, .ro, .s⟩, ⟨26, 17, .ro, .kept⟩,
   ⟨43, 16, .ro, .kept⟩]⟩

/-- `DT_MEM_CFG` (R579). -/
def R.DT_MEM_CFG : RegD :=
  ⟨0x2b00000, 0x0, 1, 0x0, 0, 67, 0, 0x1086400#64, 0, [
   ⟨0, 4, .rwl, .s⟩, ⟨8, 8, .rw, .s⟩, ⟨16, 8, .rw, .s⟩, ⟨24, 1, .rw, .s⟩]⟩

/-- `DT_MEM_STAT` (R582). -/
def R.DT_MEM_STAT : RegD :=
  ⟨0x2b00008, 0x0, 1, 0x0, 0, 67, 0, 0x0#64, 0, [
   ⟨0, 7, .ro, .kept⟩, ⟨8, 8, .ro, .kept⟩, ⟨16, 8, .ro, .kept⟩, ⟨24, 1, .ro, .s⟩, ⟨32, 16, .ro, .s⟩]⟩

/-- `DT_MEM_EVT` (R583). -/
def R.DT_MEM_EVT : RegD :=
  ⟨0x2b00010, 0x0, 1, 0x0, 0, 67, 0, 0x0#64, 0, [
   ⟨0, 1, .w1c, .s⟩, ⟨1, 1, .w1c, .s⟩, ⟨2, 1, .w1c, .s⟩, ⟨3, 1, .w1c, .s⟩, ⟨4, 1, .w1c, .s⟩,
   ⟨5, 1, .w1c, .s⟩, ⟨6, 1, .w1c, .s⟩, ⟨7, 1, .w1c, .s⟩, ⟨8, 1, .w1c, .s⟩]⟩

/-- `DT_MEM_CNT[k]` (R584). -/
def R.DT_MEM_CNT : RegD :=
  ⟨0x2b00100, 0x8, 16, 0x0, 0, 67, 0, 0x0#64, 0, [
   ⟨0, 63, .ro, .s⟩, ⟨63, 1, .ro, .s⟩]⟩

/-- `DT_MEM_PKG[k]` (R581). -/
def R.DT_MEM_PKG : RegD :=
  ⟨0x2b00200, 0x8, 13, 0x0, 0, 67, 0, 0x0#64, 0, [
   ⟨0, 8, .ro, .s⟩, ⟨8, 8, .ro, .s⟩, ⟨16, 8, .ro, .s⟩, ⟨24, 1, .ro, .s⟩, ⟨32, 8, .ro, .kept⟩]⟩

/-- `DT_MEM_CH[n]` (R580). -/
def R.DT_MEM_CH : RegD :=
  ⟨0x2b01000, 0x40, 104, 0x0, 0, 57, 13, 0x0#64, 0, [
   ⟨0, 3, .ro, .kept⟩, ⟨3, 5, .ro, .s⟩, ⟨8, 1, .ro, .s⟩, ⟨16, 7, .ro, .kept⟩, ⟨24, 8, .ro, .s⟩,
   ⟨32, 16, .ro, .s⟩, ⟨48, 13, .ro, .kept⟩]⟩

/-- `DT_LOSS_CNT[k]` (R60). -/
def R.DT_LOSS_CNT : RegD :=
  ⟨0x2c00000, 0x8, 32, 0x0, 0, 67, 0, 0x0#64, 0, [
   ⟨0, 63, .ro, .s⟩, ⟨63, 1, .ro, .s⟩]⟩

/-- `DT_GUAR_EVT` (R64). -/
def R.DT_GUAR_EVT : RegD :=
  ⟨0x2c00100, 0x0, 1, 0x0, 0, 67, 0, 0x0#64, 0, [
   ⟨0, 1, .w1c, .s⟩, ⟨1, 1, .w1c, .s⟩, ⟨2, 1, .w1c, .s⟩, ⟨3, 1, .w1c, .s⟩, ⟨8, 4, .ro, .s⟩,
   ⟨16, 16, .ro, .s⟩, ⟨32, 32, .ro, .s⟩]⟩

/-- `DT_DRAIN_STAT` (R77). -/
def R.DT_DRAIN_STAT : RegD :=
  ⟨0x2c00108, 0x0, 1, 0x0, 0, 67, 0, 0x0#64, 0, [
   ⟨0, 3, .ro, .s⟩, ⟨8, 32, .ro, .s⟩, ⟨40, 23, .ro, .s⟩, ⟨63, 1, .ro, .s⟩]⟩

/-- `DT_EVT_SUM` (R808). -/
def R.DT_EVT_SUM : RegD :=
  ⟨0x2d00000, 0x0, 1, 0x0, 0, 67, 0, 0x0#64, 0, [
   ⟨0, 5, .ro, .kept⟩]⟩

/-- `DT_EVT_MASK` (R808). -/
def R.DT_EVT_MASK : RegD :=
  ⟨0x2d00008, 0x0, 1, 0x0, 0, 67, 0, 0x0#64, 0, [
   ⟨0, 5, .rw, .s⟩]⟩

/-- `TF_QCTX_BASE[q]` (R661). -/
def R.TF_QCTX_BASE : RegD :=
  ⟨0x100010000, 0x40, 168, 0x0, 0, 30, 0, 0x0#64, 0, [
   ⟨0, 64, .rw, .s⟩]⟩

/-- `TF_QCTX_CFG[q]` (R661). -/
def R.TF_QCTX_CFG : RegD :=
  ⟨0x100010008, 0x40, 168, 0x0, 0, 30, 0, 0x6010000004000c0#64, 0, [
   ⟨0, 1, .rw, .s⟩, ⟨1, 1, .rw, .s⟩, ⟨5, 5, .rw, .s⟩, ⟨10, 11, .rw, .s⟩, ⟨22, 8, .rw, .s⟩,
   ⟨32, 16, .rw, .s⟩, ⟨48, 8, .rw, .s⟩, ⟨56, 5, .rw, .s⟩]⟩

/-- `TF_QCTX_CPL[q]` (R661). -/
def R.TF_QCTX_CPL : RegD :=
  ⟨0x100010010, 0x40, 168, 0x0, 0, 30, 0, 0x0#64, 0, [
   ⟨0, 64, .rw, .s⟩]⟩

/-- `TF_QCTX_WB[q]` (R661). -/
def R.TF_QCTX_WB : RegD :=
  ⟨0x100010018, 0x40, 168, 0x0, 0, 30, 0, 0x0#64, 0, [
   ⟨0, 64, .rw, .s⟩]⟩

/-- `TF_QCTX_STAT[q]` (R661). -/
def R.TF_QCTX_STAT : RegD :=
  ⟨0x100010020, 0x40, 168, 0x0, 0, 30, 0, 0x0#64, 0, [
   ⟨0, 32, .ro, .s⟩, ⟨32, 32, .ro, .s⟩]⟩

/-- `TF_QCTX_ERR[q]` (R661). -/
def R.TF_QCTX_ERR : RegD :=
  ⟨0x100010028, 0x40, 168, 0x0, 0, 30, 0, 0x0#64, 0, [
   ⟨0, 4, .ro, .s⟩, ⟨4, 1, .ro, .s⟩, ⟨32, 32, .ro, .s⟩]⟩

end Sys2Proof.Machine
end

