-- ==== Sys2Proof/Machine/Fields.lean ====
section
/-! DEFINITION. The named fields of the registers (R8): register, lowest bit and width, from the register
tables of the owning chapters; and the table of all registers, by block (R838). -/

namespace Sys2Proof.Machine

/-! `KV_ID` (R852) -/
def F.KV_ID_part : Fld := ⟨R.KV_ID, 0, 16⟩
def F.KV_ID_tf_step : Fld := ⟨R.KV_ID, 16, 8⟩
def F.KV_ID_dt_step : Fld := ⟨R.KV_ID, 24, 8⟩
def F.KV_ID_vendor : Fld := ⟨R.KV_ID, 32, 16⟩
def F.KV_ID_map_version : Fld := ⟨R.KV_ID, 48, 8⟩

/-! `KV_SERIAL` (R852) -/
def F.KV_SERIAL_serial : Fld := ⟨R.KV_SERIAL, 0, 64⟩

/-! `KV_MODE` (R33) -/
def F.KV_MODE_mode : Fld := ⟨R.KV_MODE, 0, 4⟩
def F.KV_MODE_prev_mode : Fld := ⟨R.KV_MODE, 8, 4⟩
def F.KV_MODE_degraded : Fld := ⟨R.KV_MODE, 16, 1⟩
def F.KV_MODE_fallback : Fld := ⟨R.KV_MODE, 17, 1⟩
def F.KV_MODE_probation_failed : Fld := ⟨R.KV_MODE, 18, 1⟩
def F.KV_MODE_topology : Fld := ⟨R.KV_MODE, 20, 2⟩
def F.KV_MODE_module_id : Fld := ⟨R.KV_MODE, 24, 8⟩
def F.KV_MODE_probation_left : Fld := ⟨R.KV_MODE, 32, 16⟩
def F.KV_MODE_mode_changes : Fld := ⟨R.KV_MODE, 48, 16⟩

/-! `KV_MODE_REQ` (R34) -/
def F.KV_MODE_REQ_drain_req : Fld := ⟨R.KV_MODE_REQ, 0, 1⟩
def F.KV_MODE_REQ_resume_req : Fld := ⟨R.KV_MODE_REQ, 1, 1⟩
def F.KV_MODE_REQ_maint_req : Fld := ⟨R.KV_MODE_REQ, 2, 1⟩
def F.KV_MODE_REQ_maint_exit : Fld := ⟨R.KV_MODE_REQ, 3, 1⟩
def F.KV_MODE_REQ_req_refused : Fld := ⟨R.KV_MODE_REQ, 8, 1⟩
def F.KV_MODE_REQ_refused_mode : Fld := ⟨R.KV_MODE_REQ, 12, 4⟩

/-! `KV_ACC_ERR_STAT` (R853) -/
def F.KV_ACC_ERR_STAT_count : Fld := ⟨R.KV_ACC_ERR_STAT, 0, 16⟩
def F.KV_ACC_ERR_STAT_next : Fld := ⟨R.KV_ACC_ERR_STAT, 16, 3⟩
def F.KV_ACC_ERR_STAT_wrapped : Fld := ⟨R.KV_ACC_ERR_STAT, 19, 1⟩

/-! `KV_ACC_ERR_LOG[j]` (R853) -/
def F.KV_ACC_ERR_LOG_offset : Fld := ⟨R.KV_ACC_ERR_LOG, 0, 26⟩
def F.KV_ACC_ERR_LOG_write : Fld := ⟨R.KV_ACC_ERR_LOG, 26, 1⟩
def F.KV_ACC_ERR_LOG_cause : Fld := ⟨R.KV_ACC_ERR_LOG, 27, 3⟩
def F.KV_ACC_ERR_LOG_source : Fld := ⟨R.KV_ACC_ERR_LOG, 30, 2⟩
def F.KV_ACC_ERR_LOG_time : Fld := ⟨R.KV_ACC_ERR_LOG, 32, 32⟩

/-! `KV_MC_CTL` (R625) -/
def F.KV_MC_CTL_home : Fld := ⟨R.KV_MC_CTL, 0, 1⟩

/-! `KV_MC_STAT` (R625) -/
def F.KV_MC_STAT_role0 : Fld := ⟨R.KV_MC_STAT, 0, 2⟩
def F.KV_MC_STAT_role1 : Fld := ⟨R.KV_MC_STAT, 2, 2⟩
def F.KV_MC_STAT_ctl_absent : Fld := ⟨R.KV_MC_STAT, 4, 1⟩
def F.KV_MC_STAT_handover : Fld := ⟨R.KV_MC_STAT, 5, 1⟩
def F.KV_MC_STAT_fails0 : Fld := ⟨R.KV_MC_STAT, 16, 2⟩
def F.KV_MC_STAT_fails1 : Fld := ⟨R.KV_MC_STAT, 18, 2⟩
def F.KV_MC_STAT_half_beats : Fld := ⟨R.KV_MC_STAT, 20, 12⟩
def F.KV_MC_STAT_takeovers : Fld := ⟨R.KV_MC_STAT, 32, 32⟩

/-! `KV_MC_HEALTH[m]` (R625) -/
def F.KV_MC_HEALTH_ready : Fld := ⟨R.KV_MC_HEALTH, 0, 1⟩
def F.KV_MC_HEALTH_last_pass : Fld := ⟨R.KV_MC_HEALTH, 1, 1⟩
def F.KV_MC_HEALTH_fail_code : Fld := ⟨R.KV_MC_HEALTH, 8, 8⟩
def F.KV_MC_HEALTH_passes : Fld := ⟨R.KV_MC_HEALTH, 16, 32⟩
def F.KV_MC_HEALTH_age_ms : Fld := ⟨R.KV_MC_HEALTH, 48, 16⟩

/-! `KV_MBOX_CMD` (R625) -/
def F.KV_MBOX_CMD_op : Fld := ⟨R.KV_MBOX_CMD, 0, 8⟩
def F.KV_MBOX_CMD_go : Fld := ⟨R.KV_MBOX_CMD, 8, 1⟩

/-! `KV_MBOX_STAT` (R625) -/
def F.KV_MBOX_STAT_busy : Fld := ⟨R.KV_MBOX_STAT, 0, 1⟩
def F.KV_MBOX_STAT_refused : Fld := ⟨R.KV_MBOX_STAT, 1, 1⟩
def F.KV_MBOX_STAT_ctl_absent : Fld := ⟨R.KV_MBOX_STAT, 2, 1⟩
def F.KV_MBOX_STAT_done : Fld := ⟨R.KV_MBOX_STAT, 3, 1⟩
def F.KV_MBOX_STAT_status : Fld := ⟨R.KV_MBOX_STAT, 4, 4⟩
def F.KV_MBOX_STAT_cur_op : Fld := ⟨R.KV_MBOX_STAT, 8, 8⟩
def F.KV_MBOX_STAT_progress : Fld := ⟨R.KV_MBOX_STAT, 16, 7⟩

/-! `KV_MBOX_ARG[i]` (R625) -/
def F.KV_MBOX_ARG_arg : Fld := ⟨R.KV_MBOX_ARG, 0, 64⟩

/-! `KV_MBOX_RES[i]` (R625) -/
def F.KV_MBOX_RES_res : Fld := ⟨R.KV_MBOX_RES, 0, 64⟩

/-! `KV_RESET_CAUSE` (R716) -/
def F.KV_RESET_CAUSE_por : Fld := ⟨R.KV_RESET_CAUSE, 0, 1⟩
def F.KV_RESET_CAUSE_porst_pin : Fld := ⟨R.KV_RESET_CAUSE, 1, 1⟩
def F.KV_RESET_CAUSE_sysrst_pin : Fld := ⟨R.KV_RESET_CAUSE, 2, 1⟩
def F.KV_RESET_CAUSE_sw_sys : Fld := ⟨R.KV_RESET_CAUSE, 3, 1⟩
def F.KV_RESET_CAUSE_wdog_sys : Fld := ⟨R.KV_RESET_CAUSE, 4, 1⟩
def F.KV_RESET_CAUSE_wdog_core : Fld := ⟨R.KV_RESET_CAUSE, 5, 1⟩
def F.KV_RESET_CAUSE_ripcord : Fld := ⟨R.KV_RESET_CAUSE, 6, 1⟩
def F.KV_RESET_CAUSE_chain_sys : Fld := ⟨R.KV_RESET_CAUSE, 7, 1⟩
def F.KV_RESET_CAUSE_chain_core : Fld := ⟨R.KV_RESET_CAUSE, 8, 1⟩
def F.KV_RESET_CAUSE_sw_core : Fld := ⟨R.KV_RESET_CAUSE, 9, 1⟩
def F.KV_RESET_CAUSE_load_fail : Fld := ⟨R.KV_RESET_CAUSE, 10, 1⟩
def F.KV_RESET_CAUSE_train_limit : Fld := ⟨R.KV_RESET_CAUSE, 11, 1⟩
def F.KV_RESET_CAUSE_probation : Fld := ⟨R.KV_RESET_CAUSE, 12, 1⟩
def F.KV_RESET_CAUSE_activation : Fld := ⟨R.KV_RESET_CAUSE, 13, 1⟩
def F.KV_RESET_CAUSE_reach : Fld := ⟨R.KV_RESET_CAUSE, 16, 2⟩
def F.KV_RESET_CAUSE_drained : Fld := ⟨R.KV_RESET_CAUSE, 18, 1⟩
def F.KV_RESET_CAUSE_retain_lost : Fld := ⟨R.KV_RESET_CAUSE, 19, 1⟩
def F.KV_RESET_CAUSE_sys_episodes : Fld := ⟨R.KV_RESET_CAUSE, 32, 16⟩
def F.KV_RESET_CAUSE_core_episodes : Fld := ⟨R.KV_RESET_CAUSE, 48, 16⟩

/-! `KV_RESET_REQ` (R717) -/
def F.KV_RESET_REQ_sys_req : Fld := ⟨R.KV_RESET_REQ, 0, 1⟩
def F.KV_RESET_REQ_core_req : Fld := ⟨R.KV_RESET_REQ, 1, 1⟩
def F.KV_RESET_REQ_fail_clear : Fld := ⟨R.KV_RESET_REQ, 2, 1⟩
def F.KV_RESET_REQ_key : Fld := ⟨R.KV_RESET_REQ, 8, 8⟩

/-! `KV_WDOG_CTL` (R717) -/
def F.KV_WDOG_CTL_enable : Fld := ⟨R.KV_WDOG_CTL, 0, 1⟩
def F.KV_WDOG_CTL_wd_reach : Fld := ⟨R.KV_WDOG_CTL, 1, 1⟩
def F.KV_WDOG_CTL_pet : Fld := ⟨R.KV_WDOG_CTL, 2, 1⟩
def F.KV_WDOG_CTL_timeout_ms : Fld := ⟨R.KV_WDOG_CTL, 16, 16⟩
def F.KV_WDOG_CTL_left_ms : Fld := ⟨R.KV_WDOG_CTL, 32, 16⟩

/-! `KV_STRAP` (R717) -/
def F.KV_STRAP_boot_src : Fld := ⟨R.KV_STRAP, 0, 2⟩
def F.KV_STRAP_clk_mode : Fld := ⟨R.KV_STRAP, 2, 2⟩
def F.KV_STRAP_reel_head : Fld := ⟨R.KV_STRAP, 4, 1⟩
def F.KV_STRAP_raw : Fld := ⟨R.KV_STRAP, 8, 5⟩
def F.KV_STRAP_conflict : Fld := ⟨R.KV_STRAP, 13, 1⟩

/-! `KV_BOOT_STAT` (R718) -/
def F.KV_BOOT_STAT_src : Fld := ⟨R.KV_BOOT_STAT, 0, 2⟩
def F.KV_BOOT_STAT_bank : Fld := ⟨R.KV_BOOT_STAT, 2, 1⟩
def F.KV_BOOT_STAT_fallback_fw : Fld := ⟨R.KV_BOOT_STAT, 3, 1⟩
def F.KV_BOOT_STAT_resumed : Fld := ⟨R.KV_BOOT_STAT, 4, 1⟩
def F.KV_BOOT_STAT_no_image : Fld := ⟨R.KV_BOOT_STAT, 5, 1⟩
def F.KV_BOOT_STAT_load_err : Fld := ⟨R.KV_BOOT_STAT, 8, 4⟩
def F.KV_BOOT_STAT_tries : Fld := ⟨R.KV_BOOT_STAT, 12, 3⟩
def F.KV_BOOT_STAT_fail_count : Fld := ⟨R.KV_BOOT_STAT, 16, 2⟩
def F.KV_BOOT_STAT_init_refused : Fld := ⟨R.KV_BOOT_STAT, 18, 14⟩
def F.KV_BOOT_STAT_generation : Fld := ⟨R.KV_BOOT_STAT, 32, 32⟩

/-! `KV_HOSTLOAD_ADDR` (R718) -/
def F.KV_HOSTLOAD_ADDR_addr : Fld := ⟨R.KV_HOSTLOAD_ADDR, 0, 64⟩

/-! `KV_HOSTLOAD_CTL` (R718) -/
def F.KV_HOSTLOAD_CTL_length : Fld := ⟨R.KV_HOSTLOAD_CTL, 0, 32⟩
def F.KV_HOSTLOAD_CTL_go : Fld := ⟨R.KV_HOSTLOAD_CTL, 32, 1⟩

/-! `KV_RST_EVT` (R719) -/
def F.KV_RST_EVT_core_done : Fld := ⟨R.KV_RST_EVT, 0, 1⟩
def F.KV_RST_EVT_quiesce_timeout : Fld := ⟨R.KV_RST_EVT, 1, 1⟩
def F.KV_RST_EVT_lock_fail : Fld := ⟨R.KV_RST_EVT, 2, 1⟩
def F.KV_RST_EVT_unstable : Fld := ⟨R.KV_RST_EVT, 3, 1⟩
def F.KV_RST_EVT_block_done : Fld := ⟨R.KV_RST_EVT, 4, 1⟩
def F.KV_RST_EVT_fallback_boot : Fld := ⟨R.KV_RST_EVT, 5, 1⟩
def F.KV_RST_EVT_strap_conflict : Fld := ⟨R.KV_RST_EVT, 6, 1⟩

/-! `KV_BACKUP[i]` (R718) -/
def F.KV_BACKUP_value : Fld := ⟨R.KV_BACKUP, 0, 64⟩

/-! `KV_BLK_CTL[i]` (R719) -/
def F.KV_BLK_CTL_enable : Fld := ⟨R.KV_BLK_CTL, 0, 1⟩
def F.KV_BLK_CTL_reset_req : Fld := ⟨R.KV_BLK_CTL, 1, 1⟩
def F.KV_BLK_CTL_quiesce : Fld := ⟨R.KV_BLK_CTL, 2, 1⟩
def F.KV_BLK_CTL_force_rel : Fld := ⟨R.KV_BLK_CTL, 3, 1⟩
def F.KV_BLK_CTL_quiesce_us : Fld := ⟨R.KV_BLK_CTL, 8, 8⟩

/-! `KV_BLK_STAT[i]` (R719) -/
def F.KV_BLK_STAT_state : Fld := ⟨R.KV_BLK_STAT, 0, 3⟩
def F.KV_BLK_STAT_isolated : Fld := ⟨R.KV_BLK_STAT, 3, 1⟩
def F.KV_BLK_STAT_clk_lock : Fld := ⟨R.KV_BLK_STAT, 4, 1⟩
def F.KV_BLK_STAT_result : Fld := ⟨R.KV_BLK_STAT, 5, 3⟩
def F.KV_BLK_STAT_errored : Fld := ⟨R.KV_BLK_STAT, 16, 16⟩
def F.KV_BLK_STAT_resets : Fld := ⟨R.KV_BLK_STAT, 32, 16⟩

/-! `KV_PWR_CTL` (R752) -/
def F.KV_PWR_CTL_updraft_en : Fld := ⟨R.KV_PWR_CTL, 0, 1⟩
def F.KV_PWR_CTL_updraft_mask : Fld := ⟨R.KV_PWR_CTL, 16, 16⟩

/-! `KV_PWR_STAT` (R752) -/
def F.KV_PWR_STAT_power_w : Fld := ⟨R.KV_PWR_STAT, 0, 11⟩
def F.KV_PWR_STAT_peak_w : Fld := ⟨R.KV_PWR_STAT, 16, 11⟩
def F.KV_PWR_STAT_credit : Fld := ⟨R.KV_PWR_STAT, 32, 10⟩
def F.KV_PWR_STAT_updraft_active : Fld := ⟨R.KV_PWR_STAT, 48, 16⟩

/-! `KV_THERM_STAT` (R752) -/
def F.KV_THERM_STAT_tj_tf : Fld := ⟨R.KV_THERM_STAT, 0, 8⟩
def F.KV_THERM_STAT_tj_dt : Fld := ⟨R.KV_THERM_STAT, 8, 8⟩
def F.KV_THERM_STAT_state : Fld := ⟨R.KV_THERM_STAT, 16, 3⟩
def F.KV_THERM_STAT_hot_sensor : Fld := ⟨R.KV_THERM_STAT, 24, 7⟩
def F.KV_THERM_STAT_tj_max : Fld := ⟨R.KV_THERM_STAT, 32, 8⟩

/-! `KV_PWR_EVT` (R753) -/
def F.KV_PWR_EVT_xing_timeout : Fld := ⟨R.KV_PWR_EVT, 0, 1⟩
def F.KV_PWR_EVT_xing_peer_reset : Fld := ⟨R.KV_PWR_EVT, 1, 1⟩
def F.KV_PWR_EVT_avfs_floor : Fld := ⟨R.KV_PWR_EVT, 2, 1⟩
def F.KV_PWR_EVT_droop : Fld := ⟨R.KV_PWR_EVT, 3, 1⟩
def F.KV_PWR_EVT_credit_empty : Fld := ⟨R.KV_PWR_EVT, 4, 1⟩
def F.KV_PWR_EVT_over_tdp : Fld := ⟨R.KV_PWR_EVT, 5, 1⟩
def F.KV_PWR_EVT_therm_warm : Fld := ⟨R.KV_PWR_EVT, 6, 1⟩
def F.KV_PWR_EVT_therm_hot : Fld := ⟨R.KV_PWR_EVT, 7, 1⟩
def F.KV_PWR_EVT_therm_crit : Fld := ⟨R.KV_PWR_EVT, 8, 1⟩
def F.KV_PWR_EVT_therm_alarm : Fld := ⟨R.KV_PWR_EVT, 9, 1⟩
def F.KV_PWR_EVT_aged_out : Fld := ⟨R.KV_PWR_EVT, 10, 1⟩
def F.KV_PWR_EVT_sensor_bad : Fld := ⟨R.KV_PWR_EVT, 11, 1⟩

/-! `KV_AGE_ON` (R752) -/
def F.KV_AGE_ON_on_s : Fld := ⟨R.KV_AGE_ON, 0, 32⟩

/-! `KV_AGE_UPD[c]` (R752) -/
def F.KV_AGE_UPD_upd_s : Fld := ⟨R.KV_AGE_UPD, 0, 32⟩
def F.KV_AGE_UPD_aged_out : Fld := ⟨R.KV_AGE_UPD, 32, 1⟩

/-! `KV_ISL_CTL[i]` (R751) -/
def F.KV_ISL_CTL_xing_timeout_us : Fld := ⟨R.KV_ISL_CTL, 0, 7⟩
def F.KV_ISL_CTL_merge_cnt_en : Fld := ⟨R.KV_ISL_CTL, 7, 1⟩
def F.KV_ISL_CTL_avfs_en : Fld := ⟨R.KV_ISL_CTL, 8, 1⟩

/-! `KV_ISL_STAT[i]` (R751) -/
def F.KV_ISL_STAT_f_mhz : Fld := ⟨R.KV_ISL_STAT, 0, 12⟩
def F.KV_ISL_STAT_v_mv : Fld := ⟨R.KV_ISL_STAT, 12, 10⟩
def F.KV_ISL_STAT_margin_ps : Fld := ⟨R.KV_ISL_STAT, 22, 8⟩
def F.KV_ISL_STAT_temp_c : Fld := ⟨R.KV_ISL_STAT, 32, 8⟩
def F.KV_ISL_STAT_floor_demand : Fld := ⟨R.KV_ISL_STAT, 40, 1⟩
def F.KV_ISL_STAT_updraft : Fld := ⟨R.KV_ISL_STAT, 41, 1⟩
def F.KV_ISL_STAT_sensor_bad : Fld := ⟨R.KV_ISL_STAT, 42, 1⟩

/-! `KV_ISL_XING[i]` (R751) -/
def F.KV_ISL_XING_timeouts : Fld := ⟨R.KV_ISL_XING, 0, 16⟩
def F.KV_ISL_XING_peer_resets : Fld := ⟨R.KV_ISL_XING, 16, 16⟩
def F.KV_ISL_XING_lost_events : Fld := ⟨R.KV_ISL_XING, 32, 16⟩
def F.KV_ISL_XING_max_merge : Fld := ⟨R.KV_ISL_XING, 48, 8⟩

/-! `KV_FW_CTL` (R775) -/
def F.KV_FW_CTL_activate : Fld := ⟨R.KV_FW_CTL, 0, 1⟩
def F.KV_FW_CTL_confirm : Fld := ⟨R.KV_FW_CTL, 1, 1⟩
def F.KV_FW_CTL_key : Fld := ⟨R.KV_FW_CTL, 8, 8⟩

/-! `KV_FW_STAT` (R775) -/
def F.KV_FW_STAT_fw_version : Fld := ⟨R.KV_FW_STAT, 0, 32⟩
def F.KV_FW_STAT_inactive_state : Fld := ⟨R.KV_FW_STAT, 32, 8⟩
def F.KV_FW_STAT_act_err : Fld := ⟨R.KV_FW_STAT, 40, 8⟩
def F.KV_FW_STAT_migrated_from : Fld := ⟨R.KV_FW_STAT, 48, 8⟩
def F.KV_FW_STAT_migrated_to : Fld := ⟨R.KV_FW_STAT, 56, 8⟩

/-! `KV_FW_XFER` (R775) -/
def F.KV_FW_XFER_xfer_id : Fld := ⟨R.KV_FW_XFER, 0, 16⟩
def F.KV_FW_XFER_busy : Fld := ⟨R.KV_FW_XFER, 16, 1⟩
def F.KV_FW_XFER_status : Fld := ⟨R.KV_FW_XFER, 24, 8⟩
def F.KV_FW_XFER_acks : Fld := ⟨R.KV_FW_XFER, 32, 7⟩
def F.KV_FW_XFER_naks : Fld := ⟨R.KV_FW_XFER, 39, 7⟩
def F.KV_FW_XFER_first_nak_pos : Fld := ⟨R.KV_FW_XFER, 46, 6⟩
def F.KV_FW_XFER_first_nak : Fld := ⟨R.KV_FW_XFER, 52, 4⟩
def F.KV_FW_XFER_position : Fld := ⟨R.KV_FW_XFER, 56, 6⟩

/-! `KV_FW_SEND_ADDR` (R775) -/
def F.KV_FW_SEND_ADDR_addr : Fld := ⟨R.KV_FW_SEND_ADDR, 0, 64⟩

/-! `KV_FW_SEND_CTL` (R775) -/
def F.KV_FW_SEND_CTL_length : Fld := ⟨R.KV_FW_SEND_CTL, 0, 32⟩
def F.KV_FW_SEND_CTL_go : Fld := ⟨R.KV_FW_SEND_CTL, 32, 1⟩

/-! `KV_FW_EVT` (R775) -/
def F.KV_FW_EVT_staged : Fld := ⟨R.KV_FW_EVT, 0, 1⟩
def F.KV_FW_EVT_xfer_fail : Fld := ⟨R.KV_FW_EVT, 1, 1⟩
def F.KV_FW_EVT_chain_done : Fld := ⟨R.KV_FW_EVT, 2, 1⟩
def F.KV_FW_EVT_activated : Fld := ⟨R.KV_FW_EVT, 3, 1⟩
def F.KV_FW_EVT_confirmed : Fld := ⟨R.KV_FW_EVT, 4, 1⟩
def F.KV_FW_EVT_fell_back : Fld := ⟨R.KV_FW_EVT, 5, 1⟩
def F.KV_FW_EVT_migrated : Fld := ⟨R.KV_FW_EVT, 6, 1⟩

/-! `KV_TLM_CTL` (R806) -/
def F.KV_TLM_CTL_win_ms : Fld := ⟨R.KV_TLM_CTL, 0, 14⟩
def F.KV_TLM_CTL_win_en : Fld := ⟨R.KV_TLM_CTL, 14, 1⟩
def F.KV_TLM_CTL_bw_en : Fld := ⟨R.KV_TLM_CTL, 15, 1⟩
def F.KV_TLM_CTL_bw_ring : Fld := ⟨R.KV_TLM_CTL, 16, 4⟩
def F.KV_TLM_CTL_trace_ring : Fld := ⟨R.KV_TLM_CTL, 20, 4⟩
def F.KV_TLM_CTL_trace_max_kps : Fld := ⟨R.KV_TLM_CTL, 24, 16⟩

/-! `KV_TLM_STAT` (R806) -/
def F.KV_TLM_STAT_window : Fld := ⟨R.KV_TLM_STAT, 0, 32⟩
def F.KV_TLM_STAT_settling : Fld := ⟨R.KV_TLM_STAT, 32, 1⟩
def F.KV_TLM_STAT_dumping : Fld := ⟨R.KV_TLM_STAT, 33, 1⟩

/-! `KV_TLM_EVT` (R806) -/
def F.KV_TLM_EVT_dump_overrun : Fld := ⟨R.KV_TLM_EVT, 0, 1⟩
def F.KV_TLM_EVT_late_attr : Fld := ⟨R.KV_TLM_EVT, 1, 1⟩
def F.KV_TLM_EVT_time_step : Fld := ⟨R.KV_TLM_EVT, 2, 1⟩
def F.KV_TLM_EVT_trace_drop : Fld := ⟨R.KV_TLM_EVT, 3, 1⟩
def F.KV_TLM_EVT_sel_bad : Fld := ⟨R.KV_TLM_EVT, 4, 1⟩

/-! `KV_USER_COUNTER_GRANT` (R806) -/
def F.KV_USER_COUNTER_GRANT_grant : Fld := ⟨R.KV_USER_COUNTER_GRANT, 0, 16⟩

/-! `KV_EVT` (R805) -/
def F.KV_EVT_mode_change : Fld := ⟨R.KV_EVT, 0, 1⟩
def F.KV_EVT_degraded_change : Fld := ⟨R.KV_EVT, 1, 1⟩

/-! `KV_EVT_SRC` (R808) -/
def F.KV_EVT_SRC_pending : Fld := ⟨R.KV_EVT_SRC, 0, 32⟩

/-! `KV_EVT_SRC_MASK` (R808) -/
def F.KV_EVT_SRC_MASK_mask : Fld := ⟨R.KV_EVT_SRC_MASK, 0, 32⟩

/-! `KV_EVT_ARM` (R808) -/
def F.KV_EVT_ARM_arm : Fld := ⟨R.KV_EVT_ARM, 0, 32⟩

/-! `KV_ALERT_CTL` (R808) -/
def F.KV_ALERT_CTL_alert_en : Fld := ⟨R.KV_ALERT_CTL, 0, 32⟩
def F.KV_ALERT_CTL_alert : Fld := ⟨R.KV_ALERT_CTL, 32, 1⟩

/-! `KV_TLM_CNT[k]` (R807) -/
def F.KV_TLM_CNT_count : Fld := ⟨R.KV_TLM_CNT, 0, 63⟩
def F.KV_TLM_CNT_sat : Fld := ⟨R.KV_TLM_CNT, 63, 1⟩

/-! `KV_USER_PAGE_SEL[p]` (R806) -/
def F.KV_USER_PAGE_SEL_sel : Fld := ⟨R.KV_USER_PAGE_SEL, 0, 6⟩
def F.KV_USER_PAGE_SEL_valid : Fld := ⟨R.KV_USER_PAGE_SEL, 6, 1⟩

/-! `KV_TLM_SEL[s]` (R806) -/
def F.KV_TLM_SEL_en : Fld := ⟨R.KV_TLM_SEL, 0, 1⟩
def F.KV_TLM_SEL_group : Fld := ⟨R.KV_TLM_SEL, 1, 5⟩
def F.KV_TLM_SEL_first : Fld := ⟨R.KV_TLM_SEL, 6, 21⟩
def F.KV_TLM_SEL_count : Fld := ⟨R.KV_TLM_SEL, 27, 17⟩
def F.KV_TLM_SEL_ring : Fld := ⟨R.KV_TLM_SEL, 44, 4⟩

/-! `KV_BW[l]` (R806) -/
def F.KV_BW_in_mbps : Fld := ⟨R.KV_BW, 0, 32⟩
def F.KV_BW_out_mbps : Fld := ⟨R.KV_BW, 32, 32⟩

/-! `TF_PORT_CFG[p]` (R87) -/
def F.TF_PORT_CFG_breakout : Fld := ⟨R.TF_PORT_CFG, 0, 3⟩
def F.TF_PORT_CFG_framed : Fld := ⟨R.TF_PORT_CFG, 3, 1⟩
def F.TF_PORT_CFG_reconfig_busy : Fld := ⟨R.TF_PORT_CFG, 4, 1⟩
def F.TF_PORT_CFG_map_err : Fld := ⟨R.TF_PORT_CFG, 5, 1⟩
def F.TF_PORT_CFG_present : Fld := ⟨R.TF_PORT_CFG, 8, 8⟩
def F.TF_PORT_CFG_up : Fld := ⟨R.TF_PORT_CFG, 16, 8⟩

/-! `TF_PORT_LANEMAP[p]` (R88) -/
def F.TF_PORT_LANEMAP_rx_map : Fld := ⟨R.TF_PORT_LANEMAP, 0, 24⟩
def F.TF_PORT_LANEMAP_rx_inv : Fld := ⟨R.TF_PORT_LANEMAP, 24, 8⟩
def F.TF_PORT_LANEMAP_tx_map : Fld := ⟨R.TF_PORT_LANEMAP, 32, 24⟩
def F.TF_PORT_LANEMAP_tx_inv : Fld := ⟨R.TF_PORT_LANEMAP, 56, 8⟩

/-! `TF_LPORT_CTL[l]` (R101) -/
def F.TF_LPORT_CTL_admin_up : Fld := ⟨R.TF_LPORT_CTL, 0, 1⟩
def F.TF_LPORT_CTL_an_en : Fld := ⟨R.TF_LPORT_CTL, 1, 1⟩
def F.TF_LPORT_CTL_lt_en : Fld := ⟨R.TF_LPORT_CTL, 2, 1⟩
def F.TF_LPORT_CTL_near_loop : Fld := ⟨R.TF_LPORT_CTL, 3, 1⟩
def F.TF_LPORT_CTL_fc_mode : Fld := ⟨R.TF_LPORT_CTL, 4, 2⟩
def F.TF_LPORT_CTL_sd_action : Fld := ⟨R.TF_LPORT_CTL, 6, 2⟩
def F.TF_LPORT_CTL_pfc_rx_en : Fld := ⟨R.TF_LPORT_CTL, 8, 8⟩
def F.TF_LPORT_CTL_pfc_tx_en : Fld := ⟨R.TF_LPORT_CTL, 16, 8⟩
def F.TF_LPORT_CTL_max_frame : Fld := ⟨R.TF_LPORT_CTL, 24, 14⟩
def F.TF_LPORT_CTL_down_filter_us : Fld := ⟨R.TF_LPORT_CTL, 40, 8⟩
def F.TF_LPORT_CTL_up_filter_ms : Fld := ⟨R.TF_LPORT_CTL, 48, 8⟩

/-! `TF_LPORT_STAT[l]` (R102) -/
def F.TF_LPORT_STAT_link_state : Fld := ⟨R.TF_LPORT_STAT, 0, 3⟩
def F.TF_LPORT_STAT_local_fault : Fld := ⟨R.TF_LPORT_STAT, 3, 1⟩
def F.TF_LPORT_STAT_remote_fault : Fld := ⟨R.TF_LPORT_STAT, 4, 1⟩
def F.TF_LPORT_STAT_speed : Fld := ⟨R.TF_LPORT_STAT, 5, 3⟩
def F.TF_LPORT_STAT_rx_paused : Fld := ⟨R.TF_LPORT_STAT, 8, 8⟩
def F.TF_LPORT_STAT_tx_xoff : Fld := ⟨R.TF_LPORT_STAT, 16, 8⟩
def F.TF_LPORT_STAT_an_restarts : Fld := ⟨R.TF_LPORT_STAT, 24, 8⟩
def F.TF_LPORT_STAT_flaps : Fld := ⟨R.TF_LPORT_STAT, 32, 32⟩

/-! `TF_LINK_PARTNER[l]` (R99) -/
def F.TF_LINK_PARTNER_base_page : Fld := ⟨R.TF_LINK_PARTNER, 0, 48⟩
def F.TF_LINK_PARTNER_next_pages : Fld := ⟨R.TF_LINK_PARTNER, 48, 8⟩
def F.TF_LINK_PARTNER_resolved : Fld := ⟨R.TF_LINK_PARTNER, 56, 3⟩
def F.TF_LINK_PARTNER_partner_rf : Fld := ⟨R.TF_LINK_PARTNER, 59, 1⟩
def F.TF_LINK_PARTNER_valid : Fld := ⟨R.TF_LINK_PARTNER, 63, 1⟩

/-! `TF_LPORT_EVT[l]` (R128) -/
def F.TF_LPORT_EVT_link_up : Fld := ⟨R.TF_LPORT_EVT, 0, 1⟩
def F.TF_LPORT_EVT_link_down : Fld := ⟨R.TF_LPORT_EVT, 1, 1⟩
def F.TF_LPORT_EVT_an_fail : Fld := ⟨R.TF_LPORT_EVT, 2, 1⟩
def F.TF_LPORT_EVT_txts_overflow : Fld := ⟨R.TF_LPORT_EVT, 3, 1⟩

/-! `TF_PTP_TXTS[l]` (R120) -/
def F.TF_PTP_TXTS_time_lo : Fld := ⟨R.TF_PTP_TXTS, 0, 48⟩
def F.TF_PTP_TXTS_tag : Fld := ⟨R.TF_PTP_TXTS, 48, 14⟩
def F.TF_PTP_TXTS_pop : Fld := ⟨R.TF_PTP_TXTS, 62, 1⟩
def F.TF_PTP_TXTS_valid : Fld := ⟨R.TF_PTP_TXTS, 63, 1⟩

/-! `TF_LANE_STAT[n]` (R107) -/
def F.TF_LANE_STAT_signal : Fld := ⟨R.TF_LANE_STAT, 0, 1⟩
def F.TF_LANE_STAT_cdr_lock : Fld := ⟨R.TF_LANE_STAT, 1, 1⟩
def F.TF_LANE_STAT_adapting : Fld := ⟨R.TF_LANE_STAT, 2, 1⟩
def F.TF_LANE_STAT_loss_db : Fld := ⟨R.TF_LANE_STAT, 8, 8⟩
def F.TF_LANE_STAT_length_class : Fld := ⟨R.TF_LANE_STAT, 16, 3⟩
def F.TF_LANE_STAT_ber_log : Fld := ⟨R.TF_LANE_STAT, 24, 8⟩

/-! `TF_LANE_EVT[n]` (R128) -/
def F.TF_LANE_EVT_sig_loss : Fld := ⟨R.TF_LANE_EVT, 0, 1⟩
def F.TF_LANE_EVT_cdr_loss : Fld := ⟨R.TF_LANE_EVT, 1, 1⟩
def F.TF_LANE_EVT_sd : Fld := ⟨R.TF_LANE_EVT, 2, 1⟩
def F.TF_LANE_EVT_adapt_limit : Fld := ⟨R.TF_LANE_EVT, 3, 1⟩
def F.TF_LANE_EVT_train_fail : Fld := ⟨R.TF_LANE_EVT, 4, 1⟩
def F.TF_LANE_EVT_loss_high : Fld := ⟨R.TF_LANE_EVT, 5, 1⟩

/-! `TF_TIME_NOW` (R120) -/
def F.TF_TIME_NOW_now : Fld := ⟨R.TF_TIME_NOW, 0, 64⟩

/-! `TF_TIME_ADJ` (R120) -/
def F.TF_TIME_ADJ_freq_adj : Fld := ⟨R.TF_TIME_ADJ, 0, 32⟩

/-! `TF_TIME_STEP` (R120) -/
def F.TF_TIME_STEP_step_ns : Fld := ⟨R.TF_TIME_STEP, 0, 40⟩
def F.TF_TIME_STEP_step_go : Fld := ⟨R.TF_TIME_STEP, 63, 1⟩

/-! `TF_PPS_CAP` (R120) -/
def F.TF_PPS_CAP_pps_time : Fld := ⟨R.TF_PPS_CAP, 0, 64⟩

/-! `TF_TOD_RX` (R833) -/
def F.TF_TOD_RX_seconds : Fld := ⟨R.TF_TOD_RX, 0, 48⟩
def F.TF_TOD_RX_flags : Fld := ⟨R.TF_TOD_RX, 48, 8⟩
def F.TF_TOD_RX_valid : Fld := ⟨R.TF_TOD_RX, 63, 1⟩

/-! `TF_TOD_TX` (R833) -/
def F.TF_TOD_TX_tx_en : Fld := ⟨R.TF_TOD_TX, 0, 1⟩
def F.TF_TOD_TX_tx_flags : Fld := ⟨R.TF_TOD_TX, 1, 8⟩

/-! `TF_FRM_CTL[l]` (R165) -/
def F.TF_FRM_CTL_map_mode : Fld := ⟨R.TF_FRM_CTL, 0, 1⟩
def F.TF_FRM_CTL_bdi_en : Fld := ⟨R.TF_FRM_CTL, 1, 1⟩
def F.TF_FRM_CTL_bei_en : Fld := ⟨R.TF_FRM_CTL, 2, 1⟩
def F.TF_FRM_CTL_client_fault_en : Fld := ⟨R.TF_FRM_CTL, 3, 1⟩
def F.TF_FRM_CTL_aps_level : Fld := ⟨R.TF_FRM_CTL, 4, 3⟩

/-! `TF_FRM_STAT[l]` (R165) -/
def F.TF_FRM_STAT_aligner : Fld := ⟨R.TF_FRM_STAT, 0, 2⟩
def F.TF_FRM_STAT_candidates : Fld := ⟨R.TF_FRM_STAT, 2, 3⟩
def F.TF_FRM_STAT_dlof : Fld := ⟨R.TF_FRM_STAT, 5, 1⟩
def F.TF_FRM_STAT_dlom : Fld := ⟨R.TF_FRM_STAT, 6, 1⟩
def F.TF_FRM_STAT_dais : Fld := ⟨R.TF_FRM_STAT, 7, 1⟩
def F.TF_FRM_STAT_dlol : Fld := ⟨R.TF_FRM_STAT, 8, 1⟩
def F.TF_FRM_STAT_skew_exceeded : Fld := ⟨R.TF_FRM_STAT, 9, 1⟩
def F.TF_FRM_STAT_demap_lock : Fld := ⟨R.TF_FRM_STAT, 10, 1⟩
def F.TF_FRM_STAT_bdi_rx : Fld := ⟨R.TF_FRM_STAT, 11, 1⟩
def F.TF_FRM_STAT_bdi_tx : Fld := ⟨R.TF_FRM_STAT, 12, 1⟩
def F.TF_FRM_STAT_aps_count : Fld := ⟨R.TF_FRM_STAT, 13, 3⟩
def F.TF_FRM_STAT_skew_ns : Fld := ⟨R.TF_FRM_STAT, 16, 12⟩
def F.TF_FRM_STAT_mfas : Fld := ⟨R.TF_FRM_STAT, 32, 8⟩
def F.TF_FRM_STAT_instance_lock : Fld := ⟨R.TF_FRM_STAT, 40, 16⟩

/-! `TF_FRM_APS[l]` (R165) -/
def F.TF_FRM_APS_tx_aps : Fld := ⟨R.TF_FRM_APS, 0, 32⟩
def F.TF_FRM_APS_rx_aps : Fld := ⟨R.TF_FRM_APS, 32, 32⟩

/-! `TF_FRM_EVT[l]` (R165) -/
def F.TF_FRM_EVT_oof : Fld := ⟨R.TF_FRM_EVT, 0, 1⟩
def F.TF_FRM_EVT_lof : Fld := ⟨R.TF_FRM_EVT, 1, 1⟩
def F.TF_FRM_EVT_lom : Fld := ⟨R.TF_FRM_EVT, 2, 1⟩
def F.TF_FRM_EVT_ais : Fld := ⟨R.TF_FRM_EVT, 3, 1⟩
def F.TF_FRM_EVT_lol : Fld := ⟨R.TF_FRM_EVT, 4, 1⟩
def F.TF_FRM_EVT_skew : Fld := ⟨R.TF_FRM_EVT, 5, 1⟩
def F.TF_FRM_EVT_aps_change : Fld := ⟨R.TF_FRM_EVT, 6, 1⟩
def F.TF_FRM_EVT_bdi_rx : Fld := ⟨R.TF_FRM_EVT, 7, 1⟩

/-! `TF_FRM_CNT[l][k]` (R166) -/
def F.TF_FRM_CNT_count : Fld := ⟨R.TF_FRM_CNT, 0, 63⟩
def F.TF_FRM_CNT_sat : Fld := ⟨R.TF_FRM_CNT, 63, 1⟩

/-! `TF_MAC_CNT[l][k]` (R777) -/
def F.TF_MAC_CNT_count : Fld := ⟨R.TF_MAC_CNT, 0, 63⟩
def F.TF_MAC_CNT_sat : Fld := ⟨R.TF_MAC_CNT, 63, 1⟩

/-! `TF_PARSE_PORT[l]` (R210) -/
def F.TF_PARSE_PORT_start_state : Fld := ⟨R.TF_PARSE_PORT, 0, 9⟩
def F.TF_PARSE_PORT_exc_action : Fld := ⟨R.TF_PARSE_PORT, 9, 1⟩
def F.TF_PARSE_PORT_punt_q : Fld := ⟨R.TF_PARSE_PORT, 10, 6⟩
def F.TF_PARSE_PORT_default_vrf : Fld := ⟨R.TF_PARSE_PORT, 16, 16⟩
def F.TF_PARSE_PORT_default_class : Fld := ⟨R.TF_PARSE_PORT, 32, 3⟩

/-! `TF_HASH_PROF[h]` (R211) -/
def F.TF_HASH_PROF_seed1 : Fld := ⟨R.TF_HASH_PROF, 0, 32⟩
def F.TF_HASH_PROF_seed2 : Fld := ⟨R.TF_HASH_PROF, 32, 32⟩

/-! `TF_PARSE_CNT[k]` (R212) -/
def F.TF_PARSE_CNT_count : Fld := ⟨R.TF_PARSE_CNT, 0, 63⟩
def F.TF_PARSE_CNT_sat : Fld := ⟨R.TF_PARSE_CNT, 63, 1⟩

/-! `TF_SPREAD_STAT` (R213) -/
def F.TF_SPREAD_STAT_slots_free : Fld := ⟨R.TF_SPREAD_STAT, 0, 22⟩
def F.TF_SPREAD_STAT_groups_used : Fld := ⟨R.TF_SPREAD_STAT, 22, 17⟩
def F.TF_SPREAD_STAT_rewrites_pending : Fld := ⟨R.TF_SPREAD_STAT, 39, 9⟩

/-! `TF_ROUTE_CTL` (R257) -/
def F.TF_ROUTE_CTL_slow_q : Fld := ⟨R.TF_ROUTE_CTL, 0, 6⟩
def F.TF_ROUTE_CTL_balance_en : Fld := ⟨R.TF_ROUTE_CTL, 8, 1⟩
def F.TF_ROUTE_CTL_balance_high : Fld := ⟨R.TF_ROUTE_CTL, 16, 7⟩
def F.TF_ROUTE_CTL_balance_low : Fld := ⟨R.TF_ROUTE_CTL, 24, 7⟩
def F.TF_ROUTE_CTL_nh_quarantine_ms : Fld := ⟨R.TF_ROUTE_CTL, 32, 16⟩

/-! `TF_ROUTE_STAT` (R258) -/
def F.TF_ROUTE_STAT_prefixes : Fld := ⟨R.TF_ROUTE_STAT, 0, 25⟩
def F.TF_ROUTE_STAT_vrfs : Fld := ⟨R.TF_ROUTE_STAT, 25, 17⟩

/-! `TF_ROUTE_SPACE` (R258) -/
def F.TF_ROUTE_SPACE_charged : Fld := ⟨R.TF_ROUTE_SPACE, 0, 28⟩
def F.TF_ROUTE_SPACE_copies : Fld := ⟨R.TF_ROUTE_SPACE, 28, 28⟩

/-! `TF_NH_STAT` (R258) -/
def F.TF_NH_STAT_used : Fld := ⟨R.TF_NH_STAT, 0, 23⟩
def F.TF_NH_STAT_quarantined : Fld := ⟨R.TF_NH_STAT, 23, 23⟩

/-! `TF_EPOCH` (R258) -/
def F.TF_EPOCH_epoch : Fld := ⟨R.TF_EPOCH, 0, 32⟩
def F.TF_EPOCH_old_live : Fld := ⟨R.TF_EPOCH, 32, 1⟩

/-! `TF_ROUTE_EVT` (R260) -/
def F.TF_ROUTE_EVT_bank_over : Fld := ⟨R.TF_ROUTE_EVT, 0, 1⟩
def F.TF_ROUTE_EVT_poisoned : Fld := ⟨R.TF_ROUTE_EVT, 1, 1⟩
def F.TF_ROUTE_EVT_bank_retired : Fld := ⟨R.TF_ROUTE_EVT, 2, 1⟩
def F.TF_ROUTE_EVT_rw_invalid : Fld := ⟨R.TF_ROUTE_EVT, 3, 1⟩
def F.TF_ROUTE_EVT_space_low : Fld := ⟨R.TF_ROUTE_EVT, 4, 1⟩

/-! `TF_ROUTE_CLASS[c]` (R258) -/
def F.TF_ROUTE_CLASS_count : Fld := ⟨R.TF_ROUTE_CLASS, 0, 25⟩

/-! `TF_ROUTE_CNT[k]` (R261) -/
def F.TF_ROUTE_CNT_count : Fld := ⟨R.TF_ROUTE_CNT, 0, 63⟩
def F.TF_ROUTE_CNT_sat : Fld := ⟨R.TF_ROUTE_CNT, 63, 1⟩

/-! `TF_BANK_STAT[b]` (R259) -/
def F.TF_BANK_STAT_load_pct : Fld := ⟨R.TF_BANK_STAT, 0, 8⟩
def F.TF_BANK_STAT_hot : Fld := ⟨R.TF_BANK_STAT, 8, 1⟩
def F.TF_BANK_STAT_retired : Fld := ⟨R.TF_BANK_STAT, 9, 1⟩
def F.TF_BANK_STAT_uncorr_24h : Fld := ⟨R.TF_BANK_STAT, 10, 2⟩
def F.TF_BANK_STAT_moves_out : Fld := ⟨R.TF_BANK_STAT, 16, 16⟩

/-! `TF_EM_CTL` (R309) -/
def F.TF_EM_CTL_age_tick_ms : Fld := ⟨R.TF_EM_CTL, 0, 16⟩
def F.TF_EM_CTL_sweep_en : Fld := ⟨R.TF_EM_CTL, 16, 1⟩
def F.TF_EM_CTL_compare_en : Fld := ⟨R.TF_EM_CTL, 17, 1⟩

/-! `TF_EM_SEED` (R309) -/
def F.TF_EM_SEED_seed_a : Fld := ⟨R.TF_EM_SEED, 0, 32⟩
def F.TF_EM_SEED_seed_b : Fld := ⟨R.TF_EM_SEED, 32, 32⟩

/-! `TF_EM_STAT` (R311) -/
def F.TF_EM_STAT_units : Fld := ⟨R.TF_EM_STAT, 0, 24⟩
def F.TF_EM_STAT_ovf_used : Fld := ⟨R.TF_EM_STAT, 24, 19⟩
def F.TF_EM_STAT_spilled : Fld := ⟨R.TF_EM_STAT, 43, 21⟩

/-! `TF_EM_LSTAT` (R311) -/
def F.TF_EM_LSTAT_learn_q_depth : Fld := ⟨R.TF_EM_LSTAT, 0, 13⟩
def F.TF_EM_LSTAT_now_tick : Fld := ⟨R.TF_EM_LSTAT, 16, 16⟩
def F.TF_EM_LSTAT_own_seq : Fld := ⟨R.TF_EM_LSTAT, 32, 32⟩

/-! `TF_EM_EVT` (R312) -/
def F.TF_EM_EVT_learn_q_full : Fld := ⟨R.TF_EM_EVT, 0, 1⟩
def F.TF_EM_EVT_table_full : Fld := ⟨R.TF_EM_EVT, 1, 1⟩
def F.TF_EM_EVT_no_space : Fld := ⟨R.TF_EM_EVT, 2, 1⟩
def F.TF_EM_EVT_poisoned : Fld := ⟨R.TF_EM_EVT, 3, 1⟩
def F.TF_EM_EVT_mismatch : Fld := ⟨R.TF_EM_EVT, 4, 1⟩
def F.TF_EM_EVT_ovf_high : Fld := ⟨R.TF_EM_EVT, 5, 1⟩

/-! `TF_EM_TABLE[t]` (R310) -/
def F.TF_EM_TABLE_learn_en : Fld := ⟨R.TF_EM_TABLE, 0, 1⟩
def F.TF_EM_TABLE_age_en : Fld := ⟨R.TF_EM_TABLE, 1, 1⟩
def F.TF_EM_TABLE_move_en : Fld := ⟨R.TF_EM_TABLE, 2, 1⟩
def F.TF_EM_TABLE_remote_en : Fld := ⟨R.TF_EM_TABLE, 3, 1⟩
def F.TF_EM_TABLE_accept_remote : Fld := ⟨R.TF_EM_TABLE, 4, 1⟩
def F.TF_EM_TABLE_age_limit : Fld := ⟨R.TF_EM_TABLE, 8, 15⟩
def F.TF_EM_TABLE_refresh_ticks : Fld := ⟨R.TF_EM_TABLE, 24, 15⟩
def F.TF_EM_TABLE_max_units : Fld := ⟨R.TF_EM_TABLE, 40, 24⟩

/-! `TF_EM_LEARN[t]` (R310) -/
def F.TF_EM_LEARN_learn_nh_base : Fld := ⟨R.TF_EM_LEARN, 0, 22⟩

/-! `TF_EM_TSTAT[t]` (R311) -/
def F.TF_EM_TSTAT_units : Fld := ⟨R.TF_EM_TSTAT, 0, 24⟩
def F.TF_EM_TSTAT_learned : Fld := ⟨R.TF_EM_TSTAT, 24, 24⟩

/-! `TF_EM_CNT[k]` (R313) -/
def F.TF_EM_CNT_count : Fld := ⟨R.TF_EM_CNT, 0, 63⟩
def F.TF_EM_CNT_sat : Fld := ⟨R.TF_EM_CNT, 63, 1⟩

/-! `TF_CLASS_STAT` (R354) -/
def F.TF_CLASS_STAT_rules : Fld := ⟨R.TF_CLASS_STAT, 0, 21⟩
def F.TF_CLASS_STAT_copies : Fld := ⟨R.TF_CLASS_STAT, 21, 21⟩
def F.TF_CLASS_STAT_trees : Fld := ⟨R.TF_CLASS_STAT, 42, 9⟩
def F.TF_CLASS_STAT_rebuilding : Fld := ⟨R.TF_CLASS_STAT, 51, 1⟩

/-! `TF_ASSOC_STAT` (R354) -/
def F.TF_ASSOC_STAT_entries : Fld := ⟨R.TF_ASSOC_STAT, 0, 20⟩
def F.TF_ASSOC_STAT_shifting : Fld := ⟨R.TF_ASSOC_STAT, 20, 1⟩

/-! `TF_CLASS_EVT` (R355) -/
def F.TF_CLASS_EVT_copies_high : Fld := ⟨R.TF_CLASS_EVT, 0, 1⟩
def F.TF_CLASS_EVT_rebuild_done : Fld := ⟨R.TF_CLASS_EVT, 1, 1⟩
def F.TF_CLASS_EVT_bank_full : Fld := ⟨R.TF_CLASS_EVT, 2, 1⟩
def F.TF_CLASS_EVT_poisoned : Fld := ⟨R.TF_CLASS_EVT, 3, 1⟩
def F.TF_CLASS_EVT_assoc_parity : Fld := ⟨R.TF_CLASS_EVT, 4, 1⟩
def F.TF_CLASS_EVT_no_tree : Fld := ⟨R.TF_CLASS_EVT, 5, 1⟩

/-! `TF_CLASS_PROF[t]` (R353) -/
def F.TF_CLASS_PROF_tree : Fld := ⟨R.TF_CLASS_PROF, 0, 8⟩

/-! `TF_ASSOC_BANKSEL[t]` (R353) -/
def F.TF_ASSOC_BANKSEL_banks : Fld := ⟨R.TF_ASSOC_BANKSEL, 0, 64⟩

/-! `TF_ASSOC_GMASK0[t]` (R353) -/
def F.TF_ASSOC_GMASK0_gmask_hi : Fld := ⟨R.TF_ASSOC_GMASK0, 0, 64⟩

/-! `TF_ASSOC_GMASK1[t]` (R353) -/
def F.TF_ASSOC_GMASK1_gmask_mid : Fld := ⟨R.TF_ASSOC_GMASK1, 0, 64⟩

/-! `TF_ASSOC_GMASK2[t]` (R353) -/
def F.TF_ASSOC_GMASK2_gmask_lo : Fld := ⟨R.TF_ASSOC_GMASK2, 32, 32⟩

/-! `TF_ASSOC_BANK[b]` (R354) -/
def F.TF_ASSOC_BANK_used : Fld := ⟨R.TF_ASSOC_BANK, 0, 14⟩
def F.TF_ASSOC_BANK_last_shift : Fld := ⟨R.TF_ASSOC_BANK, 16, 13⟩

/-! `TF_CLASS_CNT[k]` (R356) -/
def F.TF_CLASS_CNT_count : Fld := ⟨R.TF_CLASS_CNT, 0, 63⟩
def F.TF_CLASS_CNT_sat : Fld := ⟨R.TF_CLASS_CNT, 63, 1⟩

/-! `TF_EG_EVT` (R545) -/
def F.TF_EG_EVT_hdr_bad : Fld := ⟨R.TF_EG_EVT, 0, 1⟩
def F.TF_EG_EVT_resend : Fld := ⟨R.TF_EG_EVT, 1, 1⟩
def F.TF_EG_EVT_list_err : Fld := ⟨R.TF_EG_EVT, 2, 1⟩
def F.TF_EG_EVT_no_tree : Fld := ⟨R.TF_EG_EVT, 3, 1⟩

/-! `TF_EG_CNT[k]` (R546) -/
def F.TF_EG_CNT_count : Fld := ⟨R.TF_EG_CNT, 0, 63⟩
def F.TF_EG_CNT_sat : Fld := ⟨R.TF_EG_CNT, 63, 1⟩

/-! `TF_EG_PROF[e]` (R543) -/
def F.TF_EG_PROF_tree : Fld := ⟨R.TF_EG_PROF, 0, 8⟩
def F.TF_EG_PROF_class_en : Fld := ⟨R.TF_EG_PROF, 8, 1⟩
def F.TF_EG_PROF_ttl_action : Fld := ⟨R.TF_EG_PROF, 9, 1⟩
def F.TF_EG_PROF_mtu_action : Fld := ⟨R.TF_EG_PROF, 10, 1⟩
def F.TF_EG_PROF_punt_q : Fld := ⟨R.TF_EG_PROF, 11, 6⟩
def F.TF_EG_PROF_sample_bytes : Fld := ⟨R.TF_EG_PROF, 17, 14⟩

/-! `TF_EG_PORT[l]` (R543) -/
def F.TF_EG_PORT_src_mac : Fld := ⟨R.TF_EG_PORT, 0, 48⟩

/-! `TF_MEM_CFG` (R579) -/
def F.TF_MEM_CFG_grain : Fld := ⟨R.TF_MEM_CFG, 0, 4⟩
def F.TF_MEM_CFG_track_ms : Fld := ⟨R.TF_MEM_CFG, 8, 8⟩
def F.TF_MEM_CFG_drift_ps : Fld := ⟨R.TF_MEM_CFG, 16, 8⟩
def F.TF_MEM_CFG_scrub_en : Fld := ⟨R.TF_MEM_CFG, 24, 1⟩

/-! `TF_MEM_STAT` (R582) -/
def F.TF_MEM_STAT_scrub_pct : Fld := ⟨R.TF_MEM_STAT, 0, 7⟩
def F.TF_MEM_STAT_no_cover : Fld := ⟨R.TF_MEM_STAT, 8, 8⟩
def F.TF_MEM_STAT_withdrawn : Fld := ⟨R.TF_MEM_STAT, 16, 8⟩
def F.TF_MEM_STAT_ballast_kept : Fld := ⟨R.TF_MEM_STAT, 24, 1⟩
def F.TF_MEM_STAT_passes : Fld := ⟨R.TF_MEM_STAT, 32, 16⟩

/-! `TF_MEM_EVT` (R583) -/
def F.TF_MEM_EVT_ce : Fld := ⟨R.TF_MEM_EVT, 0, 1⟩
def F.TF_MEM_EVT_ue : Fld := ⟨R.TF_MEM_EVT, 1, 1⟩
def F.TF_MEM_EVT_pin_mark : Fld := ⟨R.TF_MEM_EVT, 2, 1⟩
def F.TF_MEM_EVT_ch_out : Fld := ⟨R.TF_MEM_EVT, 3, 1⟩
def F.TF_MEM_EVT_pkg_out : Fld := ⟨R.TF_MEM_EVT, 4, 1⟩
def F.TF_MEM_EVT_retrain_blocked : Fld := ⟨R.TF_MEM_EVT, 5, 1⟩
def F.TF_MEM_EVT_scrub_late : Fld := ⟨R.TF_MEM_EVT, 6, 1⟩
def F.TF_MEM_EVT_withdrawn : Fld := ⟨R.TF_MEM_EVT, 7, 1⟩
def F.TF_MEM_EVT_ballast_lost : Fld := ⟨R.TF_MEM_EVT, 8, 1⟩

/-! `TF_MEM_CNT[k]` (R584) -/
def F.TF_MEM_CNT_count : Fld := ⟨R.TF_MEM_CNT, 0, 63⟩
def F.TF_MEM_CNT_sat : Fld := ⟨R.TF_MEM_CNT, 63, 1⟩

/-! `TF_MEM_PKG[k]` (R581) -/
def F.TF_MEM_PKG_vendor : Fld := ⟨R.TF_MEM_PKG, 0, 8⟩
def F.TF_MEM_PKG_revision : Fld := ⟨R.TF_MEM_PKG, 8, 8⟩
def F.TF_MEM_PKG_density : Fld := ⟨R.TF_MEM_PKG, 16, 8⟩
def F.TF_MEM_PKG_out : Fld := ⟨R.TF_MEM_PKG, 24, 1⟩
def F.TF_MEM_PKG_temp : Fld := ⟨R.TF_MEM_PKG, 32, 8⟩

/-! `TF_MEM_CH[n]` (R580) -/
def F.TF_MEM_CH_state : Fld := ⟨R.TF_MEM_CH, 0, 3⟩
def F.TF_MEM_CH_marked_pin : Fld := ⟨R.TF_MEM_CH, 3, 5⟩
def F.TF_MEM_CH_pin_marked : Fld := ⟨R.TF_MEM_CH, 8, 1⟩
def F.TF_MEM_CH_outstanding : Fld := ⟨R.TF_MEM_CH, 16, 7⟩
def F.TF_MEM_CH_eye_ps : Fld := ⟨R.TF_MEM_CH, 24, 8⟩
def F.TF_MEM_CH_retrains : Fld := ⟨R.TF_MEM_CH, 32, 16⟩
def F.TF_MEM_CH_log : Fld := ⟨R.TF_MEM_CH, 48, 13⟩

/-! `TF_TBL_CTL` (R626) -/
def F.TF_TBL_CTL_batch_idle_ms : Fld := ⟨R.TF_TBL_CTL, 0, 16⟩

/-! `TF_TBL_STAT` (R626) -/
def F.TF_TBL_STAT_in_flight : Fld := ⟨R.TF_TBL_STAT, 0, 15⟩
def F.TF_TBL_STAT_batch_q : Fld := ⟨R.TF_TBL_STAT, 15, 5⟩
def F.TF_TBL_STAT_batch_open : Fld := ⟨R.TF_TBL_STAT, 20, 1⟩
def F.TF_TBL_STAT_batch_cmds : Fld := ⟨R.TF_TBL_STAT, 21, 15⟩
def F.TF_TBL_STAT_phase : Fld := ⟨R.TF_TBL_STAT, 36, 3⟩
def F.TF_TBL_STAT_journal_used : Fld := ⟨R.TF_TBL_STAT, 40, 12⟩
def F.TF_TBL_STAT_commit_hold : Fld := ⟨R.TF_TBL_STAT, 52, 1⟩

/-! `TF_TBL_EVT` (R626) -/
def F.TF_TBL_EVT_batch_full : Fld := ⟨R.TF_TBL_EVT, 0, 1⟩
def F.TF_TBL_EVT_idle_abort : Fld := ⟨R.TF_TBL_EVT, 1, 1⟩
def F.TF_TBL_EVT_journal_hold : Fld := ⟨R.TF_TBL_EVT, 2, 1⟩
def F.TF_TBL_EVT_mc_fault : Fld := ⟨R.TF_TBL_EVT, 3, 1⟩
def F.TF_TBL_EVT_handover : Fld := ⟨R.TF_TBL_EVT, 4, 1⟩
def F.TF_TBL_EVT_spare_in : Fld := ⟨R.TF_TBL_EVT, 5, 1⟩
def F.TF_TBL_EVT_spare_fail : Fld := ⟨R.TF_TBL_EVT, 6, 1⟩

/-! `TF_SPARE_CTL` (R626) -/
def F.TF_SPARE_CTL_spares_en : Fld := ⟨R.TF_SPARE_CTL, 0, 1⟩

/-! `TF_SPARE_STAT[c]` (R626) -/
def F.TF_SPARE_STAT_in_state : Fld := ⟨R.TF_SPARE_STAT, 0, 3⟩
def F.TF_SPARE_STAT_in_slot : Fld := ⟨R.TF_SPARE_STAT, 3, 2⟩
def F.TF_SPARE_STAT_in_failed : Fld := ⟨R.TF_SPARE_STAT, 5, 5⟩
def F.TF_SPARE_STAT_eg_state : Fld := ⟨R.TF_SPARE_STAT, 10, 3⟩
def F.TF_SPARE_STAT_eg_slot : Fld := ⟨R.TF_SPARE_STAT, 13, 2⟩
def F.TF_SPARE_STAT_eg_failed : Fld := ⟨R.TF_SPARE_STAT, 15, 5⟩

/-! `TF_HOST_CTL` (R674) -/
def F.TF_HOST_CTL_tag_hold_ms : Fld := ⟨R.TF_HOST_CTL, 0, 16⟩

/-! `TF_HOST_STAT` (R674) -/
def F.TF_HOST_STAT_outstanding : Fld := ⟨R.TF_HOST_STAT, 0, 14⟩
def F.TF_HOST_STAT_held_tags : Fld := ⟨R.TF_HOST_STAT, 14, 14⟩
def F.TF_HOST_STAT_link_up : Fld := ⟨R.TF_HOST_STAT, 28, 1⟩
def F.TF_HOST_STAT_speed : Fld := ⟨R.TF_HOST_STAT, 29, 3⟩
def F.TF_HOST_STAT_width : Fld := ⟨R.TF_HOST_STAT, 32, 4⟩
def F.TF_HOST_STAT_flit : Fld := ⟨R.TF_HOST_STAT, 36, 1⟩
def F.TF_HOST_STAT_frozen0 : Fld := ⟨R.TF_HOST_STAT, 37, 1⟩
def F.TF_HOST_STAT_frozen1 : Fld := ⟨R.TF_HOST_STAT, 38, 1⟩

/-! `TF_HOST_EVT` (R675) -/
def F.TF_HOST_EVT_link_down : Fld := ⟨R.TF_HOST_EVT, 0, 1⟩
def F.TF_HOST_EVT_link_up : Fld := ⟨R.TF_HOST_EVT, 1, 1⟩
def F.TF_HOST_EVT_freeze0 : Fld := ⟨R.TF_HOST_EVT, 2, 1⟩
def F.TF_HOST_EVT_freeze1 : Fld := ⟨R.TF_HOST_EVT, 3, 1⟩
def F.TF_HOST_EVT_late_cpl : Fld := ⟨R.TF_HOST_EVT, 4, 1⟩
def F.TF_HOST_EVT_punt_drop : Fld := ⟨R.TF_HOST_EVT, 5, 1⟩
def F.TF_HOST_EVT_dump_drop : Fld := ⟨R.TF_HOST_EVT, 6, 1⟩
def F.TF_HOST_EVT_queue_err : Fld := ⟨R.TF_HOST_EVT, 7, 1⟩
def F.TF_HOST_EVT_flr : Fld := ⟨R.TF_HOST_EVT, 8, 1⟩

/-! `TF_HOST_CNT[k]` (R676) -/
def F.TF_HOST_CNT_count : Fld := ⟨R.TF_HOST_CNT, 0, 63⟩
def F.TF_HOST_CNT_sat : Fld := ⟨R.TF_HOST_CNT, 63, 1⟩

/-! `TF_SAMPLE_CTL` (R806) -/
def F.TF_SAMPLE_CTL_sample_n : Fld := ⟨R.TF_SAMPLE_CTL, 0, 24⟩
def F.TF_SAMPLE_CTL_jitter : Fld := ⟨R.TF_SAMPLE_CTL, 24, 16⟩

/-! `TF_SAMPLE_SEED` (R806) -/
def F.TF_SAMPLE_SEED_seed : Fld := ⟨R.TF_SAMPLE_SEED, 0, 32⟩

/-! `TF_EVT_SUM` (R808) -/
def F.TF_EVT_SUM_sum : Fld := ⟨R.TF_EVT_SUM, 0, 15⟩

/-! `TF_EVT_MASK` (R808) -/
def F.TF_EVT_MASK_mask : Fld := ⟨R.TF_EVT_MASK, 0, 15⟩

/-! `TF_EVT_MAP[j]` (R808) -/
def F.TF_EVT_MAP_pend : Fld := ⟨R.TF_EVT_MAP, 0, 64⟩

/-! `DT_BUF_CFG` (R405) -/
def F.DT_BUF_CFG_pool0_mib : Fld := ⟨R.DT_BUF_CFG, 0, 8⟩
def F.DT_BUF_CFG_pool1_mib : Fld := ⟨R.DT_BUF_CFG, 8, 8⟩
def F.DT_BUF_CFG_teth_mib : Fld := ⟨R.DT_BUF_CFG, 16, 8⟩
def F.DT_BUF_CFG_reseq_kib : Fld := ⟨R.DT_BUF_CFG, 24, 12⟩

/-! `DT_POOL_FREE` (R406) -/
def F.DT_POOL_FREE_free0 : Fld := ⟨R.DT_POOL_FREE, 0, 21⟩
def F.DT_POOL_FREE_free1 : Fld := ⟨R.DT_POOL_FREE, 21, 21⟩
def F.DT_POOL_FREE_free2 : Fld := ⟨R.DT_POOL_FREE, 42, 21⟩

/-! `DT_SHARED_STAT` (R406) -/
def F.DT_SHARED_STAT_shared_free : Fld := ⟨R.DT_SHARED_STAT, 0, 20⟩
def F.DT_SHARED_STAT_head_used : Fld := ⟨R.DT_SHARED_STAT, 20, 20⟩
def F.DT_SHARED_STAT_teth_used : Fld := ⟨R.DT_SHARED_STAT, 40, 20⟩

/-! `DT_SHARED_STAT2` (R406) -/
def F.DT_SHARED_STAT2_grant_res : Fld := ⟨R.DT_SHARED_STAT2, 0, 20⟩
def F.DT_SHARED_STAT2_reseq_used : Fld := ⟨R.DT_SHARED_STAT2, 20, 20⟩
def F.DT_SHARED_STAT2_stage_used : Fld := ⟨R.DT_SHARED_STAT2, 40, 20⟩

/-! `DT_TAIL_STAT` (R406) -/
def F.DT_TAIL_STAT_free_segments : Fld := ⟨R.DT_TAIL_STAT, 0, 23⟩
def F.DT_TAIL_STAT_spilling : Fld := ⟨R.DT_TAIL_STAT, 23, 20⟩

/-! `DT_ADM_LOOP` (R407) -/
def F.DT_ADM_LOOP_u_high : Fld := ⟨R.DT_ADM_LOOP, 0, 7⟩
def F.DT_ADM_LOOP_u_low : Fld := ⟨R.DT_ADM_LOOP, 8, 7⟩
def F.DT_ADM_LOOP_loop_us : Fld := ⟨R.DT_ADM_LOOP, 16, 16⟩

/-! `DT_RESEQ_CTL` (R408) -/
def F.DT_RESEQ_CTL_gap_timeout_us : Fld := ⟨R.DT_RESEQ_CTL, 0, 5⟩

/-! `DT_BUF_EVT` (R410) -/
def F.DT_BUF_EVT_gap_closed : Fld := ⟨R.DT_BUF_EVT, 0, 1⟩
def F.DT_BUF_EVT_stalled : Fld := ⟨R.DT_BUF_EVT, 1, 1⟩
def F.DT_BUF_EVT_no_cell : Fld := ⟨R.DT_BUF_EVT, 2, 1⟩
def F.DT_BUF_EVT_headroom : Fld := ⟨R.DT_BUF_EVT, 3, 1⟩
def F.DT_BUF_EVT_loop_floor : Fld := ⟨R.DT_BUF_EVT, 4, 1⟩
def F.DT_BUF_EVT_stage_full : Fld := ⟨R.DT_BUF_EVT, 5, 1⟩
def F.DT_BUF_EVT_tail_low : Fld := ⟨R.DT_BUF_EVT, 6, 1⟩
def F.DT_BUF_EVT_ct_underrun : Fld := ⟨R.DT_BUF_EVT, 7, 1⟩
def F.DT_BUF_EVT_hold_expired : Fld := ⟨R.DT_BUF_EVT, 8, 1⟩

/-! `DT_ADM_PROF[c]` (R407) -/
def F.DT_ADM_PROF_k : Fld := ⟨R.DT_ADM_PROF, 0, 5⟩
def F.DT_ADM_PROF_k_min : Fld := ⟨R.DT_ADM_PROF, 5, 5⟩
def F.DT_ADM_PROF_k_max : Fld := ⟨R.DT_ADM_PROF, 10, 5⟩
def F.DT_ADM_PROF_loop_en : Fld := ⟨R.DT_ADM_PROF, 15, 1⟩
def F.DT_ADM_PROF_yellow_shift : Fld := ⟨R.DT_ADM_PROF, 16, 2⟩
def F.DT_ADM_PROF_spill_kib : Fld := ⟨R.DT_ADM_PROF, 24, 16⟩
def F.DT_ADM_PROF_tail_max_mib : Fld := ⟨R.DT_ADM_PROF, 40, 16⟩
def F.DT_ADM_PROF_tail_k : Fld := ⟨R.DT_ADM_PROF, 56, 5⟩

/-! `DT_BUF_CNT[k]` (R411) -/
def F.DT_BUF_CNT_count : Fld := ⟨R.DT_BUF_CNT, 0, 63⟩
def F.DT_BUF_CNT_sat : Fld := ⟨R.DT_BUF_CNT, 63, 1⟩

/-! `DT_RESEQ_STAT[p]` (R408) -/
def F.DT_RESEQ_STAT_next_seq : Fld := ⟨R.DT_RESEQ_STAT, 0, 32⟩
def F.DT_RESEQ_STAT_stalled_a : Fld := ⟨R.DT_RESEQ_STAT, 32, 1⟩
def F.DT_RESEQ_STAT_stalled_b : Fld := ⟨R.DT_RESEQ_STAT, 33, 1⟩
def F.DT_RESEQ_STAT_gap : Fld := ⟨R.DT_RESEQ_STAT, 34, 1⟩
def F.DT_RESEQ_STAT_held_kib : Fld := ⟨R.DT_RESEQ_STAT, 35, 12⟩

/-! `DT_LOSSLESS[l]` (R409) -/
def F.DT_LOSSLESS_lossless : Fld := ⟨R.DT_LOSSLESS, 0, 8⟩
def F.DT_LOSSLESS_head_kib : Fld := ⟨R.DT_LOSSLESS, 8, 16⟩
def F.DT_LOSSLESS_xon_gap_kib : Fld := ⟨R.DT_LOSSLESS, 24, 16⟩
def F.DT_LOSSLESS_xoff : Fld := ⟨R.DT_LOSSLESS, 40, 8⟩

/-! `DT_PORT_HOLD[l]` (R409) -/
def F.DT_PORT_HOLD_hold_ms : Fld := ⟨R.DT_PORT_HOLD, 0, 10⟩
def F.DT_PORT_HOLD_protect_en : Fld := ⟨R.DT_PORT_HOLD, 10, 1⟩
def F.DT_PORT_HOLD_protect_module : Fld := ⟨R.DT_PORT_HOLD, 11, 8⟩
def F.DT_PORT_HOLD_protect_lport : Fld := ⟨R.DT_PORT_HOLD, 19, 8⟩
def F.DT_PORT_HOLD_ct_en : Fld := ⟨R.DT_PORT_HOLD, 27, 8⟩

/-! `DT_HOLD_STAT[l]` (R409) -/
def F.DT_HOLD_STAT_state : Fld := ⟨R.DT_HOLD_STAT, 0, 2⟩
def F.DT_HOLD_STAT_hold_left_ms : Fld := ⟨R.DT_HOLD_STAT, 2, 10⟩

/-! `DT_MIRROR[m]` (R544) -/
def F.DT_MIRROR_enable : Fld := ⟨R.DT_MIRROR, 0, 1⟩
def F.DT_MIRROR_dest_module : Fld := ⟨R.DT_MIRROR, 1, 8⟩
def F.DT_MIRROR_dest_lport : Fld := ⟨R.DT_MIRROR, 9, 8⟩
def F.DT_MIRROR_class : Fld := ⟨R.DT_MIRROR, 17, 3⟩
def F.DT_MIRROR_rw_index : Fld := ⟨R.DT_MIRROR, 20, 22⟩
def F.DT_MIRROR_trunc_bytes : Fld := ⟨R.DT_MIRROR, 42, 14⟩

/-! `DT_PORT_CNT[l][k]` (R777) -/
def F.DT_PORT_CNT_count : Fld := ⟨R.DT_PORT_CNT, 0, 63⟩
def F.DT_PORT_CNT_sat : Fld := ⟨R.DT_PORT_CNT, 63, 1⟩

/-! `DT_SCHED_CTL` (R454) -/
def F.DT_SCHED_CTL_committed_first : Fld := ⟨R.DT_SCHED_CTL, 0, 1⟩
def F.DT_SCHED_CTL_hungry_credits : Fld := ⟨R.DT_SCHED_CTL, 8, 8⟩

/-! `DT_CREDIT_STAT` (R456) -/
def F.DT_CREDIT_STAT_req_on : Fld := ⟨R.DT_CREDIT_STAT, 0, 20⟩
def F.DT_CREDIT_STAT_hungry : Fld := ⟨R.DT_CREDIT_STAT, 20, 20⟩

/-! `DT_SCHED_EVT` (R457) -/
def F.DT_SCHED_EVT_grant_wait_f : Fld := ⟨R.DT_SCHED_EVT, 0, 1⟩
def F.DT_SCHED_EVT_src_lost : Fld := ⟨R.DT_SCHED_EVT, 1, 1⟩
def F.DT_SCHED_EVT_late_return : Fld := ⟨R.DT_SCHED_EVT, 2, 1⟩
def F.DT_SCHED_EVT_tx_hold : Fld := ⟨R.DT_SCHED_EVT, 3, 1⟩
def F.DT_SCHED_EVT_def_sub_bad : Fld := ⟨R.DT_SCHED_EVT, 4, 1⟩

/-! `DT_SCHED_CNT[k]` (R458) -/
def F.DT_SCHED_CNT_count : Fld := ⟨R.DT_SCHED_CNT, 0, 63⟩
def F.DT_SCHED_CNT_sat : Fld := ⟨R.DT_SCHED_CNT, 63, 1⟩

/-! `DT_EQ_PORT[l]` (R455) -/
def F.DT_EQ_PORT_def_sub : Fld := ⟨R.DT_EQ_PORT, 0, 14⟩
def F.DT_EQ_PORT_map_en : Fld := ⟨R.DT_EQ_PORT, 14, 1⟩
def F.DT_EQ_PORT_qmap : Fld := ⟨R.DT_EQ_PORT, 16, 16⟩
def F.DT_EQ_PORT_win_kib : Fld := ⟨R.DT_EQ_PORT, 32, 16⟩
def F.DT_EQ_PORT_port_win_kib : Fld := ⟨R.DT_EQ_PORT, 48, 16⟩

/-! `DT_POL_PORT[l]` (R455) -/
def F.DT_POL_PORT_def_pol_en : Fld := ⟨R.DT_POL_PORT, 0, 8⟩

/-! `DT_EQ_STAT[l]` (R456) -/
def F.DT_EQ_STAT_queued : Fld := ⟨R.DT_EQ_STAT, 0, 24⟩
def F.DT_EQ_STAT_reserved : Fld := ⟨R.DT_EQ_STAT, 24, 24⟩
def F.DT_EQ_STAT_held : Fld := ⟨R.DT_EQ_STAT, 48, 1⟩

/-! `DT_FAB_CTL` (R506) -/
def F.DT_FAB_CTL_pack_en : Fld := ⟨R.DT_FAB_CTL, 0, 1⟩
def F.DT_FAB_CTL_rto_us : Fld := ⟨R.DT_FAB_CTL, 8, 8⟩
def F.DT_FAB_CTL_hb_us : Fld := ⟨R.DT_FAB_CTL, 16, 4⟩
def F.DT_FAB_CTL_ack_us : Fld := ⟨R.DT_FAB_CTL, 20, 4⟩
def F.DT_FAB_CTL_grant_us : Fld := ⟨R.DT_FAB_CTL, 24, 4⟩
def F.DT_FAB_CTL_ack_cells : Fld := ⟨R.DT_FAB_CTL, 32, 8⟩
def F.DT_FAB_CTL_unreach_ms : Fld := ⟨R.DT_FAB_CTL, 40, 10⟩

/-! `DT_FAB_STAT` (R508) -/
def F.DT_FAB_STAT_planes_up : Fld := ⟨R.DT_FAB_STAT, 0, 8⟩
def F.DT_FAB_STAT_reachable : Fld := ⟨R.DT_FAB_STAT, 8, 9⟩
def F.DT_FAB_STAT_incarnation : Fld := ⟨R.DT_FAB_STAT, 32, 16⟩
def F.DT_FAB_STAT_ctl_share : Fld := ⟨R.DT_FAB_STAT, 48, 8⟩

/-! `DT_FAB_EVT` (R509) -/
def F.DT_FAB_EVT_lane_down : Fld := ⟨R.DT_FAB_EVT, 0, 1⟩
def F.DT_FAB_EVT_lane_up : Fld := ⟨R.DT_FAB_EVT, 1, 1⟩
def F.DT_FAB_EVT_plane_lost : Fld := ⟨R.DT_FAB_EVT, 2, 1⟩
def F.DT_FAB_EVT_unreach : Fld := ⟨R.DT_FAB_EVT, 3, 1⟩
def F.DT_FAB_EVT_reach : Fld := ⟨R.DT_FAB_EVT, 4, 1⟩
def F.DT_FAB_EVT_new_inc : Fld := ⟨R.DT_FAB_EVT, 5, 1⟩
def F.DT_FAB_EVT_abandon : Fld := ⟨R.DT_FAB_EVT, 6, 1⟩
def F.DT_FAB_EVT_id_conflict : Fld := ⟨R.DT_FAB_EVT, 7, 1⟩
def F.DT_FAB_EVT_gap_old : Fld := ⟨R.DT_FAB_EVT, 8, 1⟩
def F.DT_FAB_EVT_ack_bad : Fld := ⟨R.DT_FAB_EVT, 9, 1⟩
def F.DT_FAB_EVT_window_full : Fld := ⟨R.DT_FAB_EVT, 10, 1⟩
def F.DT_FAB_EVT_ctl_over : Fld := ⟨R.DT_FAB_EVT, 11, 1⟩

/-! `DT_FAB_CNT[k]` (R510) -/
def F.DT_FAB_CNT_count : Fld := ⟨R.DT_FAB_CNT, 0, 63⟩
def F.DT_FAB_CNT_sat : Fld := ⟨R.DT_FAB_CNT, 63, 1⟩

/-! `DT_FAB_PLANE[k]` (R507) -/
def F.DT_FAB_PLANE_up : Fld := ⟨R.DT_FAB_PLANE, 0, 1⟩
def F.DT_FAB_PLANE_admin_out : Fld := ⟨R.DT_FAB_PLANE, 1, 1⟩
def F.DT_FAB_PLANE_lanes_up : Fld := ⟨R.DT_FAB_PLANE, 8, 6⟩
def F.DT_FAB_PLANE_reach : Fld := ⟨R.DT_FAB_PLANE, 16, 9⟩

/-! `DT_FAB_LANE[n]` (R507) -/
def F.DT_FAB_LANE_state : Fld := ⟨R.DT_FAB_LANE, 0, 2⟩
def F.DT_FAB_LANE_admin_out : Fld := ⟨R.DT_FAB_LANE, 2, 1⟩
def F.DT_FAB_LANE_signal : Fld := ⟨R.DT_FAB_LANE, 3, 1⟩
def F.DT_FAB_LANE_ber_log : Fld := ⟨R.DT_FAB_LANE, 8, 8⟩
def F.DT_FAB_LANE_replays : Fld := ⟨R.DT_FAB_LANE, 16, 32⟩
def F.DT_FAB_LANE_fails : Fld := ⟨R.DT_FAB_LANE, 48, 8⟩

/-! `DT_FAB_DEST[m]` (R508) -/
def F.DT_FAB_DEST_planes : Fld := ⟨R.DT_FAB_DEST, 0, 8⟩
def F.DT_FAB_DEST_reachable : Fld := ⟨R.DT_FAB_DEST, 8, 1⟩
def F.DT_FAB_DEST_window_full : Fld := ⟨R.DT_FAB_DEST, 9, 1⟩
def F.DT_FAB_DEST_incarnation : Fld := ⟨R.DT_FAB_DEST, 10, 16⟩
def F.DT_FAB_DEST_unacked : Fld := ⟨R.DT_FAB_DEST, 26, 17⟩
def F.DT_FAB_DEST_rtt : Fld := ⟨R.DT_FAB_DEST, 43, 16⟩

/-! `DT_MEM_CFG` (R579) -/
def F.DT_MEM_CFG_grain : Fld := ⟨R.DT_MEM_CFG, 0, 4⟩
def F.DT_MEM_CFG_track_ms : Fld := ⟨R.DT_MEM_CFG, 8, 8⟩
def F.DT_MEM_CFG_drift_ps : Fld := ⟨R.DT_MEM_CFG, 16, 8⟩
def F.DT_MEM_CFG_scrub_en : Fld := ⟨R.DT_MEM_CFG, 24, 1⟩

/-! `DT_MEM_STAT` (R582) -/
def F.DT_MEM_STAT_scrub_pct : Fld := ⟨R.DT_MEM_STAT, 0, 7⟩
def F.DT_MEM_STAT_no_cover : Fld := ⟨R.DT_MEM_STAT, 8, 8⟩
def F.DT_MEM_STAT_withdrawn : Fld := ⟨R.DT_MEM_STAT, 16, 8⟩
def F.DT_MEM_STAT_ballast_kept : Fld := ⟨R.DT_MEM_STAT, 24, 1⟩
def F.DT_MEM_STAT_passes : Fld := ⟨R.DT_MEM_STAT, 32, 16⟩

/-! `DT_MEM_EVT` (R583) -/
def F.DT_MEM_EVT_ce : Fld := ⟨R.DT_MEM_EVT, 0, 1⟩
def F.DT_MEM_EVT_ue : Fld := ⟨R.DT_MEM_EVT, 1, 1⟩
def F.DT_MEM_EVT_pin_mark : Fld := ⟨R.DT_MEM_EVT, 2, 1⟩
def F.DT_MEM_EVT_ch_out : Fld := ⟨R.DT_MEM_EVT, 3, 1⟩
def F.DT_MEM_EVT_pkg_out : Fld := ⟨R.DT_MEM_EVT, 4, 1⟩
def F.DT_MEM_EVT_retrain_blocked : Fld := ⟨R.DT_MEM_EVT, 5, 1⟩
def F.DT_MEM_EVT_scrub_late : Fld := ⟨R.DT_MEM_EVT, 6, 1⟩
def F.DT_MEM_EVT_withdrawn : Fld := ⟨R.DT_MEM_EVT, 7, 1⟩
def F.DT_MEM_EVT_ballast_lost : Fld := ⟨R.DT_MEM_EVT, 8, 1⟩

/-! `DT_MEM_CNT[k]` (R584) -/
def F.DT_MEM_CNT_count : Fld := ⟨R.DT_MEM_CNT, 0, 63⟩
def F.DT_MEM_CNT_sat : Fld := ⟨R.DT_MEM_CNT, 63, 1⟩

/-! `DT_MEM_PKG[k]` (R581) -/
def F.DT_MEM_PKG_vendor : Fld := ⟨R.DT_MEM_PKG, 0, 8⟩
def F.DT_MEM_PKG_revision : Fld := ⟨R.DT_MEM_PKG, 8, 8⟩
def F.DT_MEM_PKG_density : Fld := ⟨R.DT_MEM_PKG, 16, 8⟩
def F.DT_MEM_PKG_out : Fld := ⟨R.DT_MEM_PKG, 24, 1⟩
def F.DT_MEM_PKG_temp : Fld := ⟨R.DT_MEM_PKG, 32, 8⟩

/-! `DT_MEM_CH[n]` (R580) -/
def F.DT_MEM_CH_state : Fld := ⟨R.DT_MEM_CH, 0, 3⟩
def F.DT_MEM_CH_marked_pin : Fld := ⟨R.DT_MEM_CH, 3, 5⟩
def F.DT_MEM_CH_pin_marked : Fld := ⟨R.DT_MEM_CH, 8, 1⟩
def F.DT_MEM_CH_outstanding : Fld := ⟨R.DT_MEM_CH, 16, 7⟩
def F.DT_MEM_CH_eye_ps : Fld := ⟨R.DT_MEM_CH, 24, 8⟩
def F.DT_MEM_CH_retrains : Fld := ⟨R.DT_MEM_CH, 32, 16⟩
def F.DT_MEM_CH_log : Fld := ⟨R.DT_MEM_CH, 48, 13⟩

/-! `DT_LOSS_CNT[k]` (R60) -/
def F.DT_LOSS_CNT_count : Fld := ⟨R.DT_LOSS_CNT, 0, 63⟩
def F.DT_LOSS_CNT_sat : Fld := ⟨R.DT_LOSS_CNT, 63, 1⟩

/-! `DT_GUAR_EVT` (R64) -/
def F.DT_GUAR_EVT_breach : Fld := ⟨R.DT_GUAR_EVT, 0, 1⟩
def F.DT_GUAR_EVT_ripcord_flush : Fld := ⟨R.DT_GUAR_EVT, 1, 1⟩
def F.DT_GUAR_EVT_double_fault : Fld := ⟨R.DT_GUAR_EVT, 2, 1⟩
def F.DT_GUAR_EVT_cover_lost : Fld := ⟨R.DT_GUAR_EVT, 3, 1⟩
def F.DT_GUAR_EVT_unit_kind : Fld := ⟨R.DT_GUAR_EVT, 8, 4⟩
def F.DT_GUAR_EVT_unit_index : Fld := ⟨R.DT_GUAR_EVT, 16, 16⟩
def F.DT_GUAR_EVT_unit_faults : Fld := ⟨R.DT_GUAR_EVT, 32, 32⟩

/-! `DT_DRAIN_STAT` (R77) -/
def F.DT_DRAIN_STAT_phase : Fld := ⟨R.DT_DRAIN_STAT, 0, 3⟩
def F.DT_DRAIN_STAT_elapsed_us : Fld := ⟨R.DT_DRAIN_STAT, 8, 32⟩
def F.DT_DRAIN_STAT_left_mib : Fld := ⟨R.DT_DRAIN_STAT, 40, 23⟩
def F.DT_DRAIN_STAT_paused_hold : Fld := ⟨R.DT_DRAIN_STAT, 63, 1⟩

/-! `DT_EVT_SUM` (R808) -/
def F.DT_EVT_SUM_sum : Fld := ⟨R.DT_EVT_SUM, 0, 5⟩

/-! `DT_EVT_MASK` (R808) -/
def F.DT_EVT_MASK_mask : Fld := ⟨R.DT_EVT_MASK, 0, 5⟩

/-! `TF_QCTX_BASE[q]` (R661) -/
def F.TF_QCTX_BASE_base : Fld := ⟨R.TF_QCTX_BASE, 0, 64⟩

/-! `TF_QCTX_CFG[q]` (R661) -/
def F.TF_QCTX_CFG_enable : Fld := ⟨R.TF_QCTX_CFG, 0, 1⟩
def F.TF_QCTX_CFG_irq_en : Fld := ⟨R.TF_QCTX_CFG, 1, 1⟩
def F.TF_QCTX_CFG_size_log2 : Fld := ⟨R.TF_QCTX_CFG, 5, 5⟩
def F.TF_QCTX_CFG_vector : Fld := ⟨R.TF_QCTX_CFG, 10, 11⟩
def F.TF_QCTX_CFG_coal_n : Fld := ⟨R.TF_QCTX_CFG, 22, 8⟩
def F.TF_QCTX_CFG_coal_us : Fld := ⟨R.TF_QCTX_CFG, 32, 16⟩
def F.TF_QCTX_CFG_inj_weight : Fld := ⟨R.TF_QCTX_CFG, 48, 8⟩
def F.TF_QCTX_CFG_cpl_log2 : Fld := ⟨R.TF_QCTX_CFG, 56, 5⟩

/-! `TF_QCTX_CPL[q]` (R661) -/
def F.TF_QCTX_CPL_cpl_base : Fld := ⟨R.TF_QCTX_CPL, 0, 64⟩

/-! `TF_QCTX_WB[q]` (R661) -/
def F.TF_QCTX_WB_wb_addr : Fld := ⟨R.TF_QCTX_WB, 0, 64⟩

/-! `TF_QCTX_STAT[q]` (R661) -/
def F.TF_QCTX_STAT_dev_idx : Fld := ⟨R.TF_QCTX_STAT, 0, 32⟩
def F.TF_QCTX_STAT_host_idx : Fld := ⟨R.TF_QCTX_STAT, 32, 32⟩

/-! `TF_QCTX_ERR[q]` (R661) -/
def F.TF_QCTX_ERR_err : Fld := ⟨R.TF_QCTX_ERR, 0, 4⟩
def F.TF_QCTX_ERR_stopped : Fld := ⟨R.TF_QCTX_ERR, 4, 1⟩
def F.TF_QCTX_ERR_err_idx : Fld := ⟨R.TF_QCTX_ERR, 32, 32⟩

/-- The common registers of R838. -/
def commonRegs : List RegD :=
  [R.KV_ID, R.KV_SERIAL, R.KV_MODE, R.KV_MODE_REQ, R.KV_ACC_ERR_STAT, R.KV_ACC_ERR_LOG, R.KV_MC_CTL, R.KV_MC_STAT, R.KV_MC_HEALTH, R.KV_MBOX_CMD, R.KV_MBOX_STAT, R.KV_MBOX_ARG, R.KV_MBOX_RES, R.KV_RESET_CAUSE, R.KV_RESET_REQ, R.KV_WDOG_CTL, R.KV_STRAP, R.KV_BOOT_STAT, R.KV_HOSTLOAD_ADDR, R.KV_HOSTLOAD_CTL, R.KV_RST_EVT, R.KV_BACKUP, R.KV_BLK_CTL, R.KV_BLK_STAT, R.KV_PWR_CTL, R.KV_PWR_STAT, R.KV_THERM_STAT, R.KV_PWR_EVT, R.KV_AGE_ON, R.KV_AGE_UPD] ++
  [R.KV_ISL_CTL, R.KV_ISL_STAT, R.KV_ISL_XING, R.KV_FW_CTL, R.KV_FW_STAT, R.KV_FW_XFER, R.KV_FW_SEND_ADDR, R.KV_FW_SEND_CTL, R.KV_FW_EVT, R.KV_TLM_CTL, R.KV_TLM_STAT, R.KV_TLM_EVT, R.KV_USER_COUNTER_GRANT, R.KV_EVT, R.KV_EVT_SRC, R.KV_EVT_SRC_MASK, R.KV_EVT_ARM, R.KV_ALERT_CTL, R.KV_TLM_CNT, R.KV_USER_PAGE_SEL, R.KV_TLM_SEL, R.KV_BW]

/-- The tfPort registers of R838. -/
def tfPortRegs : List RegD :=
  [R.TF_PORT_CFG, R.TF_PORT_LANEMAP, R.TF_LPORT_CTL, R.TF_LPORT_STAT, R.TF_LINK_PARTNER, R.TF_LPORT_EVT, R.TF_PTP_TXTS, R.TF_LANE_STAT, R.TF_LANE_EVT, R.TF_TIME_NOW, R.TF_TIME_ADJ, R.TF_TIME_STEP, R.TF_PPS_CAP, R.TF_TOD_RX, R.TF_TOD_TX, R.TF_FRM_CTL, R.TF_FRM_STAT, R.TF_FRM_APS, R.TF_FRM_EVT, R.TF_FRM_CNT, R.TF_MAC_CNT]

/-- The tfOther registers of R838. -/
def tfOtherRegs : List RegD :=
  [R.TF_PARSE_PORT, R.TF_HASH_PROF, R.TF_PARSE_CNT, R.TF_SPREAD_STAT, R.TF_ROUTE_CTL, R.TF_ROUTE_STAT, R.TF_ROUTE_SPACE, R.TF_NH_STAT, R.TF_EPOCH, R.TF_ROUTE_EVT, R.TF_ROUTE_CLASS, R.TF_ROUTE_CNT, R.TF_BANK_STAT, R.TF_EM_CTL, R.TF_EM_SEED, R.TF_EM_STAT, R.TF_EM_LSTAT, R.TF_EM_EVT, R.TF_EM_TABLE, R.TF_EM_LEARN, R.TF_EM_TSTAT, R.TF_EM_CNT, R.TF_CLASS_STAT, R.TF_ASSOC_STAT, R.TF_CLASS_EVT, R.TF_CLASS_PROF, R.TF_ASSOC_BANKSEL, R.TF_ASSOC_GMASK0, R.TF_ASSOC_GMASK1, R.TF_ASSOC_GMASK2] ++
  [R.TF_ASSOC_BANK, R.TF_CLASS_CNT, R.TF_EG_EVT, R.TF_EG_CNT, R.TF_EG_PROF, R.TF_EG_PORT, R.TF_MEM_CFG, R.TF_MEM_STAT, R.TF_MEM_EVT, R.TF_MEM_CNT, R.TF_MEM_PKG, R.TF_MEM_CH, R.TF_TBL_CTL, R.TF_TBL_STAT, R.TF_TBL_EVT, R.TF_SPARE_CTL, R.TF_SPARE_STAT, R.TF_HOST_CTL, R.TF_HOST_STAT, R.TF_HOST_EVT, R.TF_HOST_CNT, R.TF_SAMPLE_CTL, R.TF_SAMPLE_SEED, R.TF_EVT_SUM, R.TF_EVT_MASK, R.TF_EVT_MAP]

/-- The dt registers of R838. -/
def dtRegs : List RegD :=
  [R.DT_BUF_CFG, R.DT_POOL_FREE, R.DT_SHARED_STAT, R.DT_SHARED_STAT2, R.DT_TAIL_STAT, R.DT_ADM_LOOP, R.DT_RESEQ_CTL, R.DT_BUF_EVT, R.DT_ADM_PROF, R.DT_BUF_CNT, R.DT_RESEQ_STAT, R.DT_LOSSLESS, R.DT_PORT_HOLD, R.DT_HOLD_STAT, R.DT_MIRROR, R.DT_PORT_CNT, R.DT_SCHED_CTL, R.DT_CREDIT_STAT, R.DT_SCHED_EVT, R.DT_SCHED_CNT, R.DT_EQ_PORT, R.DT_POL_PORT, R.DT_EQ_STAT, R.DT_FAB_CTL, R.DT_FAB_STAT, R.DT_FAB_EVT, R.DT_FAB_CNT, R.DT_FAB_PLANE, R.DT_FAB_LANE, R.DT_FAB_DEST] ++
  [R.DT_MEM_CFG, R.DT_MEM_STAT, R.DT_MEM_EVT, R.DT_MEM_CNT, R.DT_MEM_PKG, R.DT_MEM_CH, R.DT_LOSS_CNT, R.DT_GUAR_EVT, R.DT_DRAIN_STAT, R.DT_EVT_SUM, R.DT_EVT_MASK]

/-- The bar2 registers of R838. -/
def bar2Regs : List RegD :=
  [R.TF_QCTX_BASE, R.TF_QCTX_CFG, R.TF_QCTX_CPL, R.TF_QCTX_WB, R.TF_QCTX_STAT, R.TF_QCTX_ERR]

/-- Every register of the module. -/
def regTable : List RegD := commonRegs ++ tfPortRegs ++ tfOtherRegs ++ dtRegs ++ bar2Regs

end Sys2Proof.Machine
end

