-- ==== Sys2Proof/Machine/DataTypes.lean ====
section
/-! DEFINITION. The parts of the state that hold the datapath (chapters 3 to 13), and the log of what the device
sends. -/

namespace Sys2Proof.Machine

/-- What the device sends or drives: frames, flow-control frames, IDL and fabric traffic, chain frames, host
writes, reads, messages and completions, sideband answers, and pulses on pins. The log grows at its end. -/
inductive Out where
  | frame (lport : Nat) (bytes : List Byte) (fcsOk : Bool)
  | pfc (lport enable : Nat) (quanta : List Nat)
  | framed (lport mfas aps stat : Nat) (bdi : Bool) (slices : List SliceTx)
  | linkFrame (lane : Nat) (kind : LinkKind) (seq ack : Nat) (cell : Option Cell)
  | chainDown (kind xfer seq : Nat) (bytes : List Byte)
  | chainUp (kind pos xfer : Nat) (payload : Word)
  | dmaRead (fn tag addr len : Nat)
  | dmaWrite (fn addr : Nat) (words : List Word)
  | dmaBytes (fn addr : Nat) (bytes : List Byte)
  | msi (vector addr data : Nat)
  | msix (vector addr data : Nat)
  | inta (level : Bool)
  | cplUR (fn : Nat)
  | cplCfg (fn : Nat)
  | readData (source addr : Nat) (data : Word) (status : Nat)
  | ppsPulse
  | todTx (bytes : List Byte)
  | thermtrip (low : Bool)
  | avs (rail mv : Nat)
  | flash (port : Nat) (octal : Bool) (cmd : FlashCmd)
  | mcStart (m : Nat)
  | refresh (ch : Nat)
  deriving DecidableEq, Repr

/-- The ports (chapters 3, 4 and 12): physical ports, logical ports, lanes, framed ports, delivery reports on
their way to DT, the time-of-day transmission that waits for a PPS edge, whether device time has reached a whole second
whose pulse has not risen, when on the reference the last pulse falls (R120), and when the last edge of `PPS_IN` came (R833). -/
structure PortSt where
  phys : Tab PhysPort
  lports : Tab LPort
  lanes : Tab LaneEq
  frm : Tab FrmSt
  reports : List Report
  todDue : Option Nat
  ppsDue : Bool
  ppsHigh : Nat
  ppsIn : Option Nat
  deriving DecidableEq, Repr

/-- The tables beyond the views (chapters 5 to 8): the associative array with each bank's shift and waiting
entries, learning records on their way to and in the learning queue, the own sequence and the last one applied of
each origin, the records each pipeline sent last, what is poisoned as (kind, key), how long each bank has been
above `balance_high`, the fault times of banks, the bytes of each uncharged copy, the moves under way, member rewrites
not yet committed (the engine's own, and those of the open batch), the exact-match slots that the predecessor epoch
still reads, when each index in quarantine was deleted, and the partition in MiB (routes, exact match, next hop,
trees). -/
structure TblSt where
  assoc : Tab AssocEntry
  jobs : Tab AssocJobs
  learnIn : List LearnRec
  learnQ : List LearnRec
  learnSeq : Nat
  lastSeq : Tab Nat
  sent : Tab (List LearnRec)
  poison : List (Nat × Nat)
  bankOver : Tab Nat
  bankFaults : Tab (List Nat)
  copies : List Nat
  moves : List NodeMove
  rewrites : Nat
  batchRewrites : Nat
  emOld : List (Nat × Nat)
  quarAt : Tab Nat
  shares : List Nat
  deriving DecidableEq, Repr

/-- The tables after system reset, with the default partition (R30). -/
def tblSt0 : TblSt := ⟨[], [], [], [], 0, [], [], [], [], [], [], [], 0, 0, [], [], [224, 160, 64, 48]⟩

/-- The inter-die link (R19 to R23, R358): failed lanes of each lane group by direction, units in flight from
TF to DT, and mirror copies that wait at TF for room. -/
structure IdlSt where
  failed : Tab (List Nat)
  up : List IdlUnit
  mirrors : List IdlUnit
  deriving DecidableEq, Repr

/-- The buffer, admission and the tail (chapter 9): resequencers, bodies by handle, the next handle, blocks in use of
each pool, split blocks and the next number of one, bytes charged to each port's resequencing, to the tether and to
the shared region, VOQs, port views, lossless accounts, the VOQ that
owns each tail segment in use, when each hold began, since when cut-through is held off for a pair, bytes reserved by grants for each (source,
port, class), refusals under THRESHOLD of each profile since the last loop step, and failed macros. -/
structure BufSt where
  reseq : Tab Reseq
  bodies : Tab Body
  nextBody : Nat
  used : List Nat
  splits : Tab SplitBlk
  nextSplit : Nat
  reseqUse : Tab Nat
  tether : Nat
  shared : Nat
  voqs : Tab Voq
  views : Tab PView
  holdAt : Tab Nat
  loss : Tab LossAcct
  segsUsed : Tab Nat
  ctOff : Tab Nat
  resv : Tab Nat
  thrRef : Tab Nat
  badMacros : List Nat
  deriving DecidableEq, Repr

/-- The empty buffer. -/
def bufSt0 : BufSt :=
  ⟨[], [], 0, [0, 0, 0], [], 0, [], 0, 0, [], [], [], [], [], [], [], [], []⟩

/-- Queues, scheduling and credits (chapter 10): egress queues, nodes, policers, units dispatched and not resolved, the
next descriptor number, units that wait for their body before they are sent again, the source modules whose VOQ is
hungry for each (port, class), the port node that a physical port served last, and the VOQ served last. -/
structure SchedSt where
  queues : Tab (List Pkt)
  nodes : Tab Node
  pols : Tab Policer
  outst : Tab Outstanding
  nextH : Nat
  resend : List Nat
  reqs : Tab (List Nat)
  rrPort : Tab Nat
  rrVoq : Nat
  deriving DecidableEq, Repr

/-- Nothing queued. -/
def schedSt0 : SchedSt := ⟨[], [], [], [], 0, [], [], [], 0⟩

/-- The fabric interface (chapter 11): link layers of lanes, cells delivered in order by the lanes, source streams and
destination resequencers by 16 × module + stream, peers, messages that wait, the share of control cells of each lane
(window of 10 µs, control bytes, all bytes, and whether the last cell was DATA), faults not yet mended (lanes 0 to 319,
and 320 + 8 × module + plane), the lane of each plane that carried the last heartbeat, and whether an id conflict was
found. -/
structure FabSt where
  links : Tab FabLink
  arrived : List (Nat × Cell)
  tx : Tab TxStream
  rx : Tab RxStream
  peers : Tab Peer
  msgs : Tab MsgQ
  share : Tab (Nat × Nat × Nat × Bool)
  down : Tab Bool
  hbLane : Tab Nat
  conflict : Bool
  laneAt : Tab Nat
  hbSent : Option Nat
  deriving DecidableEq, Repr

/-- No fabric traffic. -/
def fabSt0 : FabSt := ⟨[], [], [], [], [], [], [], [], [], false, [], none⟩

/-- Memory channels by number: tail channels 0 to 103, ballast channels from 104 (chapter 13), the table shadow in the
ballast with that of the associative array, whether it was kept at the last LOAD (R578), whether its epoch record is
intact, the delays that each channel saved in retained SRAM (R563), the transactions of the tail's and of the ballast's
channels (R549, R559 to R561), how many ballast transactions there were, when each side last issued a scrub transaction
(R560), and since when its scrub pass runs (R575). -/
structure MemSt where
  chans : Tab MemCh
  shadow : View
  assoc : Tab AssocEntry
  kept : Bool
  intact : Bool
  saved : Tab (List Int)
  tq : Tab MemQ
  bq : Tab MemQ
  bseq : Nat
  scrubAt : Tab Nat
  passAt : Tab Nat
  deriving DecidableEq, Repr

/-- The memories at power-on. -/
def memSt0 : MemSt := ⟨[], view0, [], false, false, [], [], [], 0, [], []⟩

end Sys2Proof.Machine
end

