-- ==== Sys2Proof/Machine/State.lean ====
section
/-! DEFINITION. The state of the module: everything the spec gives it, as plain data; the reasons of faults and
refusals; and the state at power-on. -/

namespace Sys2Proof.Machine

/-- No command of this module stops the machine with a fault: the spec gives every event it lists an effect, so
this type has no constructor (nobody raises a fault; safe). -/
inductive Fault where
  deriving DecidableEq, Repr

/-- Refusals. -/
inductive Refusal where
  /-- Raised only by an arm of `exec` whose command has no meaning yet; safe. -/
  | notModelled (mnemonic : String)
  deriving DecidableEq, Repr

/-- The module. -/
structure State where
  /-- Commands that wait, first in first out (the model's own queue). -/
  pending : List Instr
  /-- The registers of R838, by BAR0 byte address; an unlisted register holds its reset word. -/
  regs : Tab Word
  /-- Device time in nanoseconds (R114). -/
  time : Nat
  /-- Nanoseconds on the 25 MHz reference since power-on (R786). -/
  up : Nat
  /-- The fraction of a nanosecond that the rate correction has gathered, in units of 1 ns / (1024 × 10^9) (R114). -/
  frac : Nat
  /-- How many free values the steps have used (the model's own). -/
  fv : Nat
  /-- What the device has sent. -/
  out : List Out
  /-- The tables in force (R239). -/
  act : View
  /-- The tables with the engine's own changes that it has not committed (R619). -/
  engV : View
  /-- The inactive view: those and the open batch (R239). -/
  inact : View
  rst : RstSt
  boot : BootSt
  fw : FwSt
  mc : McSt
  eng : EngSt
  host : HostSt
  pwr : PwrSt
  tlm : TlmSt
  port : PortSt
  tbl : TblSt
  idl : IdlSt
  buf : BufSt
  sch : SchedSt
  fab : FabSt
  mem : MemSt
  /-- The 64 KiB of retained SRAM (R701): bytes that are not 0, by offset. -/
  sram : List Host.Cell
  /-- The retained words, by offset, that an uncorrectable error has struck (R702, R854). -/
  sramBad : List Nat
  /-- The boot record of the retained SRAM (R701). -/
  rec0 : BootRec
  /-- The sideband's last read (R855): data and status. -/
  smb : Option (Word × Nat)
  /-- The status that the sideband's next Block Read answers in place of it (R855, R856, R858). -/
  smbNext : Option Nat
  deriving DecidableEq, Repr

/-- At power-on: the internal detector asserts (R678), the mode is HELD, nothing else has happened. -/
def State.reset : State where
  pending := []
  regs := []
  time := 0
  up := 0
  frac := 0
  fv := 0
  out := []
  act := view0
  engV := view0
  inact := view0
  rst := ⟨3, [.por], none, false, [], false, 0, 0, 0, [], 0⟩
  boot := ⟨bank0, bank0, none, none, .default, .default, [], none, none, false, false, 0, 0, 0⟩
  fw := ⟨false, .idle, none, [], none, 0, [], 32, false, [none, none], 0, none, []⟩
  mc := mcSt0
  eng := eng0
  host := host0
  pwr := pwr0
  tlm := tlm0
  port := ⟨[], [], [], [], [], none, false, 0, none⟩
  tbl := tblSt0
  idl := ⟨[], [], []⟩
  buf := bufSt0
  sch := schedSt0
  fab := fabSt0
  mem := memSt0
  sram := []
  sramBad := []
  rec0 := bootRec0
  smb := none
  smbNext := none

end Sys2Proof.Machine
end

