-- ==== Sys2Proof/Machine/Ops.lean ====
section
/-! DEFINITION. The named operations over the state that every meaning is written with: reading and writing
registers and their fields, counting, raising events, what the device sends, free values, and the mode. -/

namespace Sys2Proof.Machine

/-! ### Registers -/

/-- The BAR0 address of instance (i, j) of a register array (R838). -/
def regAddr (r : RegD) (i j : Nat) : Nat := r.base + i * r.stride + j * r.stride2

/-- The reset word of instance i (R15). -/
def resetWord (r : RegD) (i : Nat) : Word := r.reset + BitVec.ofNat 64 (i * r.resetMul)

/-- The instance of an array at an address, if there is one (R839). -/
def regIdx (r : RegD) (a : Nat) : Option (Nat × Nat) :=
  if a < r.base then none
  else
    let d := a - r.base
    if r.stride = 0 then (if d = 0 then some (0, 0) else none)
    else if r.n2 = 0 then
      (if d % r.stride = 0 ∧ d / r.stride < r.n then some (d / r.stride, 0) else none)
    else
      let e := d % r.stride
      if d / r.stride < r.n ∧ e % r.stride2 = 0 ∧ e / r.stride2 < r.n2 then
        some (d / r.stride, e / r.stride2) else none

/-- The word of a register. -/
def State.rd (s : State) (r : RegD) (i : Nat := 0) (j : Nat := 0) : Word :=
  tget s.regs (regAddr r i j) (resetWord r i)

/-- Store a register's word. -/
def State.wr (s : State) (r : RegD) (w : Word) (i : Nat := 0) (j : Nat := 0) : State :=
  { s with regs := tput s.regs (regAddr r i j) w (resetWord r i) }

/-- The value of a field. -/
def State.get (s : State) (f : Fld) (i : Nat := 0) (j : Nat := 0) : Nat :=
  bits (s.rd f.reg i j).toNat f.lo f.w

/-- A one-bit field as a truth value. -/
def State.flag (s : State) (f : Fld) (i : Nat := 0) (j : Nat := 0) : Bool := s.get f i j == 1

/-- Store a field: the low bits of the value that fit. -/
def State.put (s : State) (f : Fld) (v : Nat) (i : Nat := 0) (j : Nat := 0) : State :=
  s.wr f.reg (BitVec.ofNat 64 (setBits (s.rd f.reg i j).toNat f.lo f.w v)) i j

/-- Raise an event bit, or set any one-bit field. -/
def State.raise (s : State) (f : Fld) (i : Nat := 0) (j : Nat := 0) : State := s.put f 1 i j

/-- Clear a field. -/
def State.zero (s : State) (f : Fld) (i : Nat := 0) (j : Nat := 0) : State := s.put f 0 i j

/-- Add to a field that saturates. -/
def State.addSat (s : State) (f : Fld) (n : Nat) (i : Nat := 0) (j : Nat := 0) : State :=
  s.put f (satAdd (2 ^ f.w - 1) (s.get f i j) n) i j

/-- Add to a field that wraps. -/
def State.addWrap (s : State) (f : Fld) (n : Nat) (i : Nat := 0) (j : Nat := 0) : State :=
  s.put f (s.get f i j + n) i j

/-- Does some listed instance of an array hold a word with the property? -/
def State.anyReg (s : State) (r : RegD) (p : Word → Bool) : Bool :=
  s.regs.any (fun e => (regIdx r e.1).isSome && p e.2)

/-- The bits of a register that have an access type (R9). -/
def accMask (r : RegD) (a : Acc) : Nat :=
  (r.fields.map (fun f => if f.acc = a then (2 ^ f.w - 1) * 2 ^ f.lo else 0)).sum

/-- The bits that the image sets of a register that it loads (R12, R711): the fields that software could write, and of
`TF_PORT_CFG` the breakout and the framing (R85, R129). -/
def imageMask (r : RegD) : Nat := accMask r .rw ||| accMask r .rwl ||| (if r = R.TF_PORT_CFG then 0xF else 0)

/-- A word with those bits of an image word; the others, reserved ones among them, stay. -/
def imageWord (r : RegD) (old w : Word) : Word :=
  (old &&& ~~~ BitVec.ofNat 64 (imageMask r)) ||| (w &&& BitVec.ofNat 64 (imageMask r))

/-- Load a register from a word of the image (R12, R711). -/
def State.load (s : State) (r : RegD) (w : Word) (i : Nat := 0) (j : Nat := 0) : State :=
  s.wr r (imageWord r (s.rd r i j) w) i j

/-! ### What the device sends, and free values -/

/-- Send. -/
def State.emit (s : State) (o : Out) : State := { s with out := s.out ++ [o] }

/-- Send several. -/
def State.emits (s : State) (os : List Out) : State := { s with out := s.out ++ os }

/-- Take the next free value: its number, and the state in which the following one is next. -/
def State.fresh (s : State) : Nat × State := (s.fv, { s with fv := s.fv + 1 })

/-! ### Counters (R60, R776 to R782) -/

/-- A counter word with n more (R60): it saturates at 2^63 - 1 and then sets `sat`. -/
def cntAdd (w : Word) (n : Nat) : Word :=
  if w.toNat % 2 ^ 63 + n < 2 ^ 63 - 1 ∧ w.toNat < 2 ^ 63 then BitVec.ofNat 64 (w.toNat + n)
  else BitVec.ofNat 64 (2 ^ 64 - 1)

/-- A counter group kept on die (R776): its number, its array, and counters per instance. -/
structure CntGroup where
  grp : Nat
  reg : RegD
  per : Nat
  deriving DecidableEq, Repr

def cgLoss : CntGroup := ⟨0, R.DT_LOSS_CNT, 32⟩
def cgPort : CntGroup := ⟨1, R.DT_PORT_CNT, 32⟩
def cgMac : CntGroup := ⟨2, R.TF_MAC_CNT, 16⟩
def cgParse : CntGroup := ⟨3, R.TF_PARSE_CNT, 8⟩
def cgRoute : CntGroup := ⟨4, R.TF_ROUTE_CNT, 8⟩
def cgEm : CntGroup := ⟨5, R.TF_EM_CNT, 16⟩
def cgClass : CntGroup := ⟨6, R.TF_CLASS_CNT, 16⟩
def cgEg : CntGroup := ⟨7, R.TF_EG_CNT, 16⟩
def cgHost : CntGroup := ⟨8, R.TF_HOST_CNT, 16⟩
def cgTfMem : CntGroup := ⟨9, R.TF_MEM_CNT, 16⟩
def cgBuf : CntGroup := ⟨10, R.DT_BUF_CNT, 16⟩
def cgSched : CntGroup := ⟨11, R.DT_SCHED_CNT, 16⟩
def cgFab : CntGroup := ⟨12, R.DT_FAB_CNT, 16⟩
def cgDtMem : CntGroup := ⟨13, R.DT_MEM_CNT, 16⟩
def cgFrm : CntGroup := ⟨14, R.TF_FRM_CNT, 8⟩
def cgTlm : CntGroup := ⟨18, R.KV_TLM_CNT, 8⟩

/-- The key of a counter among the window counts: group and flat index (R776). -/
def cntKey (g flat : Nat) : Nat := g * 2 ^ 24 + flat

/-- Add to a table of numbers. -/
def tinc (t : Tab Nat) (k n : Nat) : Tab Nat := tput t k (tget t k 0 + n) 0

/-- Add to the live set of the window that runs (R781). -/
def State.liveCount (s : State) (key n : Nat) : State :=
  if s.tlm.running then { s with tlm := { s.tlm with live := tinc s.tlm.live key n } } else s

/-- Count at `KV_TLM_CNT[k]` (R776, R807), now. -/
def State.tlmCount (s : State) (k n : Nat) : State :=
  (s.wr R.KV_TLM_CNT (cntAdd (s.rd R.KV_TLM_CNT k) n) k).liveCount (cntKey 18 k) n

/-- The window part of a count with attribution time t (R780, R782): into the open shadow set when t lies before
its boundary, else into the live set; late when the window of t has closed. -/
def State.windowCount (s : State) (g flat n t : Nat) : State :=
  let key := cntKey g flat
  if n = 0 then s
  else
    match s.tlm.shadow with
    | some sh =>
      if t < sh.finish then
        { s with tlm := { s.tlm with shadow := some { sh with counts := tinc sh.counts key n } } }
      else s.liveCount key n
    | none =>
      let s1 := s.liveCount key n
      if s.tlm.running = true ∧ t < s.tlm.start then
        (({ s1 with tlm := { s1.tlm with late := s1.tlm.late ++ [key] } }).tlmCount 2 n).raise F.KV_TLM_EVT_late_attr
      else s1

/-- Count n at counter k of instance i of an on-die group, with attribution time t (R776, R778). -/
def State.countAt (s : State) (g : CntGroup) (i k n t : Nat) : State :=
  let a : Nat × Nat := if g.reg.n2 = 0 then (k, 0) else (i, k)
  (s.wr g.reg (cntAdd (s.rd g.reg a.1 a.2) n) a.1 a.2).windowCount g.grp (i * g.per + k) n t

/-- Count one event now. -/
def State.count (s : State) (g : CntGroup) (k : Nat) (i : Nat := 0) (n : Nat := 1) : State :=
  s.countAt g i k n s.time

/-- Count in a backed group (R779): into the accumulator. -/
def State.countBacked (s : State) (g flat n t : Nat) : State :=
  ({ s with tlm := { s.tlm with accum := tinc s.tlm.accum (cntKey g flat) n } }).windowCount g flat n t

/-! ### The mode (R33, R35, R41) -/

def OFF : Nat := 0
def HELD : Nat := 1
def LOAD : Nat := 2
def TRAIN : Nat := 3
def RAISE : Nat := 4
def RUN : Nat := 5
def DEGRADED : Nat := 6
def PROBATION : Nat := 7
def DRAIN : Nat := 8
def QUIESCED : Nat := 9
def MAINTENANCE : Nat := 10
def SAFE : Nat := 11

/-- The current mode (R33). -/
def State.mode (s : State) : Nat := s.get F.KV_MODE_mode

/-- Change the mode (R33, R41): `prev_mode`, the count of changes and the event follow; the failure count is
cleared on reaching RUN or DEGRADED (R37, R709). -/
def State.enterMode (s : State) (m : Nat) : State :=
  if s.mode = m then s
  else
    let s1 := (((s.put F.KV_MODE_prev_mode s.mode).addWrap F.KV_MODE_mode_changes 1).put
      F.KV_MODE_mode m).raise F.KV_EVT_mode_change
    if m = RUN ∨ m = DEGRADED then { s1 with rec0 := { s1.rec0 with fails := 0 } } else s1

/-- The modes that forward (R35). -/
def State.forwarding (s : State) : Bool :=
  s.mode == RUN || s.mode == DEGRADED || s.mode == PROBATION || s.mode == SAFE

/-- Is the datapath out of reset and brought up: every mode from RAISE's end on (R35, R736)? -/
def State.live (s : State) : Bool := decide (RUN ≤ s.mode)

/-- Is the device out of reset? -/
def State.awake (s : State) : Bool := decide (LOAD ≤ s.mode)

/-- Is admission open (R35)? -/
def State.admits (s : State) : Bool := s.forwarding

/-- Is the module's topology profile STANDALONE (R47)? -/
def State.standalone (s : State) : Bool := s.get F.KV_MODE_topology == 1

/-- The module's own id (R33). -/
def State.myId (s : State) : Nat := s.get F.KV_MODE_module_id

/-! ### Unit faults (R61 to R64) -/

/-- Record a unit fault: kind and index; whether its group had cover left before it, and has after it. -/
def State.unitFault (s : State) (kind idx : Nat) (coverBefore coverAfter : Bool) : State :=
  let s1 := ((s.put F.DT_GUAR_EVT_unit_kind kind).put F.DT_GUAR_EVT_unit_index idx).addSat
    F.DT_GUAR_EVT_unit_faults 1
  let s2 := if coverBefore then s1 else s1.raise F.DT_GUAR_EVT_double_fault
  if coverAfter then s2 else s2.raise F.DT_GUAR_EVT_cover_lost

/-- Count packets lost under a cause of R57 that belongs to no port. -/
def State.loss (s : State) (k : Nat) : State := s.count cgLoss k

/-- Count a packet lost or disposed of under a cause of R57, by its receiving logical port, attributed to its
arrival (R777, R778); causes after acceptance are attributed to the event. -/
def State.lossAt (s : State) (k lport arrival : Nat) : State :=
  let t := if k < 16 then arrival else s.time
  (s.countAt cgLoss 0 k 1 t).countAt cgPort lport k 1 t

/-- IEEE 802.3 CRC-32 of bytes (R754, R758, R813). -/
def crc32 (l : List Byte) : Nat := (crcRefl 0xEDB88320 0xFFFFFFFF l) ^^^ 0xFFFFFFFF

end Sys2Proof.Machine
end

