-- ==== Sys2Proof/Machine/MemPort.lean ====
section
/-! DEFINITION. The five ports of the memory controllers and the transactions of the channels (R547, R549, R552 to R557, R559
to R561, R573). Channels 0 to 103 are BC0 to BC103, and 104 + n is SCn. -/

namespace Sys2Proof.Machine

/-! ### Channels (R547, R567) -/

/-- Is a channel number one of the tail's? -/
def isTail (ch : Nat) : Bool := decide (ch < 104)

/-- Is it a channel at all? -/
def isCh (ch : Nat) : Bool := decide (ch < 120)

/-- The DT or the TF form of a register field. -/
def side (ch : Nat) (d t : Fld) : Fld := if isTail ch then d else t

/-- A channel's number on its side. -/
def chIdx (ch : Nat) : Nat := if isTail ch then ch else ch - 104

/-- The state of a channel (R567). -/
def State.chState (s : State) (ch : Nat) : Nat := s.get (side ch F.DT_MEM_CH_state F.TF_MEM_CH_state) (chIdx ch)

/-- Does a channel carry transactions: IN or CATCHUP (R567)? -/
def State.chServes (s : State) (ch : Nat) : Bool := isCh ch && (s.chState ch == 2 || s.chState ch == 4)

/-- What is held of a channel. -/
def State.memCh (s : State) (ch : Nat) : MemCh := tget s.mem.chans ch memCh0

/-- The mirror of a ballast channel (R547). -/
def mirrorOf (ch : Nat) : Nat := if ch < 112 then ch + 8 else ch - 8

/-- The grain of the tail in bytes (R553). -/
def State.tailGrain (s : State) : Nat := 256 * 2 ^ min 4 (s.get F.DT_MEM_CFG_grain)

/-- The grain of the ballast in bytes (R553). -/
def State.ballastGrain (s : State) : Nat := 256 * 2 ^ min 8 (s.get F.TF_MEM_CFG_grain)

/-- May a ballast channel serve a grain: IN, or in CATCHUP with the grain off its log (R567)? -/
def State.mirrorServes (s : State) (ch y : Nat) : Bool :=
  s.chState ch == 2 || (s.chState ch == 4 && !(s.memCh ch).overflow &&
    !(s.memCh ch).log.contains (y / s.ballastGrain))

/-! ### One channel's transactions (R549, R560, R561) -/

/-- Of waiting transactions in the order of their arrival, those that no earlier one to the same address holds back;
`seen` are the addresses of the earlier ones (R561). -/
def readyTx (seen : List Nat) : List MemTx → List MemTx
  | [] => []
  | x :: r => if seen.contains x.addr then readyTx seen r else x :: readyTx (x.addr :: seen) r

/-- The one that is issued first: of the highest rank, the oldest (R559, R560). -/
def firstTx (l : List MemTx) : Option MemTx :=
  l.foldl (fun o x => match o with
    | none => some x
    | some y => if x.rank < y.rank then some x else some y) none

/-- Issue at most n waiting transactions while fewer than 64 are outstanding (R549). -/
def issueTx : Nat → MemQ → MemQ
  | 0, q => q
  | n + 1, q =>
    if 64 ≤ q.issued.length then q
    else match firstTx (readyTx [] q.waiting) with
      | none => q
      | some t => issueTx n ⟨q.issued ++ [t], q.waiting.erase t⟩

/-- Transactions arrive at their ports. -/
def addTxs (q : MemQ) (l : List MemTx) : MemQ :=
  issueTx (q.waiting.length + l.length) { q with waiting := q.waiting ++ l }

/-- The oldest outstanding transaction of a port: the next of that port to complete (R561). -/
def oldestTx (q : MemQ) (rank : Nat) : Option MemTx := q.issued.find? (fun t => decide (t.rank = rank))

/-- May a transaction complete now: an outstanding one with no earlier one to its address; any other when it can be issued
and nothing to its address is under way (R549, R561)? -/
def mayEnd (q : MemQ) (t : MemTx) : Bool :=
  if q.issued.contains t then (q.issued.takeWhile (fun x => x != t)).all (fun x => x.addr != t.addr)
  else decide (q.issued.length < 64) && (q.issued ++ q.waiting).all (fun x => x.addr != t.addr)

/-- A transaction has completed: what waits takes its place. -/
def endTx (q : MemQ) (t : MemTx) : MemQ := issueTx q.waiting.length { q with issued := q.issued.erase t }

/-! ### The controllers (R554, R556, R559) -/

/-- A channel's transactions. -/
def State.memq (s : State) (ch : Nat) : MemQ := tget (if isTail ch then s.mem.tq else s.mem.bq) (chIdx ch) memQ0

/-- Store them. -/
def State.setMemq (s : State) (ch : Nat) (q : MemQ) : State :=
  if isTail ch then { s with mem := { s.mem with tq := tput s.mem.tq ch q memQ0 } }
  else { s with mem := { s.mem with bq := tput s.mem.bq (chIdx ch) q memQ0 } }

/-- Transactions of 256 B that make up some bytes from an address on (R549). -/
def spanTxs (rank addr bytes : Nat) (write : Bool) : List MemTx :=
  (List.range ((bytes + 255) / 256)).map (fun i => ⟨rank, addr + 256 * i, write⟩)

/-- The unit of a tail row at a position is read or written through a port, if its channel carries transactions. -/
def State.tailUnit (s : State) (rank grp row : Nat) (write : Bool) (pos : Nat) : State :=
  let ch := 13 * grp + pos
  if s.chServes ch then
    s.setMemq ch (addTxs (s.memq ch) (spanTxs rank (row * s.tailGrain) s.tailGrain write))
  else s

/-- A whole row is written with its parity unit: through rank 2, to every channel that takes writes (R555, R558). -/
def State.rowWrite (s : State) (grp row : Nat) : State :=
  (List.range 13).foldl (fun (t : State) pos => t.tailUnit 2 grp row true pos) s

/-- The positions that a row is read from (R558): its data units, and for one that is missing the parity unit. -/
def rowUnits (row : Nat) (missing : List Nat) : List Nat :=
  let data := (List.range 12).map (fun j => (row % 13 + 1 + j) % 13)
  (if data.any (fun p => missing.contains p) then row % 13 :: data else data).filter (fun p => !missing.contains p)

/-- A row is read through rank 1. -/
def State.rowRead (s : State) (grp row : Nat) (missing : List Nat) : State :=
  (rowUnits row missing).foldl (fun (t : State) pos => t.tailUnit 1 grp row false pos) s

/-- Regions of the ballast: first byte and size (R557, R787, R796). -/
def shadowRegion : Nat × Nat := (0, 0x80000000)
def counterRegion : Nat × Nat := (0x80000000, 0x100000000)
def ringRegion (i : Nat) : Nat × Nat := (0x180000000 + 0x20000000 * i, 0x20000000)

/-- Transactions arrive at a channel of a table of channels. -/
def addAt (t : Tab MemQ) (i : Nat) (l : List MemTx) : Tab MemQ := tput t i (addTxs (tget t i memQ0) l) memQ0

/-- The channel of a pair that a read of ballast byte y goes to (R556, R567): of those that hold it the one with fewer
transactions outstanding, the lower on a tie. -/
def State.readChan (s : State) (k y : Nat) : Option Nat :=
  let n (i : Nat) : Nat := (s.memq (104 + i)).issued.length
  match s.mirrorServes (104 + k) y, s.mirrorServes (112 + k) y with
  | true, true => some (if n (k + 8) < n k then k + 8 else k)
  | true, false => some k
  | false, true => some (k + 8)
  | false, false => none

/-- A transaction of 256 B to ballast byte y (R556): a write to both copies, a read from one. -/
def State.ballastAt (s : State) (rank y : Nat) (write : Bool) : Tab MemQ :=
  let m := ballastMap s.ballastGrain y
  let tx : List MemTx := [⟨rank, m.2.2, write⟩]
  if write then
    ([m.1, m.2.1].filter (fun i => s.chServes (104 + i))).foldl (fun (t : Tab MemQ) i => addAt t i tx) s.mem.bq
  else match s.readChan m.1 y with
    | some i => addAt s.mem.bq i tx
    | none => s.mem.bq

/-- A transaction to a region of the ballast; where in it the item lies is open, so a free value says (log 141). -/
def State.ballastTx (s : State) (rank : Nat) (r : Nat × Nat) (write : Bool) : State :=
  let y := r.1 + 256 * (Config.place s.mem.bseq % (r.2 / 256))
  { s with mem := { s.mem with bq := s.ballastAt rank y write, bseq := s.mem.bseq + 1 } }

/-- Several of them. -/
def State.ballastTxs (s : State) (rank : Nat) (r : Nat × Nat) (write : Bool) : Nat → State
  | 0 => s
  | n + 1 => (s.ballastTx rank r write).ballastTxs rank r write n

end Sys2Proof.Machine
end

