-- ==== Sys2Proof/Machine/HostCfg.lean ====
section
/-! DEFINITION. The configuration space of the two functions (R627 to R634, R667), and messages (R641 to R644). -/

namespace Sys2Proof.Machine

/-- The reset value of a configuration doubleword (R627 to R629, R634, R667); fields the spec does not list take
the values of the base specification (PRESUMED for those). -/
def cfgReset (fn off : Nat) : BitVec 32 :=
  match fn, off with
  | 0, 0x00 => 0x94201D5B
  | _, 0x00 => 0x94211D5B
  | _, 0x04 => 0x00100000
  | 0, 0x08 => 0x08800010
  | _, 0x08 => 0x02800010
  | _, 0x0C => 0x00800000
  | _, 0x10 => 0x00000004
  | 1, 0x18 => 0x00000004
  | _, 0x2C => 0x00001D5B
  | _, 0x34 => 0x00000040
  | 0, 0x3C => 0x00000100
  | 0, 0x40 => 0x00035001
  | 1, 0x40 => 0x00037001
  | _, 0x44 => 0x00000008
  | 0, 0x50 => 0x018A7005
  | 0, 0x70 => 0x00020010
  | 1, 0x70 => 0x0002B010
  | _, 0x74 => 0x10008002
  | _, 0x78 => 0x00002810
  | _, 0x94 => 0x0000001F
  | 1, 0xB0 => 0x07FF0011
  | 1, 0xB4 => 0x00000002
  | 1, 0xB8 => 0x00008002
  | _, 0x100 => 0x14820001
  | 0, 0x148 => 0x15810003
  | 1, 0x148 => 0x20010003
  | _, 0x14C => Config.serial.setWidth 32
  | _, 0x150 => (Config.serial >>> 32).setWidth 32
  | 0, 0x158 => 0x16810025
  | 0, 0x168 => 0x19010026
  | 0, 0x190 => 0x1D01002A
  | 0, 0x1D0 => 0x20010031
  | _, 0x200 => 0x0001000B
  | _, 0x204 => 0x01800001
  | _, 0x210 => 0x004EF010
  | _, _ => 0

/-- A configuration doubleword. -/
def State.cfg (s : State) (fn off : Nat) : BitVec 32 :=
  tget s.host.cfg (fn * 4096 + off) (cfgReset fn off)

/-- Bits of a configuration doubleword. -/
def State.cfgBits (s : State) (fn off lo w : Nat) : Nat := bits (s.cfg fn off).toNat lo w

/-- Store a configuration doubleword. -/
def State.setCfg (s : State) (fn off : Nat) (v : BitVec 32) : State :=
  { s with host := { s.host with cfg := tput s.host.cfg (fn * 4096 + off) v (cfgReset fn off) } }

/-- Store bits of a configuration doubleword. -/
def State.setCfgBits (s : State) (fn off lo w v : Nat) : State :=
  s.setCfg fn off (BitVec.ofNat 32 (setBits (s.cfg fn off).toNat lo w v))

/-- Is the function frozen (R664, R667)? -/
def State.frozen (s : State) (fn : Nat) : Bool := s.cfgBits fn 0x20C 0 1 == 1

/-- Memory Space Enable of a function in D0 (R633, R637). -/
def State.memEnabled (s : State) (fn : Nat) : Bool :=
  s.cfgBits fn 0x04 1 1 == 1 && s.cfgBits fn 0x44 0 2 == 0

/-- May the function issue requests and messages (R633, R642, R664): Bus Master Enable, D0, not frozen, link up? -/
def State.mayIssue (s : State) (fn : Nat) : Bool :=
  s.cfgBits fn 0x04 2 1 == 1 && s.cfgBits fn 0x44 0 2 == 0 && !s.frozen fn &&
    s.flag F.TF_HOST_STAT_link_up

/-- MSI Enable of PF0 (R641). -/
def State.msiOn (s : State) : Bool := s.cfgBits 0 0x50 16 1 == 1

/-- The MSI vector of a source (R641): s mod 2^(Multiple Message Enable). -/
def State.msiVector (s : State) (src : Nat) : Nat := src % 2 ^ min 5 (s.cfgBits 0 0x50 20 3)

/-- A PF0 message for a vector: sent when nothing holds it back, else its pending bit is set (R642, R643). -/
def State.msiSend (s : State) (v : Nat) : State :=
  if s.mayIssue 0 && s.cfgBits 0 0x60 v 1 == 0 then
    { s.emit (.msi v ((s.cfg 0 0x58).toNat * 2 ^ 32 + (s.cfg 0 0x54).toNat)
        (s.cfgBits 0 0x5C 0 16 / 32 * 32 + v)) with
      host := { s.host with msiPend := tput s.host.msiPend v false false } }
  else { s with host := { s.host with msiPend := tput s.host.msiPend v true false } }

/-- A doubleword of the MSI-X table (R634): entries reset masked. -/
def State.msixDw (s : State) (k : Nat) : BitVec 32 :=
  tget s.host.msix k (if k % 4 = 3 then 1 else 0)

/-- May vector v be sent now (R642)? -/
def State.msixReady (s : State) (v : Nat) : Bool :=
  s.cfgBits 1 0xB0 31 1 == 1 && s.cfgBits 1 0xB0 30 1 == 0 && bits (s.msixDw (4 * v + 3)).toNat 0 1 == 0 &&
    s.mayIssue 1

/-- An event for PF1 vector v (R642 to R644): sent, pending, or with MSI-X off recorded nowhere else. -/
def State.msixEvent (s : State) (v : Nat) : State :=
  if s.msixReady v then
    { s.emit (.msix v ((s.msixDw (4 * v + 1)).toNat * 2 ^ 32 + (s.msixDw (4 * v)).toNat)
        (s.msixDw (4 * v + 2)).toNat) with
      host := { s.host with pba := tput s.host.pba v false false } }
  else if s.cfgBits 1 0xB0 31 1 == 1 then
    { s with host := { s.host with pba := tput s.host.pba v true false } }
  else s

end Sys2Proof.Machine
end

