-- ==== Sys2Proof/Machine/Events.lean ====
section
/-! DEFINITION. The event tree (R799 to R803), the `degraded` bit (R33, R35, R39, R586), and how every meaning
ends: `ok`. -/

namespace Sys2Proof.Machine

/-- Is an event bit of some instance of an array set (R799)? Event bits are its W1C fields. -/
def State.evtAny (s : State) (r : RegD) : Bool :=
  s.anyReg r (fun w => w.toNat &&& accMask r .w1c ≠ 0)

/-- The event arrays of the TF summary, bit 0 first (R799). -/
def tfEvtRegs : List RegD :=
  [R.KV_RST_EVT, R.KV_PWR_EVT, R.KV_FW_EVT, R.TF_LANE_EVT, R.TF_LPORT_EVT, R.TF_FRM_EVT, R.TF_ROUTE_EVT,
   R.TF_EM_EVT, R.TF_CLASS_EVT, R.TF_EG_EVT, R.TF_TBL_EVT, R.TF_MEM_EVT, R.TF_HOST_EVT, R.KV_TLM_EVT, R.KV_EVT]

/-- The event arrays of the DT summary (R799). -/
def dtEvtRegs : List RegD :=
  [R.DT_GUAR_EVT, R.DT_BUF_EVT, R.DT_SCHED_EVT, R.DT_FAB_EVT, R.DT_MEM_EVT]

/-- `TF_EVT_SUM` (R808). -/
def State.tfSum (s : State) : Nat := maskOf (tfEvtRegs.map s.evtAny)

/-- `DT_EVT_SUM` (R808). -/
def State.dtSum (s : State) : Nat := maskOf (dtEvtRegs.map s.evtAny)

/-- The TF summary bits of a source (R799). -/
def srcTf : Nat → List Nat
  | 0 => [14] | 1 => [0] | 2 => [1] | 3 => [2] | 4 => [3, 4, 5] | 5 => [6, 7, 8] | 6 => [9] | 7 => [10]
  | 8 => [11] | 9 => [12] | 10 => [13] | _ => []

/-- The DT summary bits of a source (R799). -/
def srcDt (n : Nat) : List Nat := if 11 ≤ n ∧ n ≤ 15 then [n - 11] else []

/-- Is a source pending, its source mask aside (R800, R803)? -/
def State.srcRaw (s : State) (n : Nat) : Bool :=
  (srcTf n).any (fun b => bitOf s.tfSum b && !bitOf (s.get F.TF_EVT_MASK_mask) b) ||
    (srcDt n).any (fun b => bitOf s.dtSum b && !bitOf (s.get F.DT_EVT_MASK_mask) b)

/-- Is a source pending (R800)? -/
def State.srcPending (s : State) (n : Nat) : Bool :=
  s.srcRaw n && !bitOf (s.get F.KV_EVT_SRC_MASK_mask) n

/-- `KV_EVT_SRC` (R808). -/
def State.evtSrc (s : State) : Nat := maskOf ((List.range 32).map s.srcPending)

/-- Is `ALERT_N` low (R803)? -/
def State.alert (s : State) : Bool :=
  s.flag F.KV_PWR_EVT_therm_alarm ||
    (List.range 32).any (fun n => bitOf (s.get F.KV_ALERT_CTL_alert_en) n && s.srcRaw n)

/-- A message for source n (R641, R801): its arm bit is cleared. -/
def State.srcMessage (s : State) (n : Nat) : State :=
  (s.put F.KV_EVT_ARM_arm (setBits (s.get F.KV_EVT_ARM_arm) n 1 0)).msiSend (s.msiVector n)

/-- Messages of the pending armed sources (R801), or the level of INTA with MSI disabled (R641). -/
def State.signal (s : State) : State :=
  if s.msiOn then
    ((List.range 16).filter (fun n => s.srcPending n && bitOf (s.get F.KV_EVT_ARM_arm) n)).foldl
      State.srcMessage s
  else
    let lvl := decide (s.evtSrc ≠ 0) && s.cfgBits 0 0x04 10 1 == 0 && !s.frozen 0 && s.awake
    if lvl = s.host.inta then s
    else { s.emit (.inta lvl) with host := { s.host with inta := lvl } }

/-- Is a controller out of service or not ready (R586)? Roles have a meaning from RAISE on. -/
def State.mcWeak (s : State) : Bool :=
  decide (RAISE ≤ s.mode) &&
    ([(s.get F.KV_MC_STAT_role0, 0), (s.get F.KV_MC_STAT_role1, 1)].any (fun r =>
      r.1 == 2 || r.1 == 3 || (r.1 == 1 && !s.flag F.KV_MC_HEALTH_ready r.2)))

/-- Is a controller lost: a declared fault with no pass since, or OUT (R65, R586)? Core reset, which tests both, loses none
(R43, R683; log 121). -/
def State.mcLost (s : State) : Bool :=
  decide (RAISE ≤ s.mode) &&
    ([(s.get F.KV_MC_STAT_role0, 0), (s.get F.KV_MC_STAT_role1, 1)].any (fun r =>
      r.1 == 3 || (r.1 == 2 && s.mc.lost.contains r.2)))

/-- Is a spare in use, or some other unit out (R33, R35, R65)? -/
def State.unitsOut (s : State) : Bool :=
  s.anyReg R.TF_SPARE_STAT (fun w => bits w.toNat 5 5 ≠ 0 || bits w.toNat 15 5 ≠ 0 ||
      [5, 7].contains (bits w.toNat 0 3) || [5, 7].contains (bits w.toNat 10 3)) ||
    s.anyReg R.TF_BANK_STAT (fun w => bitOf w.toNat 9) ||
    s.anyReg R.TF_MEM_CH (fun w => 3 ≤ bits w.toNat 0 3) ||
    s.anyReg R.DT_MEM_CH (fun w => 3 ≤ bits w.toNat 0 3) ||
    s.anyReg R.KV_BLK_STAT (fun w => bits w.toNat 5 3 == 4 && bits w.toNat 0 3 ≠ 0) ||
    !s.idl.failed.isEmpty || !s.fab.down.isEmpty || !s.buf.badMacros.isEmpty || s.fab.conflict

/-- The `degraded` bit: is a spare in use or some capacity reduced, or a controller out of service or not ready (R33, R65,
R586)? -/
def State.degradedNow (s : State) : Bool := s.mcWeak || s.unitsOut

/-- Has capacity fallen, so that RUN gives way to DEGRADED (R35, R65)? -/
def State.capacityDown (s : State) : Bool := s.mcLost || s.unitsOut

/-- Bring the `degraded` bit level with the units, and RUN and DEGRADED with what is out (R35, R39, R43, R805). -/
def State.level (s : State) : State :=
  let d := s.degradedNow
  let s1 := if s.get F.KV_MODE_degraded = b2n d then s
    else (s.put F.KV_MODE_degraded (b2n d)).raise F.KV_EVT_degraded_change
  if s.mode = RUN ∧ s.capacityDown = true then s1.enterMode DEGRADED
  else if s.mode = DEGRADED ∧ d = false then s1.enterMode RUN
  else s1

/-- What follows every command in its clock: the `degraded` bit and the mode, and the event tree. -/
def State.settle (s : State) : State := s.level.signal

/-- The end of every meaning: the next state. -/
def ok (s : State) : Host.Outcome State Fault Refusal := .next s.settle

/-- A command that finds the conditions of its effect, or leaves the state as it is. -/
def okIf (c : Bool) (s t : State) : Host.Outcome State Fault Refusal := ok (if c then t else s)

end Sys2Proof.Machine
end

