-- ==== Sys2Proof/Machine/Reset.lean ====
section
/-! DEFINITION. The reset controller: sources, episodes, the exit sequence, the watchdog, and block reset (chapter
16, Reach and sources to Block reset and the isolation wrapper). -/

namespace Sys2Proof.Machine

/-! ### What a reset restores (R14, R677) -/

/-- The register array at an address. -/
def findReg (a : Nat) : Option RegD := regTable.find? (fun r => (regIdx r a).isSome)

/-- The island of a register's instance i (R838). -/
def regIsland (r : RegD) (i : Nat) : Nat := r.isl + (if r.islDiv = 0 then 0 else i / r.islDiv)

/-- The bits of a register that have a reach (R14). -/
def reachMask (r : RegD) (x : Reach) : Nat :=
  (r.fields.map (fun f => if f.reach = x then (2 ^ f.w - 1) * 2 ^ f.lo else 0)).sum

/-- A word with the bits of a mask kept and the others restored. -/
def keepBits (w reset : Word) (mask : Nat) : Word :=
  (w &&& BitVec.ofNat 64 mask) ||| (reset &&& ~~~ BitVec.ofNat 64 mask)

/-- Registers with the bits that `keep` names kept and the others at their reset value. -/
def restoreRegs (keep : RegD → Nat → Nat) (regs : Tab Word) : Tab Word :=
  regs.filterMap (fun e =>
    match findReg e.1 with
    | none => none
    | some r =>
      let i := ((regIdx r e.1).map (·.1)).getD 0
      let w := keepBits e.2 (resetWord r i) (keep r i)
      if w = resetWord r i then none else some (e.1, w))

/-- All bits. -/
def allBits : Nat := 2 ^ 64 - 1

/-- The bank that a transfer writes (R757). -/
def State.inactiveBank (s : State) : Nat := 1 - s.get F.KV_BOOT_STAT_bank

/-- Is flash k being read by the loader, or erased, programmed or read by a transfer (R706, R761)? -/
def State.flashInUse (s : State) (k : Nat) : Bool :=
  (s.mode == LOAD && decide (2 ≤ s.get F.KV_STRAP_boot_src)) || (decide (k = s.inactiveBank) &&
    (match s.fw.step with
      | .receiving => !s.fw.erased
      | .ended => true
      | .programming => true
      | .reading => true
      | _ => false))

/-- A bank as a reset of system reach leaves it (R764, R767): a transfer that is cut short leaves no header. -/
def State.cutBank (s : State) (k : Nat) (b : Bank) : Bank :=
  if s.fw.step = .reading ∧ k = s.inactiveBank then bank0 else b

/-- The mode that a reset leaves a flash in (R706). -/
def State.cutMode (s : State) (k : Nat) (m : FlashMode) : FlashMode := if s.flashInUse k then .left else m

/-- What a reset of system reach restores and leaves (R677): the datapath, the tables and every field of reach S
or C go to their reset values; what is in flash, in retained SRAM and in the ballast stays. A field of reach kept shows
its reset column until the hardware it reflects shows something else (R15), but for `aged_out`, which reflects a
counter of reach P. The chain input is down, since every SerDes is idle (R703). Whether every write of the ballast
completed (R577) is a free value. -/
def State.systemReset (s : State) : State :=
  let done : Bool := s.mem.bq.all (fun e => (e.2.issued ++ e.2.waiting).all (fun t => !t.write)) ||
    decide (Config.free s.fv % 2 = 1)
  { State.reset with
    pending := s.pending
    regs := restoreRegs (fun r _ => reachMask r .p ||| (if r = R.KV_AGE_UPD then reachMask r .kept else 0)) s.regs
    up := s.up
    fv := s.fv + 1
    out := s.out
    rst := s.rst
    boot := { State.reset.boot with
      bankA := s.cutBank 0 s.boot.bankA, bankB := s.cutBank 1 s.boot.bankB, fbA := s.boot.fbA, fbB := s.boot.fbB
      modeA := s.cutMode 0 s.boot.modeA, modeB := s.cutMode 1 s.boot.modeB
      eventLog := s.boot.eventLog }
    fw := { State.reset.fw with
      slots := s.fw.slots, running := s.fw.running
      rollback := s.fw.rollback }
    mc := { mcSt0 with snapshots := s.mc.snapshots }
    eng := { eng0 with recEpoch := s.eng.recEpoch, recFold := s.eng.recFold }
    mem := { memSt0 with
      shadow := s.mem.shadow, assoc := s.mem.assoc, intact := s.mem.intact, saved := s.mem.saved, bseq := s.mem.bseq }
    sram := s.sram
    sramBad := s.sramBad
    rec0 := { s.rec0 with ballastDone := done }
    smb := s.smb
    smbNext := s.smbNext }

/-- What a reset of power-on reach restores (R677): also the fields of reach P. `KV_BACKUP` and the retained SRAM
are cleared by a step of the exit sequence (R686). -/
def State.powerReset (s : State) : State :=
  { s with regs := restoreRegs (fun r _ => if r = R.KV_BACKUP then allBits else 0) s.regs }

/-! ### Islands as blocks (R690) -/

/-- The state code of a block (R690). -/
def State.blk (s : State) (i : Nat) : Nat := s.get F.KV_BLK_STAT_state i

/-- Is island i in service? -/
def State.isOn (s : State) (i : Nat) : Bool := s.blk i == 0

/-! ### Crossings as islands leave service (R721, R724 to R726) -/

/-- The number of the event crossing, or of the data crossing, from one island to another. -/
def xingNo (data : Bool) (src dst : Nat) : Nat := (if data then 4624 else 0) + src * 68 + dst

/-- The sending island of a crossing. -/
def xingSrc (x : Nat) : Nat := x / 68 % 68

/-- The receiving island of a crossing. -/
def xingDst (x : Nat) : Nat := x % 68

/-- A crossing as its sending side shows it: in PEER_RESET, with nothing held, while either island is out of service (R721,
R724, R728). -/
def State.xing (s : State) (x : Nat) : Crossing :=
  if s.isOn (xingSrc x) && s.isOn (xingDst x) then tget s.pwr.xings x xing0 else { xing0 with st := .peerReset }

/-- Store a crossing. -/
def State.setXing (s : State) (x : Nat) (c : Crossing) : State :=
  { s with pwr := { s.pwr with xings := tput s.pwr.xings x c xing0 } }

/-- What an abort discards: the outstanding event, and a pending one with its merge count (R726), or the entries held (R728). -/
def xingHeld (c : Crossing) : Nat :=
  (if c.st = .req ∨ c.st = .ack then 1 else 0) + (if c.pend then 1 + c.merge else 0) + (c.wr - c.rd)

/-- The abort of a crossing by the peer-in-reset indication (R725, R726). -/
def State.xingPeerAbort (s : State) (x : Nat) (c : Crossing) : State :=
  if c.st = .req ∨ c.st = .ack then
    ((s.addSat F.KV_ISL_XING_lost_events (xingHeld c) (xingSrc x)).addSat F.KV_ISL_XING_peer_resets 1
      (xingSrc x)).raise F.KV_PWR_EVT_xing_peer_reset
  else s

/-- The peer-in-reset indication for a block rises (R724, R725, R728): its crossings abort, and data crossings empty. -/
def State.xingPeerReset (s : State) (i : Nat) : State :=
  s.pwr.xings.foldl (fun (t : State) e =>
    if xingSrc e.1 = i ∨ xingDst e.1 = i then (t.setXing e.1 xing0).xingPeerAbort e.1 e.2 else t) s

/-- The transfers of a block's crossings that its wrapper ends (R691): requests toward the block, and the entries of FIFOs
toward or from it. -/
def State.xingErrored (s : State) (i : Nat) : Nat :=
  (s.pwr.xings.map (fun e =>
    if xingDst e.1 = i then (if e.2.st = .req ∨ e.2.st = .ack then 1 else 0) + (e.2.wr - e.2.rd)
    else if xingSrc e.1 = i then e.2.wr - e.2.rd
    else 0)).sum

/-! ### Voltages and clocks (R729, R731, R820) -/

/-- The set voltage of an island in mV. -/
def State.islMv (s : State) (i : Nat) : Nat := tget s.pwr.setMv i 750

/-- The rail of an island: 0 VDD_TF, 1 VDD_DT (R731). -/
def railOf (i : Nat) : Option Nat :=
  if 1 ≤ i ∧ i ≤ 29 then some 0 else if (35 ≤ i ∧ i ≤ 56) ∨ i = 67 then some 1 else none

/-- The voltage a rail should have: the highest that an island of it requests (R731). -/
def State.railWant (s : State) (rail : Nat) : Nat :=
  ((List.range 68).filter (fun i => railOf i == some rail)).foldl (fun m i => max m (s.islMv i)) 0

/-- Request a rail's voltage unless a request is under way (R820). -/
def State.railRequest (s : State) (rail : Nat) : State :=
  match tget? s.pwr.avsDue rail with
  | some _ => s
  | none =>
    { s.emit (.avs rail (s.railWant rail)) with
      pwr := { s.pwr with avsDue := tset s.pwr.avsDue rail (s.railWant rail) } }

/-- Set an island's voltage; its rail follows when the highest request changes. -/
def State.setIslMv (s0 : State) (i mv : Nat) : State :=
  let s := s0.put F.KV_ISL_STAT_v_mv mv i
  let s1 := { s with pwr := { s.pwr with setMv := tput s.pwr.setMv i mv 750 } }
  if s.islMv i = mv then s
  else match railOf i with
  | some r => if s1.railWant r = s.railWant r then s1 else s1.railRequest r
  | none => s1

/-- The nominal frequency of an island in MHz (R729); a port island runs at a frequency that its breakout
fixes, shown as 0. -/
def nominalMHz (i : Nat) : Nat :=
  if i = 0 then 200
  else if i ≤ 16 then 1250
  else if i ≤ 24 then 0
  else if i = 28 ∨ i = 29 then 2000
  else if i = 30 ∨ i = 31 ∨ i = 32 ∨ i = 67 then 1000
  else 1250

/-- Put a block in service: out of isolation, its clock locked, at nominal frequency and 0.75 V (R690, R729,
R820). -/
def State.blockOn (s : State) (i : Nat) : State :=
  ((((s.put F.KV_BLK_STAT_state 0 i).put F.KV_BLK_STAT_isolated 0 i).put F.KV_BLK_STAT_clk_lock 1 i).put
    F.KV_ISL_STAT_f_mhz (nominalMHz i) i).setIslMv i 750

/-- Put a block in reset. -/
def State.blockReset (s : State) (i : Nat) : State :=
  let t := s.xingPeerReset i
  ((((t.put F.KV_BLK_STAT_state 2 i).put F.KV_BLK_STAT_isolated 1 i).put F.KV_BLK_STAT_clk_lock 0 i).put
    F.KV_ISL_STAT_f_mhz 0 i).put F.KV_ISL_STAT_v_mv 0 i

/-- Put several blocks in service, but those whose clock has not locked. -/
def State.blocksOn (s : State) (is : List Nat) (unlocked : Nat) : State :=
  is.foldl (fun t i => if bitOf unlocked i then t else t.blockOn i) s

/-! ### Roles (R585) -/

/-- The role field of a controller. -/
def roleF (m : Nat) : Fld := if m = 0 then F.KV_MC_STAT_role0 else F.KV_MC_STAT_role1

/-- Is controller m ACTIVE: its role is 0 and its island is in service? -/
def State.mcActive (s : State) (m : Nat) : Bool := s.get (roleF m) == 0 && s.isOn (28 + m)

/-- The ACTIVE controller, if any. -/
def State.activeMc (s : State) : Option Nat :=
  if s.mcActive 0 then some 0 else if s.mcActive 1 then some 1 else none

/-- The watchdog count starts again (R681). -/
def State.wdogRestart (s : State) : State := { s with rst := { s.rst with wdogStart := s.up } }

/-- Give a controller a role; a change of the ACTIVE controller restarts the watchdog (R681). -/
def State.setRole (s : State) (m role : Nat) : State :=
  let t := s.put (roleF m) role
  if t.activeMc = s.activeMc then t else t.wdogRestart

/-- What core reset restores (R16, R594, R677): the controllers, held in reset, and the fields of reach C. -/
def State.coreReset (s : State) : State :=
  let s1 := ((s.blockReset 28).blockReset 29)
  let s2 := ((((s1.setRole 0 2).setRole 1 2).zero F.KV_MC_STAT_handover).zero F.KV_MC_HEALTH_ready 0).zero
    F.KV_MC_HEALTH_ready 1
  { s2 with
    regs := restoreRegs (fun r _ => allBits - reachMask r .c) s2.regs
    mc := { s2.mc with mc0 := mcSt0.mc0, mc1 := mcSt0.mc1, handTo := none } }

/-! ### Sources and episodes (R678 to R685) -/

/-- The reach of a source (R678): 1 core, 2 system, 3 power-on. -/
def srcReach : RSrc → Nat
  | .por => 3 | .porstPin => 3
  | .sysrstPin => 2 | .swSys => 2 | .chainSys => 2 | .wdogSys => 2 | .loadFail => 2 | .trainLimit => 2
  | .ripcord => 2 | .safeDrain => 2
  | .swCore => 1 | .chainCore => 1 | .wdogCore => 1 | .probation => 1 | .activation => 1

/-- The cause bits of a source (R678, R716). -/
def srcCauses : RSrc → List Fld
  | .por => [F.KV_RESET_CAUSE_por]
  | .porstPin => [F.KV_RESET_CAUSE_porst_pin]
  | .sysrstPin => [F.KV_RESET_CAUSE_sysrst_pin]
  | .swSys => [F.KV_RESET_CAUSE_sw_sys]
  | .safeDrain => [F.KV_RESET_CAUSE_sw_sys]
  | .chainSys => [F.KV_RESET_CAUSE_chain_sys]
  | .wdogSys => [F.KV_RESET_CAUSE_wdog_sys]
  | .loadFail => [F.KV_RESET_CAUSE_load_fail]
  | .trainLimit => [F.KV_RESET_CAUSE_wdog_sys, F.KV_RESET_CAUSE_train_limit]
  | .ripcord => [F.KV_RESET_CAUSE_ripcord]
  | .swCore => [F.KV_RESET_CAUSE_sw_core]
  | .chainCore => [F.KV_RESET_CAUSE_chain_core]
  | .wdogCore => [F.KV_RESET_CAUSE_wdog_core]
  | .probation => [F.KV_RESET_CAUSE_wdog_core, F.KV_RESET_CAUSE_probation]
  | .activation => [F.KV_RESET_CAUSE_activation]

/-- The cause register at the start of an episode (R685): source bits, `drained` and `retain_lost` cleared, the
episode counts kept. -/
def State.causeClear (s : State) : State :=
  s.wr R.KV_RESET_CAUSE (BitVec.ofNat 64 ((s.rd R.KV_RESET_CAUSE).toNat / 2 ^ 32 * 2 ^ 32))

/-- Set the cause bits of a source and deepen `reach` (R685). -/
def State.causeAdd (s : State) (x : RSrc) : State :=
  let s1 := (srcCauses x).foldl (fun t f => t.raise f) s
  s1.put F.KV_RESET_CAUSE_reach (max (s1.get F.KV_RESET_CAUSE_reach) (srcReach x))

/-- The failure count grows when an episode first takes system reach in LOAD, TRAIN or RAISE (R709). -/
def State.failCount (s : State) : State :=
  if s.mode = LOAD ∨ s.mode = TRAIN ∨ s.mode = RAISE then
    { s with rec0 := { s.rec0 with fails := min 3 (s.rec0.fails + 1) } }
  else s

/-- A source asserts (R682 to R685, R680): it starts an episode or joins the one in progress, the exit sequence
waits for its release, and a deeper reach restores what it reaches. From the start of HELD the device requests 0.75 V of its
two rails (R820). `drained` says that the source followed a
completed drain. -/
def State.assertSource (s : State) (x : RSrc) (drained : Bool := false) : State :=
  let old := s.rst.reach
  let s1 := (if old = 0 then s.causeClear else s).causeAdd x
  let s2 := if drained then s1.raise F.KV_RESET_CAUSE_drained else s1
  let r := max old (srcReach x)
  let s3 := { s2 with rst := { s2.rst with
    reach := r
    asserted := x :: s2.rst.asserted.filter (· ≠ x)
    exit := none
    incDone := if old = 0 then false else s2.rst.incDone } }
  let s4 := if old < 2 ∧ 2 ≤ r then
      let t := ((if r = 2 then s3.failCount else s3).enterMode HELD).systemReset
      let t := (t.put F.KV_MODE_mode HELD).emits [.avs 0 750, .avs 1 750]
      { t with rst := { t.rst with serves := [], fromSafe := false } }
    else s3
  let s5 := if old < 3 ∧ r = 3 then
      let c := s4.rd R.KV_RESET_CAUSE
      let t := s4.powerReset.wr R.KV_RESET_CAUSE (BitVec.ofNat 64 (c.toNat % 2 ^ 32))
      t.put F.KV_MODE_mode HELD
    else s4
  if r = 1 then s5.coreReset else s5

/-- A source releases (R684): when it is the last one, the exit sequence starts. -/
def State.releaseSource (s : State) (x : RSrc) : State :=
  if s.rst.asserted.contains x then
    let left := s.rst.asserted.filter (· ≠ x)
    let s1 := { s with rst := { s.rst with asserted := left, exit := if left.isEmpty then some 0 else none, exitAt := s.up } }
    if x = .ripcord then s1.emit (.thermtrip false) else s1
  else s

/-- The straps as sampled (R697 to R699): raw levels, effective values and `conflict`. -/
def State.sampleStraps (s : State) (raw : Nat) : State :=
  let src := bits raw 0 2
  let clk := bits raw 2 2
  let head := bits raw 4 1
  let bad := (src == 1 && head == 1) || clk == 0
  ((((s.put F.KV_STRAP_raw raw).put F.KV_STRAP_boot_src (if src = 1 ∧ head = 1 then 3 else src)).put
    F.KV_STRAP_clk_mode (if clk = 0 then 3 else clk)).put F.KV_STRAP_reel_head head).put
    F.KV_STRAP_conflict (b2n bad)

/-- The islands that the exit sequence of system reach releases (R686): always-on, PCIe and IDL. -/
def exitIslands : List Nat := [0, 30, 33, 34, 65, 66]

/-- An uncorrectable word in the boot record (R702): LOAD treats the whole record as cleared by power-on. -/
def State.recordLost (s : State) : State :=
  if s.sramBad.any (fun o => decide (o < 256)) then { s with rec0 := bootRec0 }.raise F.KV_RESET_CAUSE_retain_lost
  else s

/-- Reset-enable and reset to each flash, in octal and in single-wire form (R706). -/
def flashResets : List Out :=
  [0, 1].flatMap (fun k => [true, false].flatMap (fun o => [.flash k o .resetEnable, .flash k o .reset]))

/-- Entering LOAD (R686, R702, R706): the episode ends and the loader starts, with both flashes in their default mode. -/
def State.enterLoad (s : State) : State :=
  let s1 := (((s.addSat F.KV_RESET_CAUSE_sys_episodes 1).enterMode LOAD).recordLost).emits flashResets
  { s1 with
    rst := { s1.rst with reach := 0, exit := none, incDone := false }
    boot := { s1.boot with rrs := true, modeA := .default, modeB := .default, loadAt := s.up } }.put F.KV_BOOT_STAT_src
      (s1.get F.KV_STRAP_boot_src)

/-- One step of the exit sequence of system or power-on reach (R686), with the islands whose clock has not locked. -/
def State.exitStep (s : State) (unlocked : Nat) : Nat → State
  | 0 =>
    let s1 := if s.rst.incDone then s
      else { s with rec0 := { s.rec0 with inc := (s.rec0.inc + 1) % 2 ^ 16 } }
    { s1 with time := 0, frac := 0, rst := { s1.rst with exit := some 1, incDone := true } }
  | 1 =>
    let s1 := { s with rst := { s.rst with exit := some 2 } }
    if s.rst.reach = 3 then
      { s1 with
        sram := [], sramBad := [], rec0 := bootRec0, mem := { s1.mem with saved := [] }
        regs := s1.regs.filter (fun e => (regIdx R.KV_BACKUP e.1).isNone) }
    else s1
  | 2 =>
    let s1 := (List.range 68).foldl (fun t i =>
      if bitOf unlocked i then t else t.put F.KV_BLK_STAT_clk_lock 1 i) s
    let s2 := s1.blocksOn exitIslands unlocked
    { s2 with rst := { s2.rst with exit := some 3 } }
  | _ => s.enterLoad

/-- The exit step of core reach (R689): both controller islands are released into TESTING and the episode
ends. -/
def State.coreExit (s : State) : State :=
  let s1 := (s.blockOn 28).blockOn 29
  let s2 := ((s1.setRole 0 2).setRole 1 2).addSat F.KV_RESET_CAUSE_core_episodes 1
  { s2 with
    rst := { s2.rst with reach := 0, exit := none, incDone := false }
    mc := { s2.mc with starting := true } }.raise F.KV_RST_EVT_core_done

/-! ### The commands of chapter 16, pins and episodes -/

/-- POWER_ON_DETECT (R821, R678, R35): with a rail absent the mode goes to OFF, else to HELD. -/
def execPowerOnDetect (railAbsent : Bool) (s : State) : Host.Outcome State Fault Refusal :=
  let t := s.assertSource .por
  ok (if railAbsent then t.put F.KV_MODE_mode OFF else t)

/-- RAILS_UP (R35, R821): from OFF the detector holds power-on reset and the mode is HELD. -/
def execRailsUp (s : State) : Host.Outcome State Fault Refusal :=
  okIf (s.mode = OFF) s ((s.assertSource .por).enterMode HELD)

/-- PORST_PIN (R678). -/
def execPorstPin (s : State) : Host.Outcome State Fault Refusal :=
  okIf (s.mode ≠ OFF) s (s.assertSource .porstPin)

/-- SYSRST_PIN (R678). -/
def execSysrstPin (s : State) : Host.Outcome State Fault Refusal :=
  okIf (s.mode ≠ OFF) s (s.assertSource .sysrstPin)

/-- CORE_REQ (R717, R678): the keyed write asserts the software core reset; its bit is cleared as it asserts. -/
def execCoreReq (s : State) : Host.Outcome State Fault Refusal :=
  okIf s.awake s (s.assertSource .swCore)

/-- FAIL_CLEAR (R709, R717). -/
def execFailClear (s : State) : Host.Outcome State Fault Refusal :=
  okIf s.awake s { s with rec0 := { s.rec0 with fails := 0 } }

/-- Is a source of power-on reach asserted? -/
def State.powerHeld (s : State) : Bool := s.rst.asserted.any (fun x => decide (srcReach x = 3))

/-- RESET_SOURCE_RELEASE (R684, R686, R697): with the last source of power-on reach the straps are sampled, whose levels are
the operand. -/
def execResetSourceRelease (r : Release) (s : State) : Host.Outcome State Fault Refusal :=
  let t := s.releaseSource r.src
  okIf (s.mode ≠ OFF) s (if s.powerHeld && !t.powerHeld then t.sampleStraps r.straps else t)

/-- Sixty-eight islands as two masks: `low` for islands 0 to 33, `high` for 34 to 67. -/
def islandMask (low high : Nat) : Nat := low % 2 ^ 34 + 2 ^ 34 * high

/-- EXIT_SEQUENCE_STEP (R686, R689); the operands tell the islands whose clock has not locked. -/
def execExitSequenceStep (low high : Nat) (s : State) : Host.Outcome State Fault Refusal :=
  match s.rst.exit with
  | none => ok s
  | some k => ok (if s.rst.reach = 1 then s.coreExit else s.exitStep (islandMask low high) k)

/-- ISLAND_LOCK_TIMEOUT (R688): an island still in RESET, its clock without lock 1 ms after the episode's last release. -/
def execIslandLockTimeout (i : Nat) (s : State) : Host.Outcome State Fault Refusal :=
  okIf (decide (i < 68) && s.blk i == 2 && !s.flag F.KV_BLK_STAT_clk_lock i &&
      decide (s.rst.exitAt + 1000000 ≤ s.up)) s
    ((s.put F.KV_BLK_STAT_result 4 i).raise F.KV_RST_EVT_lock_fail)

/-! ### The watchdog (R681) -/

/-- Does the watchdog count? -/
def State.wdogCounts (s : State) : Bool := s.flag F.KV_WDOG_CTL_enable && s.activeMc.isSome

/-- The timeout in force, in nanoseconds (R717). -/
def State.wdogNs (s : State) : Nat := max 10 (s.get F.KV_WDOG_CTL_timeout_ms) * 1000000

/-- Has the count reached the timeout in force (R681)? -/
def State.wdogOver (s : State) : Bool := decide (s.wdogNs ≤ s.up - s.rst.wdogStart)

/-- A flash bank by number: 0 A, 1 B. -/
def State.bank (s : State) (b : Nat) : Bank := if b = 0 then s.boot.bankA else s.boot.bankB

/-- Change a flash bank. -/
def State.setBank (s : State) (b : Nat) (k : Bank) : State :=
  { s with boot := if b = 0 then { s.boot with bankA := k } else { s.boot with bankB := k } }

/-- The generation of the image in a bank (R754). -/
def bankGen (k : Bank) : Nat := ((k.image).map (fun i => i.hdr.generation)).getD 0

/-- Name the bank in use (R757), with its generation. -/
def State.useBank (s : State) (b : Nat) : State :=
  (s.put F.KV_BOOT_STAT_bank b).put F.KV_BOOT_STAT_generation (bankGen (s.bank b))

/-- The probation fails (R772): the trial bank is rejected, the record cleared, and the previous firmware and bank
return. -/
def State.probationFail (s : State) : State :=
  match s.rec0.prob with
  | none => s
  | some p =>
    let s1 := s.setBank p.bank { s.bank p.bank with state := 0 }
    let s2 := { s1 with
      rec0 := { s1.rec0 with prob := none }
      boot := { s1.boot with resume := false }
      fw := { s1.fw with running := 1 - p.slot } }
    (((s2.useBank (1 - p.bank)).put F.KV_MODE_probation_left 0).raise
      F.KV_MODE_probation_failed).raise F.KV_FW_EVT_fell_back

/-- Does probation run: since its activation, or resumed by the boot (R708, R770)? A record that the boot did not resume waits
in the retained SRAM. -/
def State.probRuns (s : State) : Bool := s.boot.resume && s.rec0.prob.isSome

/-- Leaving PROBATION for RUN or DEGRADED (R35, R45). -/
def State.leaveProbation (s : State) : State :=
  if s.mode = PROBATION then s.enterMode (if s.get F.KV_MODE_degraded = 1 then DEGRADED else RUN) else s

/-- The watchdog expires (R681, R772): it asserts its source; with core reach during probation, probation fails
and the core reset is that of R772. -/
def State.wdogExpire (s : State) : State :=
  if s.flag F.KV_WDOG_CTL_wd_reach then s.wdogRestart.assertSource .wdogSys
  else if s.probRuns then
    (s.wdogRestart.probationFail.leaveProbation).assertSource .probation
  else s.wdogRestart.assertSource .wdogCore

/-- WDOG_PET (R681). -/
def execWdogPet (s : State) : Host.Outcome State Fault Refusal := okIf s.awake s s.wdogRestart

/-- A write of `KV_WDOG_CTL` (R681, R717): `enable` from 0 to 1 starts the count, `pet` restarts it, and a count already
at or beyond the timeout expires. -/
def State.wdogCtl (s : State) (v : Word) : State :=
  let was := s.flag F.KV_WDOG_CTL_enable
  let s1 := ((s.put F.KV_WDOG_CTL_enable (bits v.toNat 0 1)).put F.KV_WDOG_CTL_wd_reach
    (bits v.toNat 1 1)).put F.KV_WDOG_CTL_timeout_ms (bits v.toNat 16 16)
  let s2 := if (!was && bitOf v.toNat 0) || bitOf v.toNat 2 then s1.wdogRestart else s1
  if s2.wdogCounts && s2.wdogOver then s2.wdogExpire else s2

/-- WDOG_CTL_WRITE. -/
def execWdogCtlWrite (v : Word) (s : State) : Host.Outcome State Fault Refusal := okIf s.awake s (s.wdogCtl v)

/-- WATCHDOG_EXPIRY (R681). -/
def execWatchdogExpiry (s : State) : Host.Outcome State Fault Refusal :=
  okIf (s.wdogCounts && s.wdogOver) s s.wdogExpire

end Sys2Proof.Machine
end

