-- ==== Sys2Proof/Machine/Boot.lean ====
section
/-! DEFINITION. The loader: image checks, selection, fallback, host load, and the entry to TRAIN (chapter 16,
Boot). -/

namespace Sys2Proof.Machine

/-- Do two sections overlap? -/
def secOverlap (a b : Nat × Nat × Nat) : Bool :=
  decide (a.2.1 < b.2.1 + b.2.2) && decide (b.2.1 < a.2.1 + a.2.2)

/-- No two sections of a list overlap. -/
def secsApart : List (Nat × Nat × Nat) → Bool
  | [] => true
  | a :: r => r.all (fun b => !secOverlap a b) && secsApart r

/-- The directory rules of R755, for the section types that must appear exactly once. -/
def dirOk (types : List Nat) (l : List (Nat × Nat × Nat)) : Bool :=
  l.all (fun x => types.contains x.1 && decide (0x40000 ≤ x.2.1) && decide (x.2.1 % 4096 = 0)) &&
    types.all (fun t => (l.filter (fun x => decide (x.1 = t))).length == 1) && secsApart l

/-- The largest image (R707 step 3): 52 MiB. -/
def maxImage : Nat := 52 * 2 ^ 20

/-- The size check (R707 step 3). -/
def sizeOk (h : ImgHdr) : Bool :=
  decide (h.size ≤ maxImage) && h.sections.all (fun x => decide (x.2.1 + x.2.2 ≤ h.size))

/-- Is a section of a type in the directory? -/
def hasSec (h : ImgHdr) (t : Nat) : Bool := h.sections.any (fun x => decide (x.1 = t))

/-- The content limit of the port profile (R82, R131): listed breakouts, and framing only with 0b000 to 0b010. -/
def portProfileOk (l : List (Nat × Word)) : Bool :=
  l.all (fun e => (regIdx R.TF_PORT_CFG e.1).isNone ||
    decide (bits e.2.toNat 0 3 ≤ if bitOf e.2.toNat 3 then 2 else 4))

/-- The content limits of the memory partition (R405, R579, R711), on the section's own values. -/
def partitionOk (c : ImgContent) : Bool :=
  let b := c.bufCfg.toNat
  decide (bits b 0 8 + bits b 8 8 ≤ 240) && decide (bits b 16 8 * 1024 + 32 * bits b 24 12 ≤ 128 * 1024) &&
    decide (bits c.tfMemCfg.toNat 0 4 ≤ 8) && decide (c.shares.length = 4) && decide (c.shares.sum + 16 ≤ 512)

/-- The content limits of R711 for the sections that the directory names; `contentOk` of the contents stands for the formats
inside the sections. Without `fw` the firmware section is not looked at (R710). -/
def contentOk (h : ImgHdr) (c : ImgContent) (fw : Bool := true) : Bool :=
  c.contentOk && (!fw || h.sections.all (fun x => x.1 ≠ 1 || decide (x.2.2 ≤ 24 * 2 ^ 20))) &&
    (!hasSec h 2 || decide (c.profile ≤ 2 ∧ c.moduleId < 256)) && (!hasSec h 3 || portProfileOk c.portRegs) &&
    (!hasSec h 4 || decide (c.serdes.length = 6)) && (!hasSec h 5 || decide (c.seeds.length = 120)) &&
    (!hasSec h 6 || partitionOk c)

/-- Steps 5 to 8 of R707: 0 when they pass, else the `load_err` of the first that fails. -/
def bodyCheck (h : ImgHdr) (c : ImgContent) (fw : Bool := true) : Nat :=
  if !(c.digestsOk && (!fw || c.fwDigestOk)) then 6
  else if !contentOk h c fw then 7
  else if h.keyRevoked then 9
  else if !(h.keyFused && h.sigOk) then 8
  else 0

/-- The check of R707 on an image that may be absent or unreadable: 0 when it passes, else `load_err`. Without `fw` its
firmware section is left out of steps 5 and 6 (R710). -/
def imageCheck (types : List Nat) (readErr : Bool) (im : Option Image) (fw : Bool := true) : Nat :=
  if readErr then 1
  else
    match im with
    | none => 2
    | some i =>
      if !(i.hdr.formatOk && dirOk types i.hdr.sections) then 2
      else if ¬(i.hdr.part = 0x9420 ∧ i.hdr.step = 0x10) then 3
      else if !sizeOk i.hdr then 4
      else if i.hdr.security < Config.minSecurity then 5
      else bodyCheck i.hdr i.content fw

/-- The section types of a bank's image (R755). -/
def allTypes : List Nat := [1, 2, 3, 4, 5, 6, 7]

/-- Record the outcome of a check (R718): `tries` and `load_err`. -/
def State.checked (s : State) (err : Nat) : State :=
  let s1 := s.addSat F.KV_BOOT_STAT_tries 1
  if err = 0 then s1 else s1.put F.KV_BOOT_STAT_load_err err

/-- Store the words of registers by their addresses. -/
def State.applyRegs (s : State) (l : List (Nat × Word)) : State :=
  l.foldl (fun t e =>
    match findReg e.1 with
    | none => t
    | some r => { t with regs := tput t.regs e.1 e.2 (resetWord r (((regIdx r e.1).map (·.1)).getD 0)) }) s

/-- The aging counters are saved in the event log (R742). -/
def State.saveAging (s : State) : State :=
  { s with boot := { s.boot with eventLog := s.boot.eventLog ++
      [1 :: BitVec.ofNat 64 (s.get F.KV_AGE_ON_on_s) ::
        (List.range 16).map (fun c => BitVec.ofNat 64 (s.get F.KV_AGE_UPD_upd_s c))] } }

/-- The aging counters last saved in the event log (R742). -/
def State.restoreAging (s : State) : State :=
  match (s.boot.eventLog.filter (fun l => l.headD 0 == 1)).getLast? with
  | none => s
  | some l =>
    (List.range 16).foldl (fun (t : State) c => t.put F.KV_AGE_UPD_upd_s ((l.getD (c + 2) 0).toNat) c)
      (s.put F.KV_AGE_ON_on_s (l.getD 1 0).toNat)

/-- Whether the ballast's contents were kept (R578, R702): a system episode whose writes all completed, with the
boot record readable and the epoch record intact. -/
def State.ballastKept (s : State) : Bool :=
  s.rec0.ballastDone && s.mem.intact && s.get F.KV_RESET_CAUSE_reach == 2 && !s.flag F.KV_RESET_CAUSE_retain_lost

/-- Run an image (R711): the sections applied at LOAD, and TRAIN is entered; the firmware goes to the slot that
will run. In STANDALONE the tether reserve is loaded as 0 (R47, R405). -/
def State.bootImage (s : State) (im : Image) (slot : Nat) : State :=
  let c := im.content
  let s0 := (((s.load R.DT_BUF_CFG c.bufCfg).load R.DT_MEM_CFG c.dtMemCfg).load R.TF_MEM_CFG c.tfMemCfg).load
    R.TF_EM_SEED c.emSeed
  let s1 := if c.profile = 1 then s0.zero F.DT_BUF_CFG_teth_mib else s0
  let s2 := match c.subsys with
    | some (v, d) => if s.boot.rrs then
        [0, 1].foldl (fun (t : State) fn => t.setCfg fn 0x2C (BitVec.ofNat 32 (d * 65536 + v))) s1 else s1
    | none => s1
  let s3 := ((s2.put F.KV_MODE_topology c.profile).put F.KV_MODE_module_id c.moduleId).restoreAging
  let s4 := { s3 with
    boot := { s3.boot with image := some im, rom := some im, rrs := false, bringup := 0, trainAt := s3.up }
    fw := { s3.fw with slots := lset none s3.fw.slots slot (some im), running := slot }
    tbl := { s3.tbl with shares := c.shares }
    mem := { s3.mem with kept := s3.ballastKept } }
  s4.enterMode TRAIN

/-- The order in which banks are tried (R708): the first flash of `BOOT_SRC` first. -/
def State.firstBank (s : State) : Nat := if s.get F.KV_STRAP_boot_src = 2 then 1 else 0

/-- COMMITTED banks, highest generation first, on a tie the first flash (R708). -/
def State.committedBanks (s : State) : List Nat :=
  let f := s.firstBank
  let l := [f, 1 - f].filter (fun b => (s.bank b).state == 0x1F)
  match l with
  | [a, b] => if bankGen (s.bank a) < bankGen (s.bank b) then [b, a] else [a, b]
  | _ => l

/-- Does reading a flash region fail: bits 0 and 1 the banks, 2 and 3 the fallback regions? -/
def readFails (readErr k : Nat) : Bool := bitOf readErr k

/-- Try banks in order: the state with the checks recorded, and the first that passes. -/
def State.tryBanks (readErr : Nat) (fw : Bool) : List Nat → State → State × Option Nat
  | [], s => (s, none)
  | b :: r, s =>
    let e := imageCheck allTypes (readFails readErr b) (s.bank b).image fw
    let s1 := s.checked e
    if e = 0 then (s1, some b) else s1.tryBanks readErr fw r

/-- Boot a bank (R708, R757). -/
def State.bootBank (s : State) (b slot : Nat) : State :=
  match (s.bank b).image with
  | some im => (s.useBank b).bootImage im slot
  | none => s

/-- Try the fallback regions in order: the state with the checks recorded, and the first that passes (R710). -/
def State.tryFallback (readErr : Nat) : List Nat → State → State × Option Image
  | [], s => (s, none)
  | b :: r, s =>
    let im := if b = 0 then s.boot.fbA else s.boot.fbB
    let e := imageCheck [1] (readFails readErr (2 + b)) im
    let s1 := s.checked e
    if e = 0 then (s1, im) else s1.tryFallback readErr r

/-- The fallback load (R710): firmware from the fallback region of the first flash, else of the other; every other
section from the highest COMMITTED bank whose sections but the firmware pass. -/
def State.loadFallback (s : State) (readErr : Nat) : State :=
  let f := s.firstBank
  let x := s.tryFallback readErr [f, 1 - f]
  let r := x.1.tryBanks readErr false x.1.committedBanks
  match x.2, r.2 with
  | some w, some b =>
    match (r.1.bank b).image with
    | some im =>
      let t := (r.1.useBank b).bootImage im 0
      let t := { t with fw := { t.fw with slots := lset none t.fw.slots 0 (some { im with hdr := w.hdr }) } }
      ((t.raise F.KV_BOOT_STAT_fallback_fw).raise F.KV_MODE_fallback).raise F.KV_RST_EVT_fallback_boot
    | none => r.1.raise F.KV_BOOT_STAT_no_image
  | _, _ => r.1.raise F.KV_BOOT_STAT_no_image

/-- An image failure in LOAD (R678, R709). -/
def State.imageFailure (s : State) : State := s.assertSource .loadFail

/-- The selection of R708 with a flash boot source. -/
def State.selectImage (s : State) (readErr : Nat) : State :=
  if 3 ≤ s.rec0.fails then s.loadFallback readErr
  else
    let viaProb : State × Option State :=
      match s.rec0.prob with
      | none => (s, none)
      | some p =>
        if (s.bank p.bank).state = 0x3F then
          let e := imageCheck allTypes (readFails readErr p.bank) (s.bank p.bank).image
          let s1 := s.checked e
          if e = 0 then
            let t := (s1.bootBank p.bank p.slot).raise F.KV_BOOT_STAT_resumed
            (s1, some ({ t with boot := { t.boot with resume := true } }.put F.KV_MODE_probation_left p.left))
          else ({ s1 with rec0 := { s1.rec0 with prob := none } }, none)
        else ({ s with rec0 := { s.rec0 with prob := none } }, none)
    match viaProb.2 with
    | some t => t
    | none =>
      let r := viaProb.1.tryBanks readErr true viaProb.1.committedBanks
      match r.2 with
      | some b => r.1.bootBank b 0
      | none => r.1.imageFailure

/-- Does LOAD wait for a flash image: a flash boot source and no wait for host load? -/
def State.flashLoad (s : State) : Bool :=
  s.mode == LOAD && decide (2 ≤ s.get F.KV_STRAP_boot_src) && !s.flag F.KV_BOOT_STAT_no_image

/-- LOAD_IMAGE_DONE (R708): in LOAD with a flash boot source the loader selects an image; with the other sources
LOAD waits (R713, R714). -/
def execLoadImageDone (readErr : Nat) (s : State) : Host.Outcome State Fault Refusal :=
  okIf s.flashLoad s (s.selectImage readErr)

/-- LOAD_TIMEOUT (R687): LOAD has lasted 1 s. -/
def execLoadTimeout (s : State) : Host.Outcome State Fault Refusal :=
  okIf (s.flashLoad && decide (s.boot.loadAt + 1000000000 ≤ s.up)) s s.imageFailure

/-- Is host load available (R714)? -/
def State.hostLoads (s : State) : Bool :=
  s.mode == LOAD && (s.get F.KV_STRAP_boot_src == 0 || s.flag F.KV_BOOT_STAT_no_image)

/-- HOSTLOAD_GO (R714): PF0 reads the image and it is checked; one that fails sets `load_err` and LOAD waits. `go` is
cleared when the check ends (R718), also where a register write has set it; where host load is not available, the write
stores its length alone. -/
def execHostloadGo (length : Nat) (img : Option Image) (s : State) : Host.Outcome State Fault Refusal :=
  let s1 := (s.put F.KV_HOSTLOAD_CTL_length length).zero F.KV_HOSTLOAD_CTL_go
  if s.hostLoads then
    let s2 := s1.emit (.dmaRead 0 0 (s1.get F.KV_HOSTLOAD_ADDR_addr) length)
    let e := imageCheck allTypes (img.isNone || !s1.mayIssue 0) img
    let s3 := s2.checked e
    match img with
    | some im =>
      ok (if e = 0 then
        ((s3.zero F.KV_BOOT_STAT_src).put F.KV_BOOT_STAT_generation im.hdr.generation).bootImage im 0
      else s3)
    | none => ok s3
  else okIf s.awake s s1

/-- RRS_TIMEOUT (R715): at the earliest 900 ms after LOAD began, since `PERST_N` releases in it, the endpoint stops answering
with Request Retry Status. -/
def execRrsTimeout (s : State) : Host.Outcome State Fault Refusal :=
  okIf (s.mode == LOAD && decide (s.boot.loadAt + 900000000 ≤ s.up)) s { s with boot := { s.boot with rrs := false } }

/-- TRAINING_COMPLETE (R35, R587, R711): RAISE is entered; the controllers are released into TESTING from the
firmware copied to the ballast. -/
def execTrainingComplete (s : State) : Host.Outcome State Fault Refusal :=
  if s.mode = TRAIN then
    let s1 := ((s.blockOn 28).blockOn 29)
    let s2 := (s1.setRole 0 2).setRole 1 2
    ok ({ s2 with boot := { s2.boot with bringup := 100 }
                  mc := { s2.mc with starting := true }
                  pwr := { s2.pwr with creditUs := 50000 } }.enterMode RAISE)
  else ok s

/-- TRAIN_LIMIT (R35, R678). -/
def execTrainLimit (s : State) : Host.Outcome State Fault Refusal :=
  okIf (s.mode == TRAIN && decide (s.boot.trainAt + 5000000000 ≤ s.up)) s (s.assertSource .trainLimit)

end Sys2Proof.Machine
end

