-- ==== Sys2Proof/Machine/Firmware.lean ====
section
/-! DEFINITION. Firmware update over the reel chain, activation and probation (chapter 18). -/

namespace Sys2Proof.Machine

/-! ### Frames on the chain (R758 to R763) -/

/-- The chain port is busy (R763). -/
def State.chainBusy (s : State) : Bool := s.fw.step ≠ .idle

/-- Is the module the head of its chain (R698)? -/
def State.isHead (s : State) : Bool := s.flag F.KV_STRAP_reel_head

/-- The module's chain position (R775). -/
def State.chainPos (s : State) : Nat := s.get F.KV_FW_XFER_position

/-- A STATUS payload (R759). -/
def statusWord (ack : Bool) (status gen : Nat) : Word :=
  BitVec.ofNat 64 (b2n ack + status * 256 + gen % 2 ^ 32 * 65536)

/-- The head counts a STATUS (R768, R775), its own included; `chain_done` when every module has reported. -/
def State.headStatus (s : State) (pos : Nat) (ack : Bool) (status : Nat) : State :=
  let s1 := if ack then s.addSat F.KV_FW_XFER_acks 1
    else
      let t := if s.get F.KV_FW_XFER_naks = 0 then
        (s.put F.KV_FW_XFER_first_nak_pos pos).put F.KV_FW_XFER_first_nak status else s
      t.addSat F.KV_FW_XFER_naks 1
  let from1 := if s.fw.statusFrom.contains pos then s.fw.statusFrom else pos :: s.fw.statusFrom
  let s2 := { s1 with fw := { s1.fw with statusFrom := from1 } }
  if from1.length = Config.chainModules then s2.raise F.KV_FW_EVT_chain_done else s2

/-- This module reports a STATUS (R759, R775). -/
def State.sendStatus (s : State) (ack : Bool) (status : Nat) : State :=
  let gen := bankGen (s.bank (1 - s.get F.KV_BOOT_STAT_bank))
  let s1 := s.put F.KV_FW_XFER_status status
  let s2 := if ack then s1 else s1.raise F.KV_FW_EVT_xfer_fail
  if s2.isHead then s2.headStatus 0 ack status
  else s2.emit (.chainUp 4 s2.chainPos (s2.get F.KV_FW_XFER_xfer_id) (statusWord ack status gen))

/-- Send what waits, while the head of the line is no DATA frame or credit is held (R760). -/
def sendWaiting : List (Nat × Nat × List Byte) → Nat → List (Nat × Nat × List Byte) × Nat × List (Nat × Nat × List Byte)
  | [], c => ([], c, [])
  | f :: r, c =>
    if f.1 = 1 then
      match c with
      | 0 => ([], 0, f :: r)
      | n + 1 => let x := sendWaiting r n; (f :: x.1, x.2.1, x.2.2)
    else let x := sendWaiting r c; (f :: x.1, x.2.1, x.2.2)

/-- Relay what waits (R760); at the head `go` is cleared when the last frame is sent (R775). -/
def State.relayFlush (s0 : State) : State :=
  let x := sendWaiting s0.fw.relayQ s0.fw.credit
  let id := s0.get F.KV_FW_XFER_xfer_id
  let s := if s0.fw.relayQ ≠ [] ∧ x.2.2 = [] then s0.zero F.KV_FW_SEND_CTL_go else s0
  { s.emits (x.1.map (fun f => .chainDown f.1 id f.2.1 f.2.2)) with
    fw := { s.fw with relayQ := x.2.2, credit := x.2.1 } }

/-- Relay frames downstream, in order. -/
def State.relay (s : State) (fs : List (Nat × Nat × List Byte)) : State :=
  { s with fw := { s.fw with relayQ := s.fw.relayQ ++ fs } }.relayFlush

/-- Relay ABORT downstream with a reason (R758): frames that wait are not sent. -/
def State.relayAbort (s : State) (reason : Nat) : State :=
  { s with fw := { s.fw with relayQ := [] } }.relay [(3, s.fw.nextSeq, [BitVec.ofNat 8 reason])]

/-- The transfer ends at this module (R760, R764). -/
def State.xferEnd (s : State) : State :=
  { s with fw := { s.fw with step := .idle, hdr := none, staged := [], stagedImg := none } }

/-- The transfer is cut short: a header already written does not stay (R764, R767). -/
def State.xferCut (s : State) : State :=
  (if s.fw.step = .reading then s.setBank s.inactiveBank bank0 else s).xferEnd

/-- Is the image to be booted from staging and not written (R713, R765)? -/
def State.chainBoot (s : State) : Bool := s.mode == LOAD && s.get F.KV_STRAP_boot_src == 1

/-- The check of R762, with R765: the status of a refusal, or 0. -/
def State.hdrRefusal (s : State) (h : ImgHdr) : Nat :=
  if ¬(h.part = 0x9420 ∧ h.step = 0x10) then 1
  else if h.generation ≤ s.get F.KV_BOOT_STAT_generation then 2
  else if !sizeOk h then 3
  else if h.security < Config.minSecurity then 4
  else if s.probRuns || (s.bank s.inactiveBank).state == 0x3F then 11
  else if s.mode = MAINTENANCE ∨ s.mode = TRAIN ∨ s.mode = RAISE then 5
  else 0

/-- An HDR is taken (R761 to R763): it is checked, relayed whatever the result, and accepted, with the inactive
bank erased, or refused. -/
def State.takeHdr (s : State) (xfer : Nat) (h : ImgHdr) : State :=
  let st := s.hdrRefusal h
  let s1 := s.put F.KV_FW_XFER_xfer_id xfer
  let s2 := { s1 with fw := { s1.fw with
    hdr := some h, staged := [], stagedImg := none, nextSeq := 1, relayQ := [], statusFrom := []
    erased := s1.chainBoot
    step := if st = 0 then .receiving else .relaying st } }
  let s3 := ((((s2.zero F.KV_FW_XFER_acks).zero F.KV_FW_XFER_naks).zero F.KV_FW_XFER_first_nak_pos).zero
    F.KV_FW_XFER_first_nak)
  let s4 := s3.relay [(0, 0, [])]
  if st = 0 ∧ s4.chainBoot = false then s4.setBank s4.inactiveBank bank0 else s4

/-- A DATA frame is taken in order (R760, R761): relayed, staged, and its credit returned. -/
def State.takeData (s : State) (seq : Nat) (bytes : List Byte) : State :=
  let s1 := s.relay [(1, seq, bytes)]
  let s2 := { s1 with fw := { s1.fw with
    nextSeq := seq + 1
    staged := if s1.fw.step = .receiving then s1.fw.staged ++ bytes else s1.fw.staged } }
  if s2.isHead then s2 else s2.emit (.chainUp 5 0 (s2.get F.KV_FW_XFER_xfer_id) 1)

/-- A frame fault (R760): STATUS LINK upstream, ABORT downstream, and the transfer ends. -/
def State.frameFault (s : State) : State := ((s.sendStatus false 6).relayAbort 6).xferEnd

/-- The status of a failed body check (R764): CRC, KEY_REVOKED or SIGNATURE; for digests and contents, whose status
the spec leaves open, CRC (log 13). -/
def bodyStatus (err : Nat) : Nat := if err = 9 then 10 else if err = 8 then 8 else 7

/-- END is taken (R761 step 4, R764, R765): the staged body is checked; in LOAD with the reel chain as boot source
the image is booted from staging, else it is written to flash once the erase has ended. -/
def State.takeEnd (s : State) (seq sent crc : Nat) (c : ImgContent) : State :=
  let s1 := s.relay [(2, seq, [])]
  match s1.fw.step, s1.fw.hdr with
  | .relaying st, _ => (s1.sendStatus false st).xferEnd
  | .receiving, some h =>
    let crcOk := decide (crc32 s1.fw.staged = crc) && decide (crc = h.bodyCrc) &&
      decide (s1.fw.staged.length = sent)
    let err := bodyCheck h c
    if !crcOk then ((s1.sendStatus false 7).relayAbort 7).xferEnd
    else if err ≠ 0 then
      let s2 := if s1.chainBoot then s1.checked err else s1
      ((s2.sendStatus false (bodyStatus err)).relayAbort (bodyStatus err)).xferEnd
    else if s1.chainBoot then
      let s2 := ((s1.checked 0).sendStatus true 0).xferEnd
      (s2.put F.KV_BOOT_STAT_generation h.generation).bootImage ⟨h, c⟩ 0
    else
      { s1 with fw := { s1.fw with
        stagedImg := some ⟨h, c⟩
        step := if s1.fw.erased then .programming else .ended } }
  | _, _ => s1

/-- CHAIN_HDR (R762, R763): a busy port answers BUSY and neither relays nor writes. -/
def execChainHdr (xfer : Nat) (frameOk : Bool) (hdr : ImgHdr) (s : State) : Host.Outcome State Fault Refusal :=
  if s.awake && s.fw.linkUp then
    if s.chainBusy then
      ok (s.emit (.chainUp 4 s.chainPos xfer (statusWord false 5 0)))
    else if frameOk then ok (s.takeHdr xfer hdr)
    else ok ((s.put F.KV_FW_XFER_xfer_id xfer).frameFault)
  else ok s

/-- Does a frame belong to the transfer in progress? -/
def State.xferIs (s : State) (xfer : Nat) : Bool :=
  s.awake && s.chainBusy && s.get F.KV_FW_XFER_xfer_id == xfer

/-- Is the module taking the body? -/
def State.takesBody (s : State) : Bool :=
  match s.fw.step with
  | .receiving => true
  | .relaying _ => true
  | _ => false

/-- CHAIN_DATA (R760). -/
def execChainData (xfer seq : Nat) (frameOk : Bool) (bytes : List Byte) (s : State) :
    Host.Outcome State Fault Refusal :=
  okIf (s.xferIs xfer && s.takesBody) s
    (if frameOk && seq == s.fw.nextSeq then s.takeData seq bytes else s.frameFault)

/-- CHAIN_END (R764). -/
def execChainEnd (xfer seq : Nat) (frameOk : Bool) (sent crc : Nat) (content : ImgContent) (s : State) :
    Host.Outcome State Fault Refusal :=
  okIf (s.xferIs xfer && s.takesBody) s
    (if frameOk && seq == s.fw.nextSeq then s.takeEnd seq sent crc content else s.frameFault)

/-- CHAIN_ABORT (R760): the transfer ends and the frame is relayed. -/
def execChainAbort (xfer reason : Nat) (s : State) : Host.Outcome State Fault Refusal :=
  okIf (s.xferIs xfer) s ((s.relayAbort reason).xferCut)

/-- CHAIN_STATUS (R759, R768): relayed, or counted at the head. -/
def execChainStatus (xfer pos : Nat) (ack : Bool) (status gen : Nat) (s : State) :
    Host.Outcome State Fault Refusal :=
  okIf s.awake s
    (if s.isHead then s.headStatus pos ack status
     else s.emit (.chainUp 4 pos xfer (statusWord ack status gen)))

/-- CHAIN_CREDIT (R760): frames freed downstream, at most 32 in all. -/
def execChainCredit (n : Nat) (s : State) : Host.Outcome State Fault Refusal :=
  okIf s.awake s { s with fw := { s.fw with credit := min 32 (s.fw.credit + n) } }.relayFlush

/-- CHAIN_LINK_UP (R816, R758): the position is the upstream module's plus 1; the head is 0. -/
def execChainLinkUp (upstream : Nat) (s : State) : Host.Outcome State Fault Refusal :=
  okIf s.awake s ({ s with fw := { s.fw with linkUp := true } }.put F.KV_FW_XFER_position
    (if s.isHead then 0 else upstream + 1))

/-- CHAIN_LINK_DOWN (R816, R767): a transfer ends with STATUS LINK. -/
def execChainLinkDown (s : State) : Host.Outcome State Fault Refusal :=
  let t := { s with fw := { s.fw with linkUp := false } }
  okIf s.awake s (if s.chainBusy then (t.sendStatus false 6).xferCut else t)

/-! ### Flash steps (R761, R764, R765) -/

/-- The state byte that a verified image is written with (R765). -/
def State.writtenState (s : State) : Nat := if s.mode = SAFE ∨ s.mode = LOAD then 0x1F else 0x7F

/-- A flash operation of the transfer ends (R761): erase, program, read-back. -/
def State.flashStep (s : State) (ok : Bool) : State :=
  if !ok then ((s.setBank s.inactiveBank bank0).sendStatus false 9).xferEnd
  else if s.fw.erased = false then
    { s with fw := { s.fw with
      erased := true
      step := if s.fw.step = .ended then .programming else s.fw.step } }
  else
    match s.fw.step with
    | .programming =>
      { s.setBank s.inactiveBank ⟨s.writtenState, s.fw.stagedImg⟩ with fw := { s.fw with step := .reading } }
    | .reading => ((s.raise F.KV_FW_EVT_staged).sendStatus true 0).xferEnd
    | _ => s

/-- Is a flash operation of a transfer in progress? -/
def State.flashBusy (s : State) : Bool :=
  match s.fw.step with
  | .receiving => !s.fw.erased
  | .ended => true
  | .programming => true
  | .reading => true
  | _ => false

/-- FLASH_OP_DONE (R761). -/
def execFlashOpDone (ok : Bool) (s : State) : Host.Outcome State Fault Refusal :=
  okIf (s.awake && s.flashBusy) s (s.flashStep ok)

/-! ### The head (R768) -/

/-- The body as DATA frames of 4,096 bytes, from frame number n on; the fuel bounds their number. -/
def dataFrames : Nat → Nat → List Byte → List (Nat × List Byte)
  | 0, _, _ => []
  | _, _, [] => []
  | k + 1, n, l => (n, l.take 4096) :: dataFrames k (n + 1) (l.drop 4096)

/-- May a transfer start here: at the head, with the port free (R763, R768)? -/
def State.fwSends (s : State) : Bool := s.awake && s.isHead && !s.chainBusy

/-- FW_SEND_GO (R768): at a head whose port is free, the image is handled as though received, and sent. `go` stays set while
frames wait for credit (R775); where it is refused, the write stores its length alone. -/
def execFwSendGo (length : Nat) (img : Image) (body : List Byte) (s : State) : Host.Outcome State Fault Refusal :=
  let s1 := (s.put F.KV_FW_SEND_CTL_length length).zero F.KV_FW_SEND_CTL_go
  if s.fwSends then
    let s2 := s1.emit (.dmaRead 0 0 (s1.get F.KV_FW_SEND_ADDR_addr) length)
    let xfer := (s2.get F.KV_FW_XFER_xfer_id + 1) % 2 ^ 16
    let s3 := s2.takeHdr xfer img.hdr
    let fs := dataFrames (body.length + 1) 1 body
    let s4 := fs.foldl (fun (t : State) f => t.takeData f.1 f.2) s3
    let s5 := s4.takeEnd s4.fw.nextSeq body.length (crc32 body) img.content
    ok (s5.put F.KV_FW_SEND_CTL_go (b2n (!s5.fw.relayQ.isEmpty)))
  else okIf s.awake s s1

/-! ### Activation and probation (R769 to R773) -/

/-- The refusal of an activation (R769), or 0. -/
def State.actRefusal (s : State) : Nat :=
  let k := s.bank s.inactiveBank
  if ¬(s.mode = RUN ∨ s.mode = DEGRADED) then 11
  else if k.state ≠ 0x7F then 2
  else if s.get F.KV_FW_STAT_fw_version < ((k.image).map (fun i => i.hdr.minHitless)).getD 0 then 2
  else if s.chainBusy then 5
  else 0

/-- The probation window of an image (R754). -/
def probationSecs (h : ImgHdr) : Nat := if h.probationS = 0 then 600 else h.probationS

/-- An activation runs (R770): the free slot takes the firmware, the bank becomes TRIAL and in use, the record is
written, the activation source asserts and the mode enters PROBATION. -/
def State.activate (s : State) : State :=
  let b := s.inactiveBank
  match (s.bank b).image with
  | none => s
  | some im =>
    let slot := 1 - s.fw.running
    let left := probationSecs im.hdr
    let s1 := s.setBank b { s.bank b with state := 0x3F }
    let s2 := { s1 with
      fw := { s1.fw with slots := lset none s1.fw.slots slot (some im), running := slot }
      rec0 := { s1.rec0 with prob := some ⟨b, left, slot⟩ }
      boot := { s1.boot with rom := some im, resume := true } }
    let s3 := ((s2.useBank b).put F.KV_MODE_probation_left left).raise F.KV_FW_EVT_activated
    (s3.assertSource .activation).enterMode PROBATION

/-- Request activation: it starts, or `act_err` says why not (R769). -/
def State.tryActivate (s : State) : State :=
  if s.actRefusal = 0 then s.activate else s.put F.KV_FW_STAT_act_err s.actRefusal

/-- FW_ACTIVATE (R769). -/
def execFwActivate (s : State) : Host.Outcome State Fault Refusal := okIf s.awake s s.tryActivate

/-- Confirmation (R771, R44). -/
def State.confirm (s : State) : State :=
  match s.rec0.prob with
  | none => s
  | some p =>
    let s1 := s.setBank p.bank { s.bank p.bank with state := 0x1F }
    let s2 := { s1 with rec0 := { s1.rec0 with prob := none }, boot := { s1.boot with resume := false } }
    ((s2.put F.KV_MODE_probation_left 0).raise F.KV_FW_EVT_confirmed).leaveProbation

/-- FW_CONFIRM (R771): the write acts only when it comes from the ACTIVE controller (source 2). -/
def execFwConfirm (src : Nat) (s : State) : Host.Outcome State Fault Refusal :=
  okIf (src == 2 && s.activeMc.isSome && s.probRuns && s.live) s s.confirm

/-- PROBATION_EXPIRY (R44, R772): the fallback core reset. -/
def execProbationExpiry (s : State) : Host.Outcome State Fault Refusal :=
  okIf (s.probRuns && s.live && s.rec0.prob.any (fun p => decide (p.left = 0))) s
    ((s.probationFail.leaveProbation).assertSource .probation)

/-! ### Commands along the chain (R766) -/

/-- A CMD payload (R766). -/
def cmdBytes (cmd target gen : Nat) : List Byte :=
  (beBytes 8 (cmd + target * 256 + gen % 2 ^ 32 * 65536)).reverse

/-- Does a CMD name this module? -/
def State.cmdMine (s : State) (target : Nat) : Bool := target == 0xFF || target == s.chainPos

/-- Relay a CMD downstream; every module does. -/
def State.relayCmd (s : State) (cmd target gen : Nat) : State :=
  s.emit (.chainDown 6 0 0 (cmdBytes cmd target gen))

/-- The answer to a CMD. -/
def State.cmdStatus (s : State) (status : Nat) : State :=
  if s.isHead then s
  else s.emit (.chainUp 4 s.chainPos 0 (statusWord (status == 0) status (s.get F.KV_BOOT_STAT_generation)))

/-- CHAIN_CORE_RESET (R766). -/
def execChainCoreReset (target gen : Nat) (s : State) : Host.Outcome State Fault Refusal :=
  let t := s.relayCmd 1 target gen
  okIf s.awake s (if s.cmdMine target then (t.cmdStatus 0).assertSource .chainCore else t)

/-- CHAIN_ACTIVATE (R766, R769): activation when `generation` is that of the STAGED bank, else VERSION. -/
def execChainActivate (target gen : Nat) (s : State) : Host.Outcome State Fault Refusal :=
  let t := s.relayCmd 3 target gen
  let st := if s.actRefusal ≠ 0 then s.actRefusal
    else if bankGen (s.bank s.inactiveBank) ≠ gen then 2 else 0
  okIf s.awake s
    (if s.cmdMine target then
       (if st = 0 then (t.cmdStatus 0).activate else (t.cmdStatus st).put F.KV_FW_STAT_act_err st)
     else t)

end Sys2Proof.Machine
end

