-- ==== Sys2Proof/Machine/Power.lean ====
section
/-! DEFINITION. Crossings, AVFS, the power envelope, updraft, aging and thermal state (chapter 17). -/

namespace Sys2Proof.Machine

/-! ### Crossings (R721 to R728) -/

/-- A request rises: the merge count travels with it and clears (R723). -/
def State.xingRequest (s : State) (x sent : Nat) : State :=
  (s.setXing x { xing0 with st := .req, at' := s.up }).put F.KV_ISL_XING_max_merge
    (max (s.get F.KV_ISL_XING_max_merge (xingSrc x)) sent) (xingSrc x)

/-- Events become the pending event of a crossing, or merge into it (R722, R723). -/
def State.xingMerge (s : State) (x : Nat) (c : Crossing) (n : Nat) : State :=
  if n = 0 then s
  else
    let more := if c.pend then c.merge + n else n - 1
    s.setXing x { c with pend := true, merge := if s.flag F.KV_ISL_CTL_merge_cnt_en (xingSrc x) then min 255 more else 0 }

/-- Several events are offered to a crossing one after another (R721, R722, R726). -/
def State.xingOffer (s : State) (x n : Nat) : State :=
  if n = 0 then s
  else match (s.xing x).st with
  | .idle => (s.xingRequest x 0).xingMerge x { xing0 with st := .req, at' := s.up } (n - 1)
  | .req => s.xingMerge x (s.xing x) n
  | .ack => s.xingMerge x (s.xing x) n
  | _ => s.addSat F.KV_ISL_XING_lost_events n (xingSrc x)

/-- An abort at the limit, with what is lost (R726, R728). -/
def State.xingAbort (s : State) (x lost : Nat) : State :=
  (((s.setXing x { xing0 with st := .timeout }).addSat F.KV_ISL_XING_lost_events lost (xingSrc x)).addSat
    F.KV_ISL_XING_timeouts 1 (xingSrc x)).raise F.KV_PWR_EVT_xing_timeout

/-- Are there two islands of these numbers, between which a crossing can be (R720)? -/
def xingIs (src dst : Nat) : Bool := decide (src < 68) && decide (dst < 68) && decide (src ≠ dst)

/-- Entries are written to a data crossing (R727, R728): the writer stops when its FIFO is full; after a timeout it discards
them, and toward a block in reset it writes none. -/
def State.xingWrite (s : State) (x n : Nat) : State :=
  let c := s.xing x
  let k := min n (Config.xingDepth x - (c.wr - c.rd))
  if c.st = .idle ∧ 0 < k then s.setXing x { c with wr := c.wr + k, at' := if c.rd < c.wr then c.at' else s.up } else s

/-- What arrives at a crossing: events, or entries. -/
def State.xingArrive (s : State) (data : Bool) (x n : Nat) : State := if data then s.xingWrite x n else s.xingOffer x n

/-- Has a crossing made no progress for `xing_timeout_us` of its sending island (R721, R728, R751), in REQ or ACK, or with
entries held? -/
def State.xingStuck (s : State) (x : Nat) : Bool :=
  let c := s.xing x
  (c.st == .req || c.st == .ack || (c.st == .idle && decide (c.rd < c.wr))) &&
    decide (c.at' + 1000 * max 1 (min 100 (s.get F.KV_ISL_CTL_xing_timeout_us (xingSrc x))) ≤ s.up)

/-- XING_TIMEOUT (R721, R726, R728): n events or entries arrive at a crossing, which then aborts if it has made no progress. -/
def execXingTimeout (data : Bool) (src dst n : Nat) (s : State) : Host.Outcome State Fault Refusal :=
  let x := xingNo data src dst
  let t := s.xingArrive data x n
  okIf (xingIs src dst) s (if t.xingStuck x then t.xingAbort x (xingHeld (t.xing x)) else t)

/-- The acknowledge of an event crossing rises or falls (R721, R722). -/
def State.xingAck (s : State) (x : Nat) (high : Bool) : State :=
  let c := s.xing x
  if c.st = .req ∧ high = true then s.setXing x { c with st := .ack, at' := s.up }
  else if c.st = .ack ∧ high = false then (if c.pend then s.xingRequest x c.merge else s.setXing x xing0)
  else s

/-- The read pointer of a data crossing advances past the oldest entry that its FIFO holds (R727). -/
def State.xingRead (s : State) (x : Nat) : State :=
  let c := s.xing x
  if c.st = .idle ∧ c.rd < c.wr then s.setXing x { c with rd := c.rd + 1, at' := s.up } else s

/-- XING_ACKNOWLEDGE (R721, R722, R727): n events arrive at an event crossing, and then its acknowledge rises or falls; or n
entries at a data crossing, and then, with `high`, its reader takes one. -/
def execXingAcknowledge (data : Bool) (src dst : Nat) (x : XingAnswer) (s : State) : Host.Outcome State Fault Refusal :=
  let i := xingNo data src dst
  let t := s.xingArrive data i x.n
  okIf (xingIs src dst) s (if data then (if x.high then t.xingRead i else t) else t.xingAck i x.high)

/-- XING_RESYNC (R721, R726, R728): n events or entries arrive at a crossing, and then, timed out, it returns to IDLE. -/
def execXingResync (data : Bool) (src dst n : Nat) (s : State) : Host.Outcome State Fault Refusal :=
  let x := xingNo data src dst
  let t := s.xingArrive data x n
  okIf (xingIs src dst) s (if (t.xing x).st = .timeout then t.setXing x xing0 else t)

/-! ### AVFS (R729 to R734) -/

/-- The thermal state (R746). -/
def State.therm (s : State) : Nat := s.get F.KV_THERM_STAT_state

/-- Islands slowed in CRITICAL (R746). -/
def slowIslands : List Nat := [28, 29, 30, 31, 32, 67]

/-- The lowest frequency of an island in MHz (R729, R730), `demand` for packet-rate demand. -/
def lowestMHz (i : Nat) (demand : Bool) : Nat :=
  if i = 0 then 200
  else if i ≤ 16 then (if demand then 1200 else 1000)
  else if i ≤ 24 then 0
  else if i = 26 ∨ i = 27 then 1000
  else if i = 28 ∨ i = 29 then 1000
  else if i = 30 ∨ i = 31 ∨ i = 32 ∨ i = 67 then 500
  else 1200

/-- Is the island in updraft? -/
def State.inUpdraft (s : State) (i : Nat) : Bool := s.flag F.KV_ISL_STAT_updraft i

/-- The fastest cluster island (R729). -/
def State.fastestCluster (s : State) : Nat :=
  (List.range 16).foldl (fun m c => max m (s.get F.KV_ISL_STAT_f_mhz (c + 1))) 0

/-- The frequency that an island's loop works toward (R729, R740, R746). -/
def State.targetMHz (s : State) (i : Nat) : Nat :=
  if 1 ≤ i ∧ i ≤ 16 ∧ s.inUpdraft i = true then 1450
  else if i = 26 ∨ i = 27 then s.fastestCluster
  else if slowIslands.contains i && decide (3 ≤ s.therm) then lowestMHz i false
  else nominalMHz i

/-- Does packet-rate demand hold for an island (R730): was it seen in the last 100 µs? -/
def State.demandHolds (s : State) (i : Nat) : Bool :=
  thas s.pwr.demand i && decide (s.up < tget s.pwr.demand i 0 + 100000)

/-- `avfs_en` as a write of `KV_ISL_CTL` leaves it (R734): at 0, the island runs at 0.75 V and its nominal frequency. -/
def State.avfsOff (s : State) (i : Nat) : State :=
  if s.flag F.KV_ISL_CTL_avfs_en i || !s.isOn i then s
  else
    let t := (s.put F.KV_ISL_STAT_f_mhz (nominalMHz i) i).setIslMv i 750
    { t with pwr := { t.pwr with steady := tdel t.pwr.steady i } }

/-- One step of the AVFS loop with smallest slack m in ps (R732, R734). A rise of frequency comes before a fall of
voltage. -/
def State.avfs (s0 : State) (i m : Nat) : State :=
  let demand := s0.demandHolds i
  let s := s0.put F.KV_ISL_STAT_margin_ps (min 255 m) i
  let f := s.get F.KV_ISL_STAT_f_mhz i
  let v := s.islMv i
  let was := tget s.pwr.steady i false
  let s1 := { s with pwr := { s.pwr with steady := tput s.pwr.steady i (decide (15 ≤ m)) false } }
  if m < 15 then
    if v < 800 then s1.setIslMv i (v + 5)
    else if lowestMHz i demand + 25 ≤ f then s1.put F.KV_ISL_STAT_f_mhz (f - 25) i
    else s1.raise F.KV_PWR_EVT_avfs_floor
  else if f + 25 ≤ s1.targetMHz i ∧ was = true then s1.put F.KV_ISL_STAT_f_mhz (f + 25) i
  else if s1.targetMHz i + 25 ≤ f then s1.put F.KV_ISL_STAT_f_mhz (f - 25) i
  else if 35 < m ∧ 605 ≤ v then s1.setIslMv i (v - 5)
  else s1

/-- AVFS_STEP (R732): an island in service with `avfs_en` = 1, from the end of RAISE on (R820). -/
def execAvfsStep (i slack : Nat) (s : State) : Host.Outcome State Fault Refusal :=
  okIf (s.live && decide (i < 68) && s.isOn i && s.flag F.KV_ISL_CTL_avfs_en i) s (s.avfs i slack)

/-- DROOP_DETECT (R733, R749): the frequency falls one step, the floor of R730 not holding it back. -/
def execDroopDetect (i : Nat) (s : State) : Host.Outcome State Fault Refusal :=
  okIf (s.awake && decide (i < 68) && s.isOn i && s.flag F.KV_ISL_CTL_avfs_en i) s
    (let f := s.get F.KV_ISL_STAT_f_mhz i
     ((if lowestMHz i false + 25 ≤ f then s.put F.KV_ISL_STAT_f_mhz (f - 25) i else s).raise
       F.KV_PWR_EVT_droop))

/-- AVS_COMPLETE (R820): the rail's request is done, and a change that waited is requested. -/
def execAvsComplete (rail mv : Nat) (s : State) : Host.Outcome State Fault Refusal :=
  let t := { s with pwr := { s.pwr with avsDue := tdel s.pwr.avsDue rail } }
  okIf (thas s.pwr.avsDue rail) s (if t.railWant rail = mv then t else t.railRequest rail)

/-! ### Power envelope and updraft (R738 to R743) -/

/-- A cluster island leaves updraft (R740): it steps down to its target. -/
def State.leaveUpdraft (s : State) (c : Nat) : State :=
  if s.inUpdraft (c + 1) then
    let s1 := { s.zero F.KV_ISL_STAT_updraft (c + 1) with
      pwr := { s.pwr with updraftAt := tdel s.pwr.updraftAt c } }
    s1.put F.KV_ISL_STAT_f_mhz (min (s1.get F.KV_ISL_STAT_f_mhz (c + 1)) (nominalMHz (c + 1))) (c + 1)
  else s

/-- Every island leaves updraft. -/
def State.leaveAll (s : State) : State := (List.range 16).foldl State.leaveUpdraft s

/-- Is any island in updraft? -/
def State.anyUpdraft (s : State) : Bool := (List.range 16).any (fun c => s.inUpdraft (c + 1))

/-- An estimate of module power (R738, R739, R741): the credit of 20 µs, and the peak of the second. -/
def State.estimate (s : State) (watts : Nat) : State :=
  let sec : Nat := s.up / 1000000000
  let s1 := s.put F.KV_PWR_STAT_power_w watts
  let s2 : State := if sec = s1.pwr.sec then { s1 with pwr := { s1.pwr with secPeak := max s1.pwr.secPeak watts } }
    else { s1.put F.KV_PWR_STAT_peak_w s1.pwr.secPeak with
      pwr := { s1.pwr with sec := sec, secPeak := watts } }
  let c : Nat := s2.pwr.creditUs
  if 1350 < watts then
    let s3 := if s2.anyUpdraft then s2 else s2.raise F.KV_PWR_EVT_over_tdp
    let s4 := { s3 with pwr := { s3.pwr with creditUs := c - 20 } }
    if c ≤ 20 then
      let s5 := (if 0 < c then s4.raise F.KV_PWR_EVT_credit_empty else s4).leaveAll
      { s5 with pwr := { s5.pwr with barred := true } }
    else s4
  else
    let n := min 50000 (c + 2)
    { s2 with pwr := { s2.pwr with creditUs := n, barred := s2.pwr.barred && decide (n < 10000) } }

/-- POWER_ESTIMATE (R738). -/
def execPowerEstimate (watts : Nat) (s : State) : Host.Outcome State Fault Refusal :=
  okIf s.awake s (s.estimate watts)

/-- Bytes in the MAC input buffer of a physical port (R125, R740). -/
def State.inbufBytes (s : State) (p : Nat) : Nat :=
  ((tget s.port.phys p physPort0).inbuf.map (fun f => f.bytes.length + 4)).sum

/-- Note when the MAC input buffer of a port last held 16 KiB (R740). -/
def State.stampHigh (s : State) (p : Nat) : State :=
  if 16384 ≤ s.inbufBytes p then { s with pwr := { s.pwr with highAt := tset s.pwr.highAt (p / 2) s.up } } else s

/-- Has every MAC input buffer of a cluster's ports held less than 16 KiB for 10 µs (R740)? -/
def State.inbufLow (s : State) (c : Nat) : Bool :=
  decide (s.inbufBytes (2 * c) < 16384) && decide (s.inbufBytes (2 * c + 1) < 16384) &&
    !(thas s.pwr.highAt c && decide (s.up < tget s.pwr.highAt c 0 + 10000))

/-- The aging allowance of R743 for a cluster island, in seconds. -/
def State.agingOk (s : State) (c : Nat) : Bool :=
  let allow := s.get F.KV_AGE_ON_on_s / 20 + 86400
  if s.flag F.KV_AGE_UPD_aged_out c then decide (s.get F.KV_AGE_UPD_upd_s c + 3600 ≤ allow)
  else decide (s.get F.KV_AGE_UPD_upd_s c ≤ allow)

/-- Is updraft allowed for a cluster (R741), with the estimate that it would bring? -/
def State.updraftAllowed (s : State) (c est : Nat) : Bool :=
  s.flag F.KV_PWR_CTL_updraft_en && bitOf (s.get F.KV_PWR_CTL_updraft_mask) c &&
    (s.therm == 0 || (s.therm == 1 && decide (s.up < tget s.pwr.updraftAt c s.up + 50000000))) &&
    (decide (s.get F.KV_PWR_STAT_power_w ≤ 1350) || decide (0 < s.pwr.creditUs)) && !s.pwr.barred &&
    decide (est ≤ 1550) && s.agingOk c

/-- UPDRAFT_ENTER (R740). -/
def execUpdraftEnter (cl est : Nat) (s : State) : Host.Outcome State Fault Refusal :=
  okIf (s.live && decide (cl < 16) && s.isOn (cl + 1) && !s.inUpdraft (cl + 1) &&
      (decide (65536 < s.inbufBytes (2 * cl)) || decide (65536 < s.inbufBytes (2 * cl + 1))) &&
      s.updraftAllowed cl est) s
    ((({ s with pwr := { s.pwr with updraftAt := tset s.pwr.updraftAt cl s.up } }.raise
      F.KV_ISL_STAT_updraft (cl + 1)).zero F.KV_AGE_UPD_aged_out cl))

/-- UPDRAFT_EXIT (R740): the buffers have been low for 10 µs, or updraft is no longer allowed; the estimate holds the island at
its frequency. -/
def execUpdraftExit (cl : Nat) (s : State) : Host.Outcome State Fault Refusal :=
  okIf (decide (cl < 16) && (s.inbufLow cl || !s.updraftAllowed cl (s.get F.KV_PWR_STAT_power_w))) s (s.leaveUpdraft cl)

/-- AGE_COUNTER_SAVE (R742). -/
def execAgeCounterSave (s : State) : Host.Outcome State Fault Refusal := okIf s.awake s s.saveAging

/-- One more second outside OFF (R742, R743): the limit is in force from its reaching until the allowance exceeds the time by
an hour. -/
def State.ageSecond (s : State) : State :=
  let s1 := s.addSat F.KV_AGE_ON_on_s 1
  (List.range 16).foldl (fun (t : State) c =>
    if t.inUpdraft (c + 1) then
      let t1 := t.addSat F.KV_AGE_UPD_upd_s 1 c
      if t1.agingOk c then t1
      else ((t1.leaveUpdraft c).raise F.KV_AGE_UPD_aged_out c).raise F.KV_PWR_EVT_aged_out
    else if t.agingOk c then t.zero F.KV_AGE_UPD_aged_out c
    else t) s1

/-! ### Thermal management (R744 to R748) -/

/-- The sensors of a die (R744): islands and twelve hot spots. -/
def dieSensors (dt : Bool) : List Nat :=
  if dt then (List.range 33).map (· + 35) ++ (List.range 12).map (· + 80)
  else List.range 35 ++ (List.range 12).map (· + 68)

/-- The highest of some valid readings, and its sensor. -/
def hottest (temps : List Int) (valid : List Bool) : List Nat → Option (Nat × Int)
  | [] => none
  | k :: r =>
    match hottest temps valid r with
    | none => if valid.getD k false then some (k, temps.getD k 0) else none
    | some b => if valid.getD k false ∧ b.2 ≤ temps.getD k 0 then some (k, temps.getD k 0) else some b

/-- Tj of a die (R744, R745), with the sensor that gives it. -/
def dieTj (temps : List Int) (valid : List Bool) (dt : Bool) : Nat × Int :=
  let l := dieSensors dt
  if 2 * (l.filter (fun k => valid.getD k false)).length < l.length then (l.headD 0, 102)
  else (hottest temps valid l).getD (l.headD 0, 102)

/-- The threshold of a thermal state in °C (R746). -/
def thermAt : Nat → Int
  | 0 => -1000 | 1 => 95 | 2 => 100 | 3 => 102 | 4 => 105 | _ => 115

/-- Rise from a thermal state (R746). -/
def thermUp (tj : Int) : Nat → Nat → Nat
  | 0, st => st
  | n + 1, st => if st < 4 ∧ thermAt (st + 1) ≤ tj then thermUp tj n (st + 1) else st

/-- Fall from a thermal state, 3 °C below its threshold (R746). -/
def thermDown (tj : Int) : Nat → Nat → Nat
  | 0, st => st
  | n + 1, st => if 0 < st ∧ tj ≤ thermAt st - 3 then thermDown tj n (st - 1) else st

/-- The event of entering a thermal state. -/
def thermEvt : Nat → Option Fld
  | 1 => some F.KV_PWR_EVT_therm_warm | 2 => some F.KV_PWR_EVT_therm_hot
  | 3 => some F.KV_PWR_EVT_therm_crit | 4 => some F.KV_PWR_EVT_therm_alarm | _ => none

/-- Move to a thermal state, with the events of every state entered on the way and their effects (R746). -/
def State.setTherm (s : State) (new : Nat) : State :=
  let old := s.therm
  let s1 := s.put F.KV_THERM_STAT_state new
  let s2 := ((List.range 5).filter (fun k => decide (old < k ∧ k ≤ new))).foldl (fun (t : State) k =>
    match thermEvt k with | some e => t.raise e | none => t) s1
  let s3 := if 2 ≤ new then s2.leaveAll else s2
  if decide (3 ≤ new) = decide (3 ≤ old) then s3
  else slowIslands.foldl (fun (t : State) i =>
    if t.isOn i then t.put F.KV_ISL_STAT_f_mhz (t.targetMHz i) i else t) s3

/-- A reading of all sensors (R744 to R746). The ripcord state is left to R747. -/
def State.readSensors (s : State) (temps : List Int) (valid : List Bool) : State :=
  let s1 := (List.range 68).foldl (fun (t : State) i =>
    if valid.getD i false then t.put F.KV_ISL_STAT_temp_c (unsgn 8 (temps.getD i 0)) i
    else t.raise F.KV_ISL_STAT_sensor_bad i) s
  let bad := (List.range 92).filter (fun k => !valid.getD k false)
  let s2 := { (if bad.isEmpty then s1 else s1.raise F.KV_PWR_EVT_sensor_bad) with
    pwr := { s1.pwr with bad := bad } }
  let a := dieTj temps valid false
  let b := dieTj temps valid true
  let h := if b.2 ≤ a.2 then a else b
  let s3 := ((s2.put F.KV_THERM_STAT_tj_tf (unsgn 8 a.2)).put F.KV_THERM_STAT_tj_dt (unsgn 8 b.2)).put
    F.KV_THERM_STAT_hot_sensor h.1
  let s4 : State := if sgn 8 (s3.get F.KV_THERM_STAT_tj_max) < h.2 then s3.put F.KV_THERM_STAT_tj_max (unsgn 8 h.2)
    else s3
  if s4.therm = 5 then s4 else s4.setTherm (thermDown h.2 5 (thermUp h.2 5 s4.therm))

end Sys2Proof.Machine
end

