-- ==== Sys2Proof/Machine/HostOps.lean ====
section
/-! DEFINITION. Queues of PF1: indices, writeback, interrupts, stops, device reads, punt FIFOs and completions (R632,
R645 to R652, R658 to R662, R609). -/

namespace Sys2Proof.Machine

/-- Is the queue running: enabled and not stopped (R661, R662)? -/
def State.qRuns (s : State) (q : Nat) : Bool :=
  s.flag F.TF_QCTX_CFG_enable q && !s.flag F.TF_QCTX_ERR_stopped q

/-- The base-2 logarithm of a ring's size (R661): 6 to 16. -/
def State.qLog (s : State) (q : Nat) : Nat := max 6 (min 16 (s.get F.TF_QCTX_CFG_size_log2 q))

/-- Entries of a ring. -/
def State.qSize (s : State) (q : Nat) : Nat := 2 ^ s.qLog q

/-- Words of a completion ring (R659). -/
def State.cplSize (s : State) (q : Nat) : Nat := 2 ^ max 6 (min 16 (s.get F.TF_QCTX_CFG_cpl_log2 q))

/-- Indices of a completion ring: words written by the device, words consumed by the host. -/
def State.cplIdx (s : State) (q : Nat) : Nat × Nat := tget s.host.cplIdx q (0, 0)

/-- How far index a leads index b, on 32 bits (R647). -/
def lead (a b : Nat) : Nat := (a + 2 ^ 32 - b % 2 ^ 32) % 2 ^ 32

/-- The kind of a queue by its global number (R646): 0 punt, 1 inject, 2 command, 3 dump. -/
def qKind (q : Nat) : Nat := if q < 64 then 0 else if q < 128 then 1 else if q < 160 then 2 else 3

/-- Bytes of a slot (R646). -/
def qSlot (q : Nat) : Nat := if q < 128 then 32 else if q < 160 then 8 else 64

/-- The address of a ring slot. -/
def State.slotAddr (s : State) (q idx : Nat) : Nat :=
  s.get F.TF_QCTX_BASE_base q + qSlot q * (idx % s.qSize q)

/-- A queue stops with an error (R662), keeping its indices. -/
def State.qStop (s : State) (q err idx : Nat) : State :=
  if s.qRuns q then
    (((s.put F.TF_QCTX_ERR_err err q).put F.TF_QCTX_ERR_stopped 1 q).put F.TF_QCTX_ERR_err_idx idx q).raise
      F.TF_HOST_EVT_queue_err
  else s

/-- The status writeback (R649): the device index, and for a command queue that of its completion ring. -/
def State.qWriteback (s : State) (q : Nat) : State :=
  let dev := BitVec.ofNat 64 (s.get F.TF_QCTX_STAT_dev_idx q)
  let ws := if qKind q = 2 then [dev, BitVec.ofNat 64 (s.cplIdx q).1] else [dev]
  s.emit (.dmaWrite 1 (s.get F.TF_QCTX_WB_wb_addr q) ws)

/-- Raise the queue's vector (R645). -/
def State.qVector (s : State) (q : Nat) : State :=
  ({ s with host := { s.host with adv := tdel s.host.adv q, advAt := tdel s.host.advAt q } }).msixEvent (s.get F.TF_QCTX_CFG_vector q)

/-- n advances not yet covered by an interrupt (R645). -/
def State.qAdvance (s : State) (q n : Nat) : State :=
  if s.flag F.TF_QCTX_CFG_irq_en q then
    let a := tget s.host.adv q 0 + n
    let s1 := { s with host := { s.host with
      adv := tput s.host.adv q a 0
      advAt := if tget s.host.adv q 0 = 0 ∧ a ≠ 0 then tset s.host.advAt q s.up else s.host.advAt } }
    if max 1 (s.get F.TF_QCTX_CFG_coal_n q) ≤ a then s1.qVector q else s1
  else s

/-- The device has produced n entries (R639, R645, R649): index, writeback, interrupt, in this order. -/
def State.qProduced (s : State) (q n : Nat) : State :=
  ((s.addWrap F.TF_QCTX_STAT_dev_idx n q).qWriteback q).qAdvance q n

/-! ### Device reads (R632, R671 to R673) -/

/-- The tags that may be used (R632): first and number. -/
def State.tagRange (s : State) : Nat × Nat :=
  if s.flag F.TF_HOST_STAT_flit then (0, 8192)
  else if s.cfgBits 1 0x98 12 1 = 1 then (256, 768)
  else if s.cfgBits 1 0x78 8 1 = 1 then (0, 256)
  else (0, 32)

/-- The lowest tag of a range that is neither outstanding nor held. -/
def freeTag (used : List Nat) : Nat → Nat → Option Nat
  | _, 0 => none
  | t, n + 1 => if used.contains t then freeTag used (t + 1) n else some t

/-- Issue a read for a queue's entry. -/
def State.dmaIssue (s : State) (fn : Nat) (q : Option Nat) (idx addr len : Nat) : State :=
  let r := s.tagRange
  match freeTag (s.host.reqs.map (·.tag) ++ s.host.held) r.1 r.2 with
  | some t =>
    { s.emit (.dmaRead fn t addr len) with
      host := { s.host with reqs := s.host.reqs ++ [⟨fn, t, q, idx, s.up⟩] } }
  | none => s

/-! ### Punt FIFOs (R652) -/

/-- Bytes in a punt FIFO. -/
def State.puntBytes (s : State) (q : Nat) : Nat :=
  ((tget s.host.fifos q []).map (fun f => f.bytes.length)).sum

/-- Has the FIFO room for a frame? -/
def State.puntRoom (s : State) (q n : Nat) : Bool := decide (s.puntBytes q + n ≤ 65536)

/-- A frame goes to a punt queue, or is dropped and counted (R652). -/
def State.punt (s : State) (q : Nat) (f : PuntFrame) : State :=
  if s.puntRoom q f.bytes.length then
    { s with host := { s.host with fifos := tset s.host.fifos q (tget s.host.fifos q [] ++ [f]) } }
  else (s.count cgHost 1).raise F.TF_HOST_EVT_punt_drop

/-- The descriptor words that the device writes (R650). -/
def puntWords (f : PuntFrame) (len : Nat) : List Word :=
  let n := min len f.bytes.length
  [BitVec.ofNat 64 (n + (if len < f.bytes.length then 2 ^ 14 else 0) + b2n f.multiHit * 2 ^ 15 +
      f.inLport * 2 ^ 16 + f.destLport * 2 ^ 24 + f.cls * 2 ^ 32 + b2n f.accepted * 2 ^ 35 +
      f.reason * 2 ^ 36 + f.tag * 2 ^ 44 + 2 ^ 63),
   BitVec.ofNat 64 f.arrival]

/-! ### Completions (R609, R659) -/

/-- The words of a completion, the phase bit of the pass aside. -/
def cplWords (c : Cpl) : List Word :=
  [BitVec.ofNat 64 (c.tag % 2 ^ 32 + c.status * 2 ^ 32 + c.words.length * 2 ^ 36),
   BitVec.ofNat 64 c.epoch] ++ c.words

/-- Max_Payload_Size of PF1 in bytes (R632): at most the 512 supported. -/
def State.maxPayload (s : State) : Nat := 128 * 2 ^ min 2 (s.cfgBits 1 0x78 5 3)

/-- How much of n bytes from an address on one request may carry (R632): at most `lim`, and not across a 4 KiB boundary. -/
def reqSpan (lim a n : Nat) : Nat := min n (min lim (4096 - a % 4096))

/-- The writes that carry a frame's bytes, at most k of them (R632). -/
def State.frameWrites (s : State) : Nat → Nat → List Byte → List Out
  | 0, _, _ => []
  | k + 1, a, l =>
    if l.isEmpty then []
    else
      let n := reqSpan s.maxPayload a l.length
      .dmaBytes 1 a (l.take n) :: s.frameWrites k (a + n) (l.drop n)

/-- The writes that carry words into a ring from an index on, at most k of them: none passes the end of the ring (R632,
R647). -/
def State.writeRing (s : State) (base size : Nat) : Nat → Nat → List Word → List Out
  | 0, _, _ => []
  | k + 1, i, l =>
    if l.isEmpty then []
    else
      let a := base + 8 * (i % size)
      let n := max 1 (min (reqSpan s.maxPayload a (8 * l.length) / 8) (size - i % size))
      .dmaWrite 1 a (l.take n) :: s.writeRing base size k (i + n) (l.drop n)

/-- A completion as it is written into its ring: the phase is 1 on the first pass and inverts on each wrap (R609, R659). -/
def State.cplOuts (s : State) (c : Cpl) : List Out :=
  let q := 128 + c.q
  let i := (s.cplIdx q).1
  let ph := 1 - i / s.cplSize q % 2
  let ws := match cplWords c with
    | w :: r => BitVec.ofNat 64 (w.toNat + ph * 2 ^ 63) :: r
    | [] => []
  s.writeRing (s.get F.TF_QCTX_CPL_cpl_base q) (s.cplSize q) ws.length i ws

/-- Write a completion into its ring (R609, R639, R649, R659). A queue that is not running gets none (R662). -/
def State.complete (s : State) (c : Cpl) : State :=
  let q := 128 + c.q
  if s.qRuns q then
    let i := s.cplIdx q
    let s1 := s.emits (s.cplOuts c)
    let s2 := { s1 with host := { s1.host with
      cplIdx := tset s1.host.cplIdx q ((i.1 + (cplWords c).length) % 2 ^ 32, i.2) } }
    ((s2.count cgHost 5).qWriteback q).qAdvance q 1
  else s

end Sys2Proof.Machine
end

