-- ==== Sys2Proof/Machine/EngBase.lean ====
section
/-! DEFINITION. How the table engine takes a command: fetching, completion, batches and the journal (R588 to R590,
R607 to R616, R658, R659). The meaning of each table command gives only its own check and effect. -/

namespace Sys2Proof.Machine

/-! ### Status codes (R611) -/

def stOk : Nat := 0
def stBadKey : Nat := 1
def stBadRef : Nat := 2
def stBadPrefix : Nat := 3
def stNoSpace : Nat := 4
def stNotFound : Nat := 5
def stBusy : Nat := 6
def stTooDeep : Nat := 7
def stBatchFull : Nat := 8
def stBadOpcode : Nat := 9
def stAborted : Nat := 10
def stMode : Nat := 11
def stInterrupted : Nat := 12

/-! ### The journal (R589, R590) -/

/-- Store a word in the retained SRAM, its lowest byte first. -/
def State.sramPut (s : State) (off : Nat) (w : Word) : State :=
  { s with
    sram := (List.range 8).foldl (fun (m : List Host.Cell) i =>
      tput m (off + i) (BitVec.ofNat 8 (w.toNat / 2 ^ (8 * i))) 0) s.sram
    sramBad := s.sramBad.filter (fun o => decide (o ≠ off)) }

/-- A word of the retained SRAM. -/
def State.sramGet (s : State) (off : Nat) : Word :=
  BitVec.ofNat 64 ((List.range 8).map (fun i => (tget s.sram (off + i) (0 : Byte)).toNat * 2 ^ (8 * i))).sum

/-- Entries after `jidx`. -/
def State.journalUsed (s : State) : Nat := s.eng.jHead - s.eng.jIdx

/-- Would the next entry overwrite one at or after `jidx` (R590)? -/
def State.journalFull (s : State) : Bool := decide (2048 ≤ s.journalUsed)

/-- Where journal entry k stands (R701). -/
def journalAt (k : Nat) : Nat := 0x4000 + 16 * (k % 2048)

/-- Word 0 of a journal entry (R589). -/
def journalWord (type q op status count : Nat) : Word :=
  BitVec.ofNat 64 (type + 16 * (q % 32) + 512 * (op % 256) + 2 ^ 17 * (status % 16) + 2 ^ 32 * (count % 65536))

/-- Write the next journal entry; with the journal full none is written (log 20). -/
def State.journal (s : State) (type q op status count epoch cidx : Nat) : State :=
  if s.journalFull then s
  else
    let a := journalAt s.eng.jHead
    let s1 := (s.sramPut a (journalWord type q op status count)).sramPut (a + 8)
      (BitVec.ofNat 64 (epoch % 2 ^ 32 + 2 ^ 32 * (cidx % 2 ^ 32)))
    { s1 with eng := { s1.eng with jHead := s1.eng.jHead + 1 } }

/-- The consumer index of a command queue (R658). -/
def State.cidx (s : State) (q : Nat) : Nat := s.get F.TF_QCTX_STAT_dev_idx (128 + q)

/-- A refusal enters the journal, coalesced with the queue's last REFUSED entry (R590). -/
def State.journalRefused (s : State) (q op status : Nat) : State :=
  match tget? s.eng.refused q with
  | some k =>
    if s.eng.jHead < k + 2048 then
      let w := (s.sramGet (journalAt k)).toNat
      let e := s.sramGet (journalAt k + 8)
      (s.sramPut (journalAt k) (BitVec.ofNat 64 (setBits w 32 16 (min 65535 (bits w 32 16 + 1))))).sramPut
        (journalAt k + 8) (BitVec.ofNat 64 (setBits e.toNat 32 32 (s.cidx q)))
    else
      let t := s.journal 1 q op status 1 0 (s.cidx q)
      { t with eng := { t.eng with refused := tset t.eng.refused q s.eng.jHead } }
  | none =>
    if s.journalFull then s
    else
      let t := s.journal 1 q op status 1 0 (s.cidx q)
      { t with eng := { t.eng with refused := tset t.eng.refused q s.eng.jHead } }

/-- A COMMIT or ABORT entry ends the coalescing of its queue (R590). -/
def State.journalEnd (s : State) (type q epoch : Nat) : State :=
  let t := s.journal type q 0 0 0 epoch (s.cidx q)
  { t with eng := { t.eng with refused := tdel t.eng.refused q } }

/-! ### Fetching (R595, R601, R613 to R616, R658, R659) -/

/-- The commands in flight: fetched, not completed (R626). -/
def State.inFlight (s : State) : Nat :=
  s.eng.owed.length + s.eng.flushes.length + s.eng.rebuilds.length + s.eng.waiting.toList.length

/-- Completions owed to a command queue. -/
def State.owedTo (s : State) (q : Nat) : Nat :=
  (s.eng.owed.filter (fun o => decide (o.1 = q))).length
    + (s.eng.flushes.filter (fun o => decide (o.q = q))).length
    + (s.eng.rebuilds.filter (fun o => decide (o.1 = q))).length

/-- Has the completion ring room for a completion of `ret` returned words beside those owed (R659)? -/
def State.cplRoom (s : State) (q ret : Nat) : Bool :=
  let i := s.cplIdx (128 + q)
  decide (lead i.1 i.2 + 2 * s.owedTo q + 2 + ret ≤ s.cplSize (128 + q))

/-- Is a mailbox operation of this number in progress? -/
def State.mboxRuns (s : State) (op : Nat) : Bool :=
  s.flag F.KV_MBOX_STAT_busy && s.get F.KV_MBOX_STAT_cur_op == op

/-- The open batch holds all the engine can hold (R614). -/
def State.batchIsFull (s : State) : Bool := decide (16384 ≤ s.eng.owed.length)

/-- Does a command queue offer a command that can be fetched (R649, R658, R659)? -/
def State.cmdWaits (s : State) (q : Nat) : Bool :=
  s.qRuns (128 + q) && s.cplRoom q 0 &&
    decide (0 < lead (s.get F.TF_QCTX_STAT_host_idx (128 + q)) (s.get F.TF_QCTX_STAT_dev_idx (128 + q)))

/-- Is it a queue's turn (R613): it owns the open batch, or with none open it is the next in round robin that offers a
command? -/
def State.cmdTurn (s : State) (q : Nat) : Bool :=
  match s.eng.batchQ with
  | some o => o == q
  | none => ((List.range 32).map (fun i => (s.eng.lastQ + 1 + i) % 32)).find? s.cmdWaits == some q

/-- May the engine fetch this command, of which up to `ret` words return? -/
def State.fetchable (s : State) (c : TCmd) (ret : Nat) : Bool :=
  s.live && s.isOn 25 && s.activeMc.isSome && !s.flag F.KV_MC_STAT_handover && s.eng.phase == 0 && !s.eng.ready &&
    s.eng.waiting.isNone &&
    !s.mboxRuns 1 && decide (c.q < 32) && s.cmdTurn c.q &&
    s.qRuns (128 + c.q) && s.mayIssue 1 &&
    decide (c.words.length + 1 ≤
      lead (s.get F.TF_QCTX_STAT_host_idx (128 + c.q)) (s.get F.TF_QCTX_STAT_dev_idx (128 + c.q))) &&
    (s.batchIsFull || decide (s.inFlight < 16384)) && s.cplRoom c.q ret

/-- The command is fetched (R658): the device index moves past it. -/
def State.fetched (s : State) (c : TCmd) : State :=
  let t := { s with eng := { s.eng with lastQ := c.q, fetchAt := s.up } }
  ((t.addWrap F.TF_QCTX_STAT_dev_idx (c.words.length + 1) (128 + c.q)).count cgHost 4).qWriteback (128 + c.q)

/-- Do commands that change a table complete with MODE (R616): SAFE, or a drain from SAFE? -/
def State.tablesShut (s : State) : Bool := s.mode == SAFE || (s.mode == DRAIN && s.rst.fromSafe)

/-- A command completes at once with a refusal (R610, R612), which is journaled (R590). -/
def State.refuseCmd (s : State) (op : Nat) (c : TCmd) (status : Nat) : State :=
  (s.journalRefused c.q op status).complete ⟨c.q, c.tag, status, 0, []⟩

/-- The command joins its queue's batch, which opens with it (R613). -/
def State.owes (s : State) (c : TCmd) : State :=
  { s with eng := { s.eng with batchQ := some c.q, owed := s.eng.owed ++ [(c.q, c.tag, none)] } }

/-- A `commit` bit of 1 commits the open batch (R613). -/
def State.commitBit (s : State) (c : TCmd) : State :=
  if c.commit ∧ s.eng.batchQ.isSome then { s with eng := { s.eng with ready := true } } else s

/-- What a table command answers: refused with a status, refused with a status and a state in which that is reported, a read
with its words, a change of the inactive view, a change whose completion the engine owes elsewhere (a walk or a rebuild), or
a wait for a repair (R255). -/
inductive CmdRes where
  | refuse (status : Nat)
  | deny (t : State) (status : Nat)
  | read (words : List Word)
  | change (t : State)
  | start (t : State)
  | wait

/-- The engine acts on what a command answers; a command that waits holds its place in the batch (R255). -/
def State.answer (s : State) (op : Nat) (c : TCmd) : CmdRes → State
  | .refuse st => (s.refuseCmd op c st).commitBit c
  | .deny t st => (t.refuseCmd op c st).commitBit c
  | .read ws => (s.complete ⟨c.q, c.tag, stOk, 0, ws⟩).commitBit c
  | .change t => ((t.owes c).ballastTx 2 shadowRegion true).commitBit c
  | .start t => t.commitBit c
  | .wait => { s with eng := { s.eng with waiting := some (op, c) } }

/-- The engine takes a command (R607 to R616): opcode, whether the payload has a listed length, whether the
command changes a table, the words it may return, and its own check and effect. -/
def State.runCmd (s : State) (op : Nat) (lenOk changes : Bool) (ret : Nat) (c : TCmd)
    (apply : State → CmdRes) : State :=
  if s.fetchable c ret then
    let s1 := s.fetched c
    if s1.batchIsFull then
      ((s1.raise F.TF_TBL_EVT_batch_full).refuseCmd op c stBatchFull).commitBit c
    else if !lenOk then (s1.refuseCmd op c stBadKey).commitBit c
    else if changes && s1.tablesShut then (s1.refuseCmd op c stMode).commitBit c
    else s1.answer op c (apply s1)
  else s

/-- A command that changes the inactive view or is refused. -/
def State.runChange (s : State) (op : Nat) (lenOk : Bool) (c : TCmd) (apply : State → CmdRes) : State :=
  s.runCmd op lenOk true 0 c apply

/-- The word of a payload at a place. -/
def pw (c : TCmd) (i : Nat) : Nat := (c.words.getD i 0).toNat

/-- Has a payload this length (R608)? -/
def plen (c : TCmd) (n : Nat) : Bool := decide (c.words.length = n)

/-! ### The views (R239, R282, R619) -/

/-- Change the inactive view: a command of the host. -/
def State.setInact (s : State) (f : View → View) : State := { s with inact := f s.inact }

/-- Change the engine's own view, and with it the inactive one: a change of the engine that takes effect at its own
commit. -/
def State.setEng (s : State) (f : View → View) : State :=
  { s with engV := f s.engV, inact := f s.inact, eng := { s.eng with dirty := true } }

/-- Change what waits for the next commit of either kind, and is no change of a batch (R206, R339): hash profiles and
profile registers. -/
def State.setNext (s : State) (f : View → View) : State :=
  { s with engV := f s.engV, inact := f s.inact }

/-- Change every view and the shadow in the ballast: a change of a single slot in place (R298, R304). -/
def State.setAll (s : State) (f : View → View) : State :=
  let t := s.ballastTx 2 shadowRegion true
  { t with act := f s.act, engV := f s.engV, inact := f s.inact, mem := { t.mem with shadow := f s.mem.shadow } }

/-- An entry of the associative array with the open batch undone: none when the batch added it. -/
def assocUndo (e : AssocEntry) : Option AssocEntry :=
  if e.fresh then none else some { e with deleted := false, newResult := none }

/-- The array with the open batch undone. -/
def assocAbort (arr : Tab AssocEntry) : Tab AssocEntry :=
  arr.filterMap (fun p => (assocUndo p.2).map (fun e => (p.1, e)))

/-- The queue that owns the open batch, or that has a command waiting for a repair. -/
def State.batchOwner (s : State) : Option Nat :=
  match s.eng.batchQ with
  | some q => some q
  | none => s.eng.waiting.map (fun (w : Nat × TCmd) => w.2.q)

/-- Discard the open batch, with a command that waits for a repair (R615): its commands complete with ABORTED unless `silent`
(R668). -/
def State.abortBatch (s : State) (silent : Bool) : State :=
  match s.batchOwner with
  | none => s
  | some q =>
    let owed := s.eng.owed.map (fun o => (o.1, o.2.1)) ++ s.eng.waiting.toList.map (fun (w : Nat × TCmd) => (w.2.q, w.2.tag))
    let s1 := { s with
      inact := s.engV
      tbl := { s.tbl with assoc := assocAbort s.tbl.assoc, jobs := [], batchRewrites := 0 }
      eng := { s.eng with batchQ := none, owed := [], ready := false, waiting := none } }
    let s2 := if s.eng.batchQ.isSome then s1.journalEnd 2 q 0 else s1
    if silent then s2 else owed.foldl (fun t o => t.complete ⟨o.1, o.2, stAborted, 0, []⟩) s2

/-- COMMIT (R608, R613): the open batch is to be committed; with none open it completes at once. -/
def execCommit (c : TCmd) (s : State) : Host.Outcome State Fault Refusal :=
  if s.fetchable c 0 then
    let s1 := s.fetched c
    if !plen c 0 then ok ((s1.refuseCmd 0x00 c stBadKey).commitBit c)
    else if s1.eng.batchQ.isSome then
      ok { s1 with eng := { s1.eng with owed := s1.eng.owed ++ [(c.q, c.tag, none)], ready := true } }
    else ok (s1.complete ⟨c.q, c.tag, stOk, 0, []⟩)
  else ok s

/-- BATCH_ABORT (R608, R615). -/
def execBatchAbort (c : TCmd) (s : State) : Host.Outcome State Fault Refusal :=
  if s.fetchable c 0 then
    let s1 := s.fetched c
    if !plen c 0 then ok ((s1.refuseCmd 0x01 c stBadKey).commitBit c)
    else ok ((s1.abortBatch false).complete ⟨c.q, c.tag, stOk, 0, []⟩)
  else ok s

/-- BATCH_IDLE_TIMEOUT (R615): the owning queue has offered no command for `batch_idle_ms`. -/
def execBatchIdleTimeout (s : State) : Host.Outcome State Fault Refusal :=
  okIf (s.live && s.eng.batchQ.isSome && !s.eng.ready && s.eng.waiting.isNone && s.eng.phase == 0 &&
      decide (s.eng.fetchAt + max 1 (s.get F.TF_TBL_CTL_batch_idle_ms) * 1000000 ≤ s.up)) s
    ((s.abortBatch false).raise F.TF_TBL_EVT_idle_abort)

/-- A known opcode (R608). -/
def knownOpcodes : List Nat :=
  [0x00, 0x01, 0x10, 0x11, 0x12, 0x18, 0x19, 0x20, 0x21, 0x22, 0x28, 0x29, 0x2A, 0x30, 0x31, 0x32, 0x33, 0x38,
   0x39, 0x3A, 0x3B, 0x3C, 0x3D, 0x40, 0x41, 0x42, 0x43, 0x48, 0x49, 0x4A, 0x4B, 0x4C, 0x50, 0x51, 0x52, 0x53,
   0x54]

/-- TABLE_UNKNOWN_OPCODE (R608): any other opcode completes with BAD_OPCODE. -/
def execTableUnknownOpcode (opcode : Nat) (c : TCmd) (s : State) : Host.Outcome State Fault Refusal :=
  okIf (!knownOpcodes.contains opcode) s
    (s.runCmd opcode true false 0 c (fun _ => .refuse stBadOpcode))

end Sys2Proof.Machine
end

