-- ==== Sys2Proof/Machine/Host.lean ====
section
/-! DEFINITION. The commands of the host interface (chapter 15): configuration space, doorbells, queues, interrupts,
containment, resets, and device reads. -/

namespace Sys2Proof.Machine

/-! ### Messages that become possible (R643) -/

/-- Send the pending messages of a function whose conditions now hold (R643). -/
def State.flushPending (s : State) (fn : Nat) : State :=
  if fn = 0 then
    (tkeys s.host.msiPend).foldl (fun (t : State) v =>
      if t.mayIssue 0 && t.msiOn && t.cfgBits 0 0x60 v 1 == 0 then t.msiSend v else t) s
  else
    (tkeys s.host.pba).foldl (fun (t : State) v => if t.msixReady v then t.msixEvent v else t) s

/-! ### Containment (R663 to R667) -/

/-- Every queue of PF1 stops with FROZEN (R662, R664). -/
def State.stopAll (s : State) : State :=
  (List.range 168).foldl (fun (t : State) q => t.qStop q 5 (t.get F.TF_QCTX_STAT_dev_idx q)) s

/-- A function freezes, or while frozen takes a new cause (R663, R664, R666). -/
def State.freeze (s : State) (fn cause : Nat) : State :=
  let s1 := (s.setCfgBits fn 0x20C 2 8 cause).setCfgBits fn 0x20C 1 1 0
  if s.frozen fn then s1
  else
    let s2 := s1.setCfgBits fn 0x20C 24 8 (min 255 (s1.cfgBits fn 0x20C 24 8 + 1))
    let s3 := (s2.setCfgBits fn 0x20C 0 1 1).raise
      (if fn = 0 then F.TF_HOST_EVT_freeze0 else F.TF_HOST_EVT_freeze1)
    if fn = 1 then s3.stopAll.abortBatch false else s3

/-- AER logs an uncorrectable error of a function (R663). -/
def State.aerLog (s : State) (fn bit : Nat) : State :=
  let s1 := s.setCfgBits fn 0x104 bit 1 1
  if s1.cfgBits fn 0x210 bit 1 = 1 then s1.freeze fn bit else s1

/-- An uncorrectable error: those of link scope are logged for both functions (R663). -/
def State.aerError (s : State) (fn bit : Nat) : State :=
  if bit = 4 ∨ bit = 5 then (s.aerLog 0 bit).aerLog 1 bit else s.aerLog fn bit

/-- Requests of a function outstanding. -/
def State.outstanding (s : State) (fn : Nat) : Nat :=
  (s.host.reqs.filter (fun r => decide (r.fn = fn))).length

/-- The function is released (R665): its pending vectors are then sent. -/
def State.unfreezeNow (s : State) (fn : Nat) : State :=
  ((s.setCfgBits fn 0x20C 0 1 0).setCfgBits fn 0x20C 1 1 0).flushPending fn

/-- A release request (R665). -/
def State.unfreezeReq (s : State) (fn : Nat) : State :=
  if s.frozen fn then
    if s.outstanding fn = 0 then s.unfreezeNow fn else s.setCfgBits fn 0x20C 1 1 1
  else s

/-- FUNCTION_FREEZE (R663): AER logs an uncorrectable error for a function. -/
def execFunctionFreeze (fn bit : Nat) (s : State) : Host.Outcome State Fault Refusal :=
  okIf (s.awake && decide (fn < 2) && decide (bit < 32)) s (s.aerError fn bit)

/-- FREEZE_NOW (R663). -/
def execFreezeNow (fn : Nat) (s : State) : Host.Outcome State Fault Refusal :=
  okIf (s.awake && decide (fn < 2)) s (s.freeze fn 0xFF)

/-- UNFREEZE (R665). -/
def execUnfreeze (fn : Nat) (s : State) : Host.Outcome State Fault Refusal :=
  okIf (s.awake && decide (fn < 2)) s (s.unfreezeReq fn)

/-- UNFREEZE_RELEASE (R665): the last outstanding request has ended. -/
def execUnfreezeRelease (fn : Nat) (s : State) : Host.Outcome State Fault Refusal :=
  okIf (s.awake && decide (fn < 2) && s.frozen fn && s.cfgBits fn 0x20C 1 1 == 1 && s.outstanding fn == 0) s
    (s.unfreezeNow fn)

/-- A configuration doubleword as a read returns it: `cont_stat` with the requests outstanding (R667). -/
def State.cfgShown (s : State) (fn off : Nat) : BitVec 32 :=
  if off = 0x20C then BitVec.ofNat 32 (setBits (s.cfg fn off).toNat 10 14 (s.outstanding fn)) else s.cfg fn off

/-! ### Resets of functions (R668 to R670) -/

/-- Frames in all punt FIFOs. -/
def State.puntHeld (s : State) : Nat := (s.host.fifos.map (fun e => e.2.length)).sum

/-- FLR of a function (R668): what the image put into the subsystem ids stays (R627). -/
def State.flrReset (s : State) (fn : Nat) : State :=
  let s1 := { s with host := { s.host with
    cfg := s.host.cfg.filter (fun e => decide (e.1 / 4096 ≠ fn) || decide (e.1 % 4096 = 0x2C))
    reqs := s.host.reqs.filter (fun r => decide (r.fn ≠ fn))
    msiPend := if fn = 0 then [] else s.host.msiPend } }
  if fn = 1 then
    let s2 := s1.abortBatch true
    let s3 := s2.count cgHost 1 0 s2.puntHeld
    { s3 with
      regs := s3.regs.filter (fun e => decide (e.1 < 0x100000000))
      host := { s3.host with
        msix := [], pba := [], fifos := [], adv := [], cplIdx := [], advAt := [], injLast := 63, injLeft := [] } }
  else s1

/-- FLR (R668). -/
def execFlr (fn : Nat) (s : State) : Host.Outcome State Fault Refusal :=
  okIf (s.awake && decide (fn < 2)) s ((s.flrReset fn).raise F.TF_HOST_EVT_flr)

/-- CONVENTIONAL_RESET (R668, R670): with the link down, or in a link that stays up. -/
def execConventionalReset (linkDown : Bool) (s : State) : Host.Outcome State Fault Refusal :=
  if s.awake then
    let s1 := ((s.flrReset 0).flrReset 1).raise F.TF_HOST_EVT_flr
    let s2 := { s1 with host := { s1.host with inta := false } }
    ok (if linkDown && s2.flag F.TF_HOST_STAT_link_up then
        ((((s2.zero F.TF_HOST_STAT_link_up).zero F.TF_HOST_STAT_speed).zero F.TF_HOST_STAT_width).zero
          F.TF_HOST_STAT_flit).raise F.TF_HOST_EVT_link_down
      else s2)
  else ok s

/-- PCIE_LINK_UP (R631, R675). -/
def execPcieLinkUp (width speed : Nat) (flit : Bool) (s : State) : Host.Outcome State Fault Refusal :=
  okIf (s.awake && [1, 2, 4, 8].contains width && decide (1 ≤ speed ∧ speed ≤ 6)) s
    (((((s.put F.TF_HOST_STAT_link_up 1).put F.TF_HOST_STAT_speed speed).put F.TF_HOST_STAT_width width).put
      F.TF_HOST_STAT_flit (b2n (flit || speed == 6))).raise F.TF_HOST_EVT_link_up)

/-! ### Configuration writes (R627 to R634, R637, R641, R667) -/

/-- The bits of a configuration doubleword that a write stores. -/
def cfgRw (fn off : Nat) : BitVec 32 :=
  match fn, off with
  | _, 0x04 => 0x00000546
  | _, 0x0C => 0x000000FF
  | 0, 0x10 => 0xFC000000
  | 1, 0x10 => 0xFFF00000
  | _, 0x14 => 0xFFFFFFFF
  | 1, 0x18 => 0xFF000000
  | 1, 0x1C => 0xFFFFFFFF
  | 0, 0x30 => 0xFFFC0001
  | _, 0x3C => 0x000000FF
  | 0, 0x50 => 0x00710000
  | 0, 0x54 => 0xFFFFFFFC
  | 0, 0x58 => 0xFFFFFFFF
  | 0, 0x5C => 0x0000FFFF
  | 0, 0x60 => 0xFFFFFFFF
  | _, 0x78 => 0x00007FFF
  | _, 0x80 => 0x0000FFFF
  | _, 0x98 => 0x0000FFFF
  | _, 0xA0 => 0x0000FFFF
  | 1, 0xB0 => 0xC0000000
  | _, 0x108 => 0xFFFFFFFF
  | _, 0x10C => 0xFFFFFFFF
  | _, 0x114 => 0xFFFFFFFF
  | _, 0x118 => 0x00000140
  | _, 0x210 => 0xFFFFFFFF
  | _, _ => 0

/-- The bits of a configuration doubleword that a 1 clears. -/
def cfgW1c (off : Nat) : BitVec 32 :=
  match off with
  | 0x04 => 0xF9000000
  | 0x78 => 0x000F0000
  | 0x104 => 0xFFFFFFFF
  | 0x110 => 0xFFFFFFFF
  | _ => 0

/-- The plain part of a configuration write with a mask of the bytes enabled. -/
def State.cfgStore (s : State) (fn off : Nat) (v be : BitVec 32) : State :=
  let old := s.cfg fn off
  let rw := cfgRw fn off &&& be
  s.setCfg fn off (((old &&& ~~~ rw) ||| (v &&& rw)) &&& ~~~ (v &&& be &&& cfgW1c off))

/-- The power state field takes D0 and D3hot only (R633). -/
def State.pmWrite (s : State) (fn : Nat) (v be : BitVec 32) : State :=
  let p := bits v.toNat 0 2
  if bits be.toNat 0 2 = 3 ∧ (p = 0 ∨ p = 3) then s.setCfgBits fn 0x44 0 2 p else s

/-- A configuration write (R636, R664, R667, R715): in LOAD, until the image is applied, it is answered with
Request Retry Status and changes nothing. -/
def State.cfgWrite (s : State) (fn off : Nat) (v be : BitVec 32) : State :=
  if s.boot.rrs then s
  else if off = 0x208 then
    let w := v &&& be
    if w.getLsbD 1 then s.freeze fn 0xFF else if w.getLsbD 0 then s.unfreezeReq fn else s
  else if off = 0x78 ∧ (v &&& be).getLsbD 15 then
    (s.flrReset fn).raise F.TF_HOST_EVT_flr
  else if off = 0x44 then (s.pmWrite fn v be).flushPending fn
  else (s.cfgStore fn off v be).flushPending fn

/-- CONFIG_WRITE: `be` masks the bytes enabled. -/
def execConfigWrite (fn off : Nat) (v be : BitVec 32) (s : State) : Host.Outcome State Fault Refusal :=
  okIf (s.awake && decide (fn < 2) && decide (off < 4096) && off % 4 == 0) s (s.cfgWrite fn off v be)

/-! ### Windows (R634, R637, R664, R850) -/

/-- The base of a 64-bit BAR. -/
def State.barBase (s : State) (fn off : Nat) : Nat :=
  (s.cfg fn (off + 4)).toNat * 2 ^ 32 + (s.cfg fn off).toNat / 16 * 16

/-- Does an address lie in a window? -/
def inWindow (base size a : Nat) : Bool := decide (base ≤ a) && decide (a < base + size)

/-- Does a memory request match a window of its function (R634, R635)? -/
def State.matchesWindow (s : State) (fn addr : Nat) : Bool :=
  if fn = 0 then
    inWindow (s.barBase 0 0x10) (64 * 2 ^ 20) addr ||
      (s.cfgBits 0 0x30 0 1 == 1 && inWindow ((s.cfg 0 0x30).toNat / 2 ^ 18 * 2 ^ 18) (2 ^ 18) addr)
  else inWindow (s.barBase 1 0x10) (2 ^ 20) addr || inWindow (s.barBase 1 0x18) (16 * 2 ^ 20) addr

/-- A completion with UR (R637, R676). -/
def State.urReturn (s : State) (fn : Nat) : State := (s.emit (.cplUR fn)).count cgHost 10

/-- MEM_REQUEST_UNSUPPORTED (R637, R664): a request that matches no window, or with decoding off or the function
frozen. A write to a frozen function is dropped; any other unsupported write is logged as UR. -/
def execMemRequestUnsupported (fn : Nat) (read : Bool) (addr : Nat) (s : State) :
    Host.Outcome State Fault Refusal :=
  if s.awake && decide (fn < 2) then
    if s.memEnabled fn && s.matchesWindow fn addr then
      ok (if s.frozen fn && read then s.urReturn fn else s)
    else ok (if read then s.urReturn fn else s.aerError fn 20)
  else ok s

/-- ATOMICOP_REQUEST (R850). -/
def execAtomicopRequest (_addr : Nat) (s : State) : Host.Outcome State Fault Refusal :=
  okIf s.awake s (s.urReturn 0)

/-! ### Queues (R645 to R649, R661) -/

/-- Does PF1 take memory writes: decoding on, not frozen (R633, R637, R664)? -/
def State.pf1Open (s : State) : Bool := s.awake && s.memEnabled 1 && !s.frozen 1

/-- Is a new host index of a queue one that the ring allows (R648)? Punt, inject and command rings are filled by the
host, dump rings are emptied by it. -/
def State.hostIdxOk (s : State) (q new : Nat) : Bool :=
  let old := s.get F.TF_QCTX_STAT_host_idx q
  let dev := s.get F.TF_QCTX_STAT_dev_idx q
  if qKind q = 3 then decide (lead dev new ≤ lead dev old)
  else decide (lead old dev ≤ lead new dev) && decide (lead new dev ≤ s.qSize q)

/-- Is a new host index of a completion ring one that it allows (R648)? -/
def State.cplIdxOk (s : State) (q new : Nat) : Bool :=
  let i := s.cplIdx q
  decide (lead i.1 new ≤ lead i.1 i.2)

/-- DOORBELL_WRITE (R648): host index, and for a command queue that of its completion ring; the device then reads what
was posted. -/
def execDoorbellWrite (q : Nat) (v : Word) (s : State) : Host.Outcome State Fault Refusal :=
  if s.pf1Open && decide (q < 168) && s.flag F.TF_QCTX_CFG_enable q then
    let new := bits v.toNat 0 32
    let cpl := bits v.toNat 32 32
    if s.hostIdxOk q new && (qKind q ≠ 2 || s.cplIdxOk q cpl) then
      let old := s.get F.TF_QCTX_STAT_host_idx q
      let s1 := s.put F.TF_QCTX_STAT_host_idx new q
      let s2 := if qKind q = 2 then
          { s1 with host := { s1.host with cplIdx := tset s1.host.cplIdx q ((s1.cplIdx q).1, cpl) } }
        else s1
      ok (if qKind q ≠ 3 && s2.qRuns q && s2.mayIssue 1 && decide (old ≠ new) then
          s2.dmaIssue 1 (some q) old (s2.slotAddr q old) (qSlot q)
        else s2)
    else ok (s.qStop q 1 (s.get F.TF_QCTX_STAT_dev_idx q))
  else ok s

/-- A queue is enabled or disabled (R661). -/
def State.queueEnable (s : State) (q : Nat) (en : Bool) : State :=
  if en then s.put F.TF_QCTX_CFG_enable 1 q
  else
    let s1 := ((s.put F.TF_QCTX_CFG_enable 0 q).wr R.TF_QCTX_STAT 0 q).wr R.TF_QCTX_ERR 0 q
    { s1 with host := { s1.host with
      cplIdx := tdel s1.host.cplIdx q, adv := tdel s1.host.adv q, advAt := tdel s1.host.advAt q
      injLeft := tdel s1.host.injLeft (q - 64) } }

/-- QUEUE_ENABLE_WRITE (R661). -/
def execQueueEnableWrite (q : Nat) (en : Bool) (s : State) : Host.Outcome State Fault Refusal :=
  okIf (s.pf1Open && decide (q < 168)) s (s.queueEnable q en)

/-- A write to a doubleword of the MSI-X table (R634, R643, R644). -/
def State.msixWrite (s : State) (k : Nat) (v : BitVec 32) : State :=
  let old := s.msixDw k
  let new := if k % 4 = 3 then (old &&& 0xFFFFFFFE#32) ||| (v &&& 1#32)
    else if k % 4 = 0 then v &&& 0xFFFFFFFC#32 else v
  let s1 := { s with host := { s.host with msix := tput s.host.msix k new (if k % 4 = 3 then 1 else 0) } }
  if tget s1.host.pba (k / 4) false && s1.msixReady (k / 4) then s1.msixEvent (k / 4) else s1

/-- MSIX_VECTOR_UNMASK (R643, R644): a write clears the entry's mask bit. -/
def execMsixVectorUnmask (v : Nat) (s : State) : Host.Outcome State Fault Refusal :=
  okIf (s.pf1Open && decide (v < 2048)) s (s.msixWrite (4 * v + 3) (s.msixDw (4 * v + 3) &&& 0xFFFFFFFE#32))

/-- IRQ_COALESCE_TIMEOUT (R645): `coal_us` after the first advance not yet covered. -/
def execIrqCoalesceTimeout (q : Nat) (s : State) : Host.Outcome State Fault Refusal :=
  okIf (decide (q < 168) && s.flag F.TF_QCTX_CFG_irq_en q && decide (s.get F.TF_QCTX_CFG_coal_us q ≠ 0) &&
    decide (tget s.host.adv q 0 ≠ 0) &&
    decide (tget s.host.advAt q 0 + s.get F.TF_QCTX_CFG_coal_us q * 1000 ≤ s.up)) s (s.qVector q)

/-- PUNT_DELIVER (R639, R650, R652): the head of a punt FIFO goes into the next posted buffer, whose descriptor the
device has read. -/
def execPuntDeliver (q addr len : Nat) (s : State) : Host.Outcome State Fault Refusal :=
  match tget s.host.fifos q [] with
  | [] => ok s
  | f :: r =>
    if decide (q < 64) && s.qRuns q && s.mayIssue 1 &&
        decide (s.get F.TF_QCTX_STAT_host_idx q ≠ s.get F.TF_QCTX_STAT_dev_idx q) then
      let idx := s.get F.TF_QCTX_STAT_dev_idx q
      let s1 := { s with host := { s.host with
        fifos := if r.isEmpty then tdel s.host.fifos q else tset s.host.fifos q r } }
      let s2 := (s1.emits (s.frameWrites f.bytes.length addr (f.bytes.take len))).emit
        (.dmaWrite 1 (s.slotAddr q idx + 16) (puntWords f len))
      ok ((s2.count cgHost 0).qProduced q 1)
    else ok s

/-! ### Device reads (R662, R664, R671 to R673) -/

/-- The failed entry of an inject queue is written back as DMA_ERROR when the function is not frozen (R653,
R662). -/
def State.failWriteback (s : State) (q idx : Nat) : State :=
  if qKind q = 1 && s.mayIssue 1 then
    s.emit (.dmaWrite 1 (s.slotAddr q idx + 16) [BitVec.ofNat 64 (2 + 2 ^ 63)])
  else s

/-- A read of the device fails (R662): its queue stops, AER logs, and the failed entry is written back. -/
def State.readFailed (s : State) (r : DmaReq) (err : Nat) (bit : Option Nat) : State :=
  let s1 := { s with host := { s.host with reqs := s.host.reqs.filter (fun x => decide (x.tag ≠ r.tag)) } }
  let s2 := match r.q with
    | some q => s1.qStop q err r.idx
    | none => s1
  let s3 := match bit with
    | some b => s2.aerError r.fn b
    | none => s2
  match r.q with
  | some q => s3.failWriteback q r.idx
  | none => s3

/-- A completion without a request outstanding is discarded (R672): an Advisory Non-Fatal Error of PF1, whose requests
the queues make. -/
def State.lateCompletion (s : State) : State :=
  (((s.count cgHost 8).raise F.TF_HOST_EVT_late_cpl).setCfgBits 1 0x110 13 1 1).aerError 1 16

/-- The request outstanding with a tag. -/
def State.reqOf (s : State) (tag : Nat) : Option DmaReq := s.host.reqs.find? (fun r => decide (r.tag = tag))

/-- The completion timeout in nanoseconds by its encoding in Device Control 2 (R671): the upper value of the sub-range, and
50 ms at the default one. The sub-ranges are those of the base specification (log 143). -/
def cplTimeoutNs (enc : Nat) : Nat :=
  if enc = 1 then 100000
  else if enc = 2 then 10000000
  else if enc = 5 then 55000000
  else if enc = 6 then 210000000
  else if enc = 9 then 900000000
  else if enc = 10 then 3500000000
  else if enc = 13 then 13000000000
  else if enc = 14 then 64000000000
  else 50000000

/-- How long a timed-out tag is held, in nanoseconds (R673, R674). -/
def State.tagHoldNs (s : State) : Nat := max 100 (s.get F.TF_HOST_CTL_tag_hold_ms) * 1000000

/-- COMPLETION_TIMEOUT (R671, R673). -/
def execCompletionTimeout (tag : Nat) (s : State) : Host.Outcome State Fault Refusal :=
  match s.reqOf tag with
  | none => ok s
  | some r =>
    if s.cfgBits r.fn 0x98 4 1 = 1 ∨ s.up < r.at' + cplTimeoutNs (s.cfgBits r.fn 0x98 0 4) then ok s
    else
      let s1 := { s with host := { s.host with
        held := s.host.held ++ [tag], heldAt := tset s.host.heldAt tag s.up } }
      ok ((s1.count cgHost 9).readFailed r 2 (some 14))

/-- DMA_COMPLETION (R662, R664, R672): status 0 success, 1 UR, 2 CA. -/
def execDmaCompletion (tag status : Nat) (poisoned : Bool) (s : State) : Host.Outcome State Fault Refusal :=
  if s.awake then
    match s.reqOf tag with
    | none => ok s.lateCompletion
    | some r =>
      let s1 := { s with host := { s.host with reqs := s.host.reqs.filter (fun x => decide (x.tag ≠ tag)) } }
      ok (if s.frozen r.fn then s1.count cgHost 11
        else if poisoned then s1.readFailed r 3 (some 12)
        else if status ≠ 0 then s1.readFailed r 4 none
        else s1)
  else ok s

/-- LATE_COMPLETION (R672). -/
def execLateCompletion (tag : Nat) (s : State) : Host.Outcome State Fault Refusal :=
  okIf (s.awake && (s.reqOf tag).isNone) s s.lateCompletion

/-- TAG_HOLD_EXPIRY (R673). -/
def execTagHoldExpiry (tag : Nat) (s : State) : Host.Outcome State Fault Refusal :=
  okIf (s.host.held.contains tag && decide (tget s.host.heldAt tag 0 + s.tagHoldNs ≤ s.up)) s
    { s with host := { s.host with
      held := s.host.held.filter (fun x => decide (x ≠ tag)), heldAt := tdel s.host.heldAt tag } }

end Sys2Proof.Machine
end

