-- ==== Sys2Proof/Machine/Mgmt.lean ====
section
/-! DEFINITION. The bridle pair: checkpoints, beats, faults, takeover, self-test and handover; and the mailbox
(R585 to R602, R620 to R624, R774). -/

namespace Sys2Proof.Machine

/-! ### The mailbox (R620 to R622) -/

/-- An operation starts (R620): arguments latched, `busy`, `cur_op`, and a MBOX_START entry (R624). -/
def State.mboxStart (s : State) (op : Nat) : State :=
  let s1 := { s with mc := { s.mc with args := (List.range 4).map (fun i => s.rd R.KV_MBOX_ARG i) } }
  (((s1.put F.KV_MBOX_STAT_busy 1).put F.KV_MBOX_STAT_cur_op op).put F.KV_MBOX_STAT_progress 0).journal 3 0 op 0 0 0 0

/-- An operation ends (R620): results the operation does not name are written 0. -/
def State.mboxEnd (s : State) (status : Nat) (res : List Nat) : State :=
  let op := s.get F.KV_MBOX_STAT_cur_op
  let s1 := (List.range 4).foldl (fun (t : State) i => t.wr R.KV_MBOX_RES (BitVec.ofNat 64 (res.getD i 0)) i) s
  ((((s1.put F.KV_MBOX_STAT_busy 0).put F.KV_MBOX_STAT_done 1).put F.KV_MBOX_STAT_status status).put
    F.KV_MBOX_STAT_progress 100).journal 4 0 op status 0 0 0

/-- A `go` (R620, R621): refused while an operation runs or no controller is ACTIVE, else the operation starts and
`run` does what its start does. -/
def State.mboxGo (s : State) (op : Nat) (run : State → State) : State :=
  let s1 := (s.put F.KV_MBOX_CMD_op op).put F.KV_MBOX_CMD_go 0
  if s1.flag F.KV_MBOX_STAT_busy || s1.activeMc.isNone then s1.raise F.KV_MBOX_STAT_refused
  else run (s1.mboxStart op)

/-- A latched argument of the mailbox. -/
def State.marg (s : State) (i : Nat) : Nat := (s.mc.args.getD i 0).toNat

/-- MBOX_UNKNOWN_OP (R623): any other operation ends at once with BAD_OPCODE. -/
def execMboxUnknownOp (op : Nat) (s : State) : Host.Outcome State Fault Refusal :=
  okIf (s.awake && !(decide (1 ≤ op ∧ op ≤ 6))) s (s.mboxGo (op % 256) (fun t => t.mboxEnd stBadOpcode []))

/-! ### Controllers -/

/-- A controller of the bridle pair. -/
def State.mcOne (s : State) (m : Nat) : McOne := if m = 0 then s.mc.mc0 else s.mc.mc1

/-- Change a controller. -/
def State.setMcOne (s : State) (m : Nat) (x : McOne) : State :=
  { s with mc := if m = 0 then { s.mc with mc0 := x } else { s.mc with mc1 := x } }

/-- The role code of a controller (R585). -/
def State.role (s : State) (m : Nat) : Nat := s.get (roleF m)

/-- Is the controller ready (R599)? -/
def State.mcReady (s : State) (m : Nat) : Bool := s.flag F.KV_MC_HEALTH_ready m

/-- The failed passes of a controller. -/
def failsF (m : Nat) : Fld := if m = 0 then F.KV_MC_STAT_fails0 else F.KV_MC_STAT_fails1

/-- The state format of the firmware that runs. -/
def State.runFormat (s : State) : Nat :=
  match s.fw.slots.getD s.fw.running none with
  | some im => im.hdr.stateFormat
  | none => 0

/-- The firmware that starts meets the checkpoint (R774): an older one is converted after a rollback copy, a newer one
is not loaded and the rollback copy returns. -/
def State.migrate (s : State) : State :=
  let new := s.runFormat
  let old := s.mc.fmt
  let slot := (s.mc.ckptSeq + 1) % 2
  if s.mc.ckptSeq = 0 ∨ old = new then s
  else if old < new then
    let s1 := { s with
      fw := { s.fw with rollback := some (s.mc.snapshots.getD slot []) }
      boot := { s.boot with eventLog := s.boot.eventLog ++
        [[2, BitVec.ofNat 64 old, BitVec.ofNat 64 new, BitVec.ofNat 64 s.time]] }
      mc := { s.mc with fmt := new } }
    ((s1.put F.KV_FW_STAT_migrated_from old).put F.KV_FW_STAT_migrated_to new).raise F.KV_FW_EVT_migrated
  else
    match s.fw.rollback with
    | some w => { s with mc := { s.mc with snapshots := lset [] s.mc.snapshots slot w, fmt := new } }
    | none => { s with mc := { s.mc with fmt := new } }

/-- The version of the running firmware (R775). -/
def State.runVersion (s : State) : Nat := ((s.fw.slots.getD s.fw.running none).map (fun im => im.hdr.fwVersion)).getD 0

/-- The bytes of words, lowest byte first. -/
def leBytes (ws : List Word) : List Byte :=
  ws.flatMap (fun w => (List.range 8).map (fun i => BitVec.ofNat 8 (w.toNat / 2 ^ (8 * i))))

/-- Where the checkpoint record of a slot stands (log 21). -/
def recordAt (slot : Nat) : Nat := 0x140 + 32 * slot

/-- The CRC-32 of a checkpoint record: over words 0 to 2 and the snapshot (R588). -/
def recordCrc (w0 w1 w2 : Word) (snap : List Word) : Nat := crc32 (leBytes ([w0, w1, w2] ++ snap))

/-- Does the record of a checkpoint number pass its CRC, with its snapshot (R588, R591)? -/
def State.recordOk (s : State) (seq : Nat) : Bool :=
  let a := recordAt (seq % 2)
  let w0 := s.sramGet a
  decide (bits w0.toNat 0 32 = seq % 2 ^ 32) &&
    decide (bits (s.sramGet (a + 24)).toNat 0 32 =
      recordCrc w0 (s.sramGet (a + 8)) (s.sramGet (a + 16)) (s.mc.snapshots.getD (seq % 2) []))

/-- A controller loads the newest record whose CRC passes, with its snapshot, and replays the journal from its `jidx` (R591):
where that is not the last one written, the entries after the older `jidx` count again. Without a checkpoint since system
reset there is none to load. -/
def State.loadRecord (s : State) : State :=
  let n := s.mc.ckptSeq
  if n ≤ 1 ∨ s.recordOk n = true ∨ s.recordOk (n - 1) = false then s
  else
    let j := bits (s.sramGet (recordAt ((n - 1) % 2))).toNat 33 11
    { s with
      mc := { s.mc with ckptSeq := n - 1 }
      eng := { s.eng with jIdx := max (s.eng.jHead - (s.eng.jHead + 2048 - j) % 2048) (s.eng.jHead - 2048) } }

/-- A controller becomes ACTIVE (R591, R624): an operation of the mailbox that was in progress resumes when it is
REPARTITION or PORT_RECONFIG, and otherwise ends with INTERRUPTED. -/
def State.becomeActive (s : State) (m : Nat) : State :=
  let s1 := (s.loadRecord.setRole m 0).setMcOne m ⟨0, false, false⟩
  let s2 := ({ s1 with mc := { s1.mc with starting := false } }.migrate).put F.KV_FW_STAT_fw_version s1.runVersion
  if s2.flag F.KV_MBOX_STAT_busy && !s2.mboxRuns 1 && !s2.mboxRuns 2 then s2.mboxEnd stInterrupted [] else s2

/-- Write the checkpoint record (R588) into one of the two copies: at 0x140 and 0x160 (log 21). -/
def State.writeRecord (s : State) (seq slot : Nat) (snap : List Word) : State :=
  let w0 := BitVec.ofNat 64 (seq % 2 ^ 32 + slot * 2 ^ 32 + s.eng.jHead % 2048 * 2 ^ 33)
  let w1 := BitVec.ofNat 64 s.time
  let w2 := BitVec.ofNat 64 s.runVersion
  let w3 := BitVec.ofNat 64 (recordCrc w0 w1 w2 snap)
  let a := recordAt slot
  (((s.sramPut a w0).sramPut (a + 8) w1).sramPut (a + 16) w2).sramPut (a + 24) w3

/-- Does the `home` controller stand ready to take over from the other (R601)? -/
def State.homeReturns (s : State) : Bool :=
  let h := s.get F.KV_MC_CTL_home
  s.role h == 1 && s.mcReady h && s.mcActive (1 - h) && !s.flag F.KV_MBOX_STAT_busy

/-- The start of a handover at a checkpoint (R601): to the controller that MC_SWITCH names, or back to `home`. -/
def State.startHandover (s : State) : State :=
  let go := match s.mc.handTo with
    | some m => s.role m == 1 && s.mcReady m
    | none => s.homeReturns
  if go then
    let m := s.mc.handTo.getD (s.get F.KV_MC_CTL_home)
    { s.put F.KV_MC_STAT_handover 1 with mc := { s.mc with handTo := some m } }
  else s

/-- CHECKPOINT (R588, R590, R601): the ACTIVE controller writes a snapshot and its record. -/
def execCheckpoint (snapshot : List Word) (s : State) : Host.Outcome State Fault Refusal :=
  if s.activeMc.isSome && !s.flag F.KV_MC_STAT_handover then
    let seq := s.mc.ckptSeq + 1
    let slot := seq % 2
    let s1 := s.writeRecord seq slot snapshot
    let s2 := { s1 with
      mc := { s1.mc with
        ckptSeq := seq, snapshots := lset [] s1.mc.snapshots slot snapshot, fmt := s1.runFormat }
      eng := { s1.eng with jIdx := s1.eng.jHead } }
    ok s2.startHandover
  else ok s

/-- HANDOVER_COMPLETE (R601): the other controller is ACTIVE, the one that served is STANDBY and counts as ready
(log 22); an MC_SWITCH ends with it. -/
def execHandoverComplete (s : State) : Host.Outcome State Fault Refusal :=
  match s.mc.handTo, s.flag F.KV_MC_STAT_handover with
  | some m, true =>
    let s0 := if s.mboxRuns 4 then s.mboxEnd stOk [] else s
    let s1 := (s0.setRole (1 - m) 1).put F.KV_MC_HEALTH_ready 1 (1 - m)
    let s2 := ((s1.put F.KV_MC_HEALTH_age_ms 0 (1 - m)).setMcOne (1 - m) ⟨0, false, false⟩).setRole m 0
    let s3 := { s2 with mc := { s2.mc with handTo := none } }.setMcOne m ⟨0, false, false⟩
    ok ((s3.zero F.KV_MC_STAT_handover).raise F.TF_TBL_EVT_handover)
  | _, _ => ok s

/-- Do beats of the controller count: ACTIVE or STANDBY, its island in service (R592)? -/
def State.beats (s : State) (m : Nat) : Bool :=
  decide (m < 2) && decide (RAISE ≤ s.mode) && s.isOn (28 + m) && decide (s.role m ≤ 1)

/-- MC_BEAT (R592, R593, R599): one beat as seen on the counter word and on the wire pair. The counter word of
controller m stands at 0x100 + 8m (log 21). -/
def execMcBeat (m : Nat) (word wire : Bool) (s : State) : Host.Outcome State Fault Refusal :=
  if s.beats m then
    let x := s.mcOne m
    let s1 := if word then s.sramPut (0x100 + 8 * m) (s.sramGet (0x100 + 8 * m) + 1) else s
    if word && wire then ok (s1.setMcOne m { x with missed := 0 })
    else
      let s2 := (s1.setMcOne m { x with
        missed := if word || wire then 0 else x.missed + 1, beatMiss := true }).zero F.KV_MC_HEALTH_ready m
      ok (if word || wire then s2.addSat F.KV_MC_STAT_half_beats 1 else s2)
  else ok s

/-- A declared fault of a controller (R593, R594, R597): its island is reset and it enters TESTING; when the STANDBY
one is ready, it starts to load. -/
def State.mcFault (s : State) (m : Nat) : State :=
  let o := 1 - m
  let cover : Bool := decide (s.role o ≤ 1) && s.isOn (28 + o)
  let was := s.mcActive m
  let s1 := (s.unitFault 0xC m cover false).raise F.TF_TBL_EVT_mc_fault
  let s2 := ((s1.setRole m 2).zero F.KV_MC_HEALTH_ready m).setMcOne m ⟨0, false, false⟩
  let s3 := { s2.zero F.KV_MC_STAT_handover with
    mc := { s2.mc with handTo := none, lost := s2.mc.lost.filter (· ≠ m) ++ [m] } }
  if was && s3.role o == 1 && s.mcReady o && s3.isOn (28 + o) then
    (s3.setMcOne o { s3.mcOne o with loading := true }).emit (.mcStart o)
  else s3

/-- MC_FAULT_DECLARE (R593): three beats missed on both paths, or an explicit fault. -/
def execMcFaultDeclare (m : Nat) (explicit : Bool) (s : State) : Host.Outcome State Fault Refusal :=
  okIf (s.beats m && (explicit || decide (3 ≤ (s.mcOne m).missed))) s (s.mcFault m)

/-- MC_TAKEOVER_COMPLETE (R594, R596): the controller that loads is ACTIVE. -/
def execMcTakeoverComplete (m : Nat) (s : State) : Host.Outcome State Fault Refusal :=
  okIf (decide (m < 2) && (s.mcOne m).loading && s.activeMc.isNone && s.role m == 1 && s.isOn (28 + m)) s
    ((s.becomeActive m).addSat F.KV_MC_STAT_takeovers 1)

/-- The end of a pass is published (R598, R625). -/
def State.publishPass (s : State) (m code : Nat) : State :=
  let s1 := ((s.put F.KV_MC_HEALTH_last_pass (b2n (code == 0)) m).addSat F.KV_MC_HEALTH_passes 1 m).put
    F.KV_MC_HEALTH_age_ms 0 m
  if code = 0 then s1 else s1.put F.KV_MC_HEALTH_fail_code code m

/-- A pass of a TESTING controller passed (R585, R599, R602): ACTIVE when none is and none is starting to be; at RAISE
and after core reset `home` comes first. It is no longer lost (R65). -/
def State.testPassed (s0 : State) (m : Nat) : State :=
  let s := { s0 with mc := { s0.mc with lost := s0.mc.lost.filter (· ≠ m) } }
  let o := 1 - m
  if s.activeMc.isNone && !(s.mcOne o).loading && (!s.mc.starting || s.get F.KV_MC_CTL_home == m || s.role o == 3)
  then s.becomeActive m
  else
    let s1 := (s.setRole m 1).setMcOne m ⟨0, false, false⟩
    s1.put F.KV_MC_HEALTH_ready 1 m

/-- A pass of a TESTING controller failed (R586, R600, R602): the third failure is the end; when `home` fails its
first pass, the other starts as ACTIVE if it stands by. -/
def State.testFailed (s : State) (m : Nat) : State :=
  let o := 1 - m
  let s1 := s.addSat (failsF m) 1
  let s2 := if s1.get (failsF m) = 3 then
      ((s1.setRole m 3).blockReset (28 + m)).raise F.DT_GUAR_EVT_cover_lost
    else s1
  if s2.mc.starting && s2.get F.KV_MC_CTL_home == m then
    if s2.role o == 1 && s2.mcReady o then s2.becomeActive o
    else { s2 with mc := { s2.mc with starting := false } }
  else s2

/-- SELFTEST_PASS_END (R598 to R600): code 0 passed, else the test that failed. -/
def execSelftestPassEnd (m code : Nat) (s : State) : Host.Outcome State Fault Refusal :=
  if decide (m < 2) && decide (RAISE ≤ s.mode) && s.isOn (28 + m) && (s.role m == 1 || s.role m == 2) then
    let s1 := s.publishPass m code
    if s.role m = 1 then
      let x := s1.mcOne m
      ok ((s1.put F.KV_MC_HEALTH_ready (b2n (code == 0 && !x.beatMiss)) m).setMcOne m { x with beatMiss := false })
    else ok (if code = 0 then s1.testPassed m else s1.testFailed m)
  else ok s

/-! ### Mailbox operations of the controllers and the engine (R623) -/

/-- MC_SWITCH starts, or is refused (R601, R623). -/
def State.mcSwitchStart (s : State) : State :=
  let o := 1 - s.activeMc.getD 0
  if s.role o == 1 && s.mcReady o then { s with mc := { s.mc with handTo := some o } } else s.mboxEnd stBusy []

/-- MC_SWITCH (R601, R623): BUSY when the other controller is not ready; else the handover follows at the next
checkpoint. -/
def execMcSwitch (s : State) : Host.Outcome State Fault Refusal :=
  okIf s.awake s (s.mboxGo 4 State.mcSwitchStart)

/-- EPOCH_QUERY (R623): it ends with MBOX_OP_DONE. -/
def execEpochQuery (s : State) : Host.Outcome State Fault Refusal := okIf s.awake s (s.mboxGo 5 id)

/-- QUEUE_RESET (R623): it ends with MBOX_OP_DONE. -/
def execQueueReset (s : State) : Host.Outcome State Fault Refusal := okIf s.awake s (s.mboxGo 6 id)

/-- The results of EPOCH_QUERY (R623). -/
def State.epochResults (s : State) : List Nat :=
  [s.get F.TF_EPOCH_epoch, s.eng.recEpoch % 2 ^ 32 + b2n s.eng.recFold * 2 ^ 32,
   s.eng.batchQ.getD 0 + b2n s.eng.batchQ.isSome * 32 +
     min (s.eng.owed.length + s.eng.waiting.toList.length) 32767 * 64]

/-- The effect of QUEUE_RESET (R623). -/
def State.queueResetDone (s : State) : State :=
  let q := bits (s.marg 0) 0 5
  let s1 := if s.batchOwner = some q then s.abortBatch false else s
  let walks := (s1.eng.flushes.filter (fun w => decide (w.q = q))).map (fun w => w.tag)
    ++ (s1.eng.rebuilds.filter (fun w => decide (w.1 = q))).map (fun w => w.2.1)
  let s2 := { s1 with eng := { s1.eng with
    flushes := s1.eng.flushes.filter (fun w => decide (w.q ≠ q))
    rebuilds := s1.eng.rebuilds.filter (fun w => decide (w.1 ≠ q)) } }
  walks.foldl (fun (t : State) tag => t.complete ⟨q, tag, stAborted, 0, []⟩) s2

end Sys2Proof.Machine
end

