-- ==== Sys2Proof/Machine/Telemetry.lean ====
section
/-! DEFINITION. Windows, records, counter pages, traces and the arm register (R776 to R808), and the sensor readings that pause
the dumps (R744, R746). -/

namespace Sys2Proof.Machine

/-! ### Backed counters (R779) -/

/-- A flush (R779): accumulators into totals, and the TF part of `DT_LOSS_CNT` into its counters. -/
def State.flushCounters (s : State) : State :=
  s.tlm.accum.foldl (fun (t : State) e =>
    if e.1 / 2 ^ 24 = 0 then t.wr R.DT_LOSS_CNT (cntAdd (t.rd R.DT_LOSS_CNT (e.1 % 32)) e.2) (e.1 % 32)
    else State.ballastTx { t with tlm := { t.tlm with totals := tinc t.tlm.totals e.1 e.2 } } 4 counterRegion true)
    { s with tlm := { s.tlm with accum := [] } }

/-- COUNTER_FLUSH (R779). -/
def execCounterFlush (s : State) : Host.Outcome State Fault Refusal := okIf s.live s s.flushCounters

/-! ### Records (R787 to R789) -/

/-- Instances and counters per instance of a group (R776); reserved groups have none. -/
def groupShape : Nat → Nat × Nat
  | 0 => (1, 32)
  | 1 => (256, 32)
  | 2 => (256, 16)
  | 3 => (1, 8)
  | 4 => (1, 8)
  | 14 => (256, 8)
  | 15 => (65536, 2)
  | 16 => (262144, 3)
  | 17 => (1572864, 1)
  | 18 => (1, 8)
  | g => if 5 ≤ g ∧ g ≤ 13 then (1, 16) else (0, 1)

/-- Fields of a selection entry (R806). -/
def selGroup (w : Word) : Nat := bits w.toNat 1 5
def selFirst (w : Word) : Nat := bits w.toNat 6 21
def selCount (w : Word) : Nat := max 1 (bits w.toNat 27 17)
def selRing (w : Word) : Nat := bits w.toNat 44 4

/-- May a selection entry stand (R787)? -/
def selOk (w : Word) : Bool :=
  let g := groupShape (selGroup w)
  decide (selFirst w + selCount w ≤ g.1) && decide (selCount w * g.2 ≤ 65536)

/-- Cut words into slots of 8, the last padded with 0 (R788). -/
def slotsOf : Nat → List Word → List (List Word)
  | 0, _ => []
  | _, [] => []
  | n + 1, ws => (ws.take 8 ++ List.replicate (8 - (ws.take 8).length) 0) :: slotsOf n (ws.drop 8)

/-- Slots that a list of words takes. -/
def toSlots (ws : List Word) : List (List Word) := slotsOf ws.length ws

/-- Drop the oldest records of a ballast ring that no longer fit its slots (R789). -/
def ringTrim (cap : Nat) : List (List Word) → List (List Word)
  | [] => []
  | r :: rest =>
    if ((r :: rest).map List.length).sum ≤ 8 * cap then r :: rest else ringTrim cap rest

/-- Slots of a ballast ring of 512 MiB. -/
def ringSlots : Nat := 8388608

/-- Write a record into a ring (R660, R787, R789): 0 to 7 host dump rings, others ballast rings by key. Answers whether
it was written. -/
def State.dumpRecord (s : State) (ring : Nat) (slots : List (List Word)) : Bool × State :=
  if ring < 8 then
    let q := 160 + ring
    let used := lead (s.get F.TF_QCTX_STAT_dev_idx q) (s.get F.TF_QCTX_STAT_host_idx q)
    if s.qRuns q && s.mayIssue 1 && decide (used + slots.length ≤ s.qSize q) then
      let idx := s.get F.TF_QCTX_STAT_dev_idx q
      let s1 := s.emits (slots.zipIdx.map (fun p => .dmaWrite 1 (s.slotAddr q (idx + p.2)) p.1))
      let s2 := (s1.count cgHost 6).qProduced q slots.length
      (true, { s2 with tlm := { s2.tlm with sent := s2.tlm.sent + 64 * slots.length } })
    else (false, (s.count cgHost 7).raise F.TF_HOST_EVT_dump_drop)
  else
    (true, State.ballastTxs { s with tlm := { s.tlm with
      rings := tset s.tlm.rings ring (ringTrim ringSlots (tget s.tlm.rings ring [] ++ [slots.flatten])) } } 3
      (ringRegion (if ring < 16 then ring - 8 else ring - 100)) true ((slots.length + 3) / 4))

/-- Words 0 and 1 of a record header (R788). -/
def recHead (type sel slots window start : Nat) : List Word :=
  [BitVec.ofNat 64 (type + 256 * sel + 65536 * slots + 2 ^ 32 * (window % 2 ^ 32)), BitVec.ofNat 64 start]

/-- Word 2 of a record header (R788). -/
def recWord2 (sh : Shadow) (trunc late : Bool) (group : Nat) : Word :=
  BitVec.ofNat 64 (sh.lenNs % 2 ^ 40 + b2n sh.stepped * 2 ^ 40 + b2n trunc * 2 ^ 41 + b2n late * 2 ^ 42 +
    group * 2 ^ 48)

/-- Word 4 of a record header (R788). -/
def State.recWord4 (s : State) : Word := BitVec.ofNat 64 (s.myId + 256 * (s.rec0.inc % 65536))

/-- The counters of a selection entry in a shadow set, in flat order. -/
def selCounts (sh : Shadow) (w : Word) : List Nat :=
  let g := selGroup w
  let per := (groupShape g).2
  (List.range (selCount w * per)).map (fun i => tget sh.counts (cntKey g (selFirst w * per + i)) 0)

/-- Does a counter belong to a selection entry? -/
def selHolds (w : Word) (key : Nat) : Bool :=
  let g := selGroup w
  let per := (groupShape g).2
  decide (key / 2 ^ 24 = g) && decide (selFirst w * per ≤ key % 2 ^ 24) &&
    decide (key % 2 ^ 24 < (selFirst w + selCount w) * per)

/-- The bytes that a window may send to host rings (R784). -/
def dumpLimit (lenMs : Nat) : Nat := lenMs * 1250000

/-- May the window send a record of so many slots to the ring (R784)? -/
def State.mayDump (s : State) (ring slots : Nat) : Bool :=
  decide (8 ≤ ring) || decide (s.tlm.sent + 64 * slots ≤ dumpLimit s.tlm.lenMs)

/-- A record is abandoned (R783); one of a selection entry marks the entry's next record. -/
def State.abandonRec (s : State) (entry : List Nat) : State :=
  (State.tlmCount { s with tlm := { s.tlm with trunc := s.tlm.trunc ++ entry } } 1 1).raise F.KV_TLM_EVT_dump_overrun

/-- Write the record of a selection entry (R783, R788, R791), or abandon it when the window's bytes are used up
(R783, R784). -/
def State.writeCounters (sh : Shadow) (s : State) (e : Nat × Word) : State :=
  let n := e.1
  let w := e.2
  let counts := selCounts sh w
  if s.mayDump (selRing w) (1 + (counts.length + 7) / 8) then
    let w2 := recWord2 sh (s.tlm.trunc.contains n) (s.tlm.late.any (selHolds w)) (selGroup w)
    let head := recHead 1 n (1 + (counts.length + 7) / 8) sh.window sh.start ++
      [w2, BitVec.ofNat 64 (selFirst w + selCount w * 2 ^ 21), s.recWord4, 0, 0, 0]
    let r := s.dumpRecord (selRing w) (head :: toSlots (counts.map (BitVec.ofNat 64)))
    let t := { r.2 with tlm := { r.2.tlm with
      trunc := r.2.tlm.trunc.filter (fun x => decide (x ≠ n))
      late := r.2.tlm.late.filter (fun k => !selHolds w k)
      pages := tset r.2.tlm.pages n ⟨sh.window, sh.start, w2, counts⟩ } }
    if r.1 then t.tlmCount 0 1 else t
  else s.abandonRec [n]

/-- A rate over a window (R790); over a window of no length, which a step of time may leave, the spec states none: a free
value. -/
def rateOf (fv x lenNs : Nat) : Nat := if lenNs = 0 then Config.free fv else x * 1000000000 / lenNs

/-- The four bandwidth values of a logical port (R790). -/
def bwValues (sh : Shadow) (l : Nat) : List Nat :=
  let c (k : Nat) : Nat := tget sh.counts (cntKey 2 (l * 16 + k)) 0
  let rate (x : Nat) : Nat := rateOf sh.fv x sh.lenNs
  [rate (8 * (c 1 + 20 * c 0)), rate (c 0), rate (8 * (c 9 + 20 * c 8)), rate (c 8)]

/-- The rates shown in `KV_BW` (R790). -/
def State.showBw (s : State) (sh : Shadow) : State :=
  (List.range 256).foldl (fun (t : State) l =>
    let v := bwValues sh l
    (t.put F.KV_BW_in_mbps (v.getD 0 0 / 1000000) l).put F.KV_BW_out_mbps (v.getD 2 0 / 1000000) l) s

/-- Write the BANDWIDTH record (R790), or abandon it (R783, R784). -/
def State.writeBw (s : State) (sh : Shadow) (ring : Nat) : State :=
  if s.mayDump ring 129 then
    let vals := (List.range 256).flatMap (bwValues sh)
    let head := recHead 2 0xFF 129 sh.window sh.start ++ [recWord2 sh false false 0, 0, s.recWord4, 0, 0, 0]
    let r := s.dumpRecord ring (head :: toSlots (vals.map (BitVec.ofNat 64)))
    if r.1 then r.2.tlmCount 0 1 else r.2
  else s.abandonRec []

/-- The records of a closed shadow set are written (R783, R790). -/
def State.writeSet (s : State) (sh : Shadow) : State :=
  let s1 := sh.sel.foldl (State.writeCounters sh) s
  match sh.bw with
  | some ring => s1.writeBw sh ring
  | none => s1

/-- Those of a set that is used again are abandoned (R783). -/
def State.abandonSet (s : State) (sh : Shadow) : State :=
  let s1 := sh.sel.foldl (fun (t : State) e => t.abandonRec [e.1]) s
  if sh.bw.isSome then s1.abandonRec [] else s1

/-- Are dumps paused: CRITICAL or hotter (R746)? -/
def State.dumpsPaused (s : State) : Bool := decide (3 ≤ s.therm)

/-- The shadow set closes (R782, R783): its records are written, or wait while dumps are paused (R746). -/
def State.closeShadow (s : State) : State :=
  match s.tlm.shadow with
  | none => s
  | some sh =>
    let s0 := { s with tlm := { s.tlm with shadow := none } }.put F.KV_TLM_STAT_settling 0
    let s1 := if sh.bw.isSome then s0.showBw sh else s0
    if s1.dumpsPaused then { s1 with tlm := { s1.tlm with unwritten := s1.tlm.unwritten ++ [(0, sh)] } } else s1.writeSet sh

/-- SHADOW_CLOSE (R782): 1 ms after the tick. -/
def execShadowClose (s : State) : Host.Outcome State Fault Refusal :=
  okIf (decide (s.tlm.startUp + 1000000 ≤ s.up)) s s.closeShadow

/-- The records that waited are written once dumps go on (R746, R783). -/
def State.resumeDumps (s : State) : State :=
  if s.dumpsPaused then s
  else s.tlm.unwritten.foldl (fun (t : State) e => t.writeSet e.2) { s with tlm := { s.tlm with unwritten := [] } }

/-- SENSOR_READ (R744 to R746). -/
def execSensorRead (temps : List Int) (valid : List Bool) (s : State) : Host.Outcome State Fault Refusal :=
  okIf s.awake s (s.readSensors temps valid).resumeDumps

/-! ### Ticks (R780, R781, R785, R786) -/

/-- Selection entries enabled in the registers (R785). -/
def State.selEnabled (s : State) : List (Nat × Word) :=
  ((List.range 64).map (fun n => (n, s.rd R.KV_TLM_SEL n))).filter (fun e => bitOf e.2.toNat 0)

/-- The window length in force (R806). -/
def winMs (x : Nat) : Nat := max 1 (min 10000 x)

/-- The settings that take effect at a tick (R785); entries that may not stand are ignored (R787). -/
def State.latchWindow (s : State) : State :=
  let es := s.selEnabled
  let len := winMs (s.get F.KV_TLM_CTL_win_ms)
  let s1 := { s with tlm := { s.tlm with
    running := s.flag F.KV_TLM_CTL_win_en
    lenMs := len
    start := s.time
    startUp := s.up
    nextB := (s.time / (len * 1000000) + 1) * (len * 1000000)
    live := []
    stepped := false
    sel := es.filter (fun e => selOk e.2)
    bw := if s.flag F.KV_TLM_CTL_bw_en then some (s.get F.KV_TLM_CTL_bw_ring) else none
    ctl := s.rd R.KV_TLM_CTL
    sent := 0 } }
  if es.all (fun e => selOk e.2) then s1 else s1.raise F.KV_TLM_EVT_sel_bad

/-- A write of `KV_TLM_CTL` while no window runs (R785): the first window starts at the next boundary. -/
def State.armWindow (s : State) : State :=
  let ns := winMs (s.get F.KV_TLM_CTL_win_ms) * 1000000
  if s.tlm.running then s else { s with tlm := { s.tlm with nextB := (s.time / ns + 1) * ns } }

/-- Is the next boundary reached, with windows running or to begin (R780, R785)? -/
def State.tickDue (s : State) : Bool :=
  (s.tlm.running || s.flag F.KV_TLM_CTL_win_en) && decide (s.tlm.nextB ≤ s.time)

/-- A shadow set is used again at the second tick after its own (R783): records that still wait in it are abandoned. -/
def State.reuseSets (s : State) : State :=
  let l := s.tlm.unwritten.map (fun e => (e.1 + 1, e.2))
  (l.filter (fun e => decide (2 ≤ e.1))).foldl (fun (t : State) e => t.abandonSet e.2)
    { s with tlm := { s.tlm with unwritten := l.filter (fun e => decide (e.1 < 2)) } }

/-- A tick (R780, R781): the window's counts move to the shadow set, the flush of R779 begins, the next window
starts. -/
def State.windowTick (s : State) : State :=
  let s1 := s.closeShadow.reuseSets
  let s2 := if s1.tlm.running then
      let sh : Shadow := ⟨s1.get F.KV_TLM_STAT_window, s1.tlm.start, s1.time, s1.up - s1.tlm.startUp,
        s1.tlm.stepped, s1.tlm.live, s1.tlm.sel, s1.tlm.bw, s1.fv⟩
      let t := { s1 with fv := s1.fv + 1, tlm := { s1.tlm with shadow := some sh } }
      (t.put F.KV_TLM_STAT_settling 1).addWrap F.KV_TLM_STAT_window 1
    else s1
  s2.flushCounters.latchWindow

/-- WINDOW_TICK (R780, R781): at the boundary, with windows running or to begin. -/
def execWindowTick (s : State) : Host.Outcome State Fault Refusal :=
  okIf (s.awake && s.tickDue) s s.windowTick

/-- A step of device time inside a window (R786): counted and marked; a forward step over a boundary ticks at
once. -/
def State.steppedTime (s : State) : State :=
  let s1 := (if s.tlm.running then State.tlmCount { s with tlm := { s.tlm with stepped := true } } 5 1 else s).raise
    F.KV_TLM_EVT_time_step
  if s1.tickDue then s1.windowTick else s1

/-! ### Trace records (R796 to R798) -/

/-- The control word that traces follow (R785, R796): while windows run, the one that the last tick took up; else the
register (log 144). -/
def State.traceCtl (s : State) : Nat := (if s.tlm.running then s.tlm.ctl else s.rd R.KV_TLM_CTL).toNat

/-- Write a trace record (R796): to `trace_ring`, within the rate of a second. -/
def State.traceRecord (s : State) (type : Nat) (words : List Word) : State :=
  let lim := 1000 * max 1 (bits s.traceCtl 24 16)
  let body := toSlots words
  let n := body.length
  let drop (t : State) : State :=
    (t.tlmCount 4 1).raise F.KV_TLM_EVT_trace_drop
  if lim ≤ s.tlm.traceSec then drop s
  else
    let ring := bits s.traceCtl 20 4
    let key := if ring < 8 then ring else if ring < 12 then 100 + ring else 108
    let head := recHead type 0xFF n (s.get F.KV_TLM_STAT_window) s.time
    let ws := head ++ words.drop 2
    let r := s.dumpRecord key (toSlots ws)
    if r.1 then
      State.tlmCount { r.2 with tlm := { r.2.tlm with traceSec := r.2.tlm.traceSec + 1 } } 3 1
    else r.2

/-- A TRACE_IN record (R797): outcome 0 accepted, 1 refused, 2 TF disposition, with its cause code. -/
def State.traceIn (s : State) (tr : Trace) (inLport dm dl cls tag arrival : Nat) (multiHit : Bool)
    (outcome code served : Nat) : State :=
  s.traceRecord 3 [0, 0, 0,
    BitVec.ofNat 64 (inLport + dm * 2 ^ 8 + dl * 2 ^ 16 + cls * 2 ^ 24 + b2n multiHit * 2 ^ 27 +
      b2n tr.forced * 2 ^ 28 + outcome * 2 ^ 29 + code * 2 ^ 32 + tr.pipe * 2 ^ 40),
    BitVec.ofNat 64 (tr.seq % 2 ^ 32), BitVec.ofNat 64 arrival, BitVec.ofNat 64 tr.emitted,
    BitVec.ofNat 64 tr.adm, BitVec.ofNat 64 served, BitVec.ofNat 64 (tag + tr.w9), BitVec.ofNat 64 tr.w10,
    BitVec.ofNat 64 tr.w11, 0, 0, 0, 0]

/-- A TRACE_EG record (R798) of a copy that is reported, with the frame bytes exported. -/
def State.traceEg (s : State) (tr : Trace) (src inLport dl cls arrival rw queue eseq : Nat) (hairpin : Bool)
    (status copy sent : Nat) (bytes : List Byte) : State :=
  let b := bytes.length
  let payload := (List.range ((b + 7) / 8)).map (fun i =>
    BitVec.ofNat 64 (beNat (((bytes.drop (8 * i)).take 8).reverse)))
  s.traceRecord 4 ([0, 0, 0,
    BitVec.ofNat 64 (src + inLport * 2 ^ 8 + dl * 2 ^ 16 + cls * 2 ^ 24 + b2n hairpin * 2 ^ 27 +
      status * 2 ^ 28 + copy % 4096 * 2 ^ 31 + eseq % 65536 * 2 ^ 43),
    BitVec.ofNat 64 arrival, BitVec.ofNat 64 tr.t5, BitVec.ofNat 64 tr.t6, BitVec.ofNat 64 tr.t7,
    BitVec.ofNat 64 tr.t8, BitVec.ofNat 64 sent,
    BitVec.ofNat 64 (tr.qbytes % 2 ^ 24 + queue % 2 ^ 16 * 2 ^ 24 + rw % 2 ^ 22 * 2 ^ 40),
    BitVec.ofNat 64 (b % 2 ^ 14), 0, 0, 0, 0] ++ payload)

/-! ### Sampling (R794) -/

/-- One step of the 32-bit Galois register x^32 + x^22 + x^2 + x + 1. -/
def lfsrStep (x : Nat) : Nat := if x % 2 = 1 then (x / 2) ^^^ 0x80200003 else x / 2

/-- The seed of pipeline j (R794). -/
def lfsrSeed (seed j : Nat) : Nat :=
  let v := (seed ^^^ (2654435769 * j % 2 ^ 32)) % 2 ^ 32
  if v = 0 then 1 else v

/-- A draw for a frame without a MAC mark in pipeline j (R794): is it tagged? -/
def State.draw (s : State) (j : Nat) : Bool × State :=
  let n := s.get F.TF_SAMPLE_CTL_sample_n
  if n = 0 then (false, s)
  else
    let jit := min (s.get F.TF_SAMPLE_CTL_jitter) (n - 1)
    let left := tget s.tlm.draw j n
    if 1 < left then (false, { s with tlm := { s.tlm with draw := tset s.tlm.draw j (left - 1) } })
    else
      let x := lfsrStep (tget s.tlm.lfsr j (lfsrSeed (s.get F.TF_SAMPLE_SEED_seed) j))
      (true, { s with tlm := { s.tlm with
        draw := tset s.tlm.draw j (n - jit + x % (2 * jit + 1)), lfsr := tset s.tlm.lfsr j x } })

/-! ### The arm register (R802) -/

/-- EVT_ARM_WRITE (R801, R802): arm bits are set; a source still pending then sends its message. -/
def execEvtArmWrite (v : Word) (s : State) : Host.Outcome State Fault Refusal :=
  okIf s.awake s (s.put F.KV_EVT_ARM_arm (s.get F.KV_EVT_ARM_arm ||| bits v.toNat 0 32))

end Sys2Proof.Machine
end

