-- ==== Sys2Proof/Machine/TblOps.lean ====
section
/-! DEFINITION. What the table commands and the lookups share: limits of the partition, references to entries, group
and result checks, poisoned entries, bank faults, and the age tick (R30, R67, R193, R216 to R256, R283, R314). -/

namespace Sys2Proof.Machine

/-! ### The partition (R30, R623) -/

/-- A share of the partition in MiB: 0 routes, 1 exact match, 2 next hop, 3 trees. -/
def State.share (s : State) (i : Nat) : Nat := s.tbl.shares.getD i 0

/-- The misc share (R623). -/
def State.miscShare (s : State) : Nat := 512 - s.tbl.shares.sum

/-- Table banks retired (R67). -/
def State.retiredBanks (s : State) : Nat :=
  (s.regs.filter (fun e => (regIdx R.TF_BANK_STAT e.1).isSome && bitOf e.2.toNat 9)).length

/-- The route space S in bytes (R226, R623). -/
def State.routeS (s : State) : Nat := s.share 0 * 2 ^ 20

/-- The route space that retired banks of 512 KiB leave (R256, log 23). -/
def State.routeSLeft (s : State) : Nat := s.routeS - s.retiredBanks * 2 ^ 19

/-- Units that the exact-match store holds (R264, log 23). -/
def State.emUnitLimit (s : State) : Nat := s.share 1 * 2 ^ 20 / 20

/-- Entries of the next-hop space (R230, log 23). -/
def State.nhLimit (s : State) : Nat := min (2 ^ 22) (s.share 2 * 2 ^ 16)

/-- The limit of the rules and of the copies (R328). -/
def maxRules : Nat := 1572864

/-- Copies that the tree space holds (R328, log 23). -/
def State.copyLimit (s : State) : Nat := min maxRules (s.share 3 * 2 ^ 15)

/-- Slots of the group store (R193, log 23). -/
def State.slotStore (s : State) : Nat := (s.miscShare - 4) * 2 ^ 18

/-- Slots that groups use. -/
def slotsUsed (g : Tab Group) : Nat := (g.map (fun e => 2 ^ e.2.s)).sum

/-- Copies that rules use (R328). -/
def copiesUsed (r : Tab Rule) : Nat := (r.map (fun e => e.2.copies)).sum

/-! ### References -/

/-- Is the index a valid FWD entry of a view (R235, R237)? -/
def isFwd (v : View) (i : Nat) : Bool := nhIs v.nh i 0

/-- Fields of a FWD entry (R231). -/
def fwKind (e : NhEntry) : Nat := bits e.w0.toNat 3 2
def fwModule (e : NhEntry) : Nat := bits e.w0.toNat 5 8
def fwLport (e : NhEntry) : Nat := bits e.w0.toNat 13 8
def fwLag (e : NhEntry) : Nat := bits e.w0.toNat 21 16
def fwPuntQ (e : NhEntry) : Nat := bits e.w0.toNat 37 6
def fwClass (e : NhEntry) : Nat := bits e.w0.toNat 43 3
def fwClassEn (e : NhEntry) : Bool := bitOf e.w0.toNat 46
def fwRw (e : NhEntry) : Nat := bits e.w1.toNat 0 22

/-- Is a group defined, and of a type (R192)? -/
def groupIs (v : View) (g : Nat) (lag : Bool) : Bool :=
  match tget? v.groups g with
  | some x => x.lag == lag
  | none => false

/-- May a route result stand as a reference (R224, R235, R280)? -/
def resultRefOk (v : View) (r : Nat) : Bool :=
  if rrKind r = 0 then isFwd v (rrTarget r)
  else if rrKind r = 1 then decide (rrTarget r < 65536) && groupIs v (rrTarget r) false
  else true

/-- Does a route result keep its reserved values (R224, R861)? -/
def resultKeyOk (r : Nat) : Bool :=
  if rrKind r = 2 then decide (rrTarget r < 64)
  else if rrKind r = 3 then decide (rrTarget r = 0) else true

/-- Does a policy result keep its reserved values (R314)? -/
def policyKeyOk (r : Nat) : Bool :=
  decide (bits r 53 11 = 0) &&
    (if prAction r = 3 then true else if prAction r = 2 then decide (prTarget r < 64) else decide (prTarget r = 0))

/-- Does a policy result name a valid FWD entry where it redirects (R326, R348)? -/
def policyRefOk (v : View) (r : Nat) : Bool := prAction r ≠ 3 || isFwd v (prTarget r)

/-- Does a route result name the entry? -/
def resultNames (r i : Nat) : Bool := decide (rrKind r = 0) && decide (rrTarget r = i)

/-- Does a policy result name the entry in a REDIRECT (R327)? -/
def policyNames (r i : Nat) : Bool := decide (prAction r = 3) && decide (prTarget r = i)

/-- Is the entry a member of an ECMP group? -/
def ecmpMember (v : View) (i : Nat) : Bool :=
  v.groups.any (fun g => !g.2.lag && g.2.members.any (fun m => decide (m.entry = i)))

/-- Does an RW entry name the entry as its ENCAP (R232)? -/
def rwNames (v : View) (i : Nat) : Bool :=
  v.nh.any (fun e => nhType e.2 == 1 && nhValid e.2 && !e.2.quar && bitOf e.2.w1.toNat 37 &&
    decide (bits e.2.w1.toNat 15 22 = i))

/-- Does a FWD entry that has a destination name the entry as its RW (R231)? -/
def fwdNames (v : View) (i : Nat) : Bool :=
  v.nh.any (fun e => nhType e.2 == 0 && nhValid e.2 && !e.2.quar && decide (fwKind e.2 ≤ 1) && decide (fwRw e.2 = i))

/-- Is the entry named by a route or a group member (R235)? -/
def nhRouted (v : View) (i : Nat) : Bool := v.routes.any (fun r => resultNames r.2.toNat i) || ecmpMember v i

/-- Is the entry named by an exact-match entry, or by a rule, a tree default or an associative entry in a REDIRECT, also by an
entry whose insert waits for a shift (R281, R327)? -/
def State.nhNamed (s : State) (v : View) (i : Nat) : Bool :=
  v.em.ents.any (fun e => bitOf e.2.result 32 && resultNames (e.2.result % 2 ^ 32) i) ||
    v.rules.any (fun r => policyNames r.2.result i) || v.trees.any (fun t => policyNames t.2.default i) ||
    s.tbl.assoc.any (fun e => !e.2.deleted && !e.2.dying && policyNames (e.2.newResult.getD e.2.result) i) ||
    s.tbl.jobs.any (fun j => j.2.queue.any (fun e => policyNames e.result i))

/-- Is a group named by a route or a FWD entry (R197)? -/
def groupNamed (v : View) (g : Nat) : Bool :=
  v.routes.any (fun r => rrKind r.2.toNat == 1 && rrTarget r.2.toNat == g) ||
    v.nh.any (fun e => nhType e.2 == 0 && nhValid e.2 && !e.2.quar && fwKind e.2 == 1 && fwLag e.2 == g)

/-! ### Poison and bank faults (R67, R252 to R255, R307, R349) -/

/-- Kinds of what an uncorrectable error poisons: route node (by the key of the prefix at which it stands), FWD entry,
exact-match bucket, tree, RW or ENCAP entry, and one copy of the top nodes of a VRF (by 64 × (2 × VRF + family) + copy). -/
def pkRoute : Nat := 0
def pkFwd : Nat := 1
def pkEm : Nat := 2
def pkTree : Nat := 3
def pkRw : Nat := 5
def pkCopy : Nat := 6

/-- Is it poisoned? -/
def State.poisoned (s : State) (kind key : Nat) : Bool := s.tbl.poison.contains (kind, key)

/-- Poison it. -/
def State.setPoison (s : State) (kind key : Nat) : State :=
  if s.poisoned kind key then s
  else { s with tbl := { s.tbl with poison := s.tbl.poison ++ [(kind, key)] } }

/-- Faults of a bank in the last 24 h. -/
def State.recentFaults (s : State) (b : Nat) : List Nat :=
  (tget s.tbl.bankFaults b []).filter (fun t => decide (s.up < t + 86400000000000))

/-- Has a table bank cover left (R61, R62): can its ballast copy be read? The shadow has lost no grain, and no mirror pair has
both its channels OUT. -/
def State.bankCover (s : State) : Bool :=
  s.mem.intact && (List.range 8).all (fun k => s.get F.TF_MEM_CH_state k != 5 || s.get F.TF_MEM_CH_state (k + 8) != 5)

/-- Space for routes that is lost to retired banks (R256): raise `space_low` when the route charge no longer fits. -/
def State.spaceLost (s : State) : State :=
  if s.routeSLeft < routeCharge s.inact.routes then s.raise F.TF_ROUTE_EVT_space_low else s

/-- A retired bank's node groups and entries move to other banks (R67, R249, R256): how many they are, and the bank they go
to, the spec does not say, so free values do (log 5). -/
def State.vacate (s : State) (b : Nat) : State :=
  let r := s.fresh
  let k := Config.free r.1
  { r.2 with
    tbl := { r.2.tbl with moves := r.2.tbl.moves ++ [⟨b, k / 65536 % 1024, 1 + k % 65535, true, false⟩] }
    eng := { r.2.eng with dirty := true } }

/-- An uncorrectable fault of a table bank (R61, R62, R65, R67): the third in 24 h retires it. `routes` says whether the bank
holds route nodes or next-hop entries (R256, R260). -/
def State.bankFault (s : State) (b : Nat) (routes : Bool) : State :=
  if s.flag F.TF_BANK_STAT_retired b then s
  else
    let l := s.recentFaults b ++ [s.up]
    let s1 := (s.unitFault 3 b s.bankCover s.bankCover)
    let s2 := { s1 with tbl := { s1.tbl with bankFaults := tset s1.tbl.bankFaults b l } }
    if 3 ≤ l.length then
      let t := s2.put F.TF_BANK_STAT_retired 1 b
      if routes then ((t.raise F.TF_ROUTE_EVT_bank_retired).vacate b).spaceLost else t
    else s2

/-! ### The age tick (R283, R284) -/

/-- The current age tick. -/
def State.ageTick (s : State) : Nat := s.time / (max 1 (s.get F.TF_EM_CTL_age_tick_ms) * 1000000) % 65536

/-- The seeds of the exact-match store (R273). -/
def State.seedA (s : State) : Nat := s.get F.TF_EM_SEED_seed_a
def State.seedB (s : State) : Nat := s.get F.TF_EM_SEED_seed_b

/-- Change the exact-match store of a view. -/
def View.setEm (v : View) (f : EmStore → EmStore) : View := { v with em := f v.em }

/-! ### The learning domain (R300, R505) -/

/-- The modules that this one talks to: 255 peers in FABRIC, the peer in BACK_TO_BACK, none in STANDALONE. -/
def State.peerModules (s : State) : List Nat :=
  if s.get F.KV_MODE_topology = 1 then []
  else if s.get F.KV_MODE_topology = 2 then (tkeys s.fab.peers).take 1
  else (List.range 256).filter (fun m => decide (m ≠ s.myId))

/-- A learning record waits for a LEARN cell toward every module of the domain (R300, R495). -/
def State.sendLearn (s : State) (r : LearnRec) : State :=
  { s with fab := { s.fab with msgs := s.peerModules.foldl (fun (t : Tab MsgQ) m =>
      tmod t m msgQ0 (fun q => { q with learn := q.learn ++ [r] })) s.fab.msgs } }

end Sys2Proof.Machine
end

