-- ==== Sys2Proof/Machine/ParseTbl.lean ====
section
/-! DEFINITION. The table commands of chapter 5: parser tables, hash profiles and groups (R176, R179, R185, R192 to
R206, R211). -/

namespace Sys2Proof.Machine

/-- Change the parser tables of a view. -/
def View.setParse (v : View) (f : ParseTables → ParseTables) : View := { v with parse := f v.parse }

/-- PARSE_STATE (R176, R608). -/
def applyParseState (c : TCmd) (s : State) : CmdRes :=
  let rec128 := pw c 1 + pw c 2 * 2 ^ 64
  if 512 ≤ pw c 0 ∨ bits rec128 125 3 ≠ 0 then .refuse stBadKey
  else .change (s.setInact (fun v => v.setParse (fun p =>
    { p with states := tput p.states (pw c 0) (BitVec.ofNat 128 rec128) 0 })))

/-- PARSE_STATE. -/
def execParseState (c : TCmd) (s : State) : Host.Outcome State Fault Refusal :=
  ok (s.runChange 0x28 (plen c 3) c (applyParseState c))

/-- PARSE_TRANS (R179, R608). -/
def applyParseTrans (c : TCmd) (s : State) : CmdRes :=
  let rec128 := pw c 1 + pw c 2 * 2 ^ 64
  if 2048 ≤ pw c 0 ∨ bits rec128 73 55 ≠ 0 then .refuse stBadKey
  else .change (s.setInact (fun v => v.setParse (fun p =>
    { p with trans := tput p.trans (pw c 0) (BitVec.ofNat 128 rec128) 0 })))

/-- PARSE_TRANS. -/
def execParseTrans (c : TCmd) (s : State) : Host.Outcome State Fault Refusal :=
  ok (s.runChange 0x29 (plen c 3) c (applyParseTrans c))

/-- KEY_TEMPLATE (R185, R188, R290, R608). -/
def applyKeyTemplate (c : TCmd) (s : State) : CmdRes :=
  let t : BitVec 384 := BitVec.ofNat 384 (wordsNat (c.words.drop 1))
  let learning := s.flag F.TF_EM_TABLE_learn_en (bits (tmplWord t 0) 26 4)
  if 16 ≤ pw c 0 ∨ tmplOk t learning = false then .refuse stBadKey
  else .change (s.setInact (fun v => v.setParse (fun p => { p with tmpl := tput p.tmpl (pw c 0) t 0 })))

/-- KEY_TEMPLATE. -/
def execKeyTemplate (c : TCmd) (s : State) : Host.Outcome State Fault Refusal :=
  ok (s.runChange 0x2A (plen c 7) c (applyKeyTemplate c))

/-- A write of a hash profile (R206, R211): in force from the next epoch commit. -/
def State.hashProfWrite (s : State) (i : Nat) (v : Word) : State :=
  (s.wr R.TF_HASH_PROF v i).setNext (fun w => w.setParse (fun p =>
    { p with hash := tput p.hash i v 0xFFFFFFFFFFFFFFFF#64 }))

/-- HASH_PROF_WRITE. -/
def execHashProfWrite (i : Nat) (v : Word) (s : State) : Host.Outcome State Fault Refusal :=
  okIf (s.awake && decide (i < 16)) s (s.hashProfWrite i v)

/-! ### Groups (R192 to R204) -/

/-- Are the reserved bits of a GROUP_SET payload 0 (R196)? -/
def gsReservedOk (c : TCmd) (n : Nat) (lag : Bool) : Bool :=
  decide (bits (pw c 0) 32 32 = 0) &&
    (List.range n).all (fun m =>
      let x := bits (pw c (1 + m / 2)) (32 * (m % 2)) 32
      decide (bits x 22 2 = 0) && (!lag || decide (bits x 16 6 = 0)))

/-- Members that a GROUP_SET payload counts (R196). -/
def gsCount (c : TCmd) : Nat := bits (pw c 0) 22 10

/-- Change the groups of a view. -/
def View.setGroups (v : View) (f : Tab Group → Tab Group) : View := { v with groups := f v.groups }

/-- GROUP_SET (R192, R195 to R198). -/
def applyGroupSet (c : TCmd) (s : State) : CmdRes :=
  let w := pw c 0
  let g := bits w 0 16
  let lag := bitOf w 16
  let sz := bits w 18 4
  let n := gsCount c
  let v := s.inact
  let ms := gsMembers c.words n
  let old := (tget? v.groups g).map (fun x => 2 ^ x.s)
  if !(gsReservedOk c n lag && decide (5 ≤ sz ∧ sz ≤ 12) && decide (1 ≤ n ∧ n ≤ 512) && decide (n ≤ 2 ^ sz)) then
    .refuse stBadKey
  else if !lag && ms.any (fun m => (isFwd v m.entry) && (tget? v.nh m.entry).any (fun e => fwKind e == 1)) then
    .refuse stBadRef
  else if s.slotStore < slotsUsed v.groups - old.getD 0 + 2 ^ sz then .refuse stNoSpace
  else .change (s.setInact (fun v => v.setGroups (fun t => tset t g (gSet lag (bitOf w 17) sz ms))))

/-- GROUP_SET. -/
def execGroupSet (c : TCmd) (s : State) : Host.Outcome State Fault Refusal :=
  ok (s.runChange 0x20 (plen c (1 + (gsCount c + 1) / 2)) c (applyGroupSet c))

/-- GROUP_DELETE (R197): an undefined group is NOT_FOUND. -/
def applyGroupDelete (c : TCmd) (s : State) : CmdRes :=
  let g := pw c 0
  if 65536 ≤ g then .refuse stBadKey
  else if !thas s.inact.groups g then .refuse stNotFound
  else if groupNamed s.inact g then .refuse stBusy
  else .change (s.setInact (fun v => v.setGroups (fun t => tdel t g)))

/-- GROUP_DELETE. -/
def execGroupDelete (c : TCmd) (s : State) : Host.Outcome State Fault Refusal :=
  ok (s.runChange 0x21 (plen c 1) c (applyGroupDelete c))

/-- A member of a group fails or returns (R199, R203, R204); no change when it is so already. -/
def groupMember (m : Nat) (up : Bool) (g : Group) : Group :=
  match g.members[m]? with
  | none => g
  | some x => if x.up = up then g else if up then gMemberUp g m else gMemberDown g m

/-- A member rewrite that the open batch holds (R213). -/
def State.batchRewrite (s : State) : State := { s with tbl := { s.tbl with batchRewrites := s.tbl.batchRewrites + 1 } }

/-- GROUP_MEMBER (R203): a group or member that does not exist is NOT_FOUND. A member that is a port of this module is treated
like any other (DESIGN CHOICE, log 135). -/
def applyGroupMember (c : TCmd) (s : State) : CmdRes :=
  let w := pw c 0
  let g := bits w 0 16
  let m := bits w 16 9
  if bits w 26 38 ≠ 0 then .refuse stBadKey
  else
    match tget? s.inact.groups g with
    | none => .refuse stNotFound
    | some x =>
      if x.members.length ≤ m then .refuse stNotFound
      else
        let t := if (x.members[m]?).any (fun y => y.up != bitOf w 25) then s.batchRewrite else s
        .change (t.setInact (fun v => v.setGroups (fun t => tset t g (groupMember m (bitOf w 25) x))))

/-- GROUP_MEMBER. -/
def execGroupMember (c : TCmd) (s : State) : Host.Outcome State Fault Refusal :=
  ok (s.runChange 0x22 (plen c 1) c (applyGroupMember c))

/-- Is logical port l UP (R96)? -/
def State.portUp (s : State) (l : Nat) : Bool := s.get F.TF_LPORT_STAT_link_state l == 4

/-- A LAG group whose members on the module's own port l follow the port (R199, R202, R204). -/
def lagFollow (me l : Nat) (up : Bool) (g : Group) : Group :=
  if g.lag then
    ((g.members.zipIdx.filter (fun p => decide (p.1.entry = me * 256 + l))).map (·.2)).foldl
      (fun (x : Group) m => groupMember m up x) g
  else g

/-- Member rewrites that a port's change starts: one for each member that changes (R213). -/
def lagRewrites (me l : Nat) (up : Bool) (t : Tab Group) : Nat :=
  (t.map (fun g => if g.2.lag then (g.2.members.filter (fun m => decide (m.entry = me * 256 + l) && m.up != up)).length
    else 0)).sum

/-- LAG_MEMBER_REWRITE (R202, R204): the groups with a member on the local port l follow it; the change waits for the
engine's commit. -/
def execLagMemberRewrite (l : Nat) (s : State) : Host.Outcome State Fault Refusal :=
  if s.live then
    let up := s.portUp l
    let n := lagRewrites s.myId l up s.engV.groups
    ok (if n = 0 ∧ lagRewrites s.myId l up s.inact.groups = 0 then s
      else
        let t := s.setEng (fun v => v.setGroups (fun t => t.map (fun e => (e.1, lagFollow s.myId l up e.2))))
        { t with tbl := { t.tbl with rewrites := t.tbl.rewrites + n } })
  else ok s

end Sys2Proof.Machine
end

