-- ==== Sys2Proof/Machine/RouteTbl.lean ====
section
/-! DEFINITION. The table commands of chapter 6 and what the engine does for banks (R220 to R237, R247 to R256). -/

namespace Sys2Proof.Machine

/-- Change the routes of a view. -/
def View.setRoutes (v : View) (f : Tab (BitVec 32) → Tab (BitVec 32)) : View := { v with routes := f v.routes }

/-- Change the next-hop space of a view. -/
def View.setNh (v : View) (f : Tab NhEntry → Tab NhEntry) : View := { v with nh := f v.nh }

/-! ### Routes (R223 to R227, R235) -/

/-- The fields of a route payload (R223). -/
def rpVrf (c : TCmd) : Nat := bits (pw c 0) 0 16
def rpFam (c : TCmd) : Nat := bits (pw c 0) 16 1
def rpLen (c : TCmd) : Nat := bits (pw c 0) 17 8
def rpAddr (c : TCmd) : Nat := if rpFam c = 0 then bits (pw c 2) 0 32 else pw c 2 * 2 ^ 64 + pw c 3

/-- The key of the prefix that a route payload names. -/
def rpKey (c : TCmd) : Nat := routeKey (rpVrf c) (rpFam c) (rpLen c) (rpAddr c)

/-- Does a route payload name a prefix (R235)? `add` also reads word 1. -/
def rpOk (c : TCmd) (add : Bool) : Bool :=
  decide (rpLen c ≤ famBits (rpFam c)) && decide (bits (pw c 0) 25 39 = 0) &&
    (!add || decide (bits (pw c 1) 32 32 = 0)) &&
    (rpFam c == 1 || (decide (bits (pw c 2) 32 32 = 0) && decide (pw c 3 = 0)))

/-- The uncharged copies are reclaimed (R228), each one counted (R261). -/
def State.reclaim (s : State) : State :=
  if s.tbl.copies.isEmpty then s
  else { s with tbl := { s.tbl with copies := [] } }.count cgRoute 7 0 s.tbl.copies.length

/-- Does a poisoned node lie where the change of a prefix may touch it (R255)? Which nodes a change touches the spec does not
show: those whose range contains the prefix or lies in it (log 45). -/
def State.routePoisoned (s : State) (k : Nat) : Bool := s.tbl.poison.any (fun p => p.1 == pkRoute && nodeMeets p.2 k)

/-- A prefix does not fit (R228, R235, R256): the uncharged copies are reclaimed first, and space lost to retired banks is
reported. -/
def State.noRoom (s : State) : CmdRes :=
  let t := s.reclaim
  .deny (if 0 < t.retiredBanks then t.raise F.TF_ROUTE_EVT_space_low else t) stNoSpace

/-- Route charge above 98 % of S (R260). -/
def State.spaceCheck (s : State) : State :=
  if 98 * s.routeS < 100 * routeCharge s.inact.routes then s.raise F.TF_ROUTE_EVT_space_low else s

/-- ROUTE_ADD (R223, R227, R235, R255). -/
def applyRouteAdd (c : TCmd) (s : State) : CmdRes :=
  let r := bits (pw c 1) 0 32
  let k := rpKey c
  let t := tset s.inact.routes k (BitVec.ofNat 32 r)
  if !rpOk c true then .refuse stBadPrefix
  else if !resultKeyOk r then .refuse stBadKey
  else if !resultRefOk s.inact r then .refuse stBadRef
  else if s.routePoisoned k then .wait
  else if thas s.inact.routes k then .change (s.setInact (fun v => v.setRoutes (fun _ => t)))
  else if s.routeSLeft < routeCharge t ∨ 16777216 < t.length then s.noRoom
  else
    let s1 := if s.routeSLeft < routeCharge t + s.tbl.copies.sum then s.reclaim else s
    .change (s1.setInact (fun v => v.setRoutes (fun _ => t))).spaceCheck

/-- ROUTE_ADD. -/
def execRouteAdd (c : TCmd) (s : State) : Host.Outcome State Fault Refusal :=
  ok (s.runChange 0x10 (plen c 4) c (applyRouteAdd c))

/-- ROUTE_DELETE (R223, R235, R255). -/
def applyRouteDelete (c : TCmd) (s : State) : CmdRes :=
  let k := rpKey c
  if !rpOk c false then .refuse stBadPrefix
  else if s.routePoisoned k then .wait
  else if !thas s.inact.routes k then .refuse stNotFound
  else .change (s.setInact (fun v => v.setRoutes (fun t => tdel t k)))

/-- ROUTE_DELETE. -/
def execRouteDelete (c : TCmd) (s : State) : Host.Outcome State Fault Refusal :=
  ok (s.runChange 0x11 (plen c 4) c (applyRouteDelete c))

/-- VRF_SET (R221). -/
def applyVrfSet (c : TCmd) (s : State) : CmdRes :=
  let w := pw c 0
  if bits w 23 41 ≠ 0 then .refuse stBadKey
  else .change (s.setInact (fun v => { v with vrf := tset v.vrf (bits w 0 16) ⟨bitOf w 16, bits w 17 6⟩ }))

/-- VRF_SET. -/
def execVrfSet (c : TCmd) (s : State) : Host.Outcome State Fault Refusal :=
  ok (s.runChange 0x12 (plen c 1) c (applyVrfSet c))

/-! ### Next hops (R230 to R237) -/

/-- Does an ENCAP entry keep the layout of its kind (R520, R861)? Reserved kinds may hold anything. -/
def encapLayoutOk (w0 w1 : Nat) : Bool :=
  match bits w0 3 5 with
  | 1 | 2 => decide (bits w0 23 41 = 0 ∧ bits w1 60 4 = 0 ∧ 1 ≤ bits w0 8 2)
  | 3 => decide (bits w0 10 54 = 0 ∧ w1 = 0 ∧ 1 ≤ bits w0 8 2)
  | 4 => decide (bits w0 25 39 = 0 ∧ bits w0 8 2 ≤ 1)
  | 5 => decide (bits w0 25 7 = 0 ∧ bits w0 45 19 = 0 ∧ bits w1 33 31 = 0 ∧ bits w0 8 2 ≤ 1)
  | 6 => decide (bits w0 8 2 = 0 ∧ bits w0 25 7 = 0 ∧ bits w0 45 19 = 0 ∧ bits w1 16 48 = 0 ∧ 1 ≤ bits w1 13 3 ∧
      bits w1 13 3 ≤ 6)
  | 7 => decide (bits w0 8 56 = 0 ∧ bits w1 16 48 = 0 ∧ 1 ≤ bits w1 13 3 ∧ bits w1 13 3 ≤ 5)
  | _ => true

/-- Does an entry of the next-hop space keep its layout (R231, R232, R520, R861)? -/
def nhLayoutOk (w0 w1 : Nat) : Bool :=
  match bits w0 0 2 with
  | 0 => bitOf w0 2 && decide (bits w0 47 17 = 0) && decide (bits w1 22 42 = 0)
  | 1 => bitOf w0 2 && decide (bits w1 46 18 = 0) && decide (64 ≤ bits w1 0 14 ∧ bits w1 0 14 ≤ 16000)
  | 2 => bitOf w0 2 && encapLayoutOk w0 w1
  | _ => false

/-- Does the entry lie in the run of a valid egress list (R527, R528)? -/
def egRuns (v : View) (i : Nat) : Bool :=
  v.egHdrs.any (fun h => decide (bits h.2.1.toNat 0 22 ≤ i ∧ i ≤ bits h.2.1.toNat 0 22 + bits h.2.1.toNat 22 12))

/-- NH_SET (R230, R235, R236, R255, R528); which refusal answers when several conditions hold is the model's (log 55). -/
def applyNhSet (c : TCmd) (s : State) : CmdRes :=
  let i := pw c 0
  let v := s.inact
  let e : NhEntry := ⟨BitVec.ofNat 64 (pw c 1), BitVec.ofNat 64 (pw c 2), false⟩
  let old := tget? v.nh i
  if s.nhLimit ≤ i ∨ nhLayoutOk (pw c 1) (pw c 2) = false then .refuse stBadKey
  else if old.any (fun o => o.quar) then .refuse stBusy
  else if s.poisoned pkFwd i || s.poisoned pkRw i then .wait
  else if nhType e = 1 ∧ bitOf (pw c 2) 37 ∧ !nhIs v.nh (bits (pw c 2) 15 22) 2 then .refuse stBadRef
  else if nhType e = 0 ∧ fwKind e = 1 ∧ (!groupIs v (fwLag e) true ∨ ecmpMember v i) then .refuse stBadRef
  else if old.any (fun o => nhValid o && nhType o != nhType e) &&
      (nhRouted v i || rwNames v i || fwdNames v i || egRuns v i) then .refuse stBusy
  else .change (s.setInact (fun v => v.setNh (fun t => tset t i e)))

/-- NH_SET. -/
def execNhSet (c : TCmd) (s : State) : Host.Outcome State Fault Refusal :=
  ok (s.runChange 0x18 (plen c 3) c (applyNhSet c))

/-- NH_DELETE (R235, R237, R255, R281, R327): an RW or ENCAP entry goes into quarantine at the commit, a FWD entry is gone. -/
def applyNhDelete (c : TCmd) (s : State) : CmdRes :=
  let i := pw c 0
  let v := s.inact
  if 2 ^ 22 ≤ i then .refuse stBadKey
  else
    match tget? v.nh i with
    | none => .refuse stNotFound
    | some e =>
      if e.quar then .refuse stBusy
      else if !nhValid e then .refuse stNotFound
      else if nhRouted v i || s.nhNamed v i || rwNames v i || egRuns v i then .refuse stBusy
      else if s.poisoned pkFwd i || s.poisoned pkRw i then .wait
      else .change (s.setInact (fun v => v.setNh (fun t => if nhType e = 0 then tdel t i else tset t i { e with quar := true })))

/-- NH_DELETE. -/
def execNhDelete (c : TCmd) (s : State) : Host.Outcome State Fault Refusal :=
  ok (s.runChange 0x19 (plen c 1) c (applyNhDelete c))

/-- The quarantine in nanoseconds (R237, R257). -/
def State.quarTime (s : State) : Nat := max 1100 (s.get F.TF_ROUTE_CTL_nh_quarantine_ms) * 1000000

/-- NH_QUARANTINE_EXPIRY (R237): `nh_quarantine_ms` after the commit that deleted it the index is free again. -/
def execNhQuarantineExpiry (i : Nat) (s : State) : Host.Outcome State Fault Refusal :=
  okIf (s.live && (tget? s.act.nh i).any (fun e => e.quar) && decide (tget s.tbl.quarAt i 0 + s.quarTime ≤ s.up)) s
    (State.setAll { s with tbl := { s.tbl with quarAt := tdel s.tbl.quarAt i } }
      (fun v => v.setNh (fun t => if (tget? t i).any (fun e => e.quar) then tdel t i else t)))

/-! ### Banks (R247 to R251, R259) -/

/-- `balance_high` in force (R257). -/
def State.balHigh (s : State) : Nat := max 50 (min 100 (s.get F.TF_ROUTE_CTL_balance_high))

/-- `balance_low` in force (R257). -/
def State.balLow (s : State) : Nat :=
  let l := s.get F.TF_ROUTE_CTL_balance_low
  if s.balHigh ≤ l then s.balHigh - 10 else l

/-- The bank that takes moved groups (R247): the lowest load of the window, of the banks that are not retired and not the hot
one, the lowest number on a tie (log 132). -/
def State.coolest (s : State) (loads : List BankLoad) (b : Nat) : Nat :=
  ((loads.zipIdx.foldl (fun (m : Option (Nat × Nat)) (x : BankLoad × Nat) =>
    if x.2 = b ∨ s.flag F.TF_BANK_STAT_retired x.2 then m
    else match m with
      | none => some (x.1.pct, x.2)
      | some y => if x.1.pct < y.1 then some (x.1.pct, x.2) else some y) none).map (·.2)).getD b

/-- Copies that a replication makes (R248). -/
def NodeGroup.repl (g : NodeGroup) : Nat := max 2 (min 64 g.copies)

/-- A move of a bank's groups begins (R249). -/
def State.startMove (s : State) (b target : Nat) (moved : Bool) : State :=
  { s with tbl := { s.tbl with moves := s.tbl.moves ++ [(⟨b, target, 1, moved, false⟩ : NodeMove)] } }

/-- Balancing of bank b (R247 to R249): groups are taken until the bank's estimate (in M reads/s) comes to the low level; at
most `room` of them, what the background limit leaves. A group above 1.25 G reads/s is replicated. -/
def State.relieve (b target low : Nat) : Nat → Nat → List NodeGroup → State → State
  | _, 0, _, s => s
  | _, _, [], s => s
  | est, room + 1, g :: r, s =>
    if est ≤ low then s
    else if 1250 < g.rate then
      let k := g.repl
      let t : State := { s with tbl := { s.tbl with copies := s.tbl.copies ++ List.replicate (k - 1) g.bytes } }
      (t.startMove b target false).relieve b target low (est - (g.rate - g.rate / k)) room r
    else (s.startMove b target true).relieve b target low (est - g.rate) room r

/-- One bank at the end of a load window (R247, R251, R259): its load is reported, and in its second window in a row above
`balance_high` it is relieved; in CRITICAL balancing pauses (R746). -/
def State.bankLoad (s : State) (loads : List BankLoad) (room b : Nat) (x : BankLoad) : State :=
  let s1 := s.put F.TF_BANK_STAT_load_pct x.pct b
  if 3 ≤ s.get F.KV_THERM_STAT_state then s1
  else if s.balHigh < x.pct ∧ s.flag F.TF_ROUTE_CTL_balance_en then
    let n := tget s.tbl.bankOver b 0 + 1
    let s2 := { s1 with tbl := { s1.tbl with bankOver := tset s1.tbl.bankOver b n } }
    if n < 2 ∨ s2.flag F.TF_BANK_STAT_retired b then s2
    else
      let t := s2.relieve b (s2.coolest loads b) (25 * s2.balLow) (25 * x.pct) room x.groups
      { t with eng := { t.eng with dirty := t.eng.dirty || decide (t.tbl.moves ≠ s2.tbl.moves) } }
  else { s1 with tbl := { s1.tbl with bankOver := tdel s1.tbl.bankOver b } }

/-- The banks of a window from bank b on; what balancing has started uses up the room. -/
def State.bankLoads (loads : List BankLoad) : Nat → Nat → List BankLoad → State → State
  | _, _, [], s => s
  | room, b, x :: r, s =>
    let t := s.bankLoad loads room b x
    t.bankLoads loads (room - (t.tbl.moves.length - s.tbl.moves.length)) (b + 1) r

/-- BANK_LOAD_WINDOW (R247 to R251, R261): the loads of banks 0 upward in the window that ends, the clocks of it in which any
bank delayed a read, and how many groups the background limit of R32 lets the engine copy now. -/
def execBankLoadWindow (win : BankWindow) (s : State) : Host.Outcome State Fault Refusal :=
  let s1 := if win.delayed = 0 then s else (s.count cgRoute 5 0 win.delayed).raise F.TF_ROUTE_EVT_bank_over
  okIf s.live s (s1.bankLoads (win.loads.take 1024) win.room 0 (win.loads.take 1024))

/-- The moves that a commit puts in force (R249): they are counted (R259, R261), and the old copies wait for the epoch to
retire. -/
def State.movesLive (s : State) : State :=
  let t := s.tbl.moves.foldl (fun (t : State) m =>
    if m.live then t
    else
      let u := t.count cgRoute 6 0 m.n
      if m.moved then u.addSat F.TF_BANK_STAT_moves_out m.n m.bank else u) s
  { t with tbl := { t.tbl with moves := t.tbl.moves.map (fun m => { m with live := true }) } }

/-- The moves whose old copies are freed when the predecessor epoch retires (R243, R249). -/
def State.movesDone (s : State) : State :=
  { s with tbl := { s.tbl with moves := s.tbl.moves.filter (fun m => !m.live) } }

/-- Entries that a commit puts into quarantine: `old` is the view before (R237). -/
def State.stampQuar (s : State) (old : View) : State :=
  { s with tbl := { s.tbl with quarAt := s.act.nh.foldl (fun (m : Tab Nat) e =>
      if e.2.quar && !(tget? old.nh e.1).any (fun x => x.quar) then tset m e.1 s.up else m) s.tbl.quarAt } }

/-- The entries of a bucket take the current tick as their stamp (R284, R306). -/
def stampBucket (b tick : Nat) (st : EmStore) : EmStore :=
  { st with ents := st.ents.map (fun e => if e.2.bucket = b then (e.1, { e.2 with stamp := tick }) else e) }

/-- TABLE_SCRUB (R65, R67, R351): the scrub reads a bank; a word it cannot correct is rewritten from the ballast, and is
a fault of the bank. `routes` says whether the bank holds route nodes or next-hop entries. -/
def execTableScrub (bank : Nat) (uncorr : Option Bool) (s : State) : Host.Outcome State Fault Refusal :=
  okIf (s.live && decide (bank < 1024) && uncorr.isSome) s (s.bankFault bank (uncorr.getD false))

end Sys2Proof.Machine
end

