-- ==== Sys2Proof/Machine/EmTbl.lean ====
section
/-! DEFINITION. Exact match: the table commands, aging, learning, compare and repair (R262 to R308). -/

namespace Sys2Proof.Machine

/-! ### Entry commands (R274 to R280) -/

/-- The fields of an entry payload (R275). -/
def epTable (c : TCmd) : Nat := bits (pw c 0) 0 4
def epLen (c : TCmd) : Nat := bits (pw c 0) 4 4
def epKeyBits (c : TCmd) : Nat := pw c 1 * 2 ^ 64 + pw c 2
def epKey (c : TCmd) : Nat := emKey (epTable c) (epLen c) (epKeyBits c)

/-- Is the table a learning table (R310)? -/
def State.learnTable (s : State) (t : Nat) : Bool := s.flag F.TF_EM_TABLE_learn_en t

/-- Does an entry payload name a key (R275, R280)? -/
def State.epOk (s : State) (c : TCmd) : Bool :=
  decide (bits (pw c 0) 9 55 = 0) && decide (epKeyBits c % 2 ^ (8 * (15 - epLen c)) = 0) &&
    (!s.learnTable (epTable c) || decide (epLen c ≤ 7))

/-- Does a result keep its reserved values (R274, R280, R861)? -/
def emResultKeyOk (r : Nat) : Bool :=
  decide (bits r 50 14 = 0) && (!bitOf r 32 || resultKeyOk (r % 2 ^ 32))

/-- Does a key's home bucket or second place wait for a repair (R255, R307, R308)? -/
def State.emPoisoned (s : State) (v : View) (k : Nat) : Bool :=
  let b := emB12 s.seedA s.seedB k
  s.poisoned pkEm b.1 || s.poisoned pkEm (emSecond v.em b.1 b.2)

/-- May a table take n more units (R280, R310)? -/
def State.tableRoom (s : State) (st : EmStore) (t n : Nat) : Bool :=
  let m := s.get F.TF_EM_TABLE_max_units t
  m == 0 || decide (emTableUnits st t + n ≤ m)

/-- May the store take n more units (R264, R280)? -/
def State.storeRoom (s : State) (st : EmStore) (n : Nat) : Bool := decide (emUnits st + n ≤ s.emUnitLimit)

/-- Put a new entry where placement found room (R270). -/
def emPut (p : EmPlace) (k : Nat) (e : EmEntry) : EmStore :=
  { p.store with ents := tset p.store.ents k { e with bucket := p.bucket, slot := p.slot } }

/-- Does a change of the store touch a poisoned bucket (R255, R308)? -/
def State.emBlocked (s : State) (a b : EmStore) : Bool := (emTouched a b).any (fun x => s.poisoned pkEm x)

/-- The events of an insert that finds no room (R312): the table is full, or not. -/
def State.emNoRoom (s : State) (t n : Nat) : State :=
  let s1 := s.raise F.TF_EM_EVT_no_space
  if s.tableRoom s.inact.em t n then s1 else s1.raise F.TF_EM_EVT_table_full

/-- The events of a fuller store (R312). -/
def State.emEvents (s : State) (st : EmStore) (t : Nat) : State :=
  let m := s.get F.TF_EM_TABLE_max_units t
  let s1 := if m ≠ 0 ∧ m ≤ emTableUnits st t then s.raise F.TF_EM_EVT_table_full else s
  if 95 * ovfBuckets * 4 < 100 * emOvfUsed st then s1.raise F.TF_EM_EVT_ovf_high else s1

/-- EM_ADD (R270, R275, R276, R280). -/
def applyEmAdd (c : TCmd) (s : State) : CmdRes :=
  let r := pw c 3
  let t := epTable c
  let k := epKey c
  let st := s.inact.em
  if !s.epOk c || !emResultKeyOk r then .refuse stBadKey
  else if bitOf r 32 && !resultRefOk s.inact (r % 2 ^ 32) then .refuse stBadRef
  else if s.emPoisoned s.inact k then .wait
  else
    match tget? st.ents k with
    | some e =>
      let e1 := { e with static := bitOf (pw c 0) 8, learned := false, result := r, origin := s.myId, time := 0 }
      .change (s.setInact (fun v => v.setEm (fun st => { st with ents := tset st.ents k e1 })))
    | none =>
      if !s.tableRoom st t (ekUnits k) || !s.storeRoom st (ekUnits k) then .deny (s.emNoRoom t (ekUnits k)) stNoSpace
      else
        match emPlace st s.seedA s.seedB k with
        | none => .deny (s.emNoRoom t (ekUnits k)) stNoSpace
        | some p =>
          if s.emBlocked st p.store then .wait else
          let e : EmEntry := ⟨0, 0, bitOf (pw c 0) 8, false, r, s.ageTick, s.myId, 0⟩
          .change ((s.setInact (fun v => v.setEm (fun _ => emPut p k e))).emEvents (emPut p k e) t)

/-- EM_ADD. -/
def execEmAdd (c : TCmd) (s : State) : Host.Outcome State Fault Refusal :=
  ok (s.runChange 0x30 (plen c 4) c (applyEmAdd c))

/-- EM_DELETE (R275, R280). -/
def applyEmDelete (c : TCmd) (s : State) : CmdRes :=
  if !s.epOk c then .refuse stBadKey
  else if s.emPoisoned s.inact (epKey c) then .wait
  else if !thas s.inact.em.ents (epKey c) then .refuse stNotFound
  else .change (s.setInact (fun v => v.setEm (fun st => { st with ents := tdel st.ents (epKey c) })))

/-- EM_DELETE. -/
def execEmDelete (c : TCmd) (s : State) : Host.Outcome State Fault Refusal :=
  ok (s.runChange 0x31 (plen c 4) c (applyEmDelete c))

/-- The words that EM_READ returns (R279); of an absent entry only what was requested. -/
def State.emReadWords (s : State) (c : TCmd) : List Word :=
  let k := epKey c
  let w := bits (pw c 0) 0 8
  match tget? s.act.em.ents k with
  | none => [BitVec.ofNat 64 w, 0, 0, 0]
  | some e =>
    let ovf := decide (mainBuckets ≤ e.bucket)
    let b := if ovf then e.bucket - mainBuckets else e.bucket
    [BitVec.ofNat 64 (w + b2n e.static * 2 ^ 8 + b2n e.learned * 2 ^ 9 + 2 ^ 10 + b2n ovf * 2 ^ 11 +
        e.slot * 2 ^ 12 + b * 2 ^ 14 + b2n (decide ((emB12 s.seedA s.seedB k).1 ≠ e.bucket)) * 2 ^ 35),
     BitVec.ofNat 64 e.result, BitVec.ofNat 64 (e.stamp + e.origin * 2 ^ 16), BitVec.ofNat 64 e.time]

/-- EM_READ (R279, R280). -/
def applyEmRead (c : TCmd) (s : State) : CmdRes :=
  if !s.epOk c then .refuse stBadKey else .read (s.emReadWords c)

/-- EM_READ. -/
def execEmRead (c : TCmd) (s : State) : Host.Outcome State Fault Refusal :=
  ok (s.runCmd 0x33 (plen c 3) false 4 c (applyEmRead c))

/-! ### EM_FLUSH (R277, R278) -/

/-- The location that a learned entry's result names (R292). -/
def State.learnLoc (s : State) (t : Nat) (e : EmEntry) : Nat × Nat :=
  let d := (rrTarget (e.result % 2 ^ 32) + 2 ^ 22 - s.get F.TF_EM_LEARN_learn_nh_base t) % 2 ^ 22
  (d / 256 % 256, d % 256)

/-- The (module, port) that an entry names (R277, R291): a learned one by R292, a host-owned one by its FWD entry. -/
def State.entryLoc (s : State) (t : Nat) (e : EmEntry) : Option (Nat × Nat) :=
  let fwd := e.result % 2 ^ 32
  if e.learned then some (s.learnLoc t e)
  else if bitOf e.result 32 && rrKind fwd == 0 then
    match tget? s.act.nh (rrTarget fwd) with
    | some h => if fwKind h = 0 then some (fwModule h, fwLport h) else none
    | none => none
  else none

/-- Does an entry match the filter of a flush (R277)? -/
def State.flushHits (s : State) (w : Nat) (k : Nat) (e : EmEntry) : Bool :=
  let t := bits w 0 4
  let loc := s.entryLoc t e
  ekTable k == t && (!bitOf w 4 || e.learned) &&
    (!bitOf w 5 || loc.any (fun l => l.1 == bits w 8 8)) && (!bitOf w 6 || loc.any (fun l => l.2 == bits w 16 8))

/-- Is a flush of the table running (R280)? One that waits for the commit of its batch is not yet (R278). -/
def State.flushing (s : State) (t : Nat) : Bool := s.eng.flushes.any (fun f => bits f.w 0 4 == t)

/-- EM_FLUSH (R277, R278, R280): it starts at the commit of its batch. -/
def applyEmFlush (c : TCmd) (s : State) : CmdRes :=
  let w := pw c 0
  if bits w 24 40 ≠ 0 ∨ bitOf w 7 = true then .refuse stBadKey
  else if s.flushing (bits w 0 4) then .refuse stBusy
  else .start { s with eng := { s.eng with batchQ := some c.q, owed := s.eng.owed ++ [(c.q, c.tag, some w)] } }

/-- EM_FLUSH. -/
def execEmFlush (c : TCmd) (s : State) : Host.Outcome State Fault Refusal :=
  ok (s.runChange 0x32 (plen c 1) c (applyEmFlush c))

/-- An AGE record of an entry that this module learned (R300). -/
def State.ageRecord (s : State) (k : Nat) (e : EmEntry) : State :=
  let t := ekTable k
  if e.learned ∧ e.origin = s.myId ∧ s.flag F.TF_EM_TABLE_remote_en t then
    let l := s.learnLoc t e
    let seq := (s.tbl.learnSeq + 1) % 2 ^ 32
    let s1 := { s with tbl := { s.tbl with learnSeq := seq } }.put F.TF_EM_LSTAT_own_seq seq
    s1.sendLearn ⟨t, 3, s.myId, l.2, ekLen k, bits k 64 64, seq, e.time⟩
  else s

/-- Remove an entry from every view that holds it, outside epochs (R282); what the open batch has put in its place stays
(R276). -/
def State.emRemove (s : State) (k : Nat) (e : EmEntry) : State :=
  s.setAll (fun v => v.setEm (fun st =>
    if (tget? st.ents k).any (emSame e) then { st with ents := tdel st.ents k } else st))

/-- The entries that the filter of a flush names now. -/
def State.flushFound (s : State) (w : Nat) : Tab EmEntry := s.act.em.ents.filter (fun e => s.flushHits w e.1 e.2)

/-- Was an entry learned behind walk number n (R278): not there, or another one, when the walk began, and the walk past its
place? -/
def EmWalk.behind (f : EmWalk) (n k : Nat) (e : EmEntry) : Bool :=
  Config.passed n k && !(tget? f.found k).any (emSame e)

/-- EM_FLUSH_DONE (R278): the oldest walk has deleted every entry that its filter names. Those learned
behind it remain; of such a key the walk deleted the entry that it found. -/
def execEmFlushDone (s : State) : Host.Outcome State Fault Refusal :=
  match s.eng.flushes with
  | [] => ok s
  | f :: r =>
    let n := s.fresh
    let s1 := (s.flushFound f.w).foldl (fun (t : State) e =>
      if f.behind n.1 e.1 e.2 then (match tget? f.found e.1 with | some x => t.ageRecord e.1 x | none => t)
      else (t.ageRecord e.1 e.2).emRemove e.1 e.2) n.2
    let s2 := { s1 with eng := { s1.eng with flushes := r } }
    ok (s2.complete ⟨f.q, f.tag, stOk, f.epoch, []⟩)

/-! ### Aging (R283 to R289) -/

/-- Is an entry due for removal (R285, R287)? -/
def State.agedOut (s : State) (k : Nat) (e : EmEntry) : Bool :=
  let t := ekTable k
  s.flag F.TF_EM_TABLE_age_en t && !e.static &&
    decide (ageLimit (s.get F.TF_EM_TABLE_age_limit t) < emAge s.ageTick e.stamp)

/-- AGING_SWEEP (R285, R308): the sweeper visits bucket b. -/
def execAgingSweep (b : Nat) (s : State) : Host.Outcome State Fault Refusal :=
  if s.live && s.flag F.TF_EM_CTL_sweep_en && !s.poisoned pkEm b then
    let old := (emIn s.act.em b).filter (fun e => s.agedOut e.1 e.2)
    ok (old.foldl (fun (t : State) e => ((t.ageRecord e.1 e.2).emRemove e.1 e.2).count cgEm 6) s)
  else ok s

/-! ### Learning (R290 to R303) -/

/-- LEARN_RECORD_RECEIVE (R295, R296): the next record reaches the learning queue; a local one takes the next value of the
own sequence. -/
def execLearnRecordReceive (s : State) : Host.Outcome State Fault Refusal :=
  match s.tbl.learnIn with
  | [] => ok s
  | r :: rest =>
    let s1 := { s with tbl := { s.tbl with learnIn := rest } }
    if 4096 ≤ s1.tbl.learnQ.length then ok ((s1.count cgEm 3).raise F.TF_EM_EVT_learn_q_full)
    else if r.origin = s.myId then
      let seq := (s1.tbl.learnSeq + 1) % 2 ^ 32
      let s2 := { s1 with tbl := { s1.tbl with
        learnSeq := seq, learnQ := s1.tbl.learnQ ++ [{ r with seq := seq }] } }
      ok ((s2.put F.TF_EM_LSTAT_own_seq seq).count cgEm 2)
    else ok { s1 with tbl := { s1.tbl with learnQ := s1.tbl.learnQ ++ [r] } }

/-- The entry that a record writes (R284, R292). -/
def State.learnEntry (s : State) (r : LearnRec) : EmEntry :=
  ⟨0, 0, false, true, learnedResult (s.get F.TF_EM_LEARN_learn_nh_base r.table) r.origin r.lport, s.ageTick,
    r.origin, r.time⟩

/-- The key of a record. -/
def recKey (r : LearnRec) : Nat := emKey r.table r.keyLen (r.key * 2 ^ 64)

/-- A slot free in the home bucket or the second place, in every view and in the epoch that retires (R272, R298). -/
def State.learnSlot (s : State) (k : Nat) : Option (Nat × Nat) :=
  let b := emB12 s.seedA s.seedB k
  let used (x : Nat) : List Nat :=
    [s.act.em, s.engV.em, s.inact.em].flatMap (fun st => emUsed st x (fun _ => false)) ++
      (s.tbl.emOld.filter (fun p => decide (p.1 = x))).map (·.2)
  let p2 := emSecond s.engV.em b.1 b.2
  let same := tget? s.act.em.spill b.1 = tget? s.engV.em.spill b.1 ∧ tget? s.inact.em.spill b.1 = tget? s.engV.em.spill b.1
  match freeSlot (used b.1) (ekWide k) with
  | some x => some (b.1, x)
  | none => if same then (freeSlot (used p2) (ekWide k)).map (fun x => (p2, x)) else none

/-- The store with a learned entry placed by R270; a key that the open batch has written stays the host's (R276). -/
def emLearned (sa sb k : Nat) (e : EmEntry) (st : EmStore) : Option EmStore :=
  if thas st.ents k then some st else (emPlace st sa sb k).map (fun p => emPut p k e)

/-- Does the insert of a learned key wait for a repair (R308): would it move what a poisoned bucket holds? -/
def State.learnBlocked (s : State) (k : Nat) (e : EmEntry) : Bool :=
  (s.learnSlot k).isNone && [s.engV.em, s.inact.em].any (fun st =>
    (emLearned s.seedA s.seedB k e st).any (fun st' => s.emBlocked st st'))

/-- Insert a learned entry (R298): at once where a slot is free, else with the engine's next commit. It needs room in the
inactive view as well, where the open batch stands (DESIGN CHOICE, log 137). Whether it was inserted, and the state. -/
def State.learnInsert (s : State) (k : Nat) (e : EmEntry) : Bool × State :=
  let t := ekTable k
  if !thas s.inact.em.ents k && (!s.tableRoom s.inact.em t 1 || !s.storeRoom s.inact.em 1) then (false, s.emNoRoom t 1)
  else
    match s.learnSlot k with
    | some (b, x) =>
      let s1 := s.setAll (fun v => v.setEm (fun st =>
        if thas st.ents k then st else { st with ents := tset st.ents k { e with bucket := b, slot := x } }))
      (true, s1.emEvents s1.act.em t)
    | none =>
      match emLearned s.seedA s.seedB k e s.engV.em, emLearned s.seedA s.seedB k e s.inact.em with
      | some x, some y =>
        (true, { s with
          engV := s.engV.setEm (fun _ => x), inact := s.inact.setEm (fun _ => y)
          eng := { s.eng with dirty := true } }.emEvents x t)
      | _, _ => (false, s.raise F.TF_EM_EVT_no_space)

/-- Change a learned entry in place, in every view that holds it as learned (R282, R298). -/
def State.learnModify (s : State) (k : Nat) (f : EmEntry → EmEntry) : State :=
  s.setAll (fun v => v.setEm (fun st =>
    match tget? st.ents k with
    | some e => if e.learned then { st with ents := tset st.ents k (f e) } else st
    | none => st))

/-- What an applied record does to the tables (R297), and whether it could be applied. -/
def State.learnDo (s : State) (r : LearnRec) (a : LearnAct) : Bool × State :=
  let k := recKey r
  let e := s.learnEntry r
  match a with
  | .insert => s.learnInsert k e
  | .relocate => (true, s.learnModify k (fun x => { e with bucket := x.bucket, slot := x.slot }))
  | .stamp => (true, s.learnModify k (fun x => { x with stamp := s.ageTick }))
  | .remove => (true, s.setAll (fun v => v.setEm (fun st =>
      if (tget? st.ents k).any (fun x => x.learned) then { st with ents := tdel st.ents k } else st)))
  | .discard => (false, s)

/-- Is a record a duplicate (R296): at or before the last one applied? At a difference of exactly half it is neither before nor
after it, and no duplicate (R859). -/
def State.isDup (s : State) (r : LearnRec) : Bool :=
  match tget? s.tbl.lastSeq r.origin with
  | none => false
  | some x => serLe 32 r.seq x

/-- Apply a record (R296 to R301). -/
def State.learnApply (s : State) (r : LearnRec) : State :=
  let mine := decide (r.origin = s.myId)
  let drop := s.count cgEm 5
  if !mine && !s.flag F.TF_EM_TABLE_accept_remote r.table then s
  else if s.isDup r then drop
  else
    let a := learnAct r (tget? s.engV.em.ents (recKey r))
    let target := learnedFwd (s.get F.TF_EM_LEARN_learn_nh_base r.table) r.origin r.lport
    if 4 ≤ r.kind then s
    else if a = .discard ∨ isFwd s.act target = false then drop
    else
      let x := s.learnDo r a
      let s1 := x.2
      let s2 := { s1 with tbl := { s1.tbl with lastSeq := tset s1.tbl.lastSeq r.origin r.seq } }
      if !x.1 then s1
      else if mine then (if s.flag F.TF_EM_TABLE_remote_en r.table then s2.sendLearn r else s2)
      else s2.count cgEm 4

/-- LEARN_RECORD_APPLY (R297, R308): the head of the learning queue; on a poisoned bucket it waits. -/
def execLearnRecordApply (s : State) : Host.Outcome State Fault Refusal :=
  match s.tbl.learnQ with
  | [] => ok s
  | r :: rest =>
    if s.live && !s.emPoisoned s.engV (recKey r) &&
        !(thas s.engV.em.ents (recKey r) == false && s.learnBlocked (recKey r) (s.learnEntry r)) then
      ok ({ s with tbl := { s.tbl with learnQ := rest } }.learnApply r)
    else ok s

/-! ### Compare (R304 to R306) -/

/-- Is a write of a bucket pending between its ballast copy and table SRAM (R304)? -/
def State.emPending (s : State) (b : Nat) : Bool :=
  s.eng.phase == 3 && decide (emIn s.mem.shadow.em b ≠ emIn s.act.em b)

/-- A bucket is rewritten from the ballast (R306): its entries take the current tick, and the repair is counted. -/
def State.emRepair (s : State) (b : Nat) : State :=
  let s1 := s.setAll (fun v => v.setEm (stampBucket b s.ageTick))
  let s2 := { s1 with tbl := { s1.tbl with poison := s1.tbl.poison.filter (fun p => decide (p ≠ (pkEm, b))) } }
  (s2.count cgEm 7).raise F.TF_EM_EVT_mismatch

end Sys2Proof.Machine
end

