-- ==== Sys2Proof/Machine/ClassTbl.lean ====
section
/-! DEFINITION. Classification trees and the associative array: the table commands, rebuilds, shifts and rewrites (R314
to R352). -/

namespace Sys2Proof.Machine

/-- Change the trees of a view. -/
def View.setTrees (v : View) (f : Tab Tree → Tab Tree) : View := { v with trees := f v.trees }

/-- Change the rules of a view. -/
def View.setRules (v : View) (f : Tab Rule → Tab Rule) : View := { v with rules := f v.rules }

/-- Does a tree hold a rule? -/
def treeBusy (v : View) (t : Nat) : Bool := v.rules.any (fun r => r.2.tree == t)

/-- CLASS_TREE_SET (R319): direction, key length and `tag_en` of a tree that holds rules cannot change. -/
def applyClassTreeSet (c : TCmd) (s : State) : CmdRes :=
  let w := pw c 0
  let t := bits w 0 8
  let new : Tree := ⟨bitOf w 8, bits w 9 6, bitOf w 15, pw c 1⟩
  if bits w 16 48 ≠ 0 ∨ policyKeyOk (pw c 1) = false then .refuse stBadKey
  else if s.poisoned pkTree t then .wait
  else if treeBusy s.inact t && (tget? s.inact.trees t).any (fun o => { o with default := 0 } != { new with default := 0 })
  then .refuse stBusy
  else .change (s.setInact (fun v => v.setTrees (fun m => tset m t new)))

/-- CLASS_TREE_SET. -/
def execClassTreeSet (c : TCmd) (s : State) : Host.Outcome State Fault Refusal :=
  ok (s.runChange 0x38 (plen c 2) c (applyClassTreeSet c))

/-- Does a profile name the tree (R321): a `TF_CLASS_PROF` or an egress profile, whether it classifies or not? -/
def State.treeNamed (s : State) (t : Nat) : Bool :=
  (List.range 16).any (fun i => s.get F.TF_CLASS_PROF_tree i == t) ||
    (List.range R.TF_EG_PROF.n).any (fun i => s.get F.TF_EG_PROF_tree i == t)

/-- CLASS_TREE_DELETE (R321). -/
def applyClassTreeDelete (c : TCmd) (s : State) : CmdRes :=
  let t := pw c 0
  if 256 ≤ t then .refuse stBadKey
  else if !thas s.inact.trees t then .refuse stNotFound
  else if treeBusy s.inact t || s.treeNamed t then .refuse stBusy
  else .change (s.setInact (fun v => v.setTrees (fun m => tdel m t)))

/-- CLASS_TREE_DELETE. -/
def execClassTreeDelete (c : TCmd) (s : State) : Host.Outcome State Fault Refusal :=
  ok (s.runChange 0x39 (plen c 1) c (applyClassTreeDelete c))

/-! ### Rules (R322 to R329) -/

/-- Conditions that a rule payload counts (R322). -/
def rpConds (c : TCmd) : Nat := bits (pw c 0) 45 4

/-- The rules of a tree other than one. -/
def otherRules (v : View) (t id : Nat) : List (List Cond) :=
  (v.rules.filter (fun r => decide (r.2.tree = t) && decide (r.1 ≠ id))).map (fun r => r.2.conds)

/-- The copies that a rule compiles into: at least one, at most the tree space; the spec does not show the
compilation, so the number is a free value (log 5). -/
def State.copiesOf (s : State) : Nat := 1 + Config.free s.fv % maxRules

/-- CLASS_RULE_ADD (R322, R323, R326, R328, R329). -/
def applyClassRuleAdd (c : TCmd) (s : State) : CmdRes :=
  let w := pw c 0
  let id := bits w 0 21
  let t := bits w 21 8
  let n := rpConds c
  let conds := ruleConds c.words n
  let v := s.inact
  let old := (tget? v.rules id).map (fun r => r.copies)
  if bits w 49 15 ≠ 0 ∨ maxRules ≤ id ∨ 8 < n ∨ policyKeyOk (pw c 1) = false ∨ condsReservedOk c.words n = false then
    .refuse stBadKey
  else
    match tget? v.trees t with
    | none => .refuse stBadRef
    | some tr =>
      if !conds.all (condOk tr) then .refuse stBadKey
      else if !policyRefOk v (pw c 1) then .refuse stBadRef
      else if (tget? v.rules id).any (fun r => r.tree != t) then .refuse stBusy
      else if s.poisoned pkTree t then .wait
      else if s.copyLimit < copiesUsed v.rules - old.getD 0 + s.copiesOf ∨ (old.isNone ∧ maxRules ≤ v.rules.length) then
        .refuse stNoSpace
      else if tooDeep (tr.keyLen + 1) conds (otherRules v t id) then .refuse stTooDeep
      else
        let r : Rule := ⟨t, bits w 29 16, conds, pw c 1, s.copiesOf⟩
        let s1 := { s with fv := s.fv + 1 }.setInact (fun v => v.setRules (fun m => tset m id r))
        .change (if 95 * maxRules < 100 * copiesUsed s1.inact.rules then s1.raise F.TF_CLASS_EVT_copies_high else s1)

/-- CLASS_RULE_ADD. -/
def execClassRuleAdd (c : TCmd) (s : State) : Host.Outcome State Fault Refusal :=
  ok (s.runChange 0x3A (plen c (2 + 3 * rpConds c)) c (applyClassRuleAdd c))

/-- CLASS_RULE_DELETE (R325, R326). -/
def applyClassRuleDelete (c : TCmd) (s : State) : CmdRes :=
  let id := pw c 0
  if 2 ^ 21 ≤ id then .refuse stBadKey
  else
    match tget? s.inact.rules id with
    | none => .refuse stNotFound
    | some r =>
      if s.poisoned pkTree r.tree then .wait
      else .change (s.setInact (fun v => v.setRules (fun m => tdel m id)))

/-- CLASS_RULE_DELETE. -/
def execClassRuleDelete (c : TCmd) (s : State) : Host.Outcome State Fault Refusal :=
  ok (s.runChange 0x3B (plen c 1) c (applyClassRuleDelete c))

/-- CLASS_RULE_READ (R325, R326): word 0, result, copies and hit count. -/
def applyClassRuleRead (c : TCmd) (s : State) : CmdRes :=
  let id := pw c 0
  if 2 ^ 21 ≤ id then .refuse stBadKey
  else
    match tget? s.act.rules id with
    | none => .refuse stNotFound
    | some r => .read [BitVec.ofNat 64 (id + r.tree * 2 ^ 21 + r.prio * 2 ^ 29 + r.conds.length * 2 ^ 45),
        BitVec.ofNat 64 r.result, BitVec.ofNat 64 r.copies,
        BitVec.ofNat 64 (tget s.tlm.totals (cntKey 17 id) 0)]

/-- CLASS_RULE_READ. -/
def execClassRuleRead (c : TCmd) (s : State) : Host.Outcome State Fault Refusal :=
  ok (s.runCmd 0x3C (plen c 1) false 4 c (applyClassRuleRead c))

/-- Copies of one tree. -/
def treeCopies (v : View) (t : Nat) : Nat := copiesUsed (v.rules.filter (fun r => decide (r.2.tree = t)))

/-- CLASS_TREE_REBUILD (R326, R331): the engine starts to compile the tree anew. -/
def applyClassTreeRebuild (c : TCmd) (s : State) : CmdRes :=
  let t := pw c 0
  if 256 ≤ t then .refuse stBadKey
  else if !thas s.inact.trees t then .refuse stNotFound
  else if s.copyLimit < copiesUsed s.inact.rules + treeCopies s.inact t then .refuse stNoSpace
  else .start { s with eng := { s.eng with rebuilds := s.eng.rebuilds ++ [(c.q, c.tag, t, false)] } }

/-- CLASS_TREE_REBUILD. -/
def execClassTreeRebuild (c : TCmd) (s : State) : Host.Outcome State Fault Refusal :=
  ok (s.runChange 0x3D (plen c 1) c (applyClassTreeRebuild c))

/-- Mark the oldest running rebuild as ended. -/
def endRebuild : List (Nat × Nat × Nat × Bool) → List (Nat × Nat × Nat × Bool)
  | [] => []
  | r :: rest => if r.2.2.2 then r :: endRebuild rest else (r.1, r.2.1, r.2.2.1, true) :: rest

/-- A fresh compilation never takes more copies (R331): each rule of the tree takes a free number, up to what it
has. -/
def rebuiltRules (n t : Nat) (m : Tab Rule) : Tab Rule :=
  m.map (fun e => if e.2.tree = t then (e.1, { e.2 with copies := 1 + Config.free n % max 1 e.2.copies }) else e)

/-- REBUILD_DONE (R331): the new build waits for the next commit. -/
def execRebuildDone (s : State) : Host.Outcome State Fault Refusal :=
  match s.eng.rebuilds.find? (fun r => !r.2.2.2) with
  | none => ok s
  | some r =>
    let s1 := s.setEng (fun v => v.setRules (rebuiltRules s.fv r.2.2.1))
    ok { s1 with fv := s1.fv + 1, eng := { s1.eng with rebuilds := endRebuild s1.eng.rebuilds } }

/-- A write of a profile register (R206, R339): in force from the next epoch commit. -/
def State.profWrite (s : State) (r : RegD) (w : Word) (i : Nat) (j : Nat := 0) : State :=
  (s.wr r w i j).setNext (fun v => { v with profs := tput v.profs (regAddr r i j) w (resetWord r i) })

/-- The value in force of a profile register. -/
def profOf (v : View) (r : RegD) (i : Nat) (j : Nat := 0) : Word := tget v.profs (regAddr r i j) (resetWord r i)

/-! ### The associative array (R333 to R348) -/

/-- Change the array. -/
def State.setAssoc (s : State) (a : Tab AssocEntry) : State := { s with tbl := { s.tbl with assoc := a } }

/-- The entry with an id that is in use, with its index (R341): not one that a batch has deleted. -/
def assocFind (arr : Tab AssocEntry) (id : Nat) : Option (Nat × AssocEntry) :=
  arr.find? (fun e => decide (e.2.id = id) && !e.2.deleted && !e.2.dying)

/-- The inserts that wait in a bank. -/
def State.jobs (s : State) (b : Nat) : AssocJobs := tget s.tbl.jobs b assocIdle

/-- Change the inserts of a bank; an idle bank is not listed. -/
def State.setJobs (s : State) (b : Nat) (j : AssocJobs) : State :=
  { s with tbl := { s.tbl with jobs := tput s.tbl.jobs b j assocIdle } }

/-- Is the id in use or awaiting its epoch (R347, R348)? -/
def State.assocIdBusy (s : State) (id : Nat) : Bool :=
  s.tbl.assoc.any (fun e => e.2.id == id) || s.tbl.jobs.any (fun j => j.2.queue.any (fun e => e.id == id))

/-- Positions of a bank in use or promised. -/
def State.assocHeld (s : State) (b : Nat) : Nat := (assocBankEnts s.tbl.assoc b).length + (s.jobs b).queue.length

/-- Place the inserts of a bank that need no shift, and begin the shift of the first that does (R343, R345); each
insert placed shortens the queue. -/
def State.assocRun (b : Nat) : Nat → State → State
  | 0, s => s
  | n + 1, s =>
    let j := s.jobs b
    match j.shift, j.queue with
    | none, e :: rest =>
      match assocPlan s.tbl.assoc b e.prio with
      | some (.inl p) =>
        ((s.setAssoc (tset s.tbl.assoc (b * assocPos + p) e)).setJobs b ⟨none, rest⟩).assocRun b n
      | some (.inr sh) => s.setJobs b ⟨some sh, e :: rest⟩
      | none => s
    | _, _ => s

/-- ASSOC_ADD (R341, R343, R348, R355): reserved bits are BAD_REF by the table of R348; a full bank raises `bank_full`. -/
def applyAssocAdd (c : TCmd) (s : State) : CmdRes :=
  let w := pw c 0
  let id := bits w 0 19
  let b := bits w 19 6
  let m := assoc160 (c.words.getD 4 0) (c.words.getD 5 0) (c.words.getD 6 0)
  let v := assoc160 (c.words.getD 1 0) (c.words.getD 2 0) (c.words.getD 3 0)
  if bits w 41 23 ≠ 0 ∨ bits (pw c 3) 0 32 ≠ 0 ∨ bits (pw c 6) 0 32 ≠ 0 ∨ policyKeyOk (pw c 7) = false ∨
      policyRefOk s.inact (pw c 7) = false then .refuse stBadRef
  else if s.assocIdBusy id then .refuse stBusy
  else if assocPos ≤ s.assocHeld b then .deny (s.raise F.TF_CLASS_EVT_bank_full) stNoSpace
  else
    let e : AssocEntry := ⟨id, v &&& m, m, bits w 25 16, pw c 7, true, false, false, false, none⟩
    let j := s.jobs b
    .change ((s.setJobs b { j with queue := j.queue ++ [e] }).assocRun b (j.queue.length + 1))

/-- ASSOC_ADD. -/
def execAssocAdd (c : TCmd) (s : State) : Host.Outcome State Fault Refusal :=
  ok (s.runChange 0x40 (plen c 8) c (applyAssocAdd c))

/-- Change the entry with an id that waits in a queue. -/
def jobsMap (f : List AssocEntry → List AssocEntry) (jobs : Tab AssocJobs) : Tab AssocJobs :=
  jobs.map (fun j => (j.1, { j.2 with queue := f j.2.queue }))

/-- Does the id wait in a queue? -/
def State.assocQueued (s : State) (id : Nat) : Bool := s.tbl.jobs.any (fun j => j.2.queue.any (fun e => e.id == id))

/-- ASSOC_SET (R342, R346, R348, R352): the new result takes effect at the commit. -/
def applyAssocSet (c : TCmd) (s : State) : CmdRes :=
  let id := pw c 0
  let r := pw c 1
  if 2 ^ 19 ≤ id ∨ policyKeyOk r = false ∨ policyRefOk s.inact r = false then .refuse stBadRef
  else if s.assocQueued id then
    .change { s with tbl := { s.tbl with
      jobs := jobsMap (fun q => q.map (fun e => if e.id = id then { e with result := r } else e)) s.tbl.jobs } }
  else
    match assocFind s.tbl.assoc id with
    | none => .refuse stNotFound
    | some (i, e) =>
      if e.excluded then .wait
      else .change (s.setAssoc (tset s.tbl.assoc i
        (if e.fresh then { e with result := r } else { e with newResult := some r })))

/-- ASSOC_SET. -/
def execAssocSet (c : TCmd) (s : State) : Host.Outcome State Fault Refusal :=
  ok (s.runChange 0x41 (plen c 2) c (applyAssocSet c))

/-- ASSOC_DELETE (R342, R346 to R348, R352): the entry is seen until the commit; its id and position are free when the
epoch retires. An entry still waiting to be placed leaves its queue when the one before it is placed. -/
def applyAssocDelete (c : TCmd) (s : State) : CmdRes :=
  let id := pw c 0
  if 2 ^ 19 ≤ id then .refuse stBadKey
  else if s.assocQueued id then .wait
  else
    match assocFind s.tbl.assoc id with
    | none => .refuse stNotFound
    | some (i, e) =>
      if e.excluded then .wait else .change (s.setAssoc (tset s.tbl.assoc i { e with deleted := true }))

/-- ASSOC_DELETE. -/
def execAssocDelete (c : TCmd) (s : State) : Host.Outcome State Fault Refusal :=
  ok (s.runChange 0x42 (plen c 1) c (applyAssocDelete c))

/-- Is the position one of a shift under way (R342)? -/
def shiftHolds (sh : AssocShift) (p : Nat) : Bool :=
  if sh.up then decide (sh.ins ≤ p ∧ p ≤ sh.ins + sh.moved) else decide (p ≤ sh.ins ∧ sh.ins ≤ p + sh.moved)

/-- ASSOC_READ (R342, R348, R352): of the entries that the active epoch sees. -/
def applyAssocRead (c : TCmd) (s : State) : CmdRes :=
  let id := pw c 0
  if 2 ^ 19 ≤ id then .refuse stBadKey
  else
    match s.tbl.assoc.find? (fun e => decide (e.2.id = id) && !e.2.fresh && !e.2.dying) with
    | none => .refuse stNotFound
    | some (i, e) =>
      if e.excluded then .wait
      else
        let moving := (s.jobs (i / assocPos)).shift.any (fun sh => shiftHolds sh (i % assocPos))
        .read ([BitVec.ofNat 64 (id + i / assocPos * 2 ^ 19 + e.prio * 2 ^ 25)] ++ assocWords e.value ++
          assocWords e.mask ++ [BitVec.ofNat 64 e.result, BitVec.ofNat 64 (i + b2n moving * 2 ^ 19)])

/-- ASSOC_READ. -/
def execAssocRead (c : TCmd) (s : State) : Host.Outcome State Fault Refusal :=
  ok (s.runCmd 0x43 (plen c 1) false 9 c (applyAssocRead c))

/-- The entry that the next step of a shift moves. -/
def shiftSource (b : Nat) (sh : AssocShift) : Nat := b * assocPos + (if sh.up then sh.hole - 1 else sh.hole + 1)

/-- A step of a shift (R344, R345, R352): one entry of bank b moves; after the last the new entry is written at its
place, and the bank's next insert begins. A step onto an excluded entry waits. -/
def State.shiftStep (s : State) (b : Nat) : State :=
  let j := s.jobs b
  match j.shift, j.queue with
  | some sh, e :: rest =>
    if (tget? s.tbl.assoc (shiftSource b sh)).any (fun x => x.excluded) then s
    else
      let r := assocShiftStep s.tbl.assoc b sh
      if r.2.left = 0 then
        let s1 := ((s.setAssoc (tset r.1 (b * assocPos + sh.ins) e)).setJobs b ⟨none, rest⟩).put
          F.TF_ASSOC_BANK_last_shift sh.moved b
        s1.assocRun b rest.length
      else (s.setAssoc r.1).setJobs b ⟨some r.2, e :: rest⟩
  | _, _ => s

/-- ASSOC_SHIFT_STEP. -/
def execAssocShiftStep (b : Nat) (s : State) : Host.Outcome State Fault Refusal := ok (s.shiftStep b)

end Sys2Proof.Machine
end

