-- ==== Sys2Proof/Machine/Views.lean ====
section
/-! DEFINITION. Physical ports, breakouts and their pipelines; the port views and the PORT_STATE messages (R82 to R90,
R97, R123, R124, R397, R503). -/

namespace Sys2Proof.Machine

/-! ### Breakouts and pipelines (R82 to R90) -/

/-- Lanes of each logical port by breakout code (R82); 0 for a reserved code. -/
def portLanes : Nat → Nat
  | 0 => 8 | 1 => 4 | 2 => 2 | 3 => 1 | 4 => 1 | _ => 0

/-- Speed code of each logical port by breakout code (R102). -/
def portSpeed : Nat → Nat
  | 0 => 5 | 1 => 4 | 2 => 3 | 3 => 2 | 4 => 1 | _ => 0

/-- The rate in Mbit/s of a speed code. -/
def speedMbps : Nat → Nat
  | 1 => 100000 | 2 => 200000 | 3 => 400000 | 4 => 800000 | 5 => 1600000 | _ => 0

/-- Is sub-port s listed for a breakout code (R82)? -/
def subListed (code s : Nat) : Bool :=
  decide (0 < portLanes code) && decide (s < 8) && decide (s % portLanes code = 0)

/-- The mask of listed sub-ports. -/
def presentMask (code : Nat) : Nat := maskOf ((List.range 8).map (subListed code))

/-- The breakout in force of a physical port. -/
def State.breakout (s : State) (p : Nat) : Nat := s.get F.TF_PORT_CFG_breakout p

/-- Is logical port l present (R83, R84)? -/
def State.present (s : State) (l : Nat) : Bool :=
  decide (l < 256) && subListed (s.breakout (l / 8)) (l % 8)

/-- Is the physical port framed (R129)? -/
def State.framed (s : State) (l : Nat) : Bool := s.flag F.TF_PORT_CFG_framed (l / 8)

/-- The physical lanes that carry a logical port's receive direction, by the lane map (R88). -/
def State.lanesOf (s : State) (l : Nat) : List Nat :=
  (List.range (portLanes (s.breakout (l / 8)))).map (fun i =>
    8 * (l / 8) + bits (s.get F.TF_PORT_LANEMAP_rx_map (l / 8)) (3 * (l % 8 + i)) 3)

/-- The logical port that owns a physical lane (R126). -/
def State.laneOwner (s : State) (n : Nat) : Option Nat :=
  ((List.range 8).map (fun i => n / 8 * 8 + i)).find? (fun l => s.present l && (s.lanesOf l).contains n)

/-- Is a 24-bit lane map a permutation of 0 to 7 (R89)? -/
def mapOk (m : Nat) : Bool :=
  let v := (List.range 8).map (fun i => bits m (3 * i) 3)
  (List.range 8).all (fun x => v.contains x)

/-- The link state of a logical port (R96). -/
def State.link (s : State) (l : Nat) : Nat := s.get F.TF_LPORT_STAT_link_state l

/-- A physical port. -/
def State.phys (s : State) (p : Nat) : PhysPort := tget s.port.phys p physPort0

/-- Store a physical port. -/
def State.setPhys (s : State) (p : Nat) (x : PhysPort) : State :=
  { s with port := { s.port with phys := tput s.port.phys p x physPort0 } }

/-- What a logical port holds. -/
def State.lp (s : State) (l : Nat) : LPort := tget s.port.lports l lport0

/-- Store it. -/
def State.setLp (s : State) (l : Nat) (x : LPort) : State :=
  { s with port := { s.port with lports := tput s.port.lports l x lport0 } }

/-- The position of a port's pipeline in its cluster (R90): the first or second of its pair. -/
def pipePos (p : Nat) (b : Bool) : Nat := 2 * (p % 2) + b2n b

/-- The flat number of a port's pipeline (R61): 5c + position. -/
def pipeIdx (p : Nat) (b : Bool) : Nat := 5 * (p / 2) + pipePos p b

/-- Is an ingress slot of the pair served: by its pipeline, or by a spare that has joined (R124, R604), in a cluster in
service? -/
def State.inPipeOk (s : State) (p : Nat) (b : Bool) : Bool :=
  s.isOn (1 + p / 2) && (!bitOf (s.get F.TF_SPARE_STAT_in_failed (p / 2)) (pipePos p b) ||
    (s.get F.TF_SPARE_STAT_in_state (p / 2) == 5 && s.get F.TF_SPARE_STAT_in_slot (p / 2) == pipePos p b))

/-- Is an egress slot of the pair served (R512, R604)? -/
def State.egPipeOk (s : State) (p : Nat) (b : Bool) : Bool :=
  s.isOn (1 + p / 2) && (!bitOf (s.get F.TF_SPARE_STAT_eg_failed (p / 2)) (pipePos p b) ||
    (s.get F.TF_SPARE_STAT_eg_state (p / 2) == 5 && s.get F.TF_SPARE_STAT_eg_slot (p / 2) == pipePos p b))

/-! ### Port views (R397) -/

/-- The key of a view. -/
def viewKey (m l : Nat) : Nat := 256 * m + l

/-- The view of a port; a port never reported up is seen as down (log 24). -/
def State.view (s : State) (m l : Nat) : PView := tget s.buf.views (viewKey m l) .down

/-- Is the view UP? -/
def State.viewUp (s : State) (m l : Nat) : Bool := s.view m l == .up

/-- Set a view. -/
def State.setView (s : State) (m l : Nat) (v : PView) : State :=
  { s with buf := { s.buf with
    views := tput s.buf.views (viewKey m l) v .down
    holdAt := if v = .hold then tset s.buf.holdAt (viewKey m l) s.up else tdel s.buf.holdAt (viewKey m l) } }

/-- A report of a port's state (R397): up from any state, down from UP only. The units outstanding toward an own port
that leaves UP are marked (R863). -/
def State.report (s : State) (m l : Nat) (up : Bool) : State :=
  if up then (if s.viewUp m l then s else s.setView m l .up)
  else if s.viewUp m l then
    let s1 := s.setView m l .hold
    if m = s.myId then
      { s1 with sch := { s1.sch with outst := s1.sch.outst.map (fun e =>
        if e.2.pkt.dl = l then (e.1, { e.2 with down := true }) else e) } }
    else s1
  else s

/-! ### PORT_STATE messages (R503) -/

/-- What waits for a cell toward a module. -/
def State.msgs (s : State) (m : Nat) : MsgQ := tget s.fab.msgs m msgQ0

/-- Store it. -/
def State.setMsgs (s : State) (m : Nat) (q : MsgQ) : State :=
  { s with fab := { s.fab with msgs := tput s.fab.msgs m q msgQ0 } }

/-- What is known of a module. -/
def State.peer (s : State) (m : Nat) : Peer := tget s.fab.peers m peer0

/-- Modules that are reachable (R481). -/
def State.reachables (s : State) : List Nat := (s.fab.peers.filter (·.2.reachable)).map (·.1)

/-- A PORT_STATE message. -/
def portStateMsg (l : Nat) (up : Bool) : Word := BitVec.ofNat 64 (l * 16 + b2n up * 4096)

/-- Send a control message to a module. -/
def State.sendCtl (s : State) (m : Nat) (w : Word) : State :=
  let q := s.msgs m
  s.setMsgs m { q with ctl := q.ctl ++ [w] }

/-- DT learns of an own port's change (R97, R503): its own view, and a message to every reachable module. -/
def State.localChange (s : State) (l : Nat) (up : Bool) : State :=
  let s1 := s.report s.myId l up
  s1.reachables.foldl (fun t m => t.sendCtl m (portStateMsg l up)) s1

/-- The full set of own port states for a module (R503), absent ports as down. -/
def State.sendAllStates (s : State) (m : Nat) : State :=
  (List.range 256).foldl (fun t l => t.sendCtl m (portStateMsg l (t.link l = 4))) s

/-- PORT_STATE_REFRESH (R503). -/
def execPortStateRefresh (s : State) : Host.Outcome State Fault Refusal :=
  okIf s.live s (s.reachables.foldl State.sendAllStates s)

/-- A control message is released (R503): kind 0 reports a port of its sender; other kinds are ignored. -/
def State.controlMsg (s : State) (m : Nat) (w : Word) : State :=
  if bits w.toNat 0 4 = 0 then s.report m (bits w.toNat 4 8) (bitOf w.toNat 12) else s

/-- PORT_STATE_MESSAGE (R503): from another module. -/
def execPortStateMessage (m : Nat) (w : Word) (s : State) : Host.Outcome State Fault Refusal :=
  okIf (s.live && decide (m ≠ s.myId)) s (s.controlMsg m w)

end Sys2Proof.Machine
end

