-- ==== Sys2Proof/Machine/Mac.lean ====
section
/-! DEFINITION. The MAC: frames received, pause and PFC (R91 to R95, R108 to R113, R121 to R125). -/

namespace Sys2Proof.Machine

/-! ### Frames received (R92, R93, R116, R121 to R125) -/

/-- The length of a received frame, FCS included. -/
def rxLen (f : RxFrame) : Nat := f.bytes.length + 4

/-- Bytes of frames in a buffer. -/
def rxBytes (l : List RxFrame) : Nat := (l.map rxLen).sum

/-- The longest frame of a port (R101). -/
def State.maxFrame (s : State) (l : Nat) : Nat := max 1518 (min 16000 (s.get F.TF_LPORT_CTL_max_frame l))

/-- Which pipeline takes a frame of n bytes (R123, R124): the one served whose FIFO of 16 KiB has more free bytes,
on a tie the one that did not take the previous frame; none when it fits neither. -/
def State.pickPipe (s : State) (p n : Nat) : Option Bool :=
  let x := s.phys p
  let fa := 16384 - rxBytes x.fifoA
  let fb := 16384 - rxBytes x.fifoB
  let a := s.inPipeOk p false
  let b := s.inPipeOk p true
  let c := if a && b then (if fa = fb then !x.lastB else decide (fa < fb)) else b
  if (a || b) && decide (n ≤ if c then fb else fa) then some c else none

/-- The MAC passes the oldest waiting frame to a pipeline, with the next sequence number (R121, R123). -/
def State.passOne (s : State) (p : Nat) : State :=
  let x := s.phys p
  match x.inbuf with
  | [] => s
  | f :: rest =>
    match s.pickPipe p (rxLen f) with
    | none => s
    | some b =>
      let g := { f with seq := x.seq }
      s.setPhys p { x with
        inbuf := rest
        seq := (x.seq + 1) % 2 ^ 32
        anySeq := true
        lastB := b
        fifoA := if b then x.fifoA else x.fifoA ++ [g]
        fifoB := if b then x.fifoB ++ [g] else x.fifoB }

/-- The MAC passes waiting frames on while they fit. -/
def State.passFrames (s : State) (p : Nat) : State :=
  (s.phys p).inbuf.foldl (fun t _ => t.passOne p) (s.stampHigh p)

/-- The packet-rate demand of a port (R730): more than 1.9 Gpps in a microsecond. -/
def State.rateSeen (s : State) (p : Nat) : State :=
  let us := s.up / 1000
  let r := tget s.pwr.rate p (us, 0)
  let n := if r.1 = us then r.2 + 1 else 1
  { s with pwr := { s.pwr with
    rate := tset s.pwr.rate p (us, n)
    demand := if 1900 < n then tset s.pwr.demand (p / 2 + 1) s.up else s.pwr.demand } }

/-- A frame enters the MAC input buffer of 512 KiB, or is discarded under PORT_OVERRUN (R125): whether it was
discarded, and the state. -/
def State.intoMac (s : State) (l : Nat) (f : RxFrame) : Bool × State :=
  let p := l / 8
  let x := s.phys p
  if rxBytes x.inbuf + rxLen f ≤ 524288 then
    (false, (s.setPhys p { x with inbuf := x.inbuf ++ [f] }).passFrames p)
  else
    (true, (((s.passFrames p).countBacked 0 9 1 f.time).countAt cgPort l 9 1 f.time).countAt cgPort l 0x1C 1 f.time)

/-- A frame of n bytes from the wire (R92, R93, R116, R777): its bytes without FCS, whether its FCS and its PCS coding are
good, codewords that FEC could not correct, and symbols that it corrected. -/
def State.macReceive (s : State) (l n : Nat) (bytes : List Byte) (fcsOk pcsErr : Bool) (fecBad fecCorr : Nat) : State :=
  let t := s.time
  let small := decide (n < 64)
  let big := decide (s.maxFrame l < n)
  let fec := if s.framed l then 0 else fecBad
  let mark := !fcsOk || pcsErr || decide (0 < fecBad) || small || big
  let s1 := (s.countAt cgMac l 0 1 t).countAt cgMac l 1 n t
  let s2 := (s1.countAt cgMac l 2 (b2n !fcsOk) t).countAt cgMac l 3 fec t
  let s3 := (s2.countAt cgMac l 4 (b2n pcsErr) t).countAt cgMac l 5 (b2n small) t
  let s4 := (s3.countAt cgMac l 6 (b2n big) t).countAt cgMac l 12 (if s.framed l then 0 else fecCorr) t
  let r := s4.intoMac l ⟨l, 0, t, bytes, mark⟩
  (if r.1 then r.2.countAt cgMac l 13 1 t else r.2).rateSeen (l / 8)

/-- Is the frame a MAC control frame (R94)? -/
def isMacCtl (bytes : List Byte) : Bool := decide (beNat ((bytes.drop 12).take 2) = 0x8808)

/-- The receive path of a framed port. -/
def State.frm (s : State) (l : Nat) : FrmSt := tget s.port.frm l frm0

/-- FlexO instances of a framed group, and OTUC slices of its signal (R130, R132): two on each lane. -/
def State.flexos (s : State) (l : Nat) : Nat := 2 * portLanes (s.breakout (l / 8))

/-- Do the stages of the receive path before the client PCS hold lock (R133, R134)? -/
def State.frmLocked (s : State) (l : Nat) : Bool :=
  (s.frm l).aligner == 2 && (s.frm l).demap && s.get F.TF_FRM_STAT_instance_lock l == 2 ^ s.flexos l - 1 &&
    !s.flag F.TF_FRM_STAT_skew_exceeded l

/-- Does the MAC receive: the port is UP, and on a framed port no stage of the receive path has lost lock (R96, R133, R162)? -/
def State.receives (s : State) (l : Nat) : Bool := decide (s.link l = 4) && (!s.framed l || s.frmLocked l)

/-- A frame arrives (R94, R96). -/
def State.frameIn (s : State) (l : Nat) (bytes : List Byte) (fcsOk pcsErr : Bool) (fecBad fecCorr : Nat) : State :=
  if s.receives l then
    if isMacCtl bytes && fcsOk then s.count cgMac 7 l
    else s.macReceive l (bytes.length + 4) bytes fcsOk pcsErr fecBad fecCorr
  else s

/-- FRAME_RECEIVE (R93, R94, R121, R123, R125). -/
def execFrameReceive (l : Nat) (bytes : List Byte) (fcsOk pcsErr : Bool) (fecBad fecCorr : Nat) (s : State) :
    Host.Outcome State Fault Refusal :=
  okIf (s.live && s.present l && decide (bytes ≠ [])) s (s.frameIn l bytes fcsOk pcsErr fecBad fecCorr)

/-! ### Pause and PFC (R108 to R113) -/

/-- Set one bit of a field. -/
def State.putBit (s : State) (f : Fld) (b : Bool) (c : Nat) (i : Nat := 0) : State :=
  s.put f (setBits (s.get f i) c 1 (b2n b)) i

/-- Pause a class for a time in quanta, replacing what is left of an older one; 0 resumes it (R110). -/
def State.pauseClass (s : State) (l c quanta : Nat) : State :=
  let x := s.lp l
  let on := bitOf (s.get F.TF_LPORT_STAT_rx_paused l) c
  (s.setLp l { x with
    quanta := lset 0 x.quanta c quanta, pauseAt := lset 0 x.pauseAt c s.up
    since := if on then x.since else lset 0 x.since c s.up }).putBit F.TF_LPORT_STAT_rx_paused (decide (0 < quanta)) c l

/-- A PAUSE or PFC frame is obeyed (R108 to R110). -/
def State.pauseFrame (s : State) (l : Nat) (pfc : Bool) (enable : Nat) (times : List Nat) : State :=
  let mode := s.get F.TF_LPORT_CTL_fc_mode l
  if mode = 1 ∧ pfc = true then
    ((List.range 8).filter (fun c => bitOf enable c && bitOf (s.get F.TF_LPORT_CTL_pfc_rx_en l) c)).foldl
      (fun t c => t.pauseClass l c (times.getD c 0 % 65536)) s
  else if mode = 2 ∧ pfc = false then
    (List.range 8).foldl (fun t c => t.pauseClass l c (times.getD 0 0 % 65536)) s
  else s

/-- A PAUSE or PFC frame arrives (R94, R108): counted and terminated in the MAC. -/
def State.pauseIn (s : State) (l : Nat) (pfc : Bool) (enable : Nat) (times : List Nat) : State :=
  (s.count cgMac 7 l).pauseFrame l pfc enable times

/-- PAUSE_FRAME_RX (R94, R108 to R110, R113): counted and terminated in the MAC. -/
def execPauseFrameRx (l : Nat) (pfc : Bool) (enable : Nat) (times : List Nat) (s : State) :
    Host.Outcome State Fault Refusal :=
  okIf (s.live && s.present l && s.receives l) s (s.pauseIn l pfc enable times)

/-- Have n quanta of 512 bit times at a port's rate passed since a time (R109)? -/
def State.quantaOver (s : State) (l n since : Nat) : Bool :=
  decide (n * 512000 ≤ (s.up - since) * speedMbps (portSpeed (s.breakout (l / 8))))

/-- PAUSE_TIMER_EXPIRY (R109, R110). -/
def execPauseTimerExpiry (l c : Nat) (s : State) : Host.Outcome State Fault Refusal :=
  okIf (s.live && decide (l < 256 ∧ c < 8) &&
    s.quantaOver l ((s.lp l).quanta.getD c 0) ((s.lp l).pauseAt.getD c 0)) s (s.pauseClass l c 0)

/-- Does the port send PFC for a class (R108, R111)? -/
def State.pfcSends (s : State) (l c : Nat) : Bool :=
  s.get F.TF_LPORT_CTL_fc_mode l == 1 && bitOf (s.get F.TF_LPORT_CTL_pfc_tx_en l) c

/-- Does the PCS of a port loop its transmit side to its receive side (R101)? -/
def State.looped (s : State) (l : Nat) : Bool := s.mode == MAINTENANCE && s.flag F.TF_LPORT_CTL_near_loop l

/-- Send a PFC frame for the classes of a mask with the times that `tx_xoff` gives (R111); a looped port receives it
(R101). -/
def State.sendPfc (s : State) (l mask : Nat) : State :=
  let times := (List.range 8).map (fun c =>
    if bitOf mask c && bitOf (s.get F.TF_LPORT_STAT_tx_xoff l) c then 0xFFFF else 0)
  let s0 := s.setLp l { s.lp l with xoffAt := (List.range 8).map (fun c =>
    if times.getD c 0 = 0 then (s.lp l).xoffAt.getD c 0 else s.up) }
  let s1 := (s0.emit (.pfc l mask times)).count cgMac 11 l
  if s1.looped l && s1.receives l then s1.pauseIn l true mask times else s1

/-- Does DT have XOFF in force for a port and class (R384)? -/
def State.xoffOn (s : State) (l c : Nat) : Bool := bitOf (s.get F.DT_LOSSLESS_xoff l) c

/-- PFC_TX_REQUEST (R111, R112): the MAC takes DT's request for the class. -/
def execPfcTxRequest (l c : Nat) (xoff : Bool) (s : State) : Host.Outcome State Fault Refusal :=
  let s1 := s.putBit F.TF_LPORT_STAT_tx_xoff xoff c l
  okIf (s.live && s.present l && decide (c < 8) && (s.xoffOn l c == xoff)) s
    (if s.link l = 4 ∧ s.pfcSends l c = true then s1.sendPfc l (2 ^ c) else s1)

/-- XOFF_REFRESH (R111): 0x8000 quanta after the last. -/
def execXoffRefresh (l c : Nat) (s : State) : Host.Outcome State Fault Refusal :=
  okIf (s.live && s.present l && decide (c < 8) && decide (s.link l = 4) &&
    bitOf (s.get F.TF_LPORT_STAT_tx_xoff l) c && s.pfcSends l c &&
    s.quantaOver l 0x8000 ((s.lp l).xoffAt.getD c 0)) s (s.sendPfc l (2 ^ c))

end Sys2Proof.Machine
end

