-- ==== Sys2Proof/Machine/Link.lean ====
section
/-! DEFINITION. The link state machine, lanes and equalisers (R96 to R107, R112, R113, R126, R127, R134, R154, R862). -/

namespace Sys2Proof.Machine

/-! ### Framed receive paths -/

/-- Store a framed port, and what its status register shows (R165). The client PCS has lock only while the demapper has
(R133). -/
def State.setFrm (s : State) (l : Nat) (f : FrmSt) : State :=
  let s0 := { s with port := { s.port with frm := tput s.port.frm l f frm0 } }
  let s1 := if f.demap then s0 else s0.setLp l { s0.lp l with locked := false }
  ((((s1.put F.TF_FRM_STAT_aligner f.aligner l).put F.TF_FRM_STAT_candidates f.cands.length l).put
    F.TF_FRM_STAT_demap_lock (b2n f.demap) l).put F.TF_FRM_STAT_aps_count f.apsCnt l).put
    F.TF_FRM_STAT_mfas f.lastMfas l

/-- The aligner enters OOF (R139): counted, with its event, unless it is there. -/
def State.frmOof (s : State) (l : Nat) : State :=
  let f := s.frm l
  if f.aligner = 0 then s.setFrm l (enterOof f)
  else ((s.setFrm l (enterOof f)).count cgFrm 2 l).raise F.TF_FRM_EVT_oof l

/-- The receive path starts again from instance lock (R134). -/
def State.frmRestart (s : State) (l : Nat) : State := (s.frmOof l).put F.TF_FRM_STAT_instance_lock 0 l

/-- Is a defect present whose consequent action is BDI (R159)? -/
def State.bdiDefect (s : State) (l : Nat) : Bool :=
  s.flag F.TF_FRM_STAT_dlol l || s.flag F.TF_FRM_STAT_skew_exceeded l || s.flag F.TF_FRM_STAT_dlof l ||
    s.flag F.TF_FRM_STAT_dlom l || s.flag F.TF_FRM_STAT_dais l

/-- Is a defect present whose consequent action is client fault (R159)? -/
def State.clientDefect (s : State) (l : Nat) : Bool :=
  s.bdiDefect l || ((s.frm l).aligner == 2 && !(s.frm l).demap)

/-! ### Transitions (R96) -/

/-- Set bits of every lane of a port. -/
def State.putLanes (s : State) (f : Fld) (v l : Nat) : State := (s.lanesOf l).foldl (fun t n => t.put f v n) s

/-- Leaving UP (R97, R102, R113, R128): the bytes received of a frame under way, of which the last four stand for its FCS
(log 26), are passed on with a mark, pause state is cleared, and DT learns that the port is down. -/
def State.leaveUp (s : State) (l : Nat) (part : List Byte) : State :=
  let s1 := if part = [] then s else s.macReceive l part.length (part.take (part.length - 4)) true true 0 0
  let s2 := ((s1.addSat F.TF_LPORT_STAT_flaps 1 l).raise F.TF_LPORT_EVT_link_down l).zero F.TF_LPORT_STAT_rx_paused l
  let s3 := s2.setLp l { s2.lp l with quanta := lport0.quanta }
  (s3.putBit F.TF_PORT_CFG_up false (l % 8) (l / 8)).localChange l false

/-- The physical lanes that carry a logical port's transmit direction, by the lane map (R88). -/
def State.txLanesOf (s : State) (l : Nat) : List Nat :=
  (List.range (portLanes (s.breakout (l / 8)))).map (fun i =>
    8 * (l / 8) + bits (s.get F.TF_PORT_LANEMAP_tx_map (l / 8)) (3 * (l % 8 + i)) 3)

/-- Set the transmit taps of a port's lanes (R103). -/
def State.setTaps (s : State) (l : Nat) (taps : List (List Int)) : State :=
  { s with port := { s.port with lanes := ((s.txLanesOf l).zip taps).foldl (fun (t : Tab LaneEq) e =>
    tmod t e.1 laneEq0 (fun x => { x with taps := e.2 })) s.port.lanes } }

/-- Do a port's transmit taps come from the SerDes tables: `lt_en` = 0, or framed (R103, R134)? -/
def State.untrained (s : State) (l : Nat) : Bool := s.framed l || !s.flag F.TF_LPORT_CTL_lt_en l

/-- Without training, the taps come from the SerDes tables of the image, by each lane's length class (R103, R134). -/
def State.imageTaps (s : State) (l : Nat) : State :=
  match s.boot.image with
  | some im =>
    if s.untrained l then
      s.setTaps l ((s.txLanesOf l).map (fun n =>
        im.content.serdes.getD (s.get F.TF_LANE_STAT_length_class n) (tget s.port.lanes n laneEq0).taps))
    else s
  | none => s

/-- Enter a link state (R96), with what happens on entry; in WAIT_LOCK the mapping written last takes effect
(R154), and the taps of an untrained port (R103). -/
def State.setLink (s : State) (l st : Nat) : State :=
  let s1 := s.put F.TF_LPORT_STAT_link_state st l
  let s2 := s1.putLanes F.TF_LANE_STAT_adapting (b2n (decide (2 ≤ st))) l
  let s3 := s2.setLp l { s2.lp l with locked := (s2.lp l).locked && st != 3 && st != 0, at' := s.up }
  if st = 1 then s3.zero F.TF_LINK_PARTNER_valid l
  else if st = 3 then
    let s4 := s3.imageTaps l
    if s.framed l then s4.setFrm l { s4.frm l with mapAmp := s4.flag F.TF_FRM_CTL_map_mode l } else s4
  else s3

/-- Where a port goes from DISABLED, or restarts from WAIT_LOCK or FAULT (R96, R134). -/
def State.startLink (s : State) (l : Nat) : Nat :=
  if s.framed l then 3
  else if s.flag F.TF_LPORT_CTL_an_en l then 1
  else if s.flag F.TF_LPORT_CTL_lt_en l then 2 else 3

/-- AN and training restarts since the last UP (R102). -/
def State.anRestart (s : State) (l : Nat) : State := s.addSat F.TF_LPORT_STAT_an_restarts 1 l

/-- Go to the state where a link attempt starts, with no page of this attempt received (R99) and no lane holding the port
(R127); a framed port's receive path starts with it (R134, R139). -/
def State.beginLink (s : State) (l : Nat) : State :=
  let s0 := (s.setLp l { s.lp l with sdHeld := [] }).zero F.TF_LINK_PARTNER_valid l
  let s1 := s0.setLink l (s.startLink l)
  if s.framed l then (s1.frmRestart l).setFrm l { (s1.frmRestart l).frm l with faultEn := s.flag F.TF_FRM_CTL_client_fault_en l }
  else s1

/-- Restart a port's link attempt (R96). -/
def State.restartLink (s : State) (l : Nat) : State :=
  (if s.startLink l = 3 then s else s.anRestart l).beginLink l

/-- Go to DISABLED (R96, R98). -/
def State.disableLink (s : State) (l : Nat) (part : List Byte) : State :=
  let s1 := if s.link l = 4 then s.leaveUp l part else s
  let s2 := (s1.setLp l { s1.lp l with sdHeld := [] }).setLink l 0
  if s.framed l ∧ s.link l ≠ 0 then s2.frmOof l else s2

/-- Is the port free to leave DISABLED (R89, R96)? -/
def State.mayStart (s : State) (l : Nat) : Bool :=
  s.present l && s.isOn (17 + l / 32) && s.flag F.TF_LPORT_CTL_admin_up l && s.live && !s.flag F.TF_PORT_CFG_map_err (l / 8) &&
    !s.flag F.TF_PORT_CFG_reconfig_busy (l / 8)

/-- A port in DISABLED that may leave it does (R96). -/
def State.tryStart (s : State) (l : Nat) : State :=
  if s.link l = 0 ∧ s.mayStart l = true then s.beginLink l else s

/-- UP to FAULT (R96, R126, R134). `local_fault` or `remote_fault` stays set until the port is UP again (DESIGN CHOICE: R102
does not say when they clear; log 124). -/
def State.linkFault (s : State) (l cause : Nat) (part : List Byte) : State :=
  let s1 := (s.leaveUp l part).setLink l 5
  if cause = 2 then s1.raise F.TF_LPORT_STAT_remote_fault l else s1.raise F.TF_LPORT_STAT_local_fault l

/-! ### The commands of the link state machine -/

/-- A write of `admin_up` (R96, R98). -/
def State.adminUp (s : State) (l : Nat) (up : Bool) (part : List Byte) : State :=
  let s1 := s.put F.TF_LPORT_CTL_admin_up (b2n up) l
  if up then s1.tryStart l else if s.link l = 0 then s1 else s1.disableLink l part

/-- ADMIN_UP_WRITE (R96, R98, R84). -/
def execAdminUpWrite (l : Nat) (up : Bool) (part : List Byte) (s : State) : Host.Outcome State Fault Refusal :=
  okIf (s.awake && s.present l) s (s.adminUp l up part)

/-- AN_RESOLVED (R99, R100): the base page at [47:0] and the next pages exchanged at [55:48], with the speed code of the
resolved mode. -/
def execAnResolved (l : Nat) (page : Word) (rate : Nat) (s : State) : Host.Outcome State Fault Refusal :=
  let s1 := ((((s.put F.TF_LINK_PARTNER_base_page (bits page.toNat 0 48) l).put F.TF_LINK_PARTNER_next_pages
    (bits page.toNat 48 8) l).put F.TF_LINK_PARTNER_resolved rate l).put F.TF_LINK_PARTNER_partner_rf
    (bits page.toNat 13 1) l).put F.TF_LINK_PARTNER_valid 1 l
  okIf (s.live && s.present l && decide (s.link l = 1)) s
    (if rate = portSpeed (s.breakout (l / 8)) then s1.setLink l 2
     else (s1.anRestart l).raise F.TF_LPORT_EVT_an_fail l)

/-- Has the port been in its link state for so many nanoseconds (R96)? -/
def State.linkFor (s : State) (l n : Nat) : Bool := decide ((s.lp l).at' + n ≤ s.up)

/-- AN_TIMEOUT (R96, R128). -/
def execAnTimeout (l : Nat) (s : State) : Host.Outcome State Fault Refusal :=
  okIf (s.live && s.present l && decide (s.link l = 1) && s.linkFor l 5000000000) s
    (((s.anRestart l).raise F.TF_LPORT_EVT_an_fail l).setLink l 1)

/-- LINK_TRAINING_DONE (R96, R103): every lane has trained; with `lt_en` = 1 its taps are those set with the partner. -/
def execLinkTrainingDone (l : Nat) (taps : List (List Int)) (s : State) : Host.Outcome State Fault Refusal :=
  okIf (s.live && s.present l && decide (s.link l = 2)) s ((if s.untrained l then s else s.setTaps l taps).setLink l 3)

/-- TRAINING_TIMEOUT (R96, R128): `lanes` names the logical lanes that did not train. -/
def execTrainingTimeout (l lanes : Nat) (s : State) : Host.Outcome State Fault Refusal :=
  let s1 := (s.lanesOf l).zipIdx.foldl (fun (t : State) e =>
    if bitOf lanes e.2 then t.raise F.TF_LANE_EVT_train_fail e.1 else t) s
  okIf (s.live && s.present l && decide (s.link l = 2) && s.linkFor l 3000000000) s
    ((s1.anRestart l).setLink l (if s.flag F.TF_LPORT_CTL_an_en l then 1 else 2))

/-- Does every lane of a port show signal and CDR lock? -/
def State.lanesLock (s : State) (l : Nat) : Bool :=
  (s.lanesOf l).all (fun n => s.flag F.TF_LANE_STAT_signal n && s.flag F.TF_LANE_STAT_cdr_lock n)

/-- FEC_PCS_LOCK (R96, R862): every lane shows signal and CDR lock, and on a framed port the demapper has lock (R133). -/
def execFecPcsLock (l : Nat) (s : State) : Host.Outcome State Fault Refusal :=
  okIf (s.live && s.present l && decide (s.link l = 3) && s.lanesLock l && (!s.framed l || s.frmLocked l)) s
    (s.setLp l { s.lp l with locked := true, lockAt := if (s.lp l).locked then (s.lp l).lockAt else s.up })

/-- Have FEC and PCS alignment lock held for `up_filter_ms` (R96)? -/
def State.lockHeld (s : State) (l : Nat) : Bool :=
  (s.lp l).locked && decide ((s.lp l).lockAt + 1000000 * s.get F.TF_LPORT_CTL_up_filter_ms l ≤ s.up)

/-- LINK_UP (R96, R97, R102, R112, R134). -/
def execLinkUp (l : Nat) (s : State) : Host.Outcome State Fault Refusal :=
  let s1 := (((s.setLink l 4).zero F.TF_LPORT_STAT_an_restarts l).zero F.TF_LPORT_STAT_local_fault l).zero
    F.TF_LPORT_STAT_remote_fault l
  let s2 := ((s1.raise F.TF_LPORT_EVT_link_up l).putBit F.TF_PORT_CFG_up true (l % 8) (l / 8)).localChange l true
  let mask := s.get F.TF_LPORT_CTL_pfc_tx_en l
  okIf (s.live && s.present l && decide (s.link l = 3) && s.lockHeld l && (!s.framed l || s.frmLocked l)) s
    (if s.get F.TF_LPORT_CTL_fc_mode l = 1 ∧ mask ≠ 0 then s2.sendPfc l mask else s2)

/-- WAIT_LOCK_TIMEOUT (R96, R134): lock is not held 500 ms after entry. -/
def execWaitLockTimeout (l : Nat) (s : State) : Host.Outcome State Fault Refusal :=
  okIf (s.live && s.present l && decide (s.link l = 3) && !(s.lp l).locked && s.linkFor l 500000000) s (s.restartLink l)

/-- May a port in UP go to FAULT for a cause (R96, R134, R162): 0 lock lost, 1 local fault, 2 remote fault, 3 client fault? A
framed port that loses its receive path goes down by the client fault alone, while its action was enabled at the last frame
boundary (R163). -/
def State.faultHolds (s : State) (l cause : Nat) : Bool :=
  if s.framed l then decide (cause = 2) || (decide (cause = 3) && (s.frm l).faultEn && s.clientDefect l)
  else decide (cause < 3)

/-- LINK_FAULT (R96, R126, R134): the cause has outlasted the filter; with the bytes received of a frame under way. -/
def execLinkFault (l cause : Nat) (part : List Byte) (s : State) : Host.Outcome State Fault Refusal :=
  okIf (s.live && s.present l && decide (s.link l = 4) && s.faultHolds l cause) s (s.linkFault l cause part)

/-- FAULT to WAIT_LOCK once every lane shows signal and lock (R96, R127). -/
def State.tryWaitLock (s : State) (l : Nat) : State :=
  if s.link l = 5 ∧ s.lanesLock l = true ∧ (s.lp l).sdHeld = [] then s.setLink l 3 else s

/-- LANE_SIGNAL_RESTORE (R96): every lane of the port shows signal and CDR lock. -/
def execLaneSignalRestore (l : Nat) (s : State) : Host.Outcome State Fault Refusal :=
  okIf (s.live && s.present l) s
    (((s.putLanes F.TF_LANE_STAT_signal 1 l).putLanes F.TF_LANE_STAT_cdr_lock 1 l).tryWaitLock l)

/-- FAULT_TIMEOUT (R96, R127, R134): after 500 ms. -/
def execFaultTimeout (l : Nat) (s : State) : Host.Outcome State Fault Refusal :=
  okIf (s.live && s.present l && decide (s.link l = 5) && ((s.lp l).sdHeld.isEmpty || s.startLink l != 3) &&
    s.linkFor l 500000000) s (s.restartLink l)

/-! ### Lanes (R104 to R107, R126, R127) -/

/-- A lane's port loses alignment lock in WAIT_LOCK, where its filter starts anew (R96). -/
def State.unlockOwner (s : State) (n : Nat) : State :=
  match s.laneOwner n with
  | some l => if s.link l = 3 then s.setLp l { s.lp l with locked := false } else s
  | none => s

/-- LANE_SIGNAL_LOSS (R126): without signal there is no CDR lock either, and only the loss of the signal is reported (DESIGN
CHOICE; log 125). -/
def execLaneSignalLoss (n : Nat) (cdr : Bool) (s : State) : Host.Outcome State Fault Refusal :=
  let s1 := ((s.zero F.TF_LANE_STAT_cdr_lock n).zero F.TF_LANE_STAT_ber_log n).unlockOwner n
  okIf (s.live && decide (n < 256)) s
    (if cdr then s1.raise F.TF_LANE_EVT_cdr_loss n
     else (s1.zero F.TF_LANE_STAT_signal n).raise F.TF_LANE_EVT_sig_loss n)

/-- SIGNAL_DEGRADE (R127): of a locked lane, as `ber_log` is 0 while it is not (R107). In FAULT the lane then holds the port
there; a port in another state is not moved. -/
def execSignalDegrade (n ber : Nat) (part : List Byte) (s : State) : Host.Outcome State Fault Refusal :=
  let s1 := (s.put F.TF_LANE_STAT_ber_log ber n).raise F.TF_LANE_EVT_sd n
  let go : State → Nat → State := fun t l =>
    if t.get F.TF_LPORT_CTL_sd_action l = 1 ∧ (t.link l = 4 ∨ t.link l = 5) then
      let u := if t.link l = 4 then t.linkFault l 1 part else t
      u.setLp l { u.lp l with sdHeld := n :: (u.lp l).sdHeld.filter (· ≠ n) }
    else t
  okIf (s.live && decide (n < 256 ∧ 0 < ber ∧ ber < 45) && s.flag F.TF_LANE_STAT_cdr_lock n) s
    ((s.laneOwner n).elim s1 (go s1))

/-- SD_CLEAR (R127): the lane holds its port no longer. -/
def execSdClear (n ber : Nat) (s : State) : Host.Outcome State Fault Refusal :=
  let s1 := s.put F.TF_LANE_STAT_ber_log ber n
  let go : State → Nat → State := fun t l => 
    (t.setLp l { t.lp l with sdHeld := (t.lp l).sdHeld.filter (· ≠ n) }).tryWaitLock l
  okIf (s.live && decide (n < 256 ∧ 45 ≤ ber ∧ ber < 256) && s.flag F.TF_LANE_STAT_cdr_lock n) s ((s.laneOwner n).elim s1 (go s1))

/-- One step of at most one toward a target (R104). -/
def stepToward (x t : Int) : Int := if x < t then x + 1 else if t < x then x - 1 else x

/-- ADAPT_STEP (R104). -/
def execAdaptStep (n : Nat) (target : List Int) (s : State) : Host.Outcome State Fault Refusal :=
  let x := tget s.port.lanes n laneEq0
  let coef := (List.range (max x.coef.length target.length)).map (fun i =>
    stepToward (x.coef.getD i 0) (target.getD i (x.coef.getD i 0)))
  okIf (s.live && decide (n < 256) && s.flag F.TF_LANE_STAT_adapting n) s
    { s with port := { s.port with lanes := tset s.port.lanes n { x with coef := coef } } }

/-- ADAPT_LIMIT (R105). -/
def execAdaptLimit (n : Nat) (s : State) : Host.Outcome State Fault Refusal :=
  okIf (s.live && decide (n < 256) && s.flag F.TF_LANE_STAT_adapting n) s (s.raise F.TF_LANE_EVT_adapt_limit n)

/-- The length class of a loss in units of 0.25 dB (R106). -/
def lossClass (x : Nat) : Nat :=
  if x < 48 then 0 else if x < 80 then 1 else if x < 112 then 2 else if x < 144 then 3
  else if x ≤ 160 then 4 else 5

/-- LOSS_MEASURE (R106): during TRAINING, and every second while UP. The taps of an untrained port follow the class (R103). -/
def execLossMeasure (n loss : Nat) (s : State) : Host.Outcome State Fault Refusal :=
  let s1 := (s.put F.TF_LANE_STAT_loss_db (min 255 loss) n).put F.TF_LANE_STAT_length_class (lossClass loss) n
  let s2 := if lossClass loss = 5 then s1.raise F.TF_LANE_EVT_loss_high n else s1
  okIf (s.live && decide (n < 256) &&
      (s.laneOwner n).elim false (fun l => decide (s.link l = 2 ∨ s.link l = 4))) s
    (((List.range 8).map (8 * (n / 8) + ·)).foldl (fun (t : State) l =>
      if t.present l && (t.txLanesOf l).contains n then t.imageTaps l else t) s2)

end Sys2Proof.Machine
end

