-- ==== Sys2Proof/Machine/FramedOps.lean ====
section
/-! DEFINITION. The commands of framed ports (R129 to R166). -/

namespace Sys2Proof.Machine

/-- Is there a framed logical port here (R165)? -/
def State.isFramed (s : State) (l : Nat) : Bool := s.present l && s.framed l

/-- Does a framed receive path run: the port is not in DISABLED (R139, R164)? -/
def State.frmRuns (s : State) (l : Nat) : Bool := s.live && s.isFramed l && decide (s.link l ≠ 0)

/-- INSTANCE_LOCK_LOSS (R148): the aligner goes to OOF and dLOL is declared. -/
def execInstanceLockLoss (l inst : Nat) (s : State) : Host.Outcome State Fault Refusal :=
  okIf (s.frmRuns l && decide (inst < s.flexos l)) s
    ((((s.putBit F.TF_FRM_STAT_instance_lock false inst l).frmOof l).put F.TF_FRM_STAT_dlol 1 l).raise
      F.TF_FRM_EVT_lol l)

/-- The skew of the group is measured (R146, R147), which holds while every instance is locked. -/
def State.skewSeen (s : State) (l skew : Nat) : State :=
  if s.get F.TF_FRM_STAT_instance_lock l ≠ 2 ^ s.flexos l - 1 then s
  else
    let s1 := s.put F.TF_FRM_STAT_skew_ns (min 4095 skew) l
    if 1000 < skew then
      ((if s1.flag F.TF_FRM_STAT_skew_exceeded l then s1
        else (s1.put F.TF_FRM_STAT_skew_exceeded 1 l).raise F.TF_FRM_EVT_skew l)).frmOof l
    else s1.put F.TF_FRM_STAT_skew_exceeded 0 l

/-- ALIGNMENT_MARKER_LOCK (R146, R147): the markers of the instances of a mask lock; with all of them locked, the skew of the
group is `skew` ns. -/
def execAlignmentMarkerLock (l : Nat) (m : MarkerLock) (s : State) : Host.Outcome State Fault Refusal :=
  okIf (s.frmRuns l) s
    ((s.put F.TF_FRM_STAT_instance_lock
      (s.get F.TF_FRM_STAT_instance_lock l ||| (m.insts % 2 ^ s.flexos l)) l).skewSeen l m.skew)

/-- DLOL_CLEAR (R148): every instance has held lock for 1 ms. -/
def execDlolClear (l : Nat) (s : State) : Host.Outcome State Fault Refusal :=
  okIf (s.frmRuns l && s.get F.TF_FRM_STAT_instance_lock l == 2 ^ s.flexos l - 1) s (s.put F.TF_FRM_STAT_dlol 0 l)

/-- DESKEW_RETRY (R147): a new measurement with the skew exceeded. -/
def execDeskewRetry (l skew : Nat) (s : State) : Host.Outcome State Fault Refusal :=
  okIf (s.frmRuns l && s.flag F.TF_FRM_STAT_skew_exceeded l) s (s.skewSeen l skew)

/-- Has the path reached frame alignment: every instance locked and deskewed (R133)? -/
def State.deskewed (s : State) (l : Nat) : Bool :=
  s.get F.TF_FRM_STAT_instance_lock l == 2 ^ s.flexos l - 1 && !s.flag F.TF_FRM_STAT_skew_exceeded l

/-- FAS_MATCH (R136): an exact match in slice 1 at a bit offset with the MFAS that follows. -/
def execFasMatch (l offset mfas : Nat) (s : State) : Host.Outcome State Fault Refusal :=
  okIf (s.frmRuns l && s.deskewed l && decide (offset < 122368 ∧ mfas < 256)) s
    (s.setFrm l (openCand (s.frm l) offset mfas))

/-- ODU-AIS over three frames (R159). -/
def State.aisFrame (s : State) (l : Nat) (stat : Nat) : State :=
  let f := s.frm l
  let a := if stat = 7 then f.aisRun + 1 else 0
  let n := if stat = 7 then 0 else f.nonAisRun + 1
  let s1 := s.setFrm l { f with aisRun := min 3 a, nonAisRun := min 3 n }
  if 3 ≤ a ∧ s.flag F.TF_FRM_STAT_dais l = false then (s1.put F.TF_FRM_STAT_dais 1 l).raise F.TF_FRM_EVT_ais l
  else if 3 ≤ n then s1.put F.TF_FRM_STAT_dais 0 l
  else s1

/-- The overhead of a frame received in IM (R133, R149 to R157, R161, R166). -/
def State.overheadFrame (s : State) (l : Nat) (fr : OtucFrame) : State :=
  let f := s.frm l
  let j := jcFrame f fr.jc
  let s1 := s.setFrm l (demapFrame { f with cm := j.cm, just := j.just, bip := fr.bip } j.accepted)
  let s2 := (s1.count cgFrm 4 l j.errors).count cgFrm 5 l j.codes10
  let s3 := (s2.count cgFrm 0 l fr.bip.sum).count cgFrm 1 l fr.bei
  let s4 := s3.aisFrame l fr.stat
  let s5 := if fr.bdi && !s.flag F.TF_FRM_STAT_bdi_rx l then s4.raise F.TF_FRM_EVT_bdi_rx l else s4
  let s6 := s5.put F.TF_FRM_STAT_bdi_rx (b2n fr.bdi) l
  if fr.mfas % 8 = s.get F.TF_FRM_CTL_aps_level l then
    let r := apsSample (s6.frm l) (s.get F.TF_FRM_APS_rx_aps l) (fr.aps % 2 ^ 32)
    let s7 := s6.setFrm l r.1
    match r.2 with
    | some v => (s7.put F.TF_FRM_APS_rx_aps v l).raise F.TF_FRM_EVT_aps_change l
    | none => s7
  else s6

/-- A slice of a frame to transmit, by a free value (R149, R151, R161; log 25): in GMP mode 911 or 912 client words, since
the client offers 911.8, with the indicator of a change from the Cm before; in AMP mode 912 with one of the three
codes that are sent. -/
def sliceTx (amp : Bool) (bei old x : Nat) : SliceTx :=
  if amp then
    let code := [0, 1, 3].getD (x % 3) 0
    ⟨bei, 912, ampJust code, ampJc code⟩
  else
    let cm := 911 + x % 2
    ⟨bei, cm, 0, gmpJc cm (b2n (decide (0 < old ∧ old < cm))) (b2n (decide (cm < old))) (x / 2)⟩

/-- A frame of the port's transmitter begins (R149, R151, R158, R160 to R164): the APS value latched at the start of an APS
multiframe, BDI as the defects stand, in each slice BEI of the matching received slice, and STAT, which the spec gives
no value to send, a free value. The enables read here are in force until the next frame. -/
def State.txFrame (s : State) (l : Nat) : State :=
  let f := s.frm l
  let m := (f.txMfas + 1) % 256
  let aps := if m % 8 = 0 then s.get F.TF_FRM_APS_tx_aps l else f.txAps
  let bdi := s.flag F.TF_FRM_CTL_bdi_en l && s.bdiDefect l
  let n := s.flexos l
  let slices := (List.range n).map (fun i => sliceTx f.mapAmp
    (if s.flag F.TF_FRM_CTL_bei_en l then f.bip.getD i 0 else 0) (f.txCm.getD i 0) (Config.free (s.fv + 1 + i)))
  let g := { f with txMfas := m, txAps := aps, txCm := slices.map (·.words), bip := [],
                    faultEn := s.flag F.TF_FRM_CTL_client_fault_en l }
  { (((s.setFrm l g).put F.TF_FRM_STAT_bdi_tx (b2n bdi) l).emit
      (.framed l m (if m % 8 = s.get F.TF_FRM_CTL_aps_level l then aps else 0) (Config.free s.fv % 8) bdi slices)) with
    fv := s.fv + 1 + n }

/-- The frames that begin in a nanosecond of the reference (R164): each port that is not in DISABLED transmits, whatever it
receives. Frames of 122,368 bits follow one another at 105.258 Gbit/s. -/
def State.txFrames (s : State) : State :=
  if (s.up + 1) * 105258 / 122368000 = s.up * 105258 / 122368000 then s
  else (List.range 256).foldl (fun (t : State) l => if t.frmRuns l then t.txFrame l else t) s

/-- A frame at a candidate or held position (R135 to R144). -/
def State.alignOne (s : State) (l : Nat) (fr : OtucFrame) : State :=
  let f := s.frm l
  let r := alignFrame f fr
  let s1 := (s.setFrm l r.1).count cgFrm 3 l r.2
  if f.aligner ≠ 0 ∧ r.1.aligner = 0 then (s1.count cgFrm 2 l).raise F.TF_FRM_EVT_oof l else s1

/-- Does a frame have the slices of the port's signal (R130)? -/
def State.slicesFit (s : State) (l : Nat) (fr : OtucFrame) : Bool :=
  decide (fr.fas.length = s.flexos l ∧ fr.jc.length = s.flexos l ∧ fr.bip.length = s.flexos l)

/-- OTUC_FRAME (R133 to R166): the FEC of the instances counts whether the group is deskewed or not; alignment and overhead
follow the stages before them. -/
def execOtucFrame (l : Nat) (fr : OtucFrame) (s : State) : Host.Outcome State Fault Refusal :=
  let s1 := (s.count cgFrm 6 l fr.fecUncorr).count cgFrm 7 l fr.fecCorr
  let s2 := s1.alignOne l fr
  let s3 := if (s2.frm l).aligner = 2 ∧ (s2.frm l).held = some fr.offset then s2.overheadFrame l fr else s2
  okIf (s.frmRuns l && s.slicesFit l fr) s (if s.deskewed l then s3 else s1)

/-- dLOF (R145): declared in OOF, cleared out of it. -/
def State.lofFilter (s : State) (l : Nat) : State :=
  if (s.frm l).aligner ≠ 0 then s.put F.TF_FRM_STAT_dlof 0 l
  else if s.flag F.TF_FRM_STAT_dlof l then s
  else (s.put F.TF_FRM_STAT_dlof 1 l).raise F.TF_FRM_EVT_lof l

/-- dLOM (R145): declared in IF and OOM, cleared in IM. -/
def State.lomFilter (s : State) (l : Nat) : State :=
  let a := (s.frm l).aligner
  if a = 2 then s.put F.TF_FRM_STAT_dlom 0 l
  else if a = 0 ∨ s.flag F.TF_FRM_STAT_dlom l = true then s
  else (s.put F.TF_FRM_STAT_dlom 1 l).raise F.TF_FRM_EVT_lom l

/-- DEFECT_FILTER_EXPIRY (R145): the 3 ms of dLOM, or of dLOF, have passed with the aligner in or out of its states. -/
def execDefectFilterExpiry (f : DefectFilter) (s : State) : Host.Outcome State Fault Refusal :=
  okIf (s.frmRuns f.l) s (if f.lom then s.lomFilter f.l else s.lofFilter f.l)

end Sys2Proof.Machine
end

