-- ==== Sys2Proof/Machine/Clock.lean ====
section
/-! DEFINITION. Device time, PPS, time of day and transmit timestamps (R114 to R120, R831 to R833), and the port
reconfigure operation (R86, R623). -/

namespace Sys2Proof.Machine

/-- Device time after a signed step (R115), on 64 bits. -/
def stepTime (time step : Nat) : Nat := unsgn 64 ((time : Int) + sgn 40 step)

/-- Device time moves to t (R114, R115): when it comes to a whole second from below, `PPS_OUT` is to rise (R120; log 126). -/
def State.setTime (s : State) (t : Nat) : State :=
  { s with time := t, port := { s.port with ppsDue := s.port.ppsDue || decide (s.time / 1000000000 < t / 1000000000) } }

/-- Apply `step_ns` (R115). -/
def State.timeStep (s : State) : State :=
  ((s.setTime (stepTime s.time (s.get F.TF_TIME_STEP_step_ns))).zero F.TF_TIME_STEP_step_go).steppedTime

/-- TIME_STEP (R115). -/
def execTimeStep (s : State) : Host.Outcome State Fault Refusal := okIf s.awake s s.timeStep

/-- PPS_OUT (R120, R832): device time has reached a whole second; the pulse, high for 100 µs, and the message that follows
10 ms later with `tx_en` = 1. -/
def execPpsOut (s : State) : Host.Outcome State Fault Refusal :=
  okIf (s.awake && s.port.ppsDue) s { s.emit .ppsPulse with port := { s.port with
    ppsDue := false
    ppsHigh := s.up + 100000
    todDue := if s.flag F.TF_TOD_TX_tx_en then some (s.time / 1000000000) else none } }

/-- PPS_IN_EDGE (R120, R833). -/
def execPpsInEdge (s : State) : Host.Outcome State Fault Refusal :=
  okIf s.awake s (({ s with port := { s.port with ppsIn := some s.up } }.put F.TF_PPS_CAP_pps_time s.time).zero
    F.TF_TOD_RX_valid)

/-- One step of a CRC-8 with polynomial 0x07, most significant bit first. -/
def crc8Byte (c : Nat) (b : Byte) : Nat :=
  (List.range 8).foldl (fun x _ => (if 128 ≤ x then (x * 2) ^^^ 0x107 else x * 2)) (c ^^^ b.toNat)

/-- CRC-8 with polynomial 0x07 and initial value 0 (R357, R831). -/
def crc8 (l : List Byte) : Nat := l.foldl crc8Byte 0

/-- A time-of-day message (R831). -/
def todBytes (sec flags : Nat) : List Byte :=
  let body := 0x01 :: (beBytes 6 sec ++ [BitVec.ofNat 8 flags])
  0x55 :: 0xAA :: (body ++ [BitVec.ofNat 8 (crc8 body)])

/-- TOD_TX_START (R832): 10 ms after the edge. -/
def execTodTxStart (s : State) : Host.Outcome State Fault Refusal :=
  match s.port.todDue with
  | some sec =>
    okIf (s.awake && decide (s.port.ppsHigh + 9900000 ≤ s.up)) s { s.emit (.todTx (todBytes sec (s.get F.TF_TOD_TX_tx_flags))) with
      port := { s.port with todDue := none } }
  | none => ok s

/-- Is it a time-of-day message whose CRC passes (R831)? -/
def todOk (m : List Byte) : Bool := m.take 3 == [0x55, 0xAA, 0x01] && decide (crc8 ((m.drop 2).take 8) = beNat (m.drop 10))

/-- Are 900 ms since an edge of `PPS_IN` not yet over (R833)? -/
def State.todOpen (s : State) : Bool := s.port.ppsIn.any (fun e => decide (s.up ≤ e + 900000000))

/-- TOD_MESSAGE_RX (R831, R833): the message whose last byte arrives: its preamble and type, its body and its check byte. -/
def execTodMessageRx (head body check : List Byte) (s : State) : Host.Outcome State Fault Refusal :=
  let m := head ++ body ++ check
  okIf (s.awake && todOk m && s.todOpen) s
    (((s.put F.TF_TOD_RX_seconds (beNat ((m.drop 3).take 6))).put F.TF_TOD_RX_flags (beNat ((m.drop 9).take 1))).put
      F.TF_TOD_RX_valid 1)

/-- PTP_TXTS_POP (R118, R120). -/
def execPtpTxtsPop (l : Nat) (s : State) : Host.Outcome State Fault Refusal :=
  okIf (s.awake && s.present l) s (s.setLp l { s.lp l with txts := (s.lp l).txts.drop 1 })

/-! ### Port reconfigure (R84 to R86, R129 to R131, R623) -/

/-- Does DT hold an accepted packet for a logical port (R86)? -/
def State.holdsFor (s : State) (l : Nat) : Bool :=
  s.buf.voqs.any (fun e => decide (e.1 / 8 = 256 * s.myId + l) && !e.2.q.isEmpty) ||
    s.sch.queues.any (fun e => e.2.any (fun k => decide (k.dl = l))) ||
    s.sch.outst.any (fun e => decide (e.2.pkt.dl = l))

/-- The registers of the port block that exist once per logical port (R84). -/
def lportRegs : List RegD :=
  [R.TF_LPORT_CTL, R.TF_LPORT_STAT, R.TF_LINK_PARTNER, R.TF_LPORT_EVT, R.TF_PTP_TXTS]

/-- The registers and counters of a framed port at their reset values (R84, R165). -/
def State.clearFramed (s : State) (l : Nat) : State :=
  let s1 := [R.TF_FRM_CTL, R.TF_FRM_STAT, R.TF_FRM_APS, R.TF_FRM_EVT].foldl (fun (t : State) r => t.wr r (resetWord r l) l) s
  let s2 := (List.range 8).foldl (fun (t : State) k => t.wr R.TF_FRM_CNT 0 l k) s1
  { s2 with port := { s2.port with frm := tdel s2.port.frm l } }

/-- The port-block registers and counters of a logical port at their reset values (R84). -/
def State.clearLport (s : State) (l : Nat) : State :=
  let s1 := lportRegs.foldl (fun (t : State) r => t.wr r (resetWord r l) l) s
  let s2 := (List.range 16).foldl (fun (t : State) k => t.wr R.TF_MAC_CNT 0 l k) s1
  State.clearFramed { s2 with port := { s2.port with lports := tdel s2.port.lports l } } l

/-- Set a physical port's breakout and framing, and what present ports report (R82, R87, R102). -/
def State.setBreakout (s : State) (p code : Nat) (framed : Bool) : State :=
  let s1 := ((s.put F.TF_PORT_CFG_breakout code p).put F.TF_PORT_CFG_framed (b2n framed) p).put
    F.TF_PORT_CFG_present (presentMask code) p
  (List.range 8).foldl (fun (t : State) i => t.put F.TF_LPORT_STAT_speed
    (if subListed code i then portSpeed code else 0) (8 * p + i)) s1

/-- A lane starts its training again (R86): no signal, no lock, its equalisers as before training; its measured loss stays. -/
def State.retrainLane (s : State) (n : Nat) : State :=
  let s1 := (((s.zero F.TF_LANE_STAT_signal n).zero F.TF_LANE_STAT_cdr_lock n).zero F.TF_LANE_STAT_adapting n).zero
    F.TF_LANE_STAT_ber_log n
  { s1 with port := { s1.port with lanes := tdel s1.port.lanes n } }

/-- The port reconfigure operation starts, or is refused (R86, R131). -/
def State.reconfigStart (s : State) : State :=
  let a := s.marg 0
  let p := bits a 0 5
  let code := bits a 5 3
  let mine := ((List.range 8).map (fun i => 8 * p + i)).filter s.present
  if 5 ≤ code ∨ (bitOf a 8 = true ∧ 3 ≤ code) then s.mboxEnd stBadKey []
  else if mine.any (fun l => s.flag F.TF_LPORT_CTL_admin_up l || s.holdsFor l) then s.mboxEnd stBusy []
  else ((List.range 8).map (8 * p + ·)).foldl State.retrainLane (s.put F.TF_PORT_CFG_reconfig_busy 1 p)

/-- The operation ends (R84, R86, R96): ports that become present start at their reset values, as the framed registers do when
the framing changes (R165; log 127), and a port with `admin_up` = 1 leaves DISABLED. -/
def State.reconfigDone (s : State) : State :=
  let a := s.marg 0
  let p := bits a 0 5
  let code := bits a 5 3
  let old := s.breakout p
  let s1 := (List.range 8).foldl (fun (t : State) i =>
    if !(subListed code i && subListed old i) then t.clearLport (8 * p + i)
    else if s.flag F.TF_PORT_CFG_framed p = bitOf a 8 then t
    else t.clearFramed (8 * p + i)) s
  ((List.range 8).map (8 * p + ·)).foldl State.tryStart
    ((s1.setBreakout p code (bitOf a 8)).put F.TF_PORT_CFG_reconfig_busy 0 p)

/-- PORT_RECONFIG (R86, R620, R623): `go` written with op 2. -/
def execPortReconfig (s : State) : Host.Outcome State Fault Refusal :=
  okIf s.awake s (s.mboxGo 2 State.reconfigStart)

end Sys2Proof.Machine
end

