-- ==== Sys2Proof/Machine/Buffer.lean ====
section
/-! DEFINITION. The packet buffer: pools and blocks, regions and charges, bodies, thresholds and the lossless accounts
(R368 to R385, R442). -/

namespace Sys2Proof.Machine

/-! ### Pools and blocks (R368 to R370, R442) -/

/-- Bytes of a block of a pool (R368). -/
def blkSize : Nat → Nat
  | 0 => 256 | 1 => 1024 | _ => 4096

/-- Blocks of a pool (R368). -/
def State.poolCap (s : State) (p : Nat) : Nat :=
  let a := s.get F.DT_BUF_CFG_pool0_mib
  let b := s.get F.DT_BUF_CFG_pool1_mib
  (if p = 0 then a else if p = 1 then b else 256 - a - b) * 1048576 / blkSize p

/-- Blocks of a pool that are free. -/
def State.poolFree (s : State) (p : Nat) : Nat := s.poolCap p - s.buf.used.getD p 0

/-- A split block with a free part of a size (R442). -/
def State.freePart (s : State) (p : Nat) : Option (Nat × SplitBlk) :=
  s.buf.splits.find? (fun e => decide (e.2.part = p ∧ 0 < e.2.free))

/-- Has a pool a free block or a free part of its size? -/
def State.poolHas (s : State) (p : Nat) : Bool := decide (0 < s.poolFree p) || (s.freePart p).isSome

/-- Change the number of blocks in use. -/
def State.setUsed (s : State) (p n : Nat) : State := { s with buf := { s.buf with used := lset 0 s.buf.used p n } }

/-- One block of a pool that has one: a free part first (R442). -/
def State.takeOwn (s : State) (p : Nat) : Blk × State :=
  match s.freePart p with
  | some e => (⟨p, some e.1⟩,
      { s with buf := { s.buf with splits := tset s.buf.splits e.1 { e.2 with free := e.2.free - 1 } } })
  | none => (⟨p, none⟩, s.setUsed p (s.buf.used.getD p 0 + 1))

/-- Split a block of pool q into blocks of pool p (R442): its first part is taken. -/
def State.splitBlk (s : State) (q p : Nat) : Blk × State :=
  let id := s.buf.nextSplit
  let s1 := s.setUsed q (s.buf.used.getD q 0 + 1)
  (⟨p, some id⟩, { s1 with buf := { s1.buf with
    nextSplit := id + 1
    splits := tset s1.buf.splits id ⟨q, p, blkSize q / blkSize p - 1⟩ } })

/-- The next larger pool that has a free block. -/
def State.larger (s : State) (p : Nat) : Option Nat :=
  [1, 2].find? (fun q => decide (p < q) && decide (0 < s.poolFree q))

/-- Serve a request from the pool itself or a larger one (R370, R442): `exact` splits the larger block. -/
def State.takeUp (s : State) (p : Nat) (exact : Bool) : Option (Blk × State) :=
  if s.poolHas p then some (s.takeOwn p)
  else match s.larger p with
    | some q => some (if exact then s.splitBlk q p else s.takeOwn q)
    | none => none

/-- n blocks of the smallest pool. -/
def State.takeCells (s : State) : Nat → Option (List Blk × State)
  | 0 => some ([], s)
  | n + 1 =>
    if s.poolHas 0 then
      let r := s.takeOwn 0
      match r.2.takeCells n with
      | some t => some (r.1 :: t.1, t.2)
      | none => none
    else none

/-- A request for 1 KiB in the pool itself, a larger one, or cells (R370). -/
def State.take1 (s : State) (exact : Bool) : Option (List Blk × State) :=
  match s.takeUp 1 exact with
  | some r => some ([r.1], r.2)
  | none => s.takeCells 4

/-- n requests for 1 KiB. -/
def State.takeKibs (s : State) (exact : Bool) : Nat → Option (List Blk × State)
  | 0 => some ([], s)
  | n + 1 =>
    match s.take1 exact with
    | none => none
    | some r =>
      match r.2.takeKibs exact n with
      | some t => some (r.1 ++ t.1, t.2)
      | none => none

/-- A request for one block of a pool (R370, R442). -/
def State.takeReq (s : State) (exact : Bool) (p : Nat) : Option (List Blk × State) :=
  match s.takeUp p exact with
  | some r => some ([r.1], r.2)
  | none => if p = 2 then s.takeKibs exact 4 else if p = 1 then s.takeCells 4 else none

/-- The requests of a packet of n bytes (R369), by pool. -/
def blkReqs (n : Nat) : List Nat :=
  List.replicate (n / 4096) 2 ++ List.replicate (n % 4096 / 1024) 1 ++ List.replicate ((n % 1024 + 255) / 256) 0

/-- Serve requests; all of them or none. -/
def State.takeAll (s : State) (exact : Bool) : List Nat → Option (List Blk × State)
  | [] => some ([], s)
  | p :: r =>
    match s.takeReq exact p with
    | none => none
    | some x =>
      match x.2.takeAll exact r with
      | some t => some (x.1 ++ t.1, t.2)
      | none => none

/-- The bytes of blocks: the packet's allocation A (R369, R370). -/
def blksSize (l : List Blk) : Nat := (l.map (fun b => blkSize b.pool)).sum

/-- Free one block; a split block whose parts are all free returns whole (R442). -/
def State.freeBlk (s : State) (b : Blk) : State :=
  match b.split with
  | none => s.setUsed b.pool (s.buf.used.getD b.pool 0 - 1)
  | some id =>
    match tget? s.buf.splits id with
    | none => s
    | some x =>
      if x.free + 1 = blkSize x.pool / blkSize x.part then
        { s with buf := { s.buf with splits := tdel s.buf.splits id } }.setUsed x.pool
          (s.buf.used.getD x.pool 0 - 1)
      else { s with buf := { s.buf with splits := tset s.buf.splits id { x with free := x.free + 1 } } }

/-- Free blocks. -/
def State.freeBlks (s : State) (l : List Blk) : State := l.foldl State.freeBlk s

/-! ### Regions (R372 to R374) -/

/-- Σ `head_kib` over lossless (port, class), in bytes (R372). -/
def State.headReserve (s : State) : Nat :=
  (s.regs.map (fun e => if (regIdx R.DT_LOSSLESS e.1).isSome then
    bits e.2.toNat 8 16 * 1024 * (bitList (bits e.2.toNat 0 8) 8).length else 0)).sum

/-- The tether reserve in bytes. -/
def State.tetherReserve (s : State) : Nat := s.get F.DT_BUF_CFG_teth_mib * 1048576

/-- A port's resequencing allowance in bytes. -/
def State.reseqAllow (s : State) : Nat := s.get F.DT_BUF_CFG_reseq_kib * 1024

/-- The size of the shared region (R372). -/
def State.sharedSize (s : State) : Nat := 268435456 - s.tetherReserve - 32 * s.reseqAllow - s.headReserve

/-- Credit reservations (R441). -/
def State.reserved (s : State) : Nat := (tvals s.buf.resv).sum

/-- The copies of a VOQ that are staged for the tail (R392, R394), with the group of the segment that takes them. -/
def voqStaged (x : Voq) : List (Nat × Nat) :=
  (x.q.filter (fun e => decide (e.place = .staged))).map (fun e =>
    (x.segs.getD (e.off / 49152 - x.segBase) 0 / 524288, e.pkt.a))

/-- Bytes in the staging buffer of a group (R394): each copy staged there with its own A. -/
def State.stagedIn (s : State) (g : Nat) : Nat :=
  ((s.buf.voqs.flatMap (fun e => voqStaged e.2)).filter (fun p => decide (p.1 = g))).map (·.2) |>.sum

/-- Bytes staged for the tail. -/
def State.staged (s : State) : Nat := ((s.buf.voqs.flatMap (fun e => voqStaged e.2)).map (·.2)).sum

/-- Bytes charged to the shared region (R372). -/
def State.sharedUsed (s : State) : Nat :=
  s.buf.shared + s.reserved + (s.buf.tether - s.tetherReserve) +
    ((tvals s.buf.reseqUse).map (fun x => x - s.reseqAllow)).sum + ((tvals s.buf.loss).map (·.s)).sum

/-- F, the free shared bytes (R373). -/
def State.freeShared (s : State) : Nat := s.sharedSize - s.sharedUsed

/-! ### Thresholds (R380) -/

/-- a_k for k from −16 on (R380). -/
def ak : List Nat :=
  [16, 19, 23, 27, 32, 38, 45, 54, 64, 76, 91, 108, 128, 152, 181, 215,
   256, 304, 362, 431, 512, 609, 724, 861, 1024, 1218, 1448, 1722, 2048, 2435, 2896, 3444]

/-- The factor of a 5-bit exponent in two's complement. -/
def akOf (k : Nat) : Nat := ak.getD ((k + 16) % 32) 256

/-- The threshold T of a profile (R380). -/
def State.threshold (s : State) (c : Nat) : Nat := akOf (s.get F.DT_ADM_PROF_k c) * s.freeShared / 256

/-! ### Lossless accounts (R383, R384) -/

/-- The account of (port, class). -/
def State.acct (s : State) (lc : Nat) : LossAcct := tget s.buf.loss lc ⟨0, 0⟩

/-- Store it. -/
def State.setAcct (s : State) (lc : Nat) (a : LossAcct) : State :=
  { s with buf := { s.buf with loss := tput s.buf.loss lc a ⟨0, 0⟩ } }

/-- Request XOFF for (port, class) if it is not in force (R383). -/
def State.requestXoff (s : State) (lc : Nat) : State :=
  if bitOf (s.get F.DT_LOSSLESS_xoff (lc / 8)) (lc % 8) then s
  else (s.putBit F.DT_LOSSLESS_xoff true (lc % 8) (lc / 8)).count cgBuf 6

/-- XON when the account has drained (R384); never while admission is closed (R71). -/
def State.checkXon (s : State) (lc : Nat) : State :=
  let a := s.acct lc
  let gap := s.get F.DT_LOSSLESS_xon_gap_kib (lc / 8) * 1024
  if bitOf (s.get F.DT_LOSSLESS_xoff (lc / 8)) (lc % 8) ∧ s.admits = true ∧ a.h = 0 ∧
      a.s + gap ≤ s.threshold (lc % 8) then
    (s.putBit F.DT_LOSSLESS_xoff false (lc % 8) (lc / 8)).count cgBuf 7
  else s

/-- The (port, class) pairs with XOFF in force. -/
def State.xoffs (s : State) : List Nat :=
  s.regs.flatMap (fun e => match regIdx R.DT_LOSSLESS e.1 with
    | some i => (bitList (bits e.2.toNat 40 8) 8).map (8 * i.1 + ·)
    | none => [])

/-- XON for every pair whose account has drained (R384): after each change that can raise a threshold. -/
def State.xonAll (s : State) : State := s.xoffs.foldl State.checkXon s

/-! ### Charges and bodies (R371 to R375) -/

/-- Charge n bytes; a lossless account is charged where admission decides. -/
def State.charge (s : State) (c : Charge) (n : Nat) : State :=
  match c with
  | .reseq p => { s with buf := { s.buf with reseqUse := tinc s.buf.reseqUse p n } }
  | .shared => { s with buf := { s.buf with shared := s.buf.shared + n } }
  | .tether => { s with buf := { s.buf with tether := s.buf.tether + n } }
  | .lossless _ => s
  | .free => s

/-- Take n bytes from what they are charged to; from a lossless account the headroom first (R384). -/
def State.uncharge (s : State) (c : Charge) (n : Nat) : State :=
  match c with
  | .reseq p => State.xonAll { s with buf := { s.buf with reseqUse := tput s.buf.reseqUse p (tget s.buf.reseqUse p 0 - n) 0 } }
  | .shared => State.xonAll { s with buf := { s.buf with shared := s.buf.shared - n } }
  | .tether => State.xonAll { s with buf := { s.buf with tether := s.buf.tether - n } }
  | .lossless lc =>
    let a := s.acct lc
    (s.setAcct lc ⟨a.s - (n - a.h), a.h - n⟩).xonAll
  | .free => s

/-- A body by handle. -/
def State.body (s : State) (h : Nat) : Body := tget s.buf.bodies h ⟨[], [], .free, 0, true⟩

/-- Store a body. -/
def State.setBody (s : State) (h : Nat) (b : Body) : State :=
  { s with buf := { s.buf with bodies := tset s.buf.bodies h b } }

/-- A new body: its handle and the state. -/
def State.newBody (s : State) (b : Body) : Nat × State :=
  (s.buf.nextBody, { s.setBody s.buf.nextBody b with
    buf := { (s.setBody s.buf.nextBody b).buf with nextBody := s.buf.nextBody + 1 } })

/-- Move a body's charge. -/
def State.recharge (s : State) (h : Nat) (c : Charge) : State :=
  let b := s.body h
  ((s.uncharge b.charge (blksSize b.blks)).charge c (blksSize b.blks)).setBody h { b with charge := c }

/-- Free a body: its blocks and its charge. -/
def State.freeBody (s : State) (h : Nat) : State :=
  let b := s.body h
  let s1 := (s.freeBlks b.blks).uncharge b.charge (blksSize b.blks)
  { s1 with buf := { s1.buf with bodies := tdel s1.buf.bodies h } }

/-- Has a stripe of 34 macros two failed ones, more than its symbol code corrects (R61, R65)? -/
def State.deadStripe (s : State) : Bool :=
  s.buf.badMacros.any (fun m => s.buf.badMacros.any (fun n => decide (m ≠ n ∧ m / 34 = n / 34)))

/-- Can a body be read (R58, R65)? Which cells it takes is not given, so with a dead stripe a free value says. -/
def State.readOk (s : State) : Bool × State :=
  if s.deadStripe then (Config.free s.fresh.1 % 2 == 0, s.fresh.2) else (true, s)

/-- A copy of a body resolves (R375): the body is freed with its last copy. -/
def State.resolve (s : State) (h : Nat) : State :=
  match tget? s.buf.bodies h with
  | none => s
  | some b => if b.refs ≤ 1 then s.freeBody h else s.setBody h { b with refs := b.refs - 1 }

/-- Count a packet under an after-acceptance code (R57, R777): by its receiving port where that is one of this
module's. -/
def State.pktCount (s : State) (k : Nat) (x : Pkt) : State :=
  if x.counted then s.lossAt k x.inLport x.arrival else s.loss k

/-- An accepted copy flushed under EXTERNAL (R57, R397); one of a list of which copies were delivered or punted before
counts as they did (R532, R863). -/
def State.external (s : State) (x : Pkt) : State :=
  (if x.best = 3 then s else s.pktCount (if x.best = 2 then 0x13 else 0x10) x).resolve x.body

/-- An accepted copy lost (R58). -/
def State.lostCopy (s : State) (x : Pkt) : State := ((s.pktCount 0x19 x).raise F.DT_GUAR_EVT_breach).resolve x.body

end Sys2Proof.Machine
end

