-- ==== Sys2Proof/Machine/Sched.lean ====
section
/-! DEFINITION. The egress hierarchy: nodes, virtual time, shapers, selection, egress queues and dispatch (R413 to R430,
R512, R513, R531, R540). -/

namespace Sys2Proof.Machine

/-! ### Words of nodes (R415, R446) -/

/-- The key of a node: level 0 port, 1 group, 2 subscriber, 3 queue. -/
def nodeKey (lvl n : Nat) : Nat := lvl * 131072 + n

/-- Words 0 to 2 of a node that no command has set (R415): a weighted child with weight 1, unshaped; ports are loaded at
RAISE. -/
def nodeDefault (lvl n : Nat) : Word × Word × Word :=
  let parent := if lvl = 1 then n / 16 else if lvl = 2 then n / 4 else 0
  (BitVec.ofNat 64 (lvl + n * 4 + parent * 2 ^ 18 + 2 ^ 34 + (if lvl = 0 then 0 else 2 ^ 57)), 0, 0)

/-- The words of a node in a view. -/
def nodeWords (v : View) (lvl n : Nat) : Word × Word × Word := tget v.nodes (nodeKey lvl n) (nodeDefault lvl n)

/-- Fields of word 0. -/
def nwParent (w : Word × Word × Word) : Nat := bits w.1.toNat 18 14
def nwAttach (w : Word × Word × Word) : Nat := bits w.1.toNat 32 2
def nwWeight (w : Word × Word × Word) : Nat := max 1 (bits w.1.toNat 34 16)
def nwOvh (w : Word × Word × Word) : Int := sgn 7 (bits w.1.toNat 50 7)
def nwEnable (w : Word × Word × Word) : Bool := bitOf w.1.toNat 57

/-- Fields of words 1 and 2. -/
def nwCir (w : Word × Word × Word) : Nat := bits w.2.1.toNat 0 21
def nwPir (w : Word × Word × Word) : Nat := bits w.2.1.toNat 21 21
def nwCbs (w : Word × Word × Word) : Nat := bits w.2.2.toNat 0 24
def nwPbs (w : Word × Word × Word) : Nat := bits w.2.2.toNat 24 24

/-- The parent of a node in a view (R415): a queue's is fixed. -/
def nodeParent (v : View) (lvl n : Nat) : Nat := if lvl = 3 then n / 4 else nwParent (nodeWords v lvl n)

/-- The port above a subscriber. -/
def subPort (v : View) (sub : Nat) : Nat := nodeParent v 1 (nodeParent v 2 sub)

/-- A node that becomes enabled (R430): its buckets at their caps. -/
def nodeInit (w : Word × Word × Word) : Node :=
  ⟨w, 0, 0, 0, none, false, (8 * nwCbs w : Nat), (8 * nwPbs w : Nat), none⟩

/-- A node as it runs. -/
def State.node (s : State) (lvl n : Nat) : Node := tget s.sch.nodes (nodeKey lvl n) (nodeInit (nodeWords s.act lvl n))

/-- Store a node. -/
def State.setNode (s : State) (lvl n : Nat) (x : Node) : State :=
  { s with sch := { s.sch with nodes := tset s.sch.nodes (nodeKey lvl n) x } }

/-- An egress queue. -/
def State.equeue (s : State) (q : Nat) : List Pkt := tget s.sch.queues q []

/-- Store an egress queue. -/
def State.setEqueue (s : State) (q : Nat) (l : List Pkt) : State :=
  { s with sch := { s.sch with queues := tput s.sch.queues q l [] } }

/-! ### Eligibility (R417, R418, R420) -/

/-- Children of a node that are active. -/
def State.children (s : State) (lvl n : Nat) : List Nat :=
  (s.sch.nodes.filter (fun e => decide (e.1 / 131072 = lvl + 1) && e.2.active &&
    decide (nodeParent s.act (lvl + 1) (e.1 % 131072) = n))).map (fun e => e.1 % 131072)

/-- Does the node's peak bucket let it be served (R417, R427)? -/
def nodeOpen (x : Node) : Bool := decide (nwPir x.rate = 0 ∨ 0 ≤ x.p)

/-- Is a node committed (R418, R427)? -/
def nodeCommitted (x : Node) : Bool := decide (0 < nwCir x.rate ∧ 0 ≤ x.c)

/-- Is a node enabled, active and open? -/
def State.nodeReady (s : State) (lvl n : Nat) : Bool :=
  nwEnable (nodeWords s.act lvl n) && (s.node lvl n).active && nodeOpen (s.node lvl n)

/-- The queue of a class within its subscriber (R413). -/
def State.qmap (s : State) (l c : Nat) : Nat := bits (s.get F.DT_EQ_PORT_qmap l) (2 * c) 2

/-- Is an egress queue paused (R420)? -/
def State.queuePaused (s : State) (q : Nat) : Bool :=
  let l := subPort s.act (q / 4)
  (List.range 8).any (fun c => s.qmap l c == q % 4 && bitOf (s.get F.TF_LPORT_STAT_rx_paused l) c)

/-- An egress queue. -/
def State.equeueHead (s : State) (q : Nat) : Option Pkt := (s.equeue q).head?

/-- May the head packet of a queue be sent (R388, R390): all its cells are in the buffer, or it cuts through and its pair is
not held to store-and-forward? -/
def State.headReady (s : State) (q : Nat) : Bool :=
  match s.equeueHead q with
  | none => true
  | some x => (s.body x.body).complete || (x.ct && !thas s.buf.ctOff (x.dl * 8 + x.cls))

/-- May a queue be served? -/
def State.queueElig (s : State) (q : Nat) : Bool := s.nodeReady 3 q && !s.queuePaused q && s.headReady q

/-- May a subscriber be served? -/
def State.subElig (s : State) (n : Nat) : Bool := s.nodeReady 2 n && (s.children 2 n).any s.queueElig

/-- May a group be served? -/
def State.groupElig (s : State) (n : Nat) : Bool := s.nodeReady 1 n && (s.children 1 n).any s.subElig

/-- Is a node below the ports eligible (R417)? -/
def State.nodeElig (s : State) (lvl n : Nat) : Bool :=
  if lvl = 3 then s.queueElig n else if lvl = 2 then s.subElig n else s.groupElig n

/-- Bytes in the transmit buffer of a physical port (R516). -/
def State.txBytes (s : State) (p : Nat) : Nat :=
  ((s.phys p).tx.map (fun c => match c.fate with
    | .send b => if c.stage ≤ 1 then b.length + 4 else 0
    | _ => 0)).sum

/-- Is the transmit buffer of a physical port full (R516)? -/
def State.txFull (s : State) (p : Nat) : Bool := decide (262144 < s.txBytes p + 16384)

/-- May a port node be served (R417)? -/
def State.portElig (s : State) (l : Nat) : Bool :=
  s.nodeReady 0 l && s.viewUp s.myId l && !s.txFull (l / 8) && (s.children 0 l).any s.groupElig

/-! ### Selection (R418, R422) -/

/-- The better of two weighted children: the smaller start tag, then the lower number (R422). -/
def State.tagBefore (s : State) (lvl a b : Nat) : Bool :=
  let x := (s.node lvl a).st
  let y := (s.node lvl b).st
  serBefore 48 x y || (decide (x % 2 ^ 48 = y % 2 ^ 48) && decide (a < b))

/-- The first child of a list in tag order. -/
def State.bestTag (s : State) (lvl : Nat) : List Nat → Option Nat
  | [] => none
  | a :: r => match s.bestTag lvl r with
    | none => some a
    | some b => if s.tagBefore lvl b a then some b else some a

/-- The child that is served among candidates of a level (R418). -/
def State.pickAmong (s : State) (lvl : Nat) (cs : List Nat) : Option Nat :=
  let att : Nat → Nat := fun n => nwAttach (nodeWords s.act lvl n)
  let strict : Nat → Option Nat := fun k => cs.find? (fun n => att n == k)
  let wfq := cs.filter (fun n => att n == 0)
  let first := if s.flag F.DT_SCHED_CTL_committed_first then
    wfq.filter (fun n => nodeCommitted (s.node lvl n)) else []
  (strict 1).orElse (fun _ => (strict 2).orElse (fun _ => (strict 3).orElse (fun _ =>
    (s.bestTag lvl first).orElse (fun _ => s.bestTag lvl wfq))))

/-- The eligible child that a node serves. -/
def State.pickChild (s : State) (lvl n : Nat) : Option Nat :=
  s.pickAmong (lvl + 1) ((s.children lvl n).filter (s.nodeElig (lvl + 1)))

/-- The child that a node would offer: an eligible one, else an active one. -/
def State.offerChild (s : State) (lvl n : Nat) : Option Nat :=
  (s.pickChild lvl n).orElse (fun _ => s.pickAmong (lvl + 1) (s.children lvl n))

/-- The queue whose head a node offers. -/
def State.offerQueue (s : State) (lvl n : Nat) : Option Nat :=
  if lvl = 3 then some n
  else if lvl = 2 then s.offerChild 2 n
  else (s.offerChild 1 n).bind (fun m => s.offerChild 2 m)

/-- The length of the head packet that a node offers (R421). -/
def State.headLen (s : State) (lvl n : Nat) : Nat :=
  ((s.offerQueue lvl n).bind (fun q => (s.equeue q).head?)).elim 0 (·.length)

/-! ### Tags (R421 to R425) -/

/-- L at a node: the length with the node's overhead, not below 0 (R421). -/
def nodeLen (x : Node) (len : Nat) : Nat := ((len : Int) + nwOvh x.rate).toNat

/-- The tag increment (R421). -/
def State.tagDelta (s : State) (lvl n : Nat) : Nat :=
  let w := nwWeight (nodeWords s.act lvl n)
  (nodeLen (s.node lvl n) (s.headLen lvl n) * 65536 + w - 1) / w

/-- Is the node a weighted child? Ports have no parent. -/
def State.weighted (s : State) (lvl n : Nat) : Bool :=
  decide (0 < lvl) && nwAttach (nodeWords s.act lvl n) == 0

/-- A node becomes active (R417, R423). -/
def State.wake (s : State) (lvl n : Nat) : State :=
  let x := s.node lvl n
  let s1 := s.setNode lvl n { x with active := true }
  if s.weighted lvl n then
    let v := (s.node (lvl - 1) (nodeParent s.act lvl n)).vt
    let st := match x.last with
      | some f => if serBefore 48 v f then f else v
      | none => v
    s1.setNode lvl n { x with active := true, st := st, fin := (st + s1.tagDelta lvl n) % 2 ^ 48 }
  else s1

/-- A queue gets its first packet: it and each ancestor that was not active become active. -/
def State.wakeUp (s : State) (q : Nat) : State :=
  let sub := q / 4
  let g := nodeParent s.act 2 sub
  let l := nodeParent s.act 1 g
  let wasS := (s.node 2 sub).active
  let wasG := (s.node 1 g).active
  let s1 := s.wake 3 q
  let s2 := if wasS then s1 else s1.wake 2 sub
  let s3 := if wasG then s2 else s2.wake 1 g
  s3.setNode 0 l { s3.node 0 l with active := true }

/-- A node is active as long as something beneath it is. -/
def State.refreshActive (s : State) (lvl n : Nat) : State :=
  let a := if lvl = 3 then !(s.equeue n).isEmpty else !(s.children lvl n).isEmpty
  if (s.node lvl n).active = a then s else s.setNode lvl n { s.node lvl n with active := a }

/-- After a queue has emptied without service: it and its ancestors. -/
def State.deactivateUp (s : State) (q : Nat) : State :=
  let sub := q / 4
  let g := nodeParent s.act 2 sub
  (((s.refreshActive 3 q).refreshActive 2 sub).refreshActive 1 g).refreshActive 0 (nodeParent s.act 1 g)

/-- A child has been served (R422): its parent's virtual time takes its start tag, and it takes its old finish tag. -/
def State.servedTags (s : State) (lvl n : Nat) : State :=
  let s1 := s.refreshActive lvl n
  if s.weighted lvl n then
    let par := nodeParent s.act lvl n
    let x := s1.node lvl n
    let s2 := s1.setNode (lvl - 1) par { s1.node (lvl - 1) par with vt := x.st }
    let y := { x with last := some x.fin, st := if x.active then x.fin else x.st }
    if x.active then s2.setNode lvl n { y with fin := (x.fin + (s2.setNode lvl n y).tagDelta lvl n) % 2 ^ 48 }
    else s2.setNode lvl n y
  else s1

/-- Charge a node for a packet with n copies (R428, R531). -/
def State.chargeNode (s : State) (lvl n len copies : Nat) : State :=
  let x := s.node lvl n
  let d : Int := (8 * copies * nodeLen x len : Nat)
  s.setNode lvl n { x with
    c := if nwCir x.rate = 0 then x.c else x.c - d
    p := if nwPir x.rate = 0 then x.p else x.p - d }

/-! ### Egress queues (R413, R387) -/

/-- The egress queue of a packet (R413). -/
def State.eqOf (s : State) (l cls tag : Nat) : Nat :=
  let sub := if s.flag F.DT_EQ_PORT_map_en l then
      tget s.act.eqMap (l * 256 + tag) (s.get F.DT_EQ_PORT_def_sub l)
    else s.get F.DT_EQ_PORT_def_sub l
  4 * sub + s.qmap l cls

/-- Put packets into an egress queue: the queue becomes active with its first. -/
def State.putQueue (s : State) (q : Nat) (l : List Pkt) : State :=
  let was := (s.equeue q).isEmpty
  let s1 := s.setEqueue q l
  if was && !l.isEmpty then s1.wakeUp q else if l.isEmpty then s1.deactivateUp q else s1

/-- May a packet under reassembly enter its egress queue by cut-through (R388, R390)? -/
def State.ctOk (s : State) (x : Pkt) : Bool :=
  bitOf (s.get F.DT_PORT_HOLD_ct_en x.dl) x.cls && !thas s.buf.ctOff (x.dl * 8 + x.cls) && s.viewUp s.myId x.dl &&
    (s.equeue (s.eqOf x.dl x.cls x.tag)).isEmpty &&
    decide (portSpeed (s.breakout (x.dl / 8)) ≤ x.inSpeed) && decide (512 ≤ (s.body x.body).bytes.length)

/-- Append a packet to its egress queue (R387, R413); one whose cells are not all there cuts through where it may (R388). -/
def State.enqueue (s : State) (x : Pkt) : State :=
  let q := s.eqOf x.dl x.cls x.tag
  let y := { x with ct := !(s.body x.body).complete && s.ctOk x, tr := x.tr.map (fun t => { t with t6 := s.time }) }
  s.putQueue q (s.equeue q ++ [y])

/-- Return a unit to the head of a queue, behind units returned before it with an earlier eseq (R863). -/
def returnTo (x : Pkt) : List Pkt → List Pkt
  | [] => [x]
  | y :: r => match y.ret, x.ret with
    | some a, some b => if serBefore 16 a b then y :: returnTo x r else x :: y :: r
    | _, _ => x :: y :: r

/-! ### Dispatch (R512, R513, R540) -/

/-- Copies of an egress list from `start` to its end (R527, R531); 1 without a list. -/
def State.listCopies (s : State) (x : Pkt) : Nat :=
  match x.egList with
  | none => 1
  | some e =>
    match tget? s.act.egHdrs e with
    | some h => (bits h.1.toNat 22 12 + 1) - x.start
    | none => 1

/-- Units outstanding in a pipeline (R512). -/
def State.pipeUnits (s : State) (p : Nat) (b : Bool) : Nat :=
  (s.sch.outst.filter (fun e => e.2.port == p && e.2.pipeB == b)).length

/-- The egress pipeline that takes the next unit (R512); none when neither is served. -/
def State.egPick (s : State) (p : Nat) : Option Bool :=
  let a := s.egPipeOk p false
  let b := s.egPipeOk p true
  let na := s.pipeUnits p false
  let nb := s.pipeUnits p true
  if a && b then some (if na = nb then !(s.phys p).egLastB else decide (nb < na))
  else if a then some false else if b then some true else none

/-- The egress unit of a packet (R511). -/
def State.egUnit (s : State) (h : Nat) (o : Outstanding) : EgUnit :=
  let x := o.pkt
  { handle := h, lport := x.dl, cls := x.cls, ct := x.ct && !(s.body x.body).complete, session := x.session
    sample := x.sample, multiHit := x.multiHit, egList := x.egList, length := x.length, rw := x.rw, tag := x.tag
    inLport := x.inLport, start := x.start, eseq := o.eseq, ts := x.ts, arrival := x.arrival
    bytes := (s.body x.body).bytes, hdrOk := true, tr := x.tr }

/-- Hand a unit to an egress pipeline of its port. -/
def State.giveUnit (s : State) (u : EgUnit) (p : Nat) (b : Bool) : State :=
  let x := s.phys p
  s.setPhys p { x with egA := if b then x.egA else x.egA ++ [u], egB := if b then x.egB ++ [u] else x.egB }

/-- Dispatch a packet of a queue as the next unit of its physical port (R512, R513). -/
def State.dispatch (s : State) (x : Pkt) (q : Nat) (b : Bool) : State :=
  let p := x.dl / 8
  let y := s.phys p
  let h := s.sch.nextH
  let o : Outstanding := ⟨{ x with ret := none }, p, b, y.eseq, q, x.start, false, some s.up⟩
  let s1 := s.setPhys p { y with eseq := (y.eseq + 1) % 2 ^ 16, egLastB := b }
  let s2 := { s1 with sch := { s1.sch with nextH := (h + 1) % 2 ^ 24, outst := tset s1.sch.outst h o } }
  let s3 := if (s2.egUnit h o).ct then s2.count cgBuf 8 else s2
  s3.giveUnit (s2.egUnit h o) p b

/-- Send a unit again to a pipeline, with its eseq and from the copy after the last one reported (R540). -/
def State.giveAgain (s : State) (h : Nat) (b : Bool) : State :=
  match tget? s.sch.outst h with
  | none => s
  | some o =>
    let o1 : Outstanding := { o with pipeB := b, sentAt := some s.up, pkt := { o.pkt with start := o.copies } }
    let s1 := { s with sch := { s.sch with outst := tset s.sch.outst h o1 } }
    (s1.giveUnit (s1.egUnit h o1) o.port b).raise F.TF_EG_EVT_resend

/-- The number of a unit whose packet no longer exists is passed over in its turn, unless the MAC has the unit already: it
leaves the pipelines, and at the MAC an entry that is never sent stands for it (log 131). -/
def State.passOver (s : State) (h : Nat) (o : Outstanding) : State :=
  let p := s.phys o.port
  let e : TxCopy :=
    { handle := h, eseq := o.eseq, copy := 0, last := true, listed := false, lport := o.pkt.dl, cls := o.pkt.cls, ts := noTs
      fate := .down, stage := 0, exported := [], sentAt := 0, tr := none }
  if p.tx.any (fun u => decide (u.handle = h)) || serBefore 16 o.eseq p.nextEseq then s
  else s.setPhys o.port { p with
    egA := p.egA.filter (fun u => decide (u.handle ≠ h)), egB := p.egB.filter (fun u => decide (u.handle ≠ h))
    tx := p.tx ++ [e] }

/-- A unit whose packet cannot be read any more is lost (R58); one of a list of which copies were delivered or punted before
counts as they did (R532). DT does not know it any longer. -/
def State.loseUnit (s : State) (h : Nat) (o : Outstanding) : State :=
  let s1 := { s with sch := { s.sch with
    outst := tdel s.sch.outst h, resend := s.sch.resend.filter (fun u => decide (u ≠ h)) } }
  let s2 := s1.passOver h o
  if o.pkt.best = 3 then s2.resolve o.pkt.body
  else if o.pkt.best = 2 then (s2.pktCount 0x13 o.pkt).resolve o.pkt.body
  else s2.lostCopy o.pkt

/-- Send a unit again to a pipeline: its packet is read once more (R58, R540). -/
def State.resendTo (s : State) (h : Nat) (b : Bool) : State :=
  match tget? s.sch.outst h with
  | none => s
  | some o =>
    let r := s.readOk
    if r.1 then r.2.giveAgain h b else r.2.loseUnit h o

/-- Send a unit again to a pipeline of its port that is served. -/
def State.resendUnit (s : State) (h : Nat) : State :=
  match (tget? s.sch.outst h).bind (fun o => s.egPick o.port) with
  | none => s
  | some b => s.resendTo h b

/-! ### The scheduling decision (R419, R428, R531) -/

/-- The port node that a physical port serves next, in round robin. -/
def State.nextPort (s : State) (p : Nat) : Option Nat :=
  let r := tget s.sch.rrPort p 7
  ((List.range 8).map (fun i => 8 * p + (r + 1 + i) % 8)).find? s.portElig

/-- Bytes of a queue. -/
def pktsBytes (l : List Pkt) : Nat := (l.map (·.a)).sum

/-- One decision of a physical port: the path, the head packet dequeued, charges, tags and dispatch. -/
def State.serveQueue (s : State) (l g sub q : Nat) (b : Bool) : State :=
  match s.equeue q with
  | [] => s
  | x :: rest =>
    let n := s.listCopies x
    let s1 := (((s.chargeNode 0 l x.length n).chargeNode 1 g x.length n).chargeNode 2 sub x.length n).chargeNode
      3 q x.length n
    let s2 := s1.setEqueue q rest
    let s3 := (((s2.servedTags 3 q).servedTags 2 sub).servedTags 1 g).refreshActive 0 l
    let s4 := { s3 with sch := { s3.sch with rrPort := tset s3.sch.rrPort (l / 8) (l % 8) } }
    let y := { x with tr := x.tr.map (fun t => { t with
      t7 := s.time, qbytes := (pktsBytes (s.equeue q) + 255) / 256 }) }
    let r := (s4.count cgSched 8).readOk
    if r.1 then r.2.dispatch y q b else r.2.lostCopy y

/-- SCHED_DECISION (R417 to R431, R512): a physical port serves the next eligible of its port nodes. -/
def execSchedDecision (p : Nat) (s : State) : Host.Outcome State Fault Refusal :=
  match (if s.live && decide (p < 32) then s.nextPort p else none), s.egPick p with
  | some l, some b =>
    match s.pickChild 0 l with
    | none => ok s
    | some g =>
      match s.pickChild 1 g with
      | none => ok s
      | some sub =>
        match s.pickChild 2 sub with
        | none => ok s
        | some q => ok (s.serveQueue l g sub q b)
  | _, _ => ok s

/-! ### Refill (R426 to R432, R435) -/

/-- A bucket after a refill. -/
def bucketAdd (x : Int) (add cap : Nat) : Int := min (x + add) cap

/-- A bucket above a new cap is reduced to it; a negative one keeps its value (R429). -/
def bucketClip (x : Int) (cap : Nat) : Int := min x cap

/-- A node at a refill boundary (R426, R429). -/
def nodeRefill (x : Node) : Node :=
  let c := if nwCir x.rate = 0 then x.c else bucketAdd x.c (nwCir x.rate) (8 * nwCbs x.rate)
  let p := if nwPir x.rate = 0 then x.p else bucketAdd x.p (nwPir x.rate) (8 * nwPbs x.rate)
  match x.pend with
  | none => { x with c := c, p := p }
  | some w => { x with rate := w, c := bucketClip c (8 * nwCbs w), p := bucketClip p (8 * nwPbs w), pend := none }

/-- A policer's fields (R450). -/
def polSr (w : Word × Word × Word) : Bool := bitOf w.1.toNat 18
def polOvh (w : Word × Word × Word) : Int := sgn 7 (bits w.1.toNat 19 7)
def polEnable (w : Word × Word × Word) : Bool := bitOf w.1.toNat 26

/-- A policer at a refill boundary (R432, R435). -/
def polRefill (x : Policer) : Policer :=
  let cap0 := 8 * nwCbs x.w
  let cap1 := 8 * nwPbs x.w
  let t := x.b0 + nwCir x.w
  let b0 := min cap0 t
  let b1 := min cap1 (x.b1 + (if polSr x.w then t - cap0 else nwPir x.w))
  match x.pend with
  | none => { x with b0 := b0, b1 := b1 }
  | some w => ⟨w, min b0 (8 * nwCbs w), min b1 (8 * nwPbs w), none⟩

/-- SHAPER_REFILL (R426, R429, R432, R435). -/
def execShaperRefill (s : State) : Host.Outcome State Fault Refusal :=
  okIf s.live s { s with sch := { s.sch with
    nodes := s.sch.nodes.map (fun e => (e.1, nodeRefill e.2))
    pols := s.sch.pols.map (fun e => (e.1, if polEnable e.2.w then polRefill e.2 else e.2)) } }

/-- TX_HOLD_TIMEOUT (R457): a full transmit buffer has held a port node for 1 ms. -/
def execTxHoldTimeout (p : Nat) (s : State) : Host.Outcome State Fault Refusal :=
  okIf (s.live && decide (p < 32) && s.txFull p) s (s.raise F.DT_SCHED_EVT_tx_hold)

end Sys2Proof.Machine
end

