-- ==== Sys2Proof/Machine/Voq.lean ====
section
/-! DEFINITION. Virtual output queues: credit, service, the spill chain, and what a port's hold expiry does to queues
(R391 to R400, R412, R436 to R445, R554, R555, R567, R568, R572). -/

namespace Sys2Proof.Machine

/-! ### VOQs (R412, R437, R438) -/

/-- The id of a VOQ (R412). -/
def voqId (m l c : Nat) : Nat := 2048 * m + 8 * l + c

/-- A VOQ. -/
def State.voq (s : State) (v : Nat) : Voq := tget s.buf.voqs v voq0

/-- Store a VOQ. -/
def State.setVoq (s : State) (v : Nat) (x : Voq) : State :=
  { s with buf := { s.buf with voqs := tput s.buf.voqs v x voq0 } }

/-- Bytes on die (R391). -/
def voqDie (x : Voq) : Nat := ((x.q.filter (fun e => decide (e.place = .die))).map (fun e => e.pkt.a)).sum

/-- Bytes in the tail, staging included (R391). -/
def voqTail (x : Voq) : Nat := ((x.q.filter (fun e => decide (e.place ≠ .die))).map (fun e => e.pkt.a)).sum

/-- The credit cost of a packet (R436). -/
def creditCost (len : Nat) : Nat := 256 * ((len + 255) / 256)

/-- Is a VOQ hungry (R438)? -/
def State.hungry (s : State) (x : Voq) : Bool :=
  !x.q.isEmpty && decide (x.balance < max 4 (s.get F.DT_SCHED_CTL_hungry_credits) * 4096)

/-- The key of a reservation (R440): source module, port and class. -/
def resvKey (src l c : Nat) : Nat := src * 2048 + l * 8 + c

/-- Release reserved bytes of a source (R442). -/
def State.releaseResv (s : State) (src l c n : Nat) : State :=
  let k := resvKey src l c
  State.xonAll { s with buf := { s.buf with resv := tput s.buf.resv k (tget s.buf.resv k 0 - n) 0 } }

/-- A credit request reaches the destination (R440, R442). -/
def State.creditReq (s : State) (src : Nat) (w : Word) : State :=
  let l := bits w.toNat 0 8
  let c := bits w.toNat 8 3
  let k := l * 8 + c
  let set := (tget s.sch.reqs k []).filter (· ≠ src)
  let s1 := { s with sch := { s.sch with
    reqs := tput s.sch.reqs k (if bitOf w.toNat 11 then
      (if (tget s.sch.reqs k []).contains src then tget s.sch.reqs k [] else set ++ [src]) else set) [] } }
  if src = s.myId then s1 else s1.releaseResv src l c (256 * bits w.toNat 16 20)

/-- A credit request message (R445). -/
def reqMsg (v : Nat) (on : Bool) (ret : Nat) : Word :=
  BitVec.ofNat 64 (v % 2048 / 8 + v % 8 * 256 + b2n on * 2048 + ret / 256 % 2 ^ 20 * 65536)

/-- A VOQ sends a request (R438): to its destination, or to the module's own generator (R443). -/
def State.sendReq (s : State) (v : Nat) (on : Bool) (ret : Nat) : State :=
  let m := v / 2048
  let w := reqMsg v on ret
  let s1 := if 0 < ret then s.count cgSched 4 else s
  if m = s.myId then s1.creditReq m w
  else
    let q := s1.msgs m
    (s1.setMsgs m { q with req := q.req ++ [(s.up, w)] }).count cgSched 2

/-- After a change of a VOQ: requests as it becomes hungry or stops, and the return of the balance of an empty one
(R438). -/
def State.voqSync (s : State) (v : Nat) : State :=
  let x := s.voq v
  let h := s.hungry x
  if x.q.isEmpty ∧ 0 < x.balance then (s.setVoq v { x with balance := 0, reqOn := false }).sendReq v false x.balance
  else if h = x.reqOn then s
  else (s.setVoq v { x with reqOn := h }).sendReq v h 0

/-- CREDIT_REQ_RECEIVE (R440, R442). -/
def execCreditReqReceive (src : Nat) (w : Word) (s : State) : Host.Outcome State Fault Refusal :=
  okIf (s.live && decide (src < 256 ∧ src ≠ s.myId)) s ((s.count cgSched 3).creditReq src w)

/-! ### Grants (R439 to R441, R443) -/

/-- R(l, c): bytes reserved for a port and class. -/
def State.resvFor (s : State) (l c : Nat) : Nat :=
  ((s.buf.resv.filter (fun e => decide (e.1 % 2048 = l * 8 + c))).map (·.2)).sum

/-- Q(l, c): bytes in egress queues of a port and class. -/
def State.queuedFor (s : State) (l c : Nat) : Nat :=
  (s.sch.queues.map (fun e => pktsBytes (e.2.filter (fun x => decide (x.dl = l ∧ x.cls = c))))).sum

/-- R + Q over the classes of a port. -/
def State.portLoad (s : State) (l : Nat) : Nat :=
  ((List.range 8).map (fun c => s.resvFor l c + s.queuedFor l c)).sum

/-- May a credit be granted for a port and class, F aside (R440)? -/
def State.grantWindow (s : State) (l c : Nat) : Bool :=
  s.viewUp s.myId l &&
    decide (s.resvFor l c + s.queuedFor l c + 4096 ≤ s.get F.DT_EQ_PORT_win_kib l * 1024) &&
    decide (s.portLoad l + 4096 ≤ s.get F.DT_EQ_PORT_port_win_kib l * 1024)

/-- Is the mode one in which other modules' VOQs get no new grant (R71, R440)? -/
def State.grantsStopped (s : State) : Bool := s.mode == DRAIN || s.mode == QUIESCED || s.mode == MAINTENANCE

/-- The next VOQ of a set that may be granted: its source module. -/
def State.nextGrant (s : State) (l c : Nat) : Option Nat :=
  (tget s.sch.reqs (l * 8 + c) []).find? (fun m => m == s.myId || !s.grantsStopped)

/-- Add one credit to the grant messages for a module, merged per VOQ (R445, R495); a new message waits from `now` on. -/
def addGrant (now l c : Nat) : List (Nat × Word) → List (Nat × Word)
  | [] => [(now, BitVec.ofNat 64 (l + c * 256 + 2048))]
  | (t, w) :: r =>
    if bits w.toNat 0 11 = l + c * 256 ∧ bits w.toNat 11 4 < 15 then (t, BitVec.ofNat 64 (w.toNat + 2048)) :: r
    else (t, w) :: addGrant now l c r

/-- Credit reaches a VOQ (R437, R439). -/
def State.creditArrive (s : State) (v n : Nat) : State :=
  let x := s.voq v
  let s1 := s.count cgSched 1 0 n
  if x.q.isEmpty ∧ x.reqOn = false then
    (s1.sendReq v false (n * 4096)).raise F.DT_SCHED_EVT_late_return
  else (s1.setVoq v { x with balance := x.balance + n * 4096 }).voqSync v

/-- Grant one credit (R440, R441, R443). -/
def State.grantOne (s : State) (l c src : Nat) : State :=
  let k := l * 8 + c
  let set := tget s.sch.reqs k []
  let s1 := { s with sch := { s.sch with reqs := tput s.sch.reqs k (set.filter (· ≠ src) ++ [src]) [] } }
  let s2 := s1.count cgSched 0
  if src = s.myId then s2.creditArrive (voqId src l c) 1
  else
    let q := s2.msgs src
    let s3 := s2.setMsgs src { q with grant := addGrant s.up l c q.grant }
    { s3 with buf := { s3.buf with resv := tinc s3.buf.resv (resvKey src l c) 4096 } }

/-- CREDIT_GRANT_ISSUE (R440, R441, R443). -/
def execCreditGrantIssue (l c : Nat) (s : State) : Host.Outcome State Fault Refusal :=
  match s.nextGrant l c with
  | none => ok s
  | some src =>
    okIf (s.live && decide (l < 256 ∧ c < 8) && s.grantWindow l c && decide (4096 ≤ s.freeShared)) s (s.grantOne l c src)

/-- CREDIT_GRANT_RECEIVE (R437, R439). -/
def execCreditGrantReceive (src : Nat) (w : Word) (s : State) : Host.Outcome State Fault Refusal :=
  okIf (s.live && decide (src < 256 ∧ src ≠ s.myId ∧ 0 < bits w.toNat 11 4)) s
    (s.creditArrive (voqId src (bits w.toNat 0 8) (bits w.toNat 8 3)) (bits w.toNat 11 4))

/-- GRANT_WAIT_F_TIMEOUT (R457): some grant has waited on F for 100 µs. -/
def execGrantWaitFTimeout (s : State) : Host.Outcome State Fault Refusal :=
  okIf (s.live && decide (s.freeShared < 4096) &&
      s.sch.reqs.any (fun e => s.grantWindow (e.1 / 8) (e.1 % 8) && (s.nextGrant (e.1 / 8) (e.1 % 8)).isSome)) s
    (s.raise F.DT_SCHED_EVT_grant_wait_f)

/-! ### The spill chain (R393, R394, R554, R555) -/

/-- Bytes of a segment. -/
def segSize : Nat := 49152

/-- Bytes of a row (R554). -/
def State.rowSize (s : State) : Nat := 12 * s.tailGrain

/-- The group of the k-th segment of a VOQ (R393). -/
def segGroup (v k : Nat) : Nat := (v % 8 + k) % 8

/-- Channels of a group that are in a state. -/
def State.groupCh (s : State) (g : Nat) (p : Nat → Bool) : List Nat :=
  (List.range 13).filter (fun i => p (s.get F.DT_MEM_CH_state (13 * g + i)))

/-- Is a group withdrawn: two of its channels OUT (R572)? -/
def State.withdrawn (s : State) (g : Nat) : Bool := decide (2 ≤ (s.groupCh g (· == 5)).length)

/-- The lowest free segment of a group. -/
def State.freeSeg (s : State) (g : Nat) : Option Nat :=
  ((List.range (s.buf.segsUsed.length + 1)).map (fun i => 524288 * g + i)).find? (fun k =>
    decide (k < 524288 * (g + 1)) && !thas s.buf.segsUsed k)

/-- Free tail space in bytes. -/
def State.tailFree (s : State) : Nat := (4194304 - s.buf.segsUsed.length) * segSize

/-- Free a segment. -/
def State.dropSeg (s : State) (k : Nat) : State := { s with buf := { s.buf with segsUsed := tdel s.buf.segsUsed k } }

/-- Extend a VOQ's chain to hold n more bytes (R393); none when a group has no free segment. -/
def State.extendChain (s : State) (v n : Nat) : Option State :=
  let x := s.voq v
  let have' := (x.segBase + x.segs.length) * segSize
  if x.wOff + n ≤ have' then some s
  else
    match s.freeSeg (segGroup v (x.segBase + x.segs.length)) with
    | none => none
    | some k =>
      let s1 := s.setVoq v { x with segs := x.segs ++ [k] }
      let s2 := { s1 with buf := { s1.buf with segsUsed := tset s1.buf.segsUsed k v } }
      some (if s2.buf.segsUsed.length * 100 > 4194304 * 95 then s2.raise F.DT_BUF_EVT_tail_low else s2)

/-- The chain ends when the tail is empty (R391): its segments are freed. -/
def State.closeChain (s : State) (v : Nat) : State :=
  let x := s.voq v
  if 0 < voqTail x then s
  else
    let e := x.segBase + x.segs.length
    let s1 := x.segs.foldl State.dropSeg s
    s1.setVoq v { x with spilling := false, segs := [], segBase := e, wOff := e * segSize, written := e * segSize, fedAt := 0 }

/-- Free leading segments of a chain that hold no entry any more. -/
def State.trimChain (s : State) (v : Nat) : State :=
  let x := s.voq v
  let low := (x.q.filter (fun e => decide (e.place ≠ .die))).foldl (fun m e => min m (e.off / segSize)) (x.wOff / segSize)
  let n := min (low - x.segBase) x.segs.length
  let s1 := (x.segs.take n).foldl State.dropSeg s
  s1.setVoq v { x with segs := x.segs.drop n, segBase := x.segBase + n }

/-- The copy of a body that is written to the tail leaves the buffer (R394): the body's blocks are freed, or, when
other copies refer to them, the copy takes its own bytes with it. Answers the handle of what lies in the tail. -/
def State.bodyToTail (s : State) (h : Nat) : Nat × State :=
  let b := s.body h
  if b.refs ≤ 1 then
    let s1 := (s.freeBlks b.blks).uncharge b.charge (blksSize b.blks)
    (h, s1.setBody h { b with blks := [], charge := .free })
  else
    let s1 := s.setBody h { b with refs := b.refs - 1 }
    s1.newBody { b with blks := [], charge := .free, refs := 1 }

/-- Entries that lie below the written offset move from staging to the tail; one that cannot be read is lost (R58). -/
def settleStaged (s : State) (written : Nat) : List VPkt → State × List VPkt
  | [] => (s, [])
  | e :: r =>
    if e.place = .staged ∧ e.off + e.pkt.a ≤ written then
      let ok := s.readOk
      if ok.1 then
        let x := ok.2.bodyToTail e.pkt.body
        let t := settleStaged x.2 written r
        (t.1, { e with place := .tail, pkt := { e.pkt with body := x.1 } } :: t.2)
      else settleStaged (ok.2.lostCopy e.pkt) written r
    else
      let t := settleStaged s written r
      (t.1, e :: t.2)

/-- The channels of a group that skip a write enter the segment in their catch-up logs (R567, R568). -/
def State.logSkipped (s : State) (g seg : Nat) : State :=
  (s.groupCh g (· == 3)).foldl (fun (t : State) i =>
    let ch := 13 * g + i
    let c := tget t.mem.chans ch memCh0
    let c1 := if c.log.contains seg then c
      else if 4096 ≤ c.log.length then { c with overflow := true } else { c with log := c.log ++ [seg] }
    ({ t with mem := { t.mem with chans := tset t.mem.chans ch c1 } }).put F.DT_MEM_CH_log c1.log.length ch) s

/-- The row of its group in which an offset of a VOQ's chain lies (R554). -/
def State.rowAt (s : State) (seg off : Nat) : Nat := (segSize * (seg % 524288) + off % segSize) / s.rowSize

/-- Rows are written up to an offset (R394, R555), each unit through its channel; a queue whose last staged copy is lost has no tail any more (R391). -/
def State.writeRows (s : State) (v upto : Nat) : State :=
  let x := s.voq v
  let k := x.written / segSize
  let seg := x.segs.getD (k - x.segBase) 0
  let r := settleStaged ((s.logSkipped (seg / 524288) seg).rowWrite (seg / 524288) (s.rowAt seg x.written)) upto x.q
  (r.1.setVoq v { x with q := r.2, written := upto, wOff := max x.wOff upto }).closeChain v

/-- TAIL_ROW_WRITE (R394, R554, R555): the next full row of a queue. -/
def execTailRowWrite (v : Nat) (s : State) : Host.Outcome State Fault Refusal :=
  okIf (s.live && decide ((s.voq v).written + s.rowSize ≤ (s.voq v).wOff)) s
    (s.writeRows v ((s.voq v).written + s.rowSize))

/-- The open row of a queue is written, its unwritten units as 0 (R555). -/
def State.padRow (s : State) (v : Nat) : State :=
  let x := s.voq v
  if x.written < x.wOff then s.writeRows v ((x.wOff + s.rowSize - 1) / s.rowSize * s.rowSize) else s

/-- TAIL_ROW_TIMEOUT (R555): the open row has received no bytes for 100 µs. -/
def execTailRowTimeout (v : Nat) (s : State) : Host.Outcome State Fault Refusal :=
  okIf (s.live && decide ((s.voq v).written < (s.voq v).wOff ∧
    (s.voq v).wOff < (s.voq v).written + s.rowSize ∧ (s.voq v).fedAt + 100000 ≤ s.up)) s (s.padRow v)

/-! ### Read-back (R395, R554, R572) -/

/-- Channels of a group whose unit of a segment is missing: OUT, in RETRAIN, or in CATCHUP with the segment logged
(R567, R568). -/
def State.missing (s : State) (g seg : Nat) : List Nat :=
  (List.range 13).filter (fun i =>
    let st := s.get F.DT_MEM_CH_state (13 * g + i)
    let c := tget s.mem.chans (13 * g + i) memCh0
    st == 5 || st == 3 || (st == 4 && (c.overflow || c.log.contains seg)))

/-- Rows that bytes [a, b) of a segment touch. -/
def State.rowsOf (s : State) (seg a b : Nat) : List Nat :=
  let base := segSize * (seg % 524288)
  let r0 := (base + a) / s.rowSize
  let r1 := (base + b - 1) / s.rowSize
  (List.range (r1 + 1 - r0)).map (fun i => r0 + i)

/-- Is a row lost: two units missing, none of them its parity unit (R572)? -/
def rowLost (missing : List Nat) (row : Nat) : Bool :=
  decide (3 ≤ missing.length) || (decide (missing.length = 2) && !missing.contains (row % 13))

/-- Is some row that is written and holds bytes of a copy lost? -/
def State.tailLost (s : State) (x : Voq) (e : VPkt) : Bool :=
  let fin := min (e.off + e.pkt.a) x.written
  decide (e.off < fin) &&
  ((List.range ((fin - 1) / segSize + 1 - e.off / segSize)).map (fun i => e.off / segSize + i)).any (fun k =>
    let seg := x.segs.getD (k - x.segBase) 0
    let a := e.off - k * segSize
    let b := min segSize (fin - k * segSize)
    (s.rowsOf seg a b).any (rowLost (s.missing (seg / 524288) seg)))

/-- Bring one entry back on die (R395): staged data keeps its blocks, written data takes new ones; a lost one is
counted under BREACH. None when no blocks are free. -/
def State.readEntry (s : State) (x : Voq) (e : VPkt) : Option (State × Option VPkt) :=
  if s.tailLost x e then some ((s.lostCopy e.pkt).count cgDtMem 8, none)
  else if e.place = .staged then some (s, some { e with place := .die })
  else
    match s.takeAll false (blkReqs e.pkt.length) with
    | none => none
    | some r =>
      let b := r.2.body e.pkt.body
      let n := blksSize r.1
      some ((r.2.charge .shared n).setBody e.pkt.body { b with blks := r.1, charge := .shared },
        some { e with place := .die, pkt := { e.pkt with a := n } })

/-- Read the entries that end in a segment back, in order, as far as blocks go. -/
def State.readEntries (s : State) (x : Voq) (upto : Nat) : List VPkt → State × List VPkt
  | [] => (s, [])
  | e :: r =>
    if e.place ≠ .die ∧ e.off + e.pkt.a ≤ upto then
      match s.readEntry x e with
      | none => (s, e :: r)
      | some t =>
        let u := t.1.readEntries x upto r
        (u.1, t.2.toList ++ u.2)
    else
      let u := s.readEntries x upto r
      (u.1, e :: u.2)

/-- The spill threshold of a VOQ in bytes (R391, R407). -/
def State.spillAt (s : State) (v : Nat) : Nat := s.get F.DT_ADM_PROF_spill_kib (v % 8) * 1024

/-- The rows of a chain's segment that are written are read, each from the units in service (R395, R555, R558). -/
def State.segRead (s : State) (x : Voq) (k : Nat) : State :=
  let seg := x.segs.getD (k - x.segBase) 0
  let n := min segSize (x.written - k * segSize)
  if n = 0 then s
  else (s.rowsOf seg 0 n).foldl (fun (t : State) r => t.rowRead (seg / 524288) r (s.missing (seg / 524288) seg)) s

/-- Read the next tail segment of a queue back (R391, R395). -/
def State.readBack (s : State) (v : Nat) : State :=
  let x := s.voq v
  match x.q.find? (fun e => decide (e.place ≠ .die)) with
  | none => s
  | some e =>
    let k := (e.off + e.pkt.a - 1) / segSize
    let r := (s.segRead x k).readEntries x ((k + 1) * segSize) x.q
    (((r.1.setVoq v { x with q := r.2 }).trimChain v).closeChain v).count cgBuf 5

/-- TAIL_READBACK (R395). -/
def execTailReadback (v : Nat) (s : State) : Host.Outcome State Fault Refusal :=
  okIf (s.live && (s.voq v).spilling && decide (2 * voqDie (s.voq v) < s.spillAt v) &&
    decide (segSize ≤ s.freeShared ∧ 0 < voqTail (s.voq v))) s ((s.readBack v).voqSync v)

/-! ### Hold expiry (R397 to R400, R72) -/

/-- Take every copy of a VOQ away; its chain is freed and its balance returned. -/
def State.flushVoq (s : State) (v : Nat) : State :=
  let x := s.voq v
  let s1 := x.q.foldl (fun (t : State) e => t.external e.pkt) s
  (((s1.setVoq v { x with q := [] }).closeChain v).voqSync v)

/-- A copy that moves to the protect port (R398), with its new destination. -/
def movedTo (m l : Nat) (x : Pkt) : Pkt := { x with dm := m, dl := l, moved := true, ct := false, ret := none }

/-- Append a VOQ whole behind another (R398): open rows are written first, and the chain of segments follows the
target's. Copies moved before are flushed (R399). -/
def State.moveVoq (s : State) (v m l : Nat) : State :=
  let w := voqId m l (v % 8)
  let s0 := (s.voq v).q.foldl (fun (t : State) e =>
    if e.pkt.moved then t.external e.pkt else t.pktCount 0x11 e.pkt) s
  let s1 := (((s0.setVoq v { s0.voq v with q := (s0.voq v).q.filter (fun e => !e.pkt.moved) }).closeChain v).padRow v).padRow w
  let x := s1.voq v
  let y := s1.voq w
  let yEnd := (y.segBase + y.segs.length) * segSize
  let shift : Nat → Nat := fun o => o + yEnd - x.segBase * segSize
  let moved := x.q.map (fun e => { e with pkt := movedTo m l e.pkt, off := if e.place = .die then e.off else shift e.off })
  let e := y.segBase + y.segs.length + x.segs.length
  let y1 : Voq := { y with
    q := y.q ++ moved
    spilling := y.spilling || x.spilling
    segs := y.segs ++ x.segs
    fedAt := s1.up
    wOff := if x.segs = [] then y.wOff else e * segSize
    written := if x.segs = [] then y.written else e * segSize }
  let s2 := { s1 with buf := { s1.buf with segsUsed := x.segs.foldl (fun t k => tset t k w) s1.buf.segsUsed } }
  let x1 : Voq := { voq0 with balance := x.balance, reqOn := x.reqOn }
  if v = w then s else (((s2.setVoq v x1).setVoq w y1).voqSync v).voqSync w

/-- Append copies to a VOQ on die. -/
def State.appendVoq (s : State) (v : Nat) (l : List Pkt) : State :=
  let x := s.voq v
  (s.setVoq v { x with q := x.q ++ l.map (fun p => ⟨p, .die, 0⟩) }).voqSync v

/-- Take every packet of an egress queue that satisfies a test. -/
def State.takeQueue (s : State) (q : Nat) (p : Pkt → Bool) : List Pkt × State :=
  let l := s.equeue q
  (l.filter p, s.putQueue q (l.filter (fun x => !p x)))

/-- The protect port of a port (R409). -/
def State.protectPort (s : State) (l : Nat) : Nat × Nat :=
  (s.get F.DT_PORT_HOLD_protect_module l, s.get F.DT_PORT_HOLD_protect_lport l)

/-- The protect port of a port, when it may take its queues (R397). -/
def State.protectOf (s : State) (l : Nat) : Option (Nat × Nat) :=
  let d := s.protectPort l
  if s.flag F.DT_PORT_HOLD_protect_en l && s.viewUp d.1 d.2 then some d else none

/-- Is a copy moved or steered to a port flushed there: the port's own hold has expired (R397, R399)? -/
def State.flushedAt (s : State) (m l : Nat) : Bool := s.view m l == .down || s.view m l == .prot

/-- An egress packet of a port whose hold has expired goes to the protect port (R398, R399), where it is flushed when
that port's own hold has expired. -/
def State.protectPkt (s : State) (x : Pkt) (m l : Nat) : State :=
  if x.moved then s.external x
  else
    let s1 := s.pktCount 0x11 x
    let y := movedTo m l x
    if s.flushedAt m l then s1.external y
    else if m = s.myId then s1.enqueue y else s1.appendVoq (voqId m l y.cls) [y]

/-- The egress packets of a port that satisfy a test are moved or flushed. -/
def State.clearQueues (s : State) (l : Nat) (p : Nat → Bool) (dest : Option (Nat × Nat)) : State :=
  (tkeys s.sch.queues).foldl (fun (t : State) q =>
    if p q then
      let r := t.takeQueue q (fun x => decide (x.dl = l))
      r.1.foldl (fun (u : State) x => match dest with
        | some d => u.protectPkt x d.1 d.2
        | none => u.external x) r.2
    else t) s

/-- The VOQs of a port are moved or flushed. -/
def State.clearVoqs (s : State) (m l : Nat) (dest : Option (Nat × Nat)) : State :=
  (List.range 8).foldl (fun (t : State) c => match dest with
    | some d => t.moveVoq (voqId m l c) d.1 d.2
    | none => t.flushVoq (voqId m l c)) s

/-- `hold_ms` in force (R409). -/
def State.holdMs (s : State) (l : Nat) : Nat := min 1000 (s.get F.DT_PORT_HOLD_hold_ms l)

/-- Has the hold of a port lasted `hold_ms` (R397, R400)? -/
def State.holdOver (s : State) (m l : Nat) : Bool :=
  decide (s.view m l = .hold ∧ tget s.buf.holdAt (viewKey m l) 0 + s.holdMs l * 1000000 ≤ s.up)

/-- HOLD_EXPIRY (R397 to R400). -/
def execHoldExpiry (m l : Nat) (s : State) : Host.Outcome State Fault Refusal :=
  let dest := s.protectOf l
  let s1 := (s.setView m l (if dest.isSome then .prot else .down)).count cgBuf 10
  let s2 := (s1.raise F.DT_BUF_EVT_hold_expired).clearVoqs m l dest
  okIf (s.live && s.holdOver m l) s
    (if m = s.myId then s2.clearQueues l (fun _ => true) dest else s2)

/-- PAUSE_HOLD_EXPIRY (R72): in DRAIN and QUIESCED, the queues of a port that a class holds which has been paused for longer
than `hold_ms`. -/
def execPauseHoldExpiry (l c : Nat) (s : State) : Host.Outcome State Fault Refusal :=
  okIf (decide (s.mode = DRAIN ∨ s.mode = QUIESCED) && decide (l < 256 ∧ c < 8) &&
      bitOf (s.get F.TF_LPORT_STAT_rx_paused l) c &&
      decide ((s.lp l).since.getD c 0 + s.holdMs l * 1000000 < s.up)) s
    (s.clearQueues l (fun q => decide (q % 4 = s.qmap l c)) (s.protectOf l))

/-- A packet reaches this module's egress side (R397, R413): a port whose hold has expired treats it as it did its
queues. -/
def State.arriveEgress (s : State) (x : Pkt) : State :=
  match s.view s.myId x.dl with
  | .down => s.external x
  | .prot => s.protectPkt x (s.protectPort x.dl).1 (s.protectPort x.dl).2
  | _ => s.enqueue x

/-! ### Service (R437, R443) -/

/-- A source stream by destination and number. -/
def State.txs (s : State) (m st : Nat) : TxStream := tget s.fab.tx (16 * m + st) txStream0

/-- Store a source stream. -/
def State.setTxs (s : State) (m st : Nat) (x : TxStream) : State :=
  { s with fab := { s.fab with tx := tput s.fab.tx (16 * m + st) x txStream0 } }

/-- May a VOQ be served (R388, R437): its head is on die, and whole? -/
def State.voqElig (s : State) (v : Nat) : Bool :=
  match (s.voq v).q with
  | [] => false
  | e :: _ => decide (e.place = .die) && (s.body e.pkt.body).complete && decide (creditCost e.pkt.length ≤ (s.voq v).balance) &&
      s.viewUp (v / 2048) (v % 2048 / 8)

/-- The next VOQ in round robin (R437). -/
def State.nextVoq (s : State) : Option Nat :=
  let ks := (tkeys s.buf.voqs).filter s.voqElig
  (ks.find? (fun k => decide (s.sch.rrVoq < k))).orElse (fun _ => ks.head?)

/-- Does another copy of a tagged packet wait in a VOQ (R796)? -/
def State.tracedLeft (s : State) (t : Trace) : Bool :=
  s.buf.voqs.any (fun e => e.2.q.any (fun x => match x.pkt.tr with
    | some u => u.seq == t.seq && u.pipe == t.pipe
    | none => false))

/-- Serve a VOQ's head packet (R437, R443, R475, R796). -/
def State.serveVoq (s : State) (v : Nat) (x : Pkt) (rest : List VPkt) : State :=
  let q := s.voq v
  let s1 := s.setVoq v { q with q := rest, balance := q.balance - creditCost x.length }
  let s2 := { s1 with sch := { s1.sch with rrVoq := v } }
  let s3 := match x.tr with
    | some t => if s2.tracedLeft t then s2
      else s2.traceIn t x.inLport x.dm x.dl x.cls x.tag x.arrival x.multiHit 0 0 s.time
    | none => s2
  let s4 := if x.dm = s.myId then
      s3.arriveEgress { x with tr := x.tr.map (fun t => { t with t5 := s.time }) }
    else s3.setTxs x.dm x.cls { s3.txs x.dm x.cls with pkts := (s3.txs x.dm x.cls).pkts ++ [x] }
  s4.voqSync v

/-- VOQ_SERVICE (R437, R443, R475). -/
def execVoqService (s : State) : Host.Outcome State Fault Refusal :=
  match (if s.live then s.nextVoq else none) with
  | none => ok s
  | some v => match (s.voq v).q with
    | [] => ok s
    | e :: rest => ok (s.serveVoq v e.pkt rest)

/-- CT_HOLDOFF_EXPIRY (R390): the pair has forwarded by store-and-forward for 1 ms. -/
def execCtHoldoffExpiry (l c : Nat) (s : State) : Host.Outcome State Fault Refusal :=
  let k := l * 8 + c
  okIf (s.live && thas s.buf.ctOff k && decide (tget s.buf.ctOff k 0 + 1000000 ≤ s.up)) s
    { s with buf := { s.buf with ctOff := tdel s.buf.ctOff k } }

end Sys2Proof.Machine
end

