-- ==== Sys2Proof/Machine/Ingress.lean ====
section
/-! DEFINITION. Ingress pipelines: the walk, the lookups and their chain, learning, sampling, and the units emitted to
DT (R93, R167 to R219, R239, R252 to R254, R268, R291 to R293, R307, R315 to R318, R334 to R336, R349, R350, R357 to R359,
R794 to R797). -/

namespace Sys2Proof.Machine

/-! ### Uncorrectable errors met by a lookup (R252 to R254, R307, R349, R350) -/

/-- The bank of the uncorrectable error that a packet's reads meet, when it is of a kind: 0 route node, 1 FWD entry, 2
home bucket of the exact-match key, 3 tree node, 4 associative entry, 5 RW or ENCAP entry, 6 one copy of a replicated node, 7
second place of the exact-match key. The operand is kind + 8 × bank + 8192 × place: the place is the prefix length at which a
route node stands, or which of the matches that share the winning priority has the parity error. -/
def badBank (bad : Option Nat) (kind : Nat) : Option Nat :=
  bad.bind (fun x => if x % 8 = kind then some (x / 8 % 1024) else none)

/-- The place of that error. -/
def badPlace (bad : Option Nat) : Nat := bad.elim 0 (· / 8192)

/-- Read what can be poisoned: whether it is, and the state in which an error met now has poisoned it. -/
def State.readPoison (s : State) (bad : Option Nat) (kind key : Nat) : Bool × State :=
  match badBank bad kind with
  | some b => (true, (s.setPoison kind key).bankFault b ([pkRoute, pkFwd, pkRw].contains kind))
  | none => (s.poisoned kind key, s)

/-- The copy that a pipeline reads (R246, R253): its own, or the next that is not poisoned; none when all 64 are, at most n
tried. -/
def State.copyFor (s : State) (top j : Nat) : Nat → Option Nat
  | 0 => none
  | n + 1 => if s.poisoned pkCopy (64 * top + j) then s.copyFor top ((j + 1) % 64) n else some j

/-- A pipeline reads the top nodes of a VRF and family (R246, R253): an error in its copy poisons it, and the next copy is read.
With all 64 poisoned there is nothing to read, and the answer is true. -/
def State.readCopy (s : State) (bad : Option Nat) (top j : Nat) : Bool × State :=
  let s1 := match s.copyFor top j 64, badBank bad 6 with
    | some c, some b => ((s.setPoison pkCopy (64 * top + c)).bankFault b true).raise F.TF_ROUTE_EVT_poisoned
    | _, _ => s
  ((s1.copyFor top j 64).isNone, s1)

/-- What the lookups of a packet have found: a redirect to the slow path (0 route, 1 exact match, 2 classification), the
result of the exact-match entry, the route result, the tree and associative results, `multi_hit`, the VRF of a miss, and
words 9 and 10 of the trace record. -/
structure Look where
  slow : Option Nat
  em : Option Nat
  route : Option Nat
  tree : Option Nat
  assoc : Option Nat
  multi : Bool
  vrf : Nat
  w9 : Nat
  w10 : Nat
  deriving DecidableEq, Repr

/-- Nothing looked up. -/
def look0 (vrf : Nat) : Look := ⟨none, none, none, none, none, false, vrf, 0, 0⟩

/-- The first redirect stands. -/
def Look.slowBy (k : Look) (n : Nat) : Look := { k with slow := some (k.slow.getD n) }

/-- The exact-match key of a template's bytes. -/
def emKeyOf (table : Nat) (key : List Byte) : Nat :=
  emKey table (key.length - 1) (beNat ((key ++ List.replicate 16 0).take 16))

/-- An error in the bucket of the second place, as one of an exact-match bucket. -/
def secondBad (bad : Option Nat) : Option Nat := (badBank bad 7).map (fun b => pkEm + 8 * b)

/-- The destination lookup (R218, R268, R269, R307). -/
def State.lookEm (s : State) (bad : Option Nat) (key : Nat) (k : Look) : Look × State :=
  let b := emB12 s.seedA s.seedB key
  let q := s.readPoison bad pkEm b.1
  let r := q.2.readPoison (secondBad bad) pkEm (emSecond s.act.em b.1 b.2)
  if q.1 || r.1 then (k.slowBy 1, r.2.raise F.TF_EM_EVT_poisoned)
  else
    match tget? s.act.em.ents key with
    | some e => ({ k with
        em := some e.result
        vrf := if bitOf e.result 33 then bits e.result 34 16 else k.vrf
        w9 := k.w9 + 512 }, r.2.count cgEm 0)
    | none => (k, r.2.count cgEm 1)

/-- Read the nodes on the way of an address (R252): an error poisons the node at the place that the operand names, and every
lookup whose way passes a poisoned node is redirected. -/
def State.readRoute (s : State) (bad : Option Nat) (vrf fam addr : Nat) : Bool × State :=
  let r := s.readPoison bad pkRoute (routeKey vrf fam (min (badPlace bad) (famBits fam)) addr)
  (r.1 || s.tbl.poison.any (fun p => p.1 == pkRoute && nodeOnPath p.2 vrf fam addr), r.2)

/-- The route lookup (R216, R246, R252, R253) of a pipeline that reads copy j. -/
def State.lookRoute (s : State) (bad : Option Nat) (j : Nat) (addr : List Byte) (k : Look) : Look × State :=
  let fam := if addr.length = 4 then 0 else 1
  let c := s.readCopy bad (2 * k.vrf + fam) j
  let r := c.2.readRoute bad k.vrf fam (beNat addr)
  if c.1 || r.1 then (k.slowBy 0, r.2.raise F.TF_ROUTE_EVT_poisoned)
  else
    match routeLpm s.act.routes k.vrf fam (beNat addr) (famBits fam) with
    | some m => ({ k with route := some m.2, w9 := k.w9 + 256 }, r.2.count cgRoute 0)
    | none => (k, r.2)

/-- The route result in force before any redirect (R218). -/
def Look.result (k : Look) : Option Nat :=
  match k.em with
  | some e => if bitOf e 32 then some (e % 2 ^ 32) else k.route
  | none => k.route

/-- The ingress tree of a template's profile, if it is usable (R319, R353). -/
def State.ingressTree (s : State) (t : Nat) : Option (Nat × Tree) :=
  let n := bits (profOf s.act R.TF_CLASS_PROF t).toNat 0 8
  match tget? s.act.trees n with
  | some x => if x.egress then none else some (n, x)
  | none => none

/-- Tree classification (R320, R324, R349). -/
def State.lookTree (s : State) (bad : Option Nat) (t : Nat) (key : List Byte) (k : Look) : Look × State :=
  match s.ingressTree t with
  | none => (k, (s.count cgClass 9).raise F.TF_CLASS_EVT_no_tree)
  | some (n, x) =>
    let r := s.readPoison bad pkTree n
    if r.1 then (k.slowBy 2, r.2.raise F.TF_CLASS_EVT_poisoned)
    else
      match treeWinner s.act.rules n (treeKey x key (rrTag (k.result.getD 0))) with
      | some w => ({ k with tree := some w.2.result, w9 := k.w9 + 1024 },
          (r.2.count cgClass 0).countBacked 17 w.1 1 s.time)
      | none => ({ k with tree := some x.default }, (r.2.count cgClass 0).count cgClass 1)

/-- The associative search (R334 to R336, R350): of the matches that share the winning priority, the one whose parity fails is
excluded. -/
def State.lookAssoc (s : State) (bad : Option Nat) (t : Nat) (key : List Byte) (k : Look) : Look × State :=
  let g := assoc160 (profOf s.act R.TF_ASSOC_GMASK0 t) (profOf s.act R.TF_ASSOC_GMASK1 t)
    (profOf s.act R.TF_ASSOC_GMASK2 t)
  let s1 := s.count cgClass 5
  match assocSearch s.tbl.assoc (assocKeyNat key) g (profOf s.act R.TF_ASSOC_BANKSEL t).toNat with
  | none => (k, s1)
  | some (w, multi) =>
    if (badBank bad 4).isSome then
      let hits := (assocHits s.tbl.assoc (assocKeyNat key) g (profOf s.act R.TF_ASSOC_BANKSEL t).toNat).filter
        (fun p => decide (p.2.prio = w.2.prio))
      let x := hits.getD (badPlace bad % hits.length) w
      (k.slowBy 2, s1.setAssoc (tset s1.tbl.assoc x.1 { x.2 with excluded := true }))
    else
      let s2 := s1.count cgClass 6
      ({ k with
        assoc := some w.2.result
        multi := multi
        w9 := k.w9 + 2048
        w10 := k.w10 + w.1 * 2 ^ 22 }, if multi then s2.count cgClass 7 else s2)

/-- The lookups of a packet under key template t (R186 to R188), in a pipeline that reads copy cp (R246). -/
def State.lookups (s : State) (bad : Option Nat) (cp t : Nat) (fv : Tab Byte) (vrf : Nat) : Look × State :=
  let w := tget s.act.parse.tmpl t 0
  let d (i : Nat) : List Byte := keyBytes fv (tmplWord w i)
  let w0 := tmplWord w 0
  let a := if bitOf w0 23 then s.lookEm bad (emKeyOf (bits w0 26 4) (d 2)) (look0 vrf) else (look0 vrf, s)
  let b := if bitOf w0 22 then a.2.lookRoute bad cp (d 1) a.1 else a
  let c := if bitOf w0 24 then b.2.lookTree bad t (d 3) b.1 else b
  if bitOf w0 25 then c.2.lookAssoc bad t (d 4) c.1 else c

/-- The merged policy result (R315, R318). -/
def Look.policy (k : Look) : Nat :=
  match k.tree, k.assoc with
  | some t, some a => prMerge t a
  | some t, none => t
  | none, some a => a
  | none, none => 0

/-! ### Resolution (R214 to R219, R315) -/

/-- What becomes of a packet in the pipeline: sent toward a port with an RW index, discarded, or punted to a queue for a
reason of R651. -/
inductive InFate where
  | go (dm dl rw : Nat)
  | drop
  | punt (q code : Nat)
  deriving DecidableEq, Repr

/-- A resolution: fate, the class after the FWD level, bits for words 9 and 10, and a redirect met at the FWD entry. -/
structure Resolved where
  fate : InFate
  cls : Nat
  w9 : Nat
  w10 : Nat
  slow : Bool
  deriving DecidableEq, Repr

/-- The slot of a group that a packet's hashes select (R190). -/
def hashSlot (g : Group) (h : Nat × Nat) : Nat := slotIndex (if g.resilient then h.2 else h.1) g.s

/-- The trace bits of a group read. -/
def groupBits (slot : Nat) : Nat := 4096 + slot * 8192

/-- Is member m of a LAG group a port of this module that is not UP (R201)? -/
def State.memberDown (s : State) (g : Group) (m : Nat) : Bool :=
  let e := gEntry g m
  e / 256 % 256 == s.myId && !s.portUp (e % 256)

/-- The forwarding half of a next hop (R201, R219, R231, R254). A FWD entry whose group has since been deleted, or is no LAG group
any more, discards the packet (DESIGN CHOICE, log 136). -/
def State.resolveFwd (s : State) (bad : Option Nat) (i cls : Nat) (h : Nat × Nat) (w9 : Nat) : Resolved × State :=
  let r := s.readPoison bad pkFwd i
  match tget? s.act.nh i with
  | none => (⟨.drop, cls, w9, i, false⟩, s)
  | some e =>
    if isFwd s.act i = false then (⟨.drop, cls, w9, i, false⟩, s)
    else if r.1 then (⟨.drop, cls, w9, i, true⟩, r.2.raise F.TF_ROUTE_EVT_poisoned)
    else
      let c := if fwClassEn e then fwClass e else cls
      if fwKind e = 0 then (⟨.go (fwModule e) (fwLport e) (fwRw e), c, w9, i, false⟩, r.2)
      else if fwKind e = 1 then
        match tget? s.act.groups (fwLag e) with
        | none => (⟨.drop, c, w9, i, false⟩, r.2)
        | some g =>
          if !g.lag then (⟨.drop, c, w9, i, false⟩, r.2) else
          let slot := hashSlot g h
          let m := gEntry g (gSelect g slot (s.memberDown g))
          (⟨.go (m / 256 % 256) (m % 256) (fwRw e), c, w9 + groupBits slot, i, false⟩, r.2)
      else if fwKind e = 2 then (⟨.punt (fwPuntQ e) 3, c, w9, i, false⟩, r.2)
      else (⟨.drop, c, w9, i, false⟩, r.2)

/-- A route result resolves through its levels (R214, R219, R224); a group that is undefined, or a LAG group, discards the packet
(DESIGN CHOICE, log 136). -/
def State.resolveResult (s : State) (bad : Option Nat) (res cls : Nat) (h : Nat × Nat) : Resolved × State :=
  if rrKind res = 0 then s.resolveFwd bad (rrTarget res) cls h 0
  else if rrKind res = 1 then
    match tget? s.act.groups (rrTarget res % 65536) with
    | none => (⟨.drop, cls, 0, 0, false⟩, s)
    | some g =>
      if g.lag then (⟨.drop, cls, 0, 0, false⟩, s) else
      let slot := hashSlot g h
      s.resolveFwd bad (gEntry g (gSelect g slot (s.memberDown g)) % 2 ^ 22) cls h (groupBits slot)
  else if rrKind res = 2 then (⟨.punt (rrTarget res % 64) 2, cls, 0, 0, false⟩, s)
  else (⟨.drop, cls, 0, 0, false⟩, s)

/-- The miss action of a VRF (R217, R221, R222). -/
def State.missFate (s : State) (vrf : Nat) : InFate :=
  match tget? s.act.vrf vrf with
  | some m => if m.punt then .punt m.missQ 4 else .drop
  | none => .drop

/-- Forwarding and policy together (R217, R315, R316); the class replaced by the policy result is final. -/
def State.decide' (s : State) (bad : Option Nat) (k : Look) (cls : Nat) (h : Nat × Nat) : Resolved × State :=
  let p := k.policy
  let fin (r : Resolved × State) : Resolved × State :=
    ({ r.1 with cls := if prClassEn p then prClass p else r.1.cls }, r.2)
  if prAction p = 1 then fin (⟨.drop, cls, 0, 0, false⟩, s)
  else if prAction p = 2 then fin (⟨.punt (prTarget p % 64) 1, cls, 0, 0, false⟩, s)
  else if prAction p = 3 then fin (s.resolveFwd bad (prTarget p) cls h 0)
  else
    match k.result with
    | some res => fin (s.resolveResult bad res cls h)
    | none => fin (⟨s.missFate k.vrf, cls, 0, 0, false⟩, s)

/-- The counts of a decision that acts (R217, R315). -/
def State.countFate (s : State) (k : Look) (f : InFate) : State :=
  let p := k.policy
  if prAction p = 1 then s.count cgClass 2
  else if prAction p = 2 then s.count cgClass 3
  else if prAction p = 3 then s.count cgClass 4
  else
    match k.result with
    | some _ => s
    | none => match f with
      | .punt _ _ => s.count cgRoute 2
      | _ => s.count cgRoute 1

/-! ### Learning (R290 to R293) -/

/-- The kind of record that a source lookup makes (R291). -/
def State.sourceKind (s : State) (t l key : Nat) : Option Nat × State :=
  if s.emPoisoned s.act key then (none, (s.count cgEm 9).raise F.TF_EM_EVT_poisoned)
  else
    match tget? s.act.em.ents key with
    | none => (some 0, s)
    | some e =>
      let same := decide (s.entryLoc t e = some (s.myId, l))
      if !e.learned then (none, if same then s else s.count cgEm 9)
      else if !same then (if s.flag F.TF_EM_TABLE_move_en t then some 1 else none, s)
      else (if refreshTicks (s.get F.TF_EM_TABLE_age_limit t) (s.get F.TF_EM_TABLE_refresh_ticks t) ≤
          emAge s.ageTick e.stamp then some 2 else none, s)

/-- Was an equal record sent within 256 µs, among the pipeline's last 64 (R293)? -/
def sentBefore (l : List LearnRec) (r : LearnRec) (now : Nat) : Bool :=
  l.any (fun x => x.table == r.table && x.keyLen == r.keyLen && x.key == r.key && x.kind == r.kind &&
    x.lport == r.lport && decide (now < x.time + 256000))

/-- A pipeline sends a learning record (R293, R294). -/
def State.sendRecord (s : State) (j : Nat) (r : LearnRec) : State :=
  let l := tget s.tbl.sent j []
  if sentBefore l r s.time then s
  else { s with tbl := { s.tbl with
    sent := tset s.tbl.sent j (if l.length < 64 then l ++ [r] else l.drop 1 ++ [r])
    learnIn := s.tbl.learnIn ++ [r] } }

/-- The source lookup of a template for a learning table (R290, R291, R294). -/
def State.learnFrom (s : State) (j t l : Nat) (src : List Byte) (act : Bool) : State :=
  let n := src.length - 1
  let r := s.sourceKind t l (emKeyOf t src)
  match r.1 with
  | some kind =>
    if act then r.2.sendRecord j ⟨t, kind, s.myId, l, n, beNat ((src ++ List.replicate 8 0).take 8), 0, s.time⟩ else r.2
  | none => r.2

/-! ### Units (R357 to R359) -/

/-- Bytes that a check covers: the words in order, each from its highest byte. -/
def wordBytes (ws : List Word) : List Byte := ws.flatMap (fun w => beBytes 8 w.toNat)

/-- One step of the CRC-16 with polynomial 0x1021. -/
def crc16Byte (c : Nat) (b : Byte) : Nat :=
  (List.range 8).foldl (fun x _ => (if 32768 ≤ x then (x * 2) ^^^ 0x11021 else x * 2)) (c ^^^ (b.toNat * 256))

/-- CRC-16, polynomial 0x1021, initial value 0xFFFF (R357). -/
def crc16 (l : List Byte) : Nat := l.foldl crc16Byte 0xFFFF

/-- `seq_chk` of word 0 (R357). -/
def seqChk (w0 : Nat) : Nat := crc8 (beBytes 5 (w0 % 2 ^ 40))

/-- `hdr_crc` of a header whose word 2 carries it in bits [63:48] (R357, R511). -/
def hdrCrc (w0 w1 w2 w3 : Word) : Nat := crc16 (wordBytes [w0, w1, BitVec.ofNat 64 (w2.toNat % 2 ^ 48), w3])

/-- The fields of a result header. -/
structure ResHdr where
  seq : Nat
  lport : Nat
  kind : Nat
  reason : Nat
  cls : Nat
  mc : Option Nat
  dm : Nat
  dl : Nat
  policer : Nat
  polEn : Bool
  mirror : Nat
  mirEn : Bool
  sample : Bool
  multi : Bool
  length : Nat
  tag : Nat
  rw : Nat
  speed : Nat
  arrival : Nat
  deriving DecidableEq, Repr

/-- A unit with its header built (R357). -/
def unitOf (p : Nat) (b : Bool) (kind : UnitKind) (h : ResHdr) (bytes : List Byte) (tr : Option Trace) : IdlUnit :=
  let a := h.seq % 2 ^ 32 + h.lport * 2 ^ 32
  let w0 := BitVec.ofNat 64 (a + seqChk a * 2 ^ 40 + h.kind * 2 ^ 48 + h.reason * 2 ^ 50 + h.cls * 2 ^ 54 +
    b2n h.mc.isSome * 2 ^ 57)
  let w1 := BitVec.ofNat 64 (h.dm + h.dl * 2 ^ 8 + h.mc.getD 0 * 2 ^ 16 + h.policer * 2 ^ 32 + b2n h.polEn * 2 ^ 50 +
    h.mirror * 2 ^ 51 + b2n h.mirEn * 2 ^ 55 + b2n h.sample * 2 ^ 56 + b2n h.multi * 2 ^ 57)
  let x := h.length + h.tag * 2 ^ 14 + h.rw * 2 ^ 22 + h.speed * 2 ^ 44
  let w3 := BitVec.ofNat 64 h.arrival
  ⟨p, b, kind, w0, w1, BitVec.ofNat 64 (x + hdrCrc w0 w1 (BitVec.ofNat 64 x) w3 * 2 ^ 48), w3, bytes, tr⟩

/-- A unit leaves its pipeline for DT (R358). -/
def State.emitUnit (s : State) (u : IdlUnit) : State := { s with idl := { s.idl with up := s.idl.up ++ [u] } }

/-- The flat number of the pipeline that serves a slot: the slot's, or the spare's (R61, R124). -/
def State.servingPipe (s : State) (p : Nat) (b : Bool) : Nat :=
  if bitOf (s.get F.TF_SPARE_STAT_in_failed (p / 2)) (pipePos p b) then 5 * (p / 2) + 4 else pipeIdx p b

/-- A resequencer. -/
def State.reseq (s : State) (p : Nat) : Reseq := tget s.buf.reseq p reseq0

/-- Store a resequencer. -/
def State.setReseq (s : State) (p : Nat) (x : Reseq) : State :=
  { s with buf := { s.buf with reseq := tput s.buf.reseq p x reseq0 } }

/-- Does DT withhold the IDL credit of a pipeline (R367, R371)? -/
def State.creditHeld (s : State) (p : Nat) (b : Bool) : Bool :=
  let r := s.reseq p
  (if b then r.holdB else r.holdA) || r.waiting.any (fun u => u.pipeB == b)

/-- The FIFO of a pipeline. -/
def pipeFifo (x : PhysPort) (b : Bool) : List RxFrame := if b then x.fifoB else x.fifoA

/-- The FIFO without its oldest frame. -/
def popFifo (x : PhysPort) (b : Bool) : PhysPort :=
  if b then { x with fifoB := x.fifoB.drop 1 } else { x with fifoA := x.fifoA.drop 1 }

/-- May the pipeline emit? -/
def State.pipeRuns (s : State) (p : Nat) (b : Bool) : Bool :=
  s.live && decide (p < 32) && s.inPipeOk p b && !s.creditHeld p b

/-! ### INGRESS_PROCESS -/

/-- What the pipeline decided about a frame: its fate and the header's other fields. -/
structure Verdict where
  fate : InFate
  slow : Option Nat
  cls : Nat
  tag : Nat
  policy : Nat
  multi : Bool
  w9 : Nat
  w10 : Nat
  deriving DecidableEq, Repr

/-- A verdict without lookups. -/
def verdict0 (f : InFate) (cls : Nat) : Verdict := ⟨f, none, cls, 0, 0, false, 0, 0⟩

/-- The verdict on a frame after a parse exception (R181 to R183); it is counted when the frame is not marked (R93). -/
def State.parseExc (s : State) (f : RxFrame) (e : PExc) (cls : Nat) : Verdict × State :=
  if f.marked then (verdict0 .drop cls, s)
  else
    let s1 := s.count cgParse (pexcIdx e)
    if s.flag F.TF_PARSE_PORT_exc_action f.lport then
      (verdict0 (.punt (s.get F.TF_PARSE_PORT_punt_q f.lport) 5) cls, s1.count cgParse 7)
    else (verdict0 .drop cls, s1.count cgParse 6)

/-- The route tag of a verdict (R218, R224): the spec gives none to the result that a REDIRECT puts in place, so it is a
free value there (log 41). -/
def State.tagOf (s : State) (k : Look) : Nat × State :=
  if prAction k.policy = 3 then ((Config.free s.fresh.1) % 256, s.fresh.2) else (rrTag (k.result.getD 0), s)

/-- The verdict on a frame under its key template (R187 to R219, R291, R315 to R318). -/
def State.judge (s : State) (bad : Option Nat) (j cp t : Nat) (f : RxFrame) (fv : Tab Byte) (vrf cls : Nat) :
    Verdict × State :=
  let w := tget s.act.parse.tmpl t 0
  let w0 := tmplWord w 0
  let em := bits w0 26 4
  let a := s.lookups bad cp t fv vrf
  let b := a.2.decide' bad a.1 cls (packetHashes s.act.parse fv w)
  let g := b.2.tagOf a.1
  let s1 := if s.learnTable em then g.2.learnFrom j em f.lport (keyBytes fv (tmplWord w 1)) (!f.marked) else g.2
  let slow := if b.1.slow then some (a.1.slow.getD 0) else a.1.slow
  let s2 := if f.marked then s1
    else match slow with
      | some 0 => s1.count cgRoute 3
      | some 1 => s1.count cgEm 8
      | some _ => s1.count cgClass 8
      | none => s1.countFate a.1 b.1.fate
  (⟨b.1.fate, slow, b.1.cls, g.1, a.1.policy, a.1.multi, a.1.w9 + b.1.w9, a.1.w10 + b.1.w10⟩, s2)

/-- Walk, template and lookups of a frame (R168, R180 to R187). -/
def State.examine (s : State) (bad : Option Nat) (j cp : Nat) (f : RxFrame) : Verdict × State :=
  let vrf := s.get F.TF_PARSE_PORT_default_vrf f.lport
  let cls := s.get F.TF_PARSE_PORT_default_class f.lport
  let w := parseWalk s.act.parse f.bytes (s.get F.TF_PARSE_PORT_start_state f.lport) f.lport vrf cls f.marked
  let s1 := if w.cut then s.count cgParse 5 else s
  match w.exc with
  | some e => s1.parseExc f e cls
  | none =>
    match (List.range 16).find? (fun i => tmplApplies (tget s.act.parse.tmpl i 0) w.stack) with
    | none => s1.parseExc f .noTemplate cls
    | some t => s1.judge bad j cp t f w.fv vrf cls

/-- The punted frame of a verdict (R650). -/
def puntOf (f : RxFrame) (v : Verdict) (code : Nat) : PuntFrame :=
  ⟨f.bytes, v.multi, f.lport, 0, v.cls, false, code, v.tag, f.time⟩

/-- What a verdict sends to the host, and the disposition reason of R357 that DT is told; none for a packet (R93, R182,
R252, R652). -/
def State.dispose (s : State) (f : RxFrame) (v : Verdict) : Option Nat × State :=
  if f.marked then (some 0, s)
  else
    match v.slow, v.fate with
    | some _, _ =>
      let q := s.get F.TF_ROUTE_CTL_slow_q
      (some (if s.puntRoom q f.bytes.length then 3 else 4), s.punt q (puntOf f v 6))
    | none, .punt q code => (some 2, s.punt q (puntOf f v code))
    | none, .drop => (some 1, s)
    | none, .go _ _ _ => (none, s)

/-- Is the frame tagged for tracing (R794, R795)? By a draw, for a frame without a mark, or by its policy result. -/
def State.tagDraw (s : State) (j : Nat) (f : RxFrame) (v : Verdict) : Bool × State :=
  let r := if f.marked then (false, s) else s.draw j
  (r.1 || prSample v.policy, r.2)

/-- Destination of a verdict: module, port and RW index. -/
def fateDest : InFate → Nat × Nat × Nat
  | .go dm dl rw => (dm, dl, rw)
  | _ => (0, 0, 0)

/-- The result header of a frame (R357). No rule of the spec says which lookup names a replication list; the list is an
operand of the command (log 42). -/
def State.resHdr (s : State) (f : RxFrame) (v : Verdict) (reason mc : Option Nat) (tagged : Bool) : ResHdr :=
  let d := fateDest v.fate
  { seq := f.seq, lport := f.lport, kind := if reason.isSome then 1 else 0, reason := reason.getD 0, cls := v.cls
    mc := if reason.isSome then none else mc.map (· % 65536)
    dm := d.1, dl := d.2.1, policer := prPolicer v.policy, polEn := prPolicerEn v.policy
    mirror := prMirror v.policy, mirEn := prMirrorEn v.policy && !reason.isSome, sample := tagged, multi := v.multi
    length := rxLen f, tag := v.tag, rw := d.2.2, speed := portSpeed (s.breakout (f.lport / 8)), arrival := f.time }

/-- The trace of a tagged frame (R797). -/
def State.traceOf (s : State) (j : Nat) (f : RxFrame) (v : Verdict) : Trace :=
  { trace0 with
    forced := prSample v.policy, pipe := j, seq := f.seq, emitted := s.time, w9 := v.w9
    w10 := v.w10 + prPolicer v.policy * 2 ^ 41 }

/-- A pipeline treats a frame and emits its unit (R93, R168, R183, R357, R359, R796). -/
def State.processFrame (s : State) (p : Nat) (b : Bool) (bad mc : Option Nat) (f : RxFrame) : State :=
  let j := s.servingPipe p b
  let v := s.examine bad j (4 * (p / 2) + pipePos p b) f
  let d := v.2.dispose f v.1
  let t := d.2.tagDraw j f v.1
  let h := t.2.resHdr f v.1 d.1 mc t.1
  let tr := t.2.traceOf j f v.1
  match d.1 with
  | some r =>
    let s1 := t.2.emitUnit (unitOf p b .disposition h [] none)
    if t.1 then s1.traceIn tr f.lport h.dm h.dl v.1.cls v.1.tag f.time v.1.multi 2 r 0 else s1
  | none => t.2.emitUnit (unitOf p b .packet h f.bytes (if t.1 then some tr else none))

/-- INGRESS_PROCESS (R168, R239, R357, R359): the pipeline takes the oldest frame of its FIFO. -/
def execIngressProcess (p : Nat) (pipeB : Bool) (bad mc : Option Nat) (s : State) :
    Host.Outcome State Fault Refusal :=
  match pipeFifo (s.phys p) pipeB with
  | [] => ok s
  | f :: _ =>
    okIf (s.pipeRuns p pipeB) s
      (((s.setPhys p (popFifo (s.phys p) pipeB)).passFrames p).processFrame p pipeB bad mc f)

/-- The finished value of a pipeline (R359). -/
def finishedValue (x : PhysPort) (b : Bool) : Nat :=
  match pipeFifo x b with
  | f :: _ => (f.seq + 2 ^ 32 - 1) % 2 ^ 32
  | [] => if x.anySeq then (x.seq + 2 ^ 32 - 1) % 2 ^ 32 else 0xFFFFFFFF

/-- PROGRESS_UNIT (R359). -/
def execProgressUnit (p : Nat) (pipeB : Bool) (s : State) : Host.Outcome State Fault Refusal :=
  let h : ResHdr := ⟨finishedValue (s.phys p) pipeB, 8 * p, 2, 0, 0, none, 0, 0, 0, false, 0, false, false, false, 0, 0, 0,
    0, 0⟩
  okIf (s.pipeRuns p pipeB) s (s.emitUnit (unitOf p pipeB .progress h [] none))

end Sys2Proof.Machine
end

