-- ==== Sys2Proof/Machine/Admit.lean ====
section
/-! DEFINITION. Policers and admission: copies, the decision on each, commit, and the admission loop (R48, R51, R52, R374
to R386, R391, R392, R397 to R403, R431 to R433, R536). -/

namespace Sys2Proof.Machine

/-! ### Policers (R431 to R435) -/

/-- Colours (R432). -/
def green : Nat := 0
def yellow : Nat := 1
def red : Nat := 2

/-- A policer colours n bits (R432): the colour and the policer afterwards. -/
def polColour (x : Policer) (n : Nat) : Nat × Policer :=
  if polSr x.w then
    if n ≤ x.b0 then (green, { x with b0 := x.b0 - n })
    else if n ≤ x.b1 then (yellow, { x with b1 := x.b1 - n })
    else (red, x)
  else
    if x.b1 < n then (red, x)
    else if x.b0 < n then (yellow, { x with b1 := x.b1 - n })
    else (green, { x with b0 := x.b0 - n, b1 := x.b1 - n })

/-- A packet consults a policer (R432, R433, R435, R451): a disabled one colours it green and is not charged. -/
def State.police (s : State) (i len arrival : Nat) : Nat × State :=
  let x := tget s.sch.pols i policer0
  let n := 8 * ((len : Int) + polOvh x.w).toNat
  let r := if polEnable x.w then polColour x n else (green, x)
  let s1 := if polEnable x.w then { s with sch := { s.sch with pols := tset s.sch.pols i r.2 } } else s
  (r.1, (s1.count cgSched (5 + r.1)).countBacked 16 (i * 3 + r.1) 1 arrival)

/-- The policer of a packet (R317, R431); none leaves it green. -/
def State.policerOf (s : State) (named : Option Nat) (l c : Nat) : Option Nat :=
  match named with
  | some i => some i
  | none => if bitOf (s.get F.DT_POL_PORT_def_pol_en l) c then some (8 * l + c) else none

/-! ### Copies (R376, R525, R536) -/

/-- A copy before its decision: destination, class, egress list, RW index, mirror session, and whether a list or a session
named it (R377). -/
structure CopyTo where
  dm : Nat
  dl : Nat
  cls : Nat
  egList : Option Nat
  rw : Nat
  session : Option Nat
  listed : Bool
  deriving DecidableEq, Repr

/-- The copy that a list member names (R525). -/
def memberCopy (cls rw m : Nat) : CopyTo :=
  ⟨m % 256, m / 256 % 256, cls, if bitOf m 16 then some (bits m 17 15) else none, rw, none, true⟩

/-- The mirror copy of a session in use (R536, R544). -/
def State.mirrorTo (s : State) (m : Nat) : List CopyTo :=
  if s.flag F.DT_MIRROR_enable m then
    [⟨s.get F.DT_MIRROR_dest_module m, s.get F.DT_MIRROR_dest_lport m, s.get F.DT_MIRROR_class m, none,
      s.get F.DT_MIRROR_rw_index m, some m, true⟩]
  else []

/-- Is a module a destination of the topology profile (R47 to R49)? -/
def State.validDest (s : State) (m : Nat) : Bool :=
  m == s.myId || (!s.standalone && !s.fab.conflict &&
    (s.get F.KV_MODE_topology != 2 || thas s.fab.peers m))

/-! ### The decision (R377, R383, R392, R397) -/

/-- A decision: refused under a code, or taken (0 shared, 1 to the tail, 2 lossless in the shared region, 3 lossless in
headroom). -/
inductive AdmDec where
  | refuse (code : Nat)
  | stageFull
  | take (kind : Nat)
  deriving DecidableEq, Repr

/-- The code of a refusal. -/
def AdmDec.code : AdmDec → Option Nat
  | .refuse c => some c
  | .stageFull => some 1
  | .take _ => none

/-- The port that a copy goes to: the protect port when its own port's hold has expired so (R397, R398). -/
def State.steer (s : State) (x : Pkt) : Pkt :=
  if s.view x.dm x.dl = .prot then movedTo (s.protectPort x.dl).1 (s.protectPort x.dl).2 x else x

/-- Is the copy lossless: its class at its receiving port (R377, R385)? -/
def State.lossless (s : State) (x : Pkt) : Bool :=
  x.counted && bitOf (s.get F.DT_LOSSLESS_lossless x.inLport) x.cls

/-- The lossless decision (R383). -/
def State.losslessDec (s : State) (x : Pkt) (first : Bool) : AdmDec :=
  let acc := s.acct (x.inLport * 8 + x.cls)
  if acc.s + x.a ≤ s.threshold x.cls ∧ (first = false ∨ x.a ≤ s.freeShared) then .take 2
  else if acc.h + x.a ≤ s.get F.DT_LOSSLESS_head_kib x.inLport * 1024 then .take 3
  else .refuse 6

/-- Has the staging buffer of a group room for n bytes (R392, R394, R572)? -/
def State.stageRoom (s : State) (g n : Nat) : Bool :=
  !s.withdrawn g && decide (s.stagedIn g + n ≤ 2097152)

/-- The group of a VOQ's current write segment (R393). -/
def writeGroup (v : Nat) (q : Voq) : Nat := segGroup v (q.wOff / segSize)

/-- The decision on a copy for the tail (R392); a group without a free segment has no room (log 30). -/
def State.tailDec (s : State) (x : Pkt) (v : Nat) (first : Bool) : AdmDec :=
  let q := s.voq v
  let n := voqTail q + x.a
  if s.get F.DT_ADM_PROF_tail_max_mib x.cls * 1048576 < n ∨
      akOf (s.get F.DT_ADM_PROF_tail_k x.cls) * s.tailFree / 256 < n then .refuse 1
  else if s.stageRoom (writeGroup v q) x.a = false then .stageFull
  else if (s.extendChain v x.a).isNone then .refuse 1
  else if first ∧ s.freeShared < x.a then .refuse 2
  else .take 1

/-- The decision on a copy under the threshold (R377, R380). -/
def State.sharedDec (s : State) (x : Pkt) (v colour : Nat) (first : Bool) : AdmDec :=
  let t := s.threshold x.cls
  let t := if colour = yellow then t / 2 ^ s.get F.DT_ADM_PROF_yellow_shift x.cls else t
  if t < voqDie (s.voq v) + x.a then .refuse 1
  else if first ∧ s.freeShared < x.a then .refuse 2
  else .take 0

/-- The decision on a copy that goes to a VOQ (R377, R391). -/
def State.queueDec (s : State) (x : Pkt) (colour : Nat) (first : Bool) : AdmDec :=
  let v := voqId x.dm x.dl x.cls
  let q := s.voq v
  if s.lossless x then s.losslessDec x first
  else if q.spilling ∨ s.spillAt v < voqDie q + x.a then s.tailDec x v first
  else s.sharedDec x v colour first

/-- The decision on a copy (R377); `x` names its own port. -/
def State.copyDec (s : State) (x : Pkt) (listed : Bool) (colour : Nat) (first : Bool) : AdmDec :=
  if s.validDest x.dm = false then .refuse 4
  else if listed ∧ s.view x.dm x.dl ≠ .up then .refuse 5
  else if colour = red then .refuse 0
  else s.queueDec (s.steer x) colour first

/-! ### Refusal and commit -/

/-- The events and the loop's count of a refusal (R381, R410). -/
def State.refusal (s : State) (d : AdmDec) (cls : Nat) : State :=
  let s1 := match d with
    | .stageFull => s.raise F.DT_BUF_EVT_stage_full
    | .refuse 2 => s.raise F.DT_BUF_EVT_no_cell
    | .refuse 6 => s.raise F.DT_BUF_EVT_headroom
    | _ => s
  if d.code = some 1 then { s1 with buf := { s1.buf with thrRef := tinc s1.buf.thrRef cls 1 } } else s1

/-- What the blocks are charged to when a copy of a kind takes them (R372, R383, R392). -/
def takeCharge (kind : Nat) (x : Pkt) : Charge := if kind ≤ 1 then .shared else .lossless (x.inLport * 8 + x.cls)

/-- Charge a lossless account (R383); a copy for a port in DOWN asks for no XOFF. -/
def State.chargeLossless (s : State) (kind : Nat) (x : Pkt) (n : Nat) (down : Bool) : State :=
  let lc := x.inLport * 8 + x.cls
  let a := s.acct lc
  if kind = 2 then s.setAcct lc ⟨a.s + n, a.h⟩
  else if kind = 3 then
    let s1 := s.setAcct lc ⟨a.s, a.h + n⟩
    if down then s1 else s1.requestXoff lc
  else s

/-- Put a copy into its VOQ: on die, or at the write offset of the spill chain (R391, R393, R412). -/
def State.pushVoq (s : State) (v : Nat) (x : Pkt) (tail : Bool) : State :=
  if tail then
    let s1 := (s.extendChain v x.a).getD s
    let q := s1.voq v
    (s1.setVoq v { q with q := q.q ++ [⟨x, .staged, q.wOff⟩], spilling := true, wOff := q.wOff + x.a, fedAt := s1.up }).count cgBuf 4
  else s.setVoq v { s.voq v with q := (s.voq v).q ++ [⟨x, .die, 0⟩] }

/-- A copy is committed, hence accepted (R51, R375, R378, R397, R777): the first takes the blocks; one for a port in DOWN
is counted under EXTERNAL at once, and so is one steered to a protect port whose own hold has expired (R399). -/
def State.commitCopy (s : State) (x : Pkt) (kind : Nat) (first : Bool) : State :=
  let y := s.steer x
  let v := voqId y.dm y.dl y.cls
  let down := s.view y.dm y.dl == .down || (y.moved && s.view y.dm y.dl == .prot)
  let s1 := if first then
      (s.recharge y.body (takeCharge kind y)).chargeLossless kind y y.a down
    else s.chargeLossless kind y 0 down
  let s2 := s1.setBody y.body { s1.body y.body with refs := (s1.body y.body).refs + 1 }
  let s3 := if y.counted then s2.countAt cgPort y.inLport 0x1D 1 y.arrival else s2
  let s4 := if y.dl = x.dl ∧ y.dm = x.dm then s3 else s3.pktCount 0x11 y
  if down then s4.external y
  else
    let q := s4.voq v
    let z := { y with tr := y.tr.map (fun t => { t with
      adm := s4.time, w11 := (voqDie q / 256) % 2 ^ 24 + voqTail q / 256 * 2 ^ 24 }) }
    (s4.pushVoq v z (kind == 1)).voqSync v

/-- One more packet received, and one refused under a code, at its receiving port (R57, R777). -/
def State.countRefused (s : State) (x : Pkt) (code : Nat) : State :=
  if x.counted then s.lossAt code x.inLport x.arrival else s

/-- Decide one copy, with `none` while admission is closed (R377). Keeps whether the blocks are still to be taken, and
the code of the first refusal. -/
def State.admitCopy (closed : Bool) (colour : Nat) (acc : State × Bool × Option Nat) (c : Pkt × Bool) :
    State × Bool × Option Nat :=
  let s := acc.1
  let x := c.1
  let s0 := if x.counted then s.countAt cgPort x.inLport 0x1C 1 x.arrival else s
  let col := if x.session.isSome then green else colour
  let d := if closed then .refuse 3 else s0.copyDec x c.2 col acc.2.1
  match d with
  | .take kind => (s0.commitCopy x kind acc.2.1, false, acc.2.2)
  | d => ((s0.refusal d x.cls).countRefused x (d.code.getD 0), acc.2.1, acc.2.2.orElse (fun _ => d.code))

/-- Admission of a packet's copies (R377 to R379): `h` is the body, which holds its blocks uncharged. The body is held
by one reference through the decisions, and freed when none was committed. -/
def State.admitAll (s : State) (h colour : Nat) (cs : List (Pkt × Bool)) : State × Bool × Option Nat :=
  let s1 := s.setBody h { s.body h with refs := 1 }
  let r := cs.foldl (State.admitCopy (!s.admits) colour) (s1, true, none)
  let n := cs.length - 1
  (((if 0 < n then r.1.count cgBuf 0 0 n else r.1).resolve h), r.2)

/-- The descriptor of a copy. -/
def copyPkt (x : Pkt) (c : CopyTo) : Pkt × Bool :=
  ({ x with dm := c.dm, dl := c.dl, cls := c.cls, egList := c.egList, rw := c.rw, session := c.session }, c.listed)

/-- The copies of a packet (R376, R525): of a list that is defined, or its one destination; and the mirror copy. -/
def State.copiesFor (s : State) (x : Pkt) (mc mirror : Option Nat) : List CopyTo :=
  (match mc with
   | some n => (tget s.act.mcLists n []).map (memberCopy x.cls x.rw)
   | none => [⟨x.dm, x.dl, x.cls, none, x.rw, none, false⟩]) ++
  (match mirror with
   | some m => s.mirrorTo m
   | none => [])

/-- The trace of a packet none of whose copies was accepted (R796, R797). -/
def State.traceRefused (s : State) (x : Pkt) (code : Nat) : State :=
  match x.tr with
  | some t => s.traceIn { t with adm := s.time } x.inLport x.dm x.dl x.cls x.tag x.arrival x.multiHit 1 code 0
  | none => s

/-- Admission of a packet that its resequencer releases (R377, R431, R433): a packet that names no copy at all is counted
as one copy under INVALID_DEST (log 47). -/
def State.admitPacket (s : State) (x : Pkt) (mc mirror policer : Option Nat) : State :=
  let p := if s.admits then s.policerOf policer x.inLport x.cls else none
  let c := match p with
    | some i => s.police i x.length x.arrival
    | none => (green, s)
  let y := { x with tr := x.tr.map (fun t => { t with w10 := t.w10 + c.1 * 2 ^ 59 }) }
  let cs := (s.copiesFor x mc mirror).map (copyPkt y)
  if cs.isEmpty then
    (((c.2.countAt cgPort x.inLport 0x1C 1 x.arrival).lossAt 4 x.inLport x.arrival).freeBody x.body).traceRefused y 4
  else
    let r := c.2.admitAll x.body c.1 cs
    if r.2.1 then r.1.traceRefused y (r.2.2.getD 0) else r.1

/-! ### The loop (R381, R382) -/

/-- A 5-bit exponent of a profile. -/
def State.profK (s : State) (f : Fld) (c : Nat) : Int := sgn 5 (s.get f c)

/-- The loop's step for one profile: u in percent is `used` of `size`. -/
def State.loopProfile (used size : Nat) (s : State) (c : Nat) : State :=
  let hi := s.get F.DT_ADM_LOOP_u_high
  let lo0 := s.get F.DT_ADM_LOOP_u_low
  let lo : Int := if lo0 < hi then lo0 else (hi : Int) - 10
  let kmin := s.profK F.DT_ADM_PROF_k_min c
  let kmax := s.profK F.DT_ADM_PROF_k_max c
  let k := max kmin (min kmax (s.profK F.DT_ADM_PROF_k c))
  let r := tget s.buf.thrRef c 0
  let s0 := { s with buf := { s.buf with thrRef := tdel s.buf.thrRef c } }
  if s.flag F.DT_ADM_PROF_loop_en c then
    if hi * size ≤ used * 100 then
      if k ≤ kmin then (s0.put F.DT_ADM_PROF_k (unsgn 5 k) c).raise F.DT_BUF_EVT_loop_floor
      else (s0.put F.DT_ADM_PROF_k (unsgn 5 (k - 1)) c).count cgBuf 11
    else if 0 < r ∧ (used * 100 : Int) < lo * size ∧ k < kmax then
      (s0.put F.DT_ADM_PROF_k (unsgn 5 (k + 1)) c).count cgBuf 12
    else s0.put F.DT_ADM_PROF_k (unsgn 5 k) c
  else s0

/-- ADMISSION_LOOP_STEP (R381, R382). -/
def execAdmissionLoopStep (s : State) : Host.Outcome State Fault Refusal :=
  okIf s.live s ((List.range 8).foldl (State.loopProfile s.sharedUsed s.sharedSize) s).xonAll

end Sys2Proof.Machine
end

