-- ==== Sys2Proof/Machine/Reseq.lean ====
section
/-! DEFINITION. Units from TF at DT: checks, resequencing, credit of the IDL, mirror copies, injected frames, and a failed
buffer macro (R65, R358 to R367, R371, R538, R653 to R657). -/

namespace Sys2Proof.Machine

/-! ### Reading a result header (R357) -/

/-- Fields of a unit's header. -/
def uSeq (u : IdlUnit) : Nat := bits u.w0.toNat 0 32
def uLport (u : IdlUnit) : Nat := bits u.w0.toNat 32 8
def uKind (u : IdlUnit) : Nat := bits u.w0.toNat 48 2
def uReason (u : IdlUnit) : Nat := bits u.w0.toNat 50 4
def uLength (u : IdlUnit) : Nat := bits u.w2.toNat 0 14

/-- Does `seq_chk` pass (R357, R360)? -/
def uSeqOk (u : IdlUnit) : Bool := decide (seqChk u.w0.toNat = bits u.w0.toNat 40 8)

/-- Do `hdr_crc` and the body length pass (R360)? Only a PACKET has a body. -/
def uHdrOk (u : IdlUnit) : Bool :=
  decide (hdrCrc u.w0 u.w1 u.w2 u.w3 = bits u.w2.toNat 48 16) && decide (uKind u ≠ 3) &&
    (uKind u != 0 || decide (u.bytes.length + 4 = uLength u))

/-- A number that stands in the header when its enable bit does. -/
def enabled (en : Bool) (v : Nat) : Option Nat := if en then some v else none

/-- The packet of a unit whose body is in the buffer with allocation a. -/
def State.pktOf (s : State) (u : IdlUnit) (h a : Nat) : Pkt :=
  { body := h, dm := bits u.w1.toNat 0 8, dl := bits u.w1.toNat 8 8, cls := bits u.w0.toNat 54 3, length := uLength u
    tag := bits u.w2.toNat 14 8, rw := bits u.w2.toNat 22 22, inLport := uLport u, inSpeed := bits u.w2.toNat 44 3
    egList := none, session := none, sample := bitOf u.w1.toNat 56, multiHit := bitOf u.w1.toNat 57
    arrival := u.w3.toNat, ts := noTs, a := a, src := s.myId, counted := true, moved := false, ct := false, start := 0
    best := 0, ret := none, tr := u.tr }

/-- The replication list, the mirror session and the policer that a header names. -/
def uList (u : IdlUnit) : Option Nat := enabled (bitOf u.w0.toNat 57) (bits u.w1.toNat 16 16)
def uMirror (u : IdlUnit) : Option Nat := enabled (bitOf u.w1.toNat 55) (bits u.w1.toNat 51 4)
def uPolicer (u : IdlUnit) : Option Nat := enabled (bitOf u.w1.toNat 50) (bits u.w1.toNat 32 18)

/-! ### Release (R57, R361) -/

/-- A frame counted as received and under a slot of `DT_PORT_CNT` (R777). -/
def State.countDisposed (s : State) (k l arrival : Nat) : State :=
  (s.countAt cgPort l 0x1C 1 arrival).countAt cgPort l k 1 arrival

/-- A frame counted as received and lost before acceptance. -/
def State.countLost (s : State) (k l arrival : Nat) : State := (s.countAt cgPort l 0x1C 1 arrival).lossAt k l arrival

/-- A DISPOSITION is counted under its reason (R57, R777). -/
def State.countReason (s : State) (reason l arrival : Nat) : State :=
  if reason = 0 then s.countDisposed 7 l arrival
  else if reason = 1 then s.countDisposed 0x0D l arrival
  else if reason = 2 then s.countDisposed 0x0E l arrival
  else if reason = 3 then s.countLost 0x0B l arrival
  else s.countLost 0x0C l arrival

/-- A unit leaves its resequencer (R360, R361): a packet goes to admission with its blocks uncharged. -/
def State.releaseUnit (s : State) (u : HeldUnit) : State :=
  match u with
  | .packet u h =>
    let s1 := s.recharge h .free
    s1.admitPacket (s1.pktOf u h (blksSize (s1.body h).blks)) (uList u) (uMirror u) (uPolicer u)
  | .disposition u => s.countReason (uReason u) (uLport u) u.w3.toNat
  | .pipeFail l arrival => s.countLost 8 l arrival

/-- Numbers from `next_seq` up to and with a finished value; 0 when it lies before. -/
def finSpan (next : Nat) : Option Nat → Nat
  | none => 0
  | some f => if serLe 32 next f then (f + 2 ^ 32 - next) % 2 ^ 32 + 1 else 0

/-- The numbers of units that have arrived: those held, and those that wait for blocks (R371). -/
def arrivedSeqs (r : Reseq) : List Nat :=
  tkeys r.held ++ (r.waiting.filter (fun u => uSeqOk u && !(uHdrOk u && uKind u == 2))).map uSeq

/-- Numbers from `next_seq` up to the first unit that has arrived at or after it (R362, R859); 0 when that is `next_seq`
itself, or there is none. -/
def heldSpan (r : Reseq) : Nat :=
  match (arrivedSeqs r).filter (fun k => serLe 32 r.next k) |>.map (fun k => (k + 2 ^ 32 - r.next) % 2 ^ 32) with
  | [] => 0
  | d :: l => l.foldl min d

/-- How many numbers the closing of the gap at `next_seq` skips now (R362, R363). -/
def gapSpan (r : Reseq) : Nat :=
  if r.stallA || r.stallB then heldSpan r
  else min (heldSpan r) (min (finSpan r.next r.finA) (finSpan r.next r.finB))

/-- n numbers are skipped (R364); they are counted for the port's first logical port (log 36). -/
def State.skip (s : State) (p n : Nat) : State :=
  let r := s.reseq p
  let s1 := s.setReseq p { r with next := (r.next + n) % 2 ^ 32 }
  let s2 := ((s1.countAt cgLoss 0 0x0A n s.time).countAt cgPort (8 * p) 0x0A n s.time).countAt cgPort (8 * p) 0x1C n s.time
  (s2.count cgBuf (if r.stallA || r.stallB then 3 else 2)).raise F.DT_BUF_EVT_gap_closed

/-- Release in order, closing gaps, as far as it goes (R361 to R364). -/
def State.releaseLoop (p : Nat) : Nat → State → State
  | 0, s => s
  | n + 1, s =>
    let r := s.reseq p
    match tget? r.held r.next with
    | some u =>
      releaseLoop p n ((s.setReseq p { r with held := tdel r.held r.next, next := (r.next + 1) % 2 ^ 32 }).releaseUnit u)
    | none => if gapSpan r = 0 then s else releaseLoop p n (s.skip p (gapSpan r))

/-- Does the finished value of a pipeline lie past `next_seq` (R367)? -/
def finPast (next : Nat) : Option Nat → Bool
  | none => false
  | some f => serBefore 32 next f

/-- Withhold credit while the held bytes reach the allowance (R367). -/
def State.holdCredit (s : State) (p : Nat) : State :=
  let r := s.reseq p
  if s.reseqAllow ≤ tget s.buf.reseqUse p 0 then
    s.setReseq p { r with holdA := r.holdA || finPast r.next r.finA, holdB := r.holdB || finPast r.next r.finB }
  else s

/-- What follows any change of a resequencer. -/
def State.runReseq (s : State) (p : Nat) : State :=
  (State.releaseLoop p (2 * (s.reseq p).held.length + 2) s).holdCredit p

/-! ### Arrival (R360, R361, R366, R371) -/

/-- The later of a finished value and a number (R361). -/
def finMax (f : Option Nat) (n : Nat) : Option Nat :=
  match f with
  | none => some n
  | some g => if serBefore 32 g n then some n else some g

/-- A unit of a pipeline has arrived (R363), with a trusted number if its `seq_chk` passed. -/
def heard (r : Reseq) (b : Bool) (n : Option Nat) : Reseq :=
  let fin (f : Option Nat) : Option Nat := match n with
    | some x => finMax f x
    | none => f
  if b then { r with stallB := false, finB := fin r.finB } else { r with stallA := false, finA := fin r.finA }

/-- Hold a unit until its number is released; a number held already is not held twice (log 51). -/
def State.holdUnit (s : State) (p n : Nat) (u : HeldUnit) : State :=
  let r := s.reseq p
  if thas r.held n then s.count cgBuf 1 else s.setReseq p { r with held := tset r.held n u }

/-- A unit is taken at DT; none while it finds no block and waits (R360, R371). -/
def State.takeUnit (s : State) (u : IdlUnit) : Option State :=
  let p := u.port
  let n := uSeq u
  let late := serBefore 32 n (s.reseq p).next
  if uSeqOk u = false then
    some (((s.setReseq p (heard (s.reseq p) u.pipeB none)).count cgBuf 13).runReseq p)
  else
    let s1 := s.setReseq p (heard (s.reseq p) u.pipeB (some n))
    if uHdrOk u && uKind u == 2 then some (s1.runReseq p)
    else if late then some ((s1.count cgBuf 1).runReseq p)
    else if uHdrOk u = false then some ((s1.holdUnit p n (.pipeFail (uLport u) u.w3.toNat)).runReseq p)
    else if uKind u = 1 then some ((s1.holdUnit p n (.disposition u)).runReseq p)
    else if thas (s1.reseq p).held n then some ((s1.count cgBuf 1).runReseq p)
    else
      match s1.takeAll false (blkReqs (uLength u)) with
      | none => none
      | some r =>
        let s2 := r.2.charge (.reseq p) (blksSize r.1)
        let x := s2.newBody ⟨u.bytes, r.1, .reseq p, 0, true⟩
        some ((x.2.holdUnit p n (.packet u x.1)).runReseq p)

/-- A unit reaches the IDL receiver (R363, R371): it waits behind units of its pipeline that wait, and when it finds no block;
its pipeline is stalled no longer. -/
def State.unitArrives (s : State) (u : IdlUnit) : State :=
  let r := s.reseq u.port
  let wait : State := s.setReseq u.port { heard r u.pipeB none with waiting := r.waiting ++ [u] }
  if r.waiting.any (fun w => w.pipeB == u.pipeB) then wait else (s.takeUnit u).getD wait

/-- A unit as it arrives: header bits inverted on the way, and bytes of its body missing at the end (R23, R360). -/
def struck (u : IdlUnit) (flip cut : Nat) : IdlUnit :=
  let f (i : Nat) : Word := BitVec.ofNat 64 (flip / 2 ^ (64 * i))
  { u with w0 := u.w0 ^^^ f 0, w1 := u.w1 ^^^ f 1, w2 := u.w2 ^^^ f 2, w3 := u.w3 ^^^ f 3
           bytes := u.bytes.take (u.bytes.length - cut) }

/-- The first element with a property, and the rest. -/
def takeFirst {α : Type} (p : α → Bool) : List α → Option (α × List α)
  | [] => none
  | a :: r => if p a then some (a, r) else (takeFirst p r).map (fun t => (t.1, a :: t.2))

/-! ### Mirror copies from TF (R358, R538) -/

/-- An egress mirror copy is admitted toward its session (R379, R538): it is counted as a copy beyond the first, and a
refusal under its code. -/
def State.admitMirror (s : State) (u : IdlUnit) (h a : Nat) : State :=
  let x := { s.pktOf u h a with counted := false }
  match (s.mirrorTo ((uMirror u).getD 0)).map (copyPkt x) with
  | [] => s.freeBody h
  | cs =>
    let r := (s.count cgBuf 0).admitAll h green cs
    match r.2.2 with
    | some code => if r.2.1 then r.1.loss code else r.1
    | none => r.1

/-- A mirror copy arrives; without blocks it stays behind (R371). -/
def State.mirrorArrives (s : State) (u : IdlUnit) : Option State :=
  if uSeqOk u = false then some (s.count cgBuf 13)
  else if uHdrOk u = false then some ((s.count cgBuf 0).loss 8)
  else
    match s.takeAll false (blkReqs (uLength u)) with
    | none => none
    | some r =>
      let x := r.2.newBody ⟨u.bytes, r.1, .free, 0, true⟩
      some (x.2.admitMirror u x.1 (blksSize r.1))

/-- IDL_UNIT_RECEIVE (R358 to R367, R371): the oldest unit of a port; mirror copies come when no unit waits. -/
def execIdlUnitReceive (p flip cut : Nat) (s : State) : Host.Outcome State Fault Refusal :=
  match takeFirst (fun u => u.port == p) s.idl.up with
  | some (u, rest) =>
    okIf s.live s (State.unitArrives { s with idl := { s.idl with up := rest } } (struck u flip cut))
  | none =>
    match takeFirst (fun u => u.port == p) s.idl.mirrors with
    | none => ok s
    | some (u, rest) =>
      okIf (s.live && s.idl.up.isEmpty) s
        ((State.mirrorArrives { s with idl := { s.idl with mirrors := rest } } (struck u flip cut)).getD s)

/-- MIRROR_COPY_TIMEOUT (R358): the oldest mirror copy that waits is discarded at TF. -/
def execMirrorCopyTimeout (s : State) : Host.Outcome State Fault Refusal :=
  match s.idl.mirrors with
  | [] => ok s
  | _ :: rest => okIf s.live s ({ s with idl := { s.idl with mirrors := rest } }.count cgEg 12)

/-! ### Stall and credit (R363, R365, R367) -/

/-- Is a pipeline stalled? -/
def stalledOn (r : Reseq) (b : Bool) : Bool := if b then r.stallB else r.stallA

/-- PIPE_STALL (R363, R365): every gap of the port closes. -/
def execPipeStall (p : Nat) (pipeB : Bool) (s : State) : Host.Outcome State Fault Refusal :=
  let r := s.reseq p
  let r1 : Reseq := if pipeB then { r with stallB := true } else { r with stallA := true }
  okIf (s.live && decide (p < 32) && !stalledOn r pipeB && !s.creditHeld p pipeB) s
    (((s.setReseq p r1).raise F.DT_BUF_EVT_stalled).runReseq p)

/-- Units of a pipeline that wait are taken, as far as blocks go. -/
def State.takeWaiting (p : Nat) (b : Bool) : Nat → State → State
  | 0, s => s
  | n + 1, s =>
    match takeFirst (fun u => u.pipeB == b) (s.reseq p).waiting with
    | none => s
    | some (u, rest) =>
      match (s.setReseq p { s.reseq p with waiting := rest }).takeUnit u with
      | none => s
      | some t => takeWaiting p b n t

/-- IDL_CREDIT_RETURN (R365, R367, R371). -/
def execIdlCreditReturn (p : Nat) (pipeB : Bool) (s : State) : Host.Outcome State Fault Refusal :=
  let r := s.reseq p
  let room := decide (tget s.buf.reseqUse p 0 < s.reseqAllow)
  let r1 : Reseq := if room then (if pipeB then { r with holdB := false } else { r with holdA := false }) else r
  okIf (s.live && decide (p < 32) && s.creditHeld p pipeB) s
    (State.takeWaiting p pipeB r.waiting.length (s.setReseq p r1))

/-! ### Injected frames (R653 to R656) -/

/-- Does an inject queue (by its local number) offer a descriptor? -/
def State.injWaits (s : State) (k : Nat) : Bool :=
  s.qRuns (64 + k) && decide (s.get F.TF_QCTX_STAT_host_idx (64 + k) ≠ s.get F.TF_QCTX_STAT_dev_idx (64 + k))

/-- The turns that an inject queue has left in this round (R657): of a new round it has `inj_weight`. -/
def State.injTurns (s : State) (k : Nat) : Nat :=
  tget s.host.injLeft k (max 1 (s.get F.TF_QCTX_CFG_inj_weight (64 + k)))

/-- The inject queues that offer a descriptor, in rotation from the one after the last served. -/
def State.injReady (s : State) : List Nat :=
  ((List.range 64).map (fun i => (s.host.injLast + 1 + i) % 64)).filter s.injWaits

/-- The inject queue whose turn it is (R657): the next in rotation with a turn left, or the next of a new round. -/
def State.injNext (s : State) : Option Nat :=
  match s.injReady.find? (fun k => decide (0 < s.injTurns k)) with
  | some k => some k
  | none => s.injReady.head?

/-- An inject queue takes its turn (R657). -/
def State.injTurn (s : State) (k : Nat) : State :=
  let t := if 0 < s.injTurns k then s else { s with host := { s.host with injLeft := [] } }
  { t with host := { t.host with injLast := k, injLeft := tset t.host.injLeft k (t.injTurns k - 1) } }

/-- The device writes word 2 of an inject descriptor and moves on (R639, R653). -/
def State.injectDone (s : State) (q status refusal : Nat) : State :=
  (s.emit (.dmaWrite 1 (s.slotAddr q (s.get F.TF_QCTX_STAT_dev_idx q) + 16)
    [BitVec.ofNat 64 (status + refusal * 256 + 2 ^ 63), 0])).qProduced q 1

/-- A mode 0 frame enters the MAC input buffer as a received one (R93, R654). While the buffer is full it waits: its turn passes
to the next queue, and is not used up. -/
def State.injectIn (s : State) (q l : Nat) (bytes : List Byte) : State :=
  let f : RxFrame := ⟨l, 0, s.time, bytes, decide (s.maxFrame l < bytes.length + 4)⟩
  if rxBytes (s.phys (l / 8)).inbuf + rxLen f ≤ 524288 then
    (((s.intoMac l f).2).count cgHost 2).injectDone q 0 0
  else { s with host := { s.host with injLeft := tset s.host.injLeft (q - 64) (s.injTurns (q - 64) + 1) } }

/-- The packet of a mode 1 frame (R511, R655). -/
def State.injectPkt (s : State) (l : Nat) (w1 : Nat) (n h a : Nat) : Pkt :=
  let req := bits w1 26 2
  { body := h, dm := s.myId, dl := l, cls := bits w1 23 3, length := n + 4, tag := 0, rw := 0, inLport := 0
    inSpeed := portSpeed (s.breakout (l / 8)), egList := none, session := none, sample := false, multiHit := false
    arrival := s.time, ts := ⟨if req = 3 then 0 else req, bits w1 28 14, bits w1 42 8, true⟩, a := a, src := s.myId
    counted := false, moved := false, ct := false, start := 0, best := 0, ret := none, tr := none }

/-- A mode 1 frame is admitted toward its port (R655); without blocks it is refused under NO_CELL (log 52). -/
def State.injectOut (s : State) (q l w1 : Nat) (bytes : List Byte) : State :=
  match s.takeAll false (blkReqs (bytes.length + 4)) with
  | none => ((s.raise F.DT_BUF_EVT_no_cell).count cgHost 3).injectDone q 3 2
  | some r =>
    let b := r.2.newBody ⟨bytes, r.1, .free, 0, true⟩
    let x := b.2.admitAll b.1 green [(s.injectPkt l w1 bytes.length b.1 (blksSize r.1), false)]
    match x.2.2 with
    | some code => (x.1.count cgHost 3).injectDone q 3 code
    | none => (x.1.count cgHost 2).injectDone q 0 0

/-- A descriptor is served (R653 to R656). -/
def State.inject (s : State) (q : Nat) (w1 : Nat) (bytes : List Byte) : State :=
  let l := bits w1 15 8
  let n := bits w1 0 14
  if n < 60 ∨ 15996 < n ∨ s.present l = false then s.injectDone q 1 0
  else if bitOf w1 14 then s.injectOut q l w1 (bytes.take n)
  else s.injectIn q l (bytes.take n)

/-- INJECT_DESCRIPTOR (R653 to R657): queue q, whose turn it is, serves its next descriptor, of which the device has read
the words and the frame. -/
def execInjectDescriptor (q : Nat) (_w0 w1 : Word) (bytes : List Byte) (s : State) :
    Host.Outcome State Fault Refusal :=
  okIf (s.live && decide (64 ≤ q ∧ q < 128) && s.qRuns q && s.mayIssue 1 &&
    s.injNext == some (q - 64)) s ((s.injTurn (q - 64)).inject q w1.toNat bytes)

/-! ### A failed macro (R61, R65) -/

/-- BUFFER_MACRO_FAULT (R61 to R65): its symbols are erasures from then on; its stripe has no cover left. -/
def execBufferMacroFault (m : Nat) (s : State) : Host.Outcome State Fault Refusal :=
  let single := !s.buf.badMacros.any (fun n => n / 34 == m / 34)
  okIf (decide (RAISE ≤ s.mode) && decide (m < 544) && !s.buf.badMacros.contains m) s
    ({ s with buf := { s.buf with badMacros := s.buf.badMacros ++ [m] } }.unitFault 4 m single false)

end Sys2Proof.Machine
end

