-- ==== Sys2Proof/Machine/SchedCmd.lean ====
section
/-! DEFINITION. Commands of the egress hierarchy, the egress queue map and the policers (R446 to R453). -/

namespace Sys2Proof.Machine

/-! ### Nodes (R415, R416, R446 to R448, R452) -/

/-- Nodes of a level (R415). -/
def levelSize : Nat → Nat
  | 0 => 256 | 1 => 4096 | 2 => 16384 | _ => 65536

/-- Is a parent number in the range of the level above? Ports have none, and a queue's is fixed. -/
def parentOk (lvl p : Nat) : Bool := lvl == 0 || lvl == 3 || decide (p < levelSize (lvl - 1))

/-- The children of a node in a view: those of the loaded layout and those that commands have set, with this parent. -/
def childrenIn (v : View) (lvl n : Nat) : List Nat :=
  let k := if lvl = 0 then 16 else 4
  let laid := (List.range k).map (fun i => k * n + i)
  let set := ((tkeys v.nodes).filter (fun e => decide (e / 131072 = lvl + 1))).map (· % 131072)
  if lvl = 3 then [] else
    (laid ++ set.filter (fun m => !laid.contains m)).filter (fun m => decide (nodeParent v (lvl + 1) m = n))

/-- The subscribers beneath a port, group or subscriber in a view. -/
def subsBeneath (v : View) (lvl n : Nat) : List Nat :=
  if lvl = 2 then [n] else if lvl = 1 then childrenIn v 1 n
  else if lvl = 0 then (childrenIn v 0 n).flatMap (childrenIn v 1) else []

/-- Does the node, or any beneath it, hold packets? -/
def State.holdsPackets (s : State) (v : View) (lvl n : Nat) : Bool :=
  if lvl = 3 then !(s.equeue n).isEmpty
  else s.sch.queues.any (fun e => !e.2.isEmpty && (subsBeneath v lvl n).contains (e.1 / 4))

/-- Is a subscriber named by a valid map entry of a view or by a `def_sub`? -/
def State.subNamed (s : State) (v : View) (sub : Nat) : Bool :=
  (tvals v.eqMap).contains sub || (List.range 256).any (fun l => s.get F.DT_EQ_PORT_def_sub l == sub)

/-- Would the words move the node to another parent? -/
def reparents (v : View) (lvl n : Nat) (w : Word × Word × Word) : Bool :=
  (lvl == 1 || lvl == 2) && nwParent w != nodeParent v lvl n

/-- Is a strict level of the parent held by another child (R416)? -/
def strictHeld (v : View) (lvl n : Nat) (w : Word × Word × Word) : Bool :=
  decide (0 < lvl) && nwAttach w != 0 &&
    (childrenIn v (lvl - 1) (if lvl = 3 then n / 4 else nwParent w)).any (fun m =>
      m != n && nwAttach (nodeWords v lvl m) == nwAttach w)

/-- Would the words move a subscriber of the node to another port? -/
def movesPort (v : View) (lvl n : Nat) (w : Word × Word × Word) : Bool :=
  reparents v lvl n w &&
    (if lvl = 1 then true else nodeParent v 1 (nwParent w) != nodeParent v 1 (nodeParent v 2 n))

/-- NODE_SET's refusal, if any (R452). -/
def State.nodeSetCheck (s : State) (v : View) (lvl n : Nat) (w : Word × Word × Word) : Option Nat :=
  let off := !nwEnable w
  if levelSize lvl ≤ n ∨ parentOk lvl (nwParent w) = false ∨ bits w.1.toNat 58 6 ≠ 0 ∨ bits w.2.1.toNat 42 22 ≠ 0 ∨
      bits w.2.2.toNat 48 16 ≠ 0 then some stBadKey
  else if 0 < lvl ∧ nwEnable (nodeWords v (lvl - 1) (if lvl = 3 then n / 4 else nwParent w)) = false then some stBadRef
  else if strictHeld v lvl n w then some stBusy
  else if (reparents v lvl n w || off) && s.holdsPackets v lvl n then some stBusy
  else if ((lvl == 2 && off) || movesPort v lvl n w) && (subsBeneath v lvl n).any (s.subNamed v) then some stBusy
  else if off && decide (lvl ≤ 1) && (childrenIn v lvl n).any (fun m => nwEnable (nodeWords v (lvl + 1) m)) then
    some stBusy
  else none

/-- NODE_SET's effect. -/
def applyNodeSet (c : TCmd) (s : State) : CmdRes :=
  let w : Word × Word × Word := (c.words.getD 0 0, c.words.getD 1 0, c.words.getD 2 0)
  let lvl := bits (pw c 0) 0 2
  let n := bits (pw c 0) 2 16
  match s.nodeSetCheck s.inact lvl n w with
  | some st => .refuse st
  | none => .change (s.setInact (fun v => { v with nodes := tset v.nodes (nodeKey lvl n) w }))

/-- NODE_SET (R446, R447, R452). -/
def execNodeSet (c : TCmd) (s : State) : Host.Outcome State Fault Refusal :=
  ok (s.runChange 0x48 (plen c 3) c (applyNodeSet c))

/-- A signed count saturated at 32 bits (R448). -/
def sat32 (x : Int) : Nat := unsgn 32 (max (-(2 ^ 31)) (min (2 ^ 31 - 1) x))

/-- NODE_READ's answer. -/
def applyNodeRead (c : TCmd) (s : State) : CmdRes :=
  let lvl := bits (pw c 0) 0 2
  let n := bits (pw c 0) 2 16
  if levelSize lvl ≤ n ∨ bits (pw c 0) 18 46 ≠ 0 then .refuse stBadKey
  else
    let w := nodeWords s.act lvl n
    let x := s.node lvl n
    let elig := if lvl = 0 then s.portElig n else s.nodeElig lvl n
    let bytes := if lvl = 3 then (pktsBytes (s.equeue n) + 255) / 256 else 0
    .read [w.1, w.2.1, w.2.2, BitVec.ofNat 64 (sat32 x.c + 2 ^ 32 * sat32 x.p),
      BitVec.ofNat 64 (b2n x.active + 2 * b2n elig + 4 * b2n (nodeCommitted x) + 256 * (bytes % 2 ^ 24))]

/-- NODE_READ (R448). -/
def execNodeRead (c : TCmd) (s : State) : Host.Outcome State Fault Refusal :=
  ok (s.runCmd 0x49 (plen c 1) false 5 c (applyNodeRead c))

/-! ### The egress queue map (R449, R452, R453) -/

/-- Is a subscriber enabled and beneath a port in a view? -/
def subOk (v : View) (l sub : Nat) : Bool := nwEnable (nodeWords v 2 sub) && decide (subPort v sub = l)

/-- EQ_MAP_SET's effect. -/
def applyEqMapSet (c : TCmd) (s : State) : CmdRes :=
  let w := pw c 0
  let l := bits w 0 8
  let key := l * 256 + bits w 8 8
  let sub := bits w 16 14
  if bits w 31 33 ≠ 0 then .refuse stBadKey
  else if bitOf w 30 && !subOk s.inact l sub then .refuse stBadRef
  else .change (s.setInact (fun v => { v with
    eqMap := if bitOf w 30 then tset v.eqMap key sub else tdel v.eqMap key }))

/-- EQ_MAP_SET. -/
def execEqMapSet (c : TCmd) (s : State) : Host.Outcome State Fault Refusal :=
  ok (s.runChange 0x4A (plen c 1) c (applyEqMapSet c))

/-- A write of `DT_EQ_PORT[l]`: a `def_sub` that the rule bars is ignored (R453). -/
def State.eqPortWrite (s : State) (l : Nat) (v : Word) : State :=
  let sub := bits v.toNat 0 14
  if subOk s.act l sub then s.wr R.DT_EQ_PORT (v &&& 0xFFFFFFFFFFFF7FFF#64) l
  else (s.wr R.DT_EQ_PORT (BitVec.ofNat 64
    (setBits (v &&& 0xFFFFFFFFFFFF7FFF#64).toNat 0 14 (s.get F.DT_EQ_PORT_def_sub l))) l).raise F.DT_SCHED_EVT_def_sub_bad

/-- DEF_SUB_WRITE (R453). -/
def execDefSubWrite (l : Nat) (v : Word) (s : State) : Host.Outcome State Fault Refusal :=
  okIf (s.live && decide (l < 256)) s (s.eqPortWrite l v)

/-! ### Policers (R450 to R452) -/

/-- POLICER_SET's effect. -/
def applyPolicerSet (c : TCmd) (s : State) : CmdRes :=
  let w : Word × Word × Word := (c.words.getD 0 0, c.words.getD 1 0, c.words.getD 2 0)
  if bits (pw c 0) 27 37 ≠ 0 ∨ bits (pw c 1) 42 22 ≠ 0 ∨ bits (pw c 2) 48 16 ≠ 0 then .refuse stBadKey
  else .change (s.setInact (fun v => { v with pols := tset v.pols (bits (pw c 0) 0 18) w }))

/-- POLICER_SET. -/
def execPolicerSet (c : TCmd) (s : State) : Host.Outcome State Fault Refusal :=
  ok (s.runChange 0x4B (plen c 3) c (applyPolicerSet c))

/-- POLICER_READ's answer: words, buckets, and the totals of the backing store. -/
def applyPolicerRead (c : TCmd) (s : State) : CmdRes :=
  let i := bits (pw c 0) 0 18
  if bits (pw c 0) 18 46 ≠ 0 then .refuse stBadKey
  else
    let w := tget s.act.pols i (BitVec.ofNat 64 i, 0, 0)
    let x := tget s.sch.pols i policer0
    let total : Nat → Word := fun k => BitVec.ofNat 64 (tget s.tlm.totals (cntKey 16 (i * 3 + k)) 0)
    .read [w.1, w.2.1, w.2.2, BitVec.ofNat 64 (x.b0 % 2 ^ 32 + 2 ^ 32 * (x.b1 % 2 ^ 32)), total 0, total 1, total 2]

/-- POLICER_READ (R451). -/
def execPolicerRead (c : TCmd) (s : State) : Host.Outcome State Fault Refusal :=
  ok (s.runCmd 0x4C (plen c 1) false 7 c (applyPolicerRead c))

end Sys2Proof.Machine
end

