-- ==== Sys2Proof/Machine/FabTx.lean ====
section
/-! DEFINITION. The fabric interface toward the fabric: lanes, planes, the link layer, cells, spraying, the tether and
acknowledgements at the source (R459 to R481, R489 to R495, R500, R501, R813). -/

namespace Sys2Proof.Machine

/-! ### Lanes and planes (R462, R463, R478) -/

/-- Is the fabric in use: not in STANDALONE, and no conflict of ids (R47, R49, R505)? -/
def State.fabOn (s : State) : Bool := !s.standalone && !s.fab.conflict

/-- The state of a lane (R462). -/
def State.laneSt (s : State) (n : Nat) : Nat := s.get F.DT_FAB_LANE_state n

/-- Is a lane in the spray maps (R462, R463, R69)? -/
def State.laneIn (s : State) (n : Nat) : Bool :=
  s.laneSt n == 3 && s.isOn (49 + n / 40) && !s.flag F.DT_FAB_LANE_admin_out n && !s.flag F.DT_FAB_PLANE_admin_out (n / 40)

/-- The lanes of a plane (R459). -/
def planeLanes (k : Nat) : List Nat := (List.range 40).map (fun i => 40 * k + i)

/-- Is a plane up (R463)? -/
def State.planeUp (s : State) (k : Nat) : Bool := (planeLanes k).any s.laneIn

/-- The spray map of a module: the planes usable toward it (R478). -/
def State.usable (s : State) (m : Nat) : List Nat :=
  let p := s.peer m
  (List.range 8).filter (fun k => bitOf p.heardOn k && bitOf p.hears k && s.planeUp k)

/-- Store what is known of a module. -/
def State.setPeer (s : State) (m : Nat) (p : Peer) : State :=
  { s with fab := { s.fab with peers := tset s.fab.peers m p } }

/-- The link layer of a lane. -/
def State.flink (s : State) (n : Nat) : FabLink := tget s.fab.links n fabLink0

/-- Store it. -/
def State.setFlink (s : State) (n : Nat) (x : FabLink) : State :=
  { s with fab := { s.fab with links := tput s.fab.links n x fabLink0 } }

/-! ### Cells (R464 to R466) -/

/-- What a cell says before its CRC is computed. -/
structure CellHdr where
  type : Nat
  stream : Nat
  src : Nat
  dst : Nat
  sop : Bool
  eop : Bool
  packed : Bool
  retx : Bool
  restart : Bool
  count : Nat
  seq : Nat
  deriving DecidableEq, Repr

/-- A header with nothing set but its type, stream and modules. -/
def cellHdr (type stream src dst : Nat) : CellHdr := ⟨type, stream, src, dst, false, false, false, false, false, 0, 0⟩

/-- `hdr_crc` of a cell (R465): over the header with the field taken as 0. -/
def cellCrc (w0 w1 w2 w3 : Word) : Nat := crc16 (wordBytes [BitVec.ofNat 64 (w0.toNat % 2 ^ 48), w1, w2, w3])

/-- A cell with its CRC. -/
def sealCell (w0 : Nat) (w1 w2 w3 : Word) (pay : List Byte) : Cell :=
  let a : Word := BitVec.ofNat 64 (w0 % 2 ^ 48)
  ⟨BitVec.ofNat 64 (w0 % 2 ^ 48 + cellCrc a w1 w2 w3 * 2 ^ 48), w1, w2, w3, pay⟩

/-- A cell: header, the fields of word 1 above `seq`, words 2 and 3, and payload. -/
def mkCell (h : CellHdr) (hi : Nat) (w2 w3 : Word) (pay : List Byte) : Cell :=
  sealCell (h.type + 2 ^ 4 * h.stream + 2 ^ 8 * h.src + 2 ^ 16 * h.dst + 2 ^ 24 * pay.length + 2 ^ 33 * b2n h.sop +
      2 ^ 34 * b2n h.eop + 2 ^ 35 * b2n h.packed + 2 ^ 36 * b2n h.retx + 2 ^ 37 * b2n h.restart + 2 ^ 38 * h.count)
    (BitVec.ofNat 64 (h.seq % 2 ^ 32 + 2 ^ 32 * hi)) w2 w3 pay

/-- The retransmitted copy of a cell (R494). -/
def retxCell (c : Cell) : Cell := sealCell (setBits c.w0.toNat 36 1 1) c.w1 c.w2 c.w3 c.payload

/-- Fields of a cell. -/
def cType (c : Cell) : Nat := bits c.w0.toNat 0 4
def cStream (c : Cell) : Nat := bits c.w0.toNat 4 4
def cSrc (c : Cell) : Nat := bits c.w0.toNat 8 8
def cSop (c : Cell) : Bool := bitOf c.w0.toNat 33
def cEop (c : Cell) : Bool := bitOf c.w0.toNat 34
def cPacked (c : Cell) : Bool := bitOf c.w0.toNat 35
def cRestart (c : Cell) : Bool := bitOf c.w0.toNat 37
def cCount (c : Cell) : Nat := bits c.w0.toNat 38 3
def cSeq (c : Cell) : Nat := bits c.w1.toNat 0 32
def cLength (c : Cell) : Nat := bits c.w1.toNat 32 14

/-- Does the CRC of a cell's header hold (R483)? -/
def cellOk (c : Cell) : Bool := decide (bits c.w0.toNat 48 16 = cellCrc c.w0 c.w1 c.w2 c.w3)

/-- A payload padded with 0 to at least 64 B (R466, R471). -/
def pad64 (l : List Byte) : List Byte := l ++ List.replicate (64 - l.length) 0

/-! ### The share of control cells (R476) -/

/-- The current 10 µs. -/
def State.ctlWindow (s : State) : Nat := s.up / 10000

/-- A lane's share record in the current window. -/
def State.laneShare (s : State) (n : Nat) : Nat × Nat × Nat × Bool :=
  let x := tget s.fab.share n (0, 0, 0, false)
  if x.1 = s.ctlWindow then x else (s.ctlWindow, 0, 0, x.2.2.2)

/-- Do control cells amount to less than 1.2 % of a lane's cell bytes? -/
def State.underShare (s : State) (n : Nat) : Bool :=
  let x := s.laneShare n
  decide (x.2.1 = 0 ∨ x.2.1 * 1000 < 12 * x.2.2.1)

/-- Cells toward a module not acknowledged (R469). -/
def State.unacked (s : State) (m : Nat) : Nat := ((List.range 9).map (fun st => (s.txs m st).recs.length)).sum

/-- Is the window of R469 open toward a module? -/
def State.winOpen (s : State) (m : Nat) : Bool := decide (s.unacked m < 65536)

/-- Does a packet wait for a DATA cell toward a module that can be reached? -/
def State.dataWaits (s : State) : Bool :=
  s.fab.tx.any (fun e => decide (e.1 % 16 < 8) && !e.2.pkts.isEmpty && !(s.usable (e.1 / 16)).isEmpty && s.winOpen (e.1 / 16))

/-- May a control cell take a slot of a lane? Beyond its share only after a DATA cell, or when no DATA waits. -/
def State.ctlFree (s : State) (n : Nat) : Bool :=
  s.underShare n || (s.laneShare n).2.2.2 || !s.dataWaits

/-- Do control messages that wait for a cell take a lane's slots ahead of DATA? -/
def State.ctlAhead (s : State) (n : Nat) : Bool :=
  s.underShare n && s.fab.msgs.any (fun e => !(e.2.ctl.isEmpty && e.2.learn.isEmpty) &&
    (s.usable e.1).contains (n / 40) && s.winOpen e.1)

/-- Note a cell of some bytes sent on a lane. -/
def State.noteShare (s : State) (n len : Nat) (data : Bool) : State :=
  let x := s.laneShare n
  let s1 := if !data && !s.underShare n then s.raise F.DT_FAB_EVT_ctl_over else s
  { s1 with fab := { s1.fab with
    share := tset s1.fab.share n (x.1, x.2.1 + (if data then 0 else len), x.2.2.1 + len, data) } }

/-! ### Sending on a lane (R460, R479) -/

/-- The link sequence that a frame acknowledges: the last one taken in order. -/
def linkAck (x : FabLink) : Nat := (x.rxSeq + 4095) % 4096

/-- Send a cell on a lane: the next link frame, kept for replay. -/
def State.sendOn (s : State) (n : Nat) (c : Cell) : State :=
  let x := s.flink n
  let s1 := s.emit (.linkFrame n .cell x.txSeq (linkAck x) (some c))
  (s1.setFlink n { x with txSeq := (x.txSeq + 1) % 4096, replay := x.replay ++ [(x.txSeq, c)] }).noteShare n
    (32 + c.payload.length) (cType c == 0)

/-- Send a frame that carries no cell; the spec gives its link sequence no value. -/
def State.sendBare (s : State) (n : Nat) (k : LinkKind) : State :=
  let r := s.fresh
  r.2.emit (.linkFrame n k (Config.free r.1 % 4096) (linkAck (s.flink n)) none)

/-- The better of two lanes: the shorter transmit queue, then the lower number (R479). -/
def State.betterLane (s : State) (a b : Nat) : Nat :=
  if (s.flink b).replay.length < (s.flink a).replay.length then b else a

/-- The lane of a plane that takes the next cell, if one has room in its replay buffer. -/
def State.bestLane (s : State) (k : Nat) : Option Nat :=
  match (planeLanes k).filter (fun n => s.laneIn n && decide ((s.flink n).replay.length < 256)) with
  | [] => none
  | a :: r => some (r.foldl s.betterLane a)

/-- The lane that takes the next cell toward a module (R479): planes in rotation, without `avoid` while another
plane is usable. -/
def State.pickLane (s : State) (m : Nat) (avoid : Option Nat) : Option Nat :=
  let us := s.usable m
  let us' := us.filter (fun k => some k != avoid)
  let ks := if us'.isEmpty then us else us'
  let p := (s.peer m).lastPlane
  (((List.range 8).map (fun i => (p + 1 + i) % 8)).filter (fun k => ks.contains k)).findSome? s.bestLane

/-- Send a cell toward a module on a lane. -/
def State.sprayOn (s : State) (m n : Nat) (c : Cell) : State :=
  (s.sendOn n c).setPeer m { s.peer m with lastPlane := n / 40 }

/-- Send the next sequenced cell of a stream on a lane, with its tether record (R468, R469, R489, R501). -/
def State.sendSeq (s : State) (m st n : Nat) (h : CellHdr) (hi : Nat) (w2 w3 : Word) (pay : List Byte)
    (ends : List Pkt) : State :=
  let x := s.txs m st
  let c := mkCell { h with seq := x.next, restart := x.restart } hi w2 w3 pay
  let s1 := s.sprayOn m n c
  let s2 := s1.setTxs m st { x with
    next := (x.next + 1) % 2 ^ 32, restart := false, recs := x.recs ++ [⟨x.next, c, n, ends, s.up⟩]
    progAt := if x.recs.isEmpty then s.up else x.progAt }
  if s2.winOpen m then s2 else s2.raise F.DT_FAB_EVT_window_full

/-! ### Carrying packets (R470 to R475) -/

/-- Is a packet packable (R472)? -/
def State.packable (s : State) (x : Pkt) : Bool :=
  s.flag F.DT_FAB_CTL_pack_en && decide (x.length ≤ 156) && !x.sample && x.egList.isNone

/-- The packets that one packed cell would take (R473): n taken so far, with their payload. -/
def State.packRun (s : State) (n pay : Nat) : List Pkt → List Pkt
  | [] => []
  | x :: r =>
    if n < 7 ∧ s.packable x = true ∧ pay + 8 + (x.length - 4) ≤ 480 then
      x :: s.packRun (n + 1) (pay + 8 + (x.length - 4)) r
    else []

/-- The sub-header of a packed packet (R474). -/
def subHeader (x : Pkt) : Nat :=
  x.length + 2 ^ 8 * x.dl + 2 ^ 16 * x.rw + 2 ^ 38 * x.tag + 2 ^ 46 * x.inLport + 2 ^ 54 * x.inSpeed + 2 ^ 57 * b2n x.multiHit

/-- The bytes of a packet in a packed cell. -/
def State.packedBytes (s : State) (x : Pkt) : List Byte := beBytes 8 (subHeader x) ++ (s.body x.body).bytes

/-- A payload padded with 0 to the next multiple of 32 B (R473). -/
def pad32 (l : List Byte) : List Byte := l ++ List.replicate ((32 - l.length % 32) % 32) 0

/-- Cells of a packet that is not packed (R471). -/
def cellsOf (len : Nat) : Nat := max 1 ((len - 4 + 479) / 480)

/-- The bytes of fragment i (R471). -/
def fragment (len i : Nat) (l : List Byte) : List Byte :=
  let n := cellsOf len
  let q := (len - 4) / n
  let r := (len - 4) % n
  (l.drop (i * q + min i r)).take (q + b2n (decide (i < r)))

/-- Words 1 to 3 of an unpacked first cell (R465): the fields of word 1 above `seq`, word 2, word 3. -/
def sopFields (x : Pkt) : Nat × Word × Word :=
  (x.length + 2 ^ 14 * x.dl + 2 ^ 22 * x.tag + 2 ^ 30 * b2n x.sample + 2 ^ 31 * b2n x.multiHit,
   BitVec.ofNat 64 (x.rw + 2 ^ 22 * x.inLport + 2 ^ 30 * x.inSpeed + 2 ^ 33 * b2n x.egList.isSome +
     2 ^ 34 * x.egList.getD 0),
   BitVec.ofNat 64 (if x.sample then x.arrival else 0))

/-- Packets whose bodies can be read; the others are lost (R58). -/
def State.readRun (s : State) : List Pkt → List Pkt × State
  | [] => ([], s)
  | x :: r =>
    let o := s.readOk
    if o.1 then
      let t := o.2.readRun r
      (x :: t.1, t.2)
    else (o.2.lostCopy x).readRun r

/-- A packet's bytes are charged to the tether from its first cell on (R372, R489); lossless bytes stay on their
account (R384). -/
def State.tetherPkt (s : State) (x : Pkt) : State :=
  match (s.body x.body).charge with
  | .shared => s.recharge x.body .tether
  | .reseq _ => s.recharge x.body .tether
  | _ => s

/-- The builder's cell for packets it packs, or for a fragment of one packet (R471, R473). -/
def State.buildData (s : State) (m st n : Nat) (run rest : List Pkt) : State :=
  let x := s.txs m st
  let h := cellHdr 0 st s.myId m
  match run with
  | [] => s.setTxs m st { x with pkts := rest }
  | [p] =>
    let i := x.cut
    let last := decide (i + 1 = cellsOf p.length)
    let f := if i = 0 then sopFields p else (0, 0, 0)
    let s1 := if i = 0 then s.tetherPkt p else s
    let s2 := s1.sendSeq m st n { h with sop := i == 0, eop := last } f.1 f.2.1 f.2.2
      (pad64 (fragment p.length i (s.body p.body).bytes)) (if last then [p] else [])
    (s2.setTxs m st { s2.txs m st with
      pkts := if last then rest else p :: rest, cut := if last then 0 else i + 1 }).count cgFab 0
  | ps =>
    let s1 := ps.foldl State.tetherPkt s
    let s2 := s1.sendSeq m st n { h with sop := true, eop := true, packed := true, count := ps.length } 0 0 0
      (pad32 (ps.flatMap s.packedBytes)) ps
    (((s2.setTxs m st { s2.txs m st with pkts := rest }).count cgFab 0).count cgFab 1).count cgFab 2 0 ps.length

/-- The next DATA cell of a stream (R473, R475). -/
def State.sendData (s : State) (m st n : Nat) : State :=
  let x := s.txs m st
  match x.pkts with
  | [] => s
  | p :: rest =>
    if 0 < x.cut then s.buildData m st n [p] rest
    else
      let run := s.packRun 0 0 x.pkts
      let run' := if 2 ≤ run.length then run else [p]
      let r := s.readRun run'
      r.2.buildData m st n r.1 (x.pkts.drop run'.length)

/-- Message payload: 8-byte words, padded (R466). -/
def msgPayload (ws : List Word) : List Byte := pad64 (wordBytes ws)

/-- The next CONTROL or LEARN cell of the control stream (R466, R503, R504); CONTROL first. -/
def State.sendCtlCell (s : State) (m n : Nat) : State :=
  let q := s.msgs m
  if q.ctl.isEmpty then
    (s.sendSeq m 8 n (cellHdr 4 8 s.myId m) 0 0 0 (msgPayload ((q.learn.take 15).flatMap learnWords)) []).setMsgs m
      { q with learn := q.learn.drop 15 }
  else
    (s.sendSeq m 8 n (cellHdr 6 8 s.myId m) 0 0 0 (msgPayload (q.ctl.take 60)) []).setMsgs m
      { q with ctl := q.ctl.drop 60 }

/-- The lane for a new sequenced cell toward a module, if one may be sent (R469, R476, R479). -/
def State.slotFor (s : State) (m : Nat) (data : Bool) : Option Nat :=
  if s.live && s.fabOn && s.winOpen m then
    (s.pickLane m none).filter (fun n => if data then !s.ctlAhead n else s.ctlFree n)
  else none

/-- CELL_SEND (R473): a slot is offered to stream st toward module m. -/
def execCellSend (m st : Nat) (s : State) : Host.Outcome State Fault Refusal :=
  match s.slotFor m (decide (st < 8)) with
  | none => ok s
  | some n =>
    if st < 8 then ok (s.sendData m st n)
    else okIf (st == 8 && !((s.msgs m).ctl.isEmpty && (s.msgs m).learn.isEmpty)) s (s.sendCtlCell m n)

/-- Is a cell of credit messages due: 60 wait, or the first has waited `grant_us` (R495, R506)? -/
def State.creditDue (s : State) (l : List (Nat × Word)) : Bool :=
  decide (60 ≤ l.length) ||
    l.any (fun e => decide (e.1 + max 1 (s.get F.DT_FAB_CTL_grant_us) * 1000 ≤ s.up))

/-- CREDIT_CELL_SEND (R445, R495): up to 60 of the requests, or of the grants, that wait. -/
def execCreditCellSend (m : Nat) (grant : Bool) (s : State) : Host.Outcome State Fault Refusal :=
  let q := s.msgs m
  match s.slotFor m false with
  | none => ok s
  | some n =>
    if grant then
      okIf (s.creditDue q.grant) s ((s.sendSeq m 8 n (cellHdr 2 8 s.myId m) 0 0 0 (msgPayload ((q.grant.take 60).map (·.2))) []).setMsgs m
        { q with grant := q.grant.drop 60 })
    else
      okIf (s.creditDue q.req) s ((s.sendSeq m 8 n (cellHdr 1 8 s.myId m) 0 0 0 (msgPayload ((q.req.take 60).map (·.2))) []).setMsgs m
        { q with req := q.req.drop 60 })

/-! ### Retransmission (R479, R492 to R494) -/

/-- Send a record's copy again, counted under k; it waits while no lane can take it. -/
def State.resendRec (s : State) (m st k : Nat) (r : Tether) : State :=
  match s.pickLane m (some (r.lane / 40)) with
  | none => s
  | some n =>
    let s1 := (s.sprayOn m n (retxCell r.cell)).count cgFab k
    s1.setTxs m st { s1.txs m st with
      recs := (s1.txs m st).recs.map (fun x => if x.seq = r.seq then { x with lane := n, sentAt := s.up } else x) }

/-- Is a record's last lane or plane lost (R492)? -/
def State.recLost (s : State) (m : Nat) (r : Tether) : Bool :=
  s.laneSt r.lane != 3 || !(s.usable m).contains (r.lane / 40)

/-- Retransmit the lost records toward a module, in sequence order within each stream. -/
def State.retxLost (s : State) (m : Nat) : State :=
  (List.range 9).foldl (fun (t : State) st =>
    ((t.txs m st).recs.filter (s.recLost m)).foldl (fun (u : State) r => u.resendRec m st 4 r) t) s

/-- The retransmit timer of a stream, in nanoseconds (R493, R506): `rto_us` doubled at each expiry, up to eight times. -/
def State.rtoNs (s : State) (x : TxStream) : Nat := max 8 (s.get F.DT_FAB_CTL_rto_us) * 1000 * 2 ^ min 3 x.backoff

/-- RETX_TIMEOUT (R493): the oldest cell has gone that long; it alone is sent again, and the timer doubles. -/
def execRetxTimeout (m c : Nat) (s : State) : Host.Outcome State Fault Refusal :=
  match (s.txs m c).recs with
  | [] => ok s
  | r :: _ =>
    if s.live && s.fabOn && (s.peer m).reachable && decide (r.sentAt + s.rtoNs (s.txs m c) ≤ s.up) &&
        (s.pickLane m none).isSome then
      let s1 := s.resendRec m c 5 r
      ok (s1.setTxs m c { s1.txs m c with backoff := min 3 ((s1.txs m c).backoff + 1) })
    else ok s

/-! ### Changes of the spray maps (R65, R463, R480, R492) -/

/-- The planes lost toward a module between two states. -/
def planesLost (old now : State) (m : Nat) : List Nat := (old.usable m).filter (fun k => !(now.usable m).contains k)

/-- The key of a plane fault toward a module. -/
def planeKey (m k : Nat) : Nat := 320 + 8 * m + k

/-- Mended faults leave the list: a plane usable again, and the planes of a module that none reaches. -/
def State.mendPlanes (s : State) : State :=
  { s with fab := { s.fab with down := s.fab.down.filter (fun e =>
      decide (e.1 < 320) || !((s.usable ((e.1 - 320) / 8)).isEmpty || (s.usable ((e.1 - 320) / 8)).contains ((e.1 - 320) % 8))) } }

/-- A plane has stopped reaching modules: a unit fault when the change is one (R61, R65, R463). -/
def State.planeFault (s : State) (k : Nat) (ms : List Nat) : State :=
  let cover := ms.all (fun m => !(s.usable m).isEmpty)
  { s.unitFault 0xA k true cover with fab := { s.fab with
    down := ms.foldl (fun t m => tset t (planeKey m k) true) s.fab.down } }

/-- What follows a change of lanes, planes or heartbeats (R480, R492): lost planes are reported, and lost records
retransmitted. `fault` says whether a lost plane is a unit fault. -/
def State.mapChange (s old : State) (fault : Bool) : State :=
  let ms := tkeys s.fab.peers
  let lost := (List.range 8).filter (fun k => ms.any (fun m => (planesLost old s m).contains k))
  let s1 := if lost.isEmpty then s else s.raise F.DT_FAB_EVT_plane_lost
  let s2 := if fault then lost.foldl (fun (t : State) k =>
      t.planeFault k (ms.filter (fun m => (planesLost old s m).contains k))) s1 else s1
  let s3 := s2.mendPlanes
  ms.foldl (fun (t : State) m =>
    if old.usable m = s.usable m then t else t.retxLost m) s3

/-! ### Lane events (R461, R462) -/

/-- Set a lane's state, which it has from now on. -/
def State.setLane (s : State) (n st : Nat) : State :=
  { s.put F.DT_FAB_LANE_state st n with fab := { s.fab with laneAt := tset s.fab.laneAt n s.up } }

/-- Has a lane had its state for some nanoseconds? -/
def State.laneFor (s : State) (n ns : Nat) : Bool := decide (tget s.fab.laneAt n 0 + ns ≤ s.up)

/-- FAB_LANE_SIGNAL_DETECT: DOWN to TRAINING, in RAISE or later. -/
def execFabLaneSignalDetect (n : Nat) (s : State) : Host.Outcome State Fault Refusal :=
  okIf (decide (RAISE ≤ s.mode) && s.fabOn && decide (n < 320) && s.isOn (49 + n / 40) && s.laneSt n == 0) s
    (((s.setLane n 1).put F.DT_FAB_LANE_signal 1 n).setFlink n fabLink0)

/-- FAB_LANE_TRAINED: TRAINING to TRIAL. -/
def execFabLaneTrained (n : Nat) (s : State) : Host.Outcome State Fault Refusal :=
  okIf (s.laneSt n == 1 && decide (n < 320)) s (s.setLane n 2)

/-- FAB_LANE_TRAIN_TIMEOUT: TRAINING to DOWN after 500 ms. -/
def execFabLaneTrainTimeout (n : Nat) (s : State) : Host.Outcome State Fault Refusal :=
  okIf (s.laneSt n == 1 && decide (n < 320) && s.laneFor n 500000000) s (s.setLane n 0)

/-- FAB_LANE_TRIAL_PASS: TRIAL to UP after 1 ms. -/
def execFabLaneTrialPass (n : Nat) (s : State) : Host.Outcome State Fault Refusal :=
  let s1 := (s.setLane n 3).raise F.DT_FAB_EVT_lane_up
  let s2 := { s1 with fab := { s1.fab with down := tdel s1.fab.down n } }
  okIf (s.laneSt n == 2 && decide (n < 320) && s.laneFor n 1000000) s (s2.mapChange s false)

/-- A lane is declared failed (R461, R480, R492); its group had cover as long as it carried (R62; log 130); `signal` says whether its signal is still there. -/
def State.laneFail (s : State) (n : Nat) (signal : Bool) : State :=
  let wasUp := s.laneSt n == 3
  let others := (List.range 320).any (fun i => i != n && s.laneSt i == 3)
  let keeps := (planeLanes (n / 40)).any (fun i => i != n && s.laneIn i)
  let used := (tkeys s.fab.peers).any (fun m => (s.usable m).contains (n / 40))
  let s1 := (((s.setLane n 0).put F.DT_FAB_LANE_signal (b2n signal) n).addSat F.DT_FAB_LANE_fails 1 n).raise
    F.DT_FAB_EVT_lane_down
  let s2 := s1.setFlink n fabLink0
  let s3 := if wasUp then { s2 with fab := { s2.fab with down := tset s2.fab.down n true } } else s2
  let s4 := if wasUp && (keeps || !used) then s3.unitFault 9 n true others else s3
  let s5 := s4.mapChange s wasUp
  (tkeys s5.fab.peers).foldl (fun (t : State) m => t.retxLost m) s5

/-- FAB_LANE_FAIL (R461). -/
def execFabLaneFail (n : Nat) (signal : Bool) (s : State) : Host.Outcome State Fault Refusal :=
  okIf (decide (n < 320) && decide (2 ≤ s.laneSt n)) s (s.laneFail n signal)

/-- LINK_IDLE_FRAME (R461, R462). -/
def execLinkIdleFrame (n : Nat) (s : State) : Host.Outcome State Fault Refusal :=
  okIf (decide (n < 320) && decide (1 ≤ s.laneSt n)) s (s.sendBare n .idle)

/-! ### Link frames (R460, R813) -/

/-- Frames of the replay buffer that an acknowledgement leaves: those after it. -/
def ackReplay (l : List (Nat × Cell)) (ack : Nat) : List (Nat × Cell) :=
  match l.dropWhile (fun e => decide (e.1 ≠ ack)) with
  | [] => l
  | _ :: r => r

/-- Apply an acknowledged link sequence. The room that it frees takes lost records that found no lane (R492). -/
def State.linkAcked (s : State) (n ack : Nat) : State :=
  let x := s.flink n
  let r := ackReplay x.replay ack
  if r.length = x.replay.length then s
  else (tkeys s.fab.peers).foldl (fun (t : State) m => t.retxLost m) (s.setFlink n { x with replay := r, replays := 0 })

/-- A NAK: the frames after the acknowledged one are sent again; the eighth replay without acknowledgement fails the
lane (R461). -/
def State.linkReplay (s : State) (n : Nat) : State :=
  let x := s.flink n
  if x.replay.isEmpty then s
  else
    let s1 := x.replay.foldl (fun (t : State) e => t.emit (.linkFrame n .cell e.1 (linkAck x) (some e.2))) s
    let s2 := ((s1.addSat F.DT_FAB_LANE_replays x.replay.length n).count cgFab 8 0 x.replay.length).setFlink n
      { x with replays := x.replays + 1 }
    if 8 ≤ x.replays + 1 then s2.laneFail n true else s2

/-- A frame that carries a cell, in its order or not. -/
def State.linkCell (s : State) (n seq : Nat) (c : Cell) : State :=
  let x := s.flink n
  if seq = x.rxSeq then
    let s1 := s.setFlink n { x with rxSeq := (x.rxSeq + 1) % 4096, nakked := false }
    { s1 with fab := { s1.fab with arrived := s1.fab.arrived ++ [(n, c)] } }
  else if x.nakked then s
  else (s.setFlink n { x with nakked := true }).sendBare n .nak

/-- LINK_FRAME_RECEIVE (R460, R813). -/
def execLinkFrameReceive (n seq ack : Nat) (kind : LinkKind) (cell : Option Cell) (crcOk : Bool) (s : State) :
    Host.Outcome State Fault Refusal :=
  let good := s.linkAcked n ack
  let t := if !crcOk then (s.setFlink n { s.flink n with nakked := true }).sendBare n .nak
    else match kind, cell with
      | .cell, some c => good.linkCell n seq c
      | .nak, _ => good.linkReplay n
      | _, _ => good
  okIf (decide (n < 320) && decide (1 ≤ s.laneSt n)) s t

/-! ### Acknowledgements at the source (R490, R491, R493) -/

/-- Longest-round-trip samples of the last millisecond, with new ones. -/
def State.addRtt (s : State) (m : Nat) (l : List Nat) : State :=
  let p := s.peer m
  s.setPeer m { p with rtts :=
    (p.rtts.filter (fun e => decide (s.up < e.1 + 1000000))) ++ l.map (fun d => (s.up, d)) }

/-- An entry from module m (R490): stale, beyond what was sent, or it frees the records below `next`. -/
def State.ackEntry (s : State) (m : Nat) (w : Word) : State :=
  let st := bits w.toNat 0 4
  let nx := bits w.toNat 32 32
  let x := s.txs m st
  if 9 ≤ st ∨ serLe 32 nx x.acked = true then s.count cgFab 10
  else if serBefore 32 x.next nx then (s.count cgFab 10).raise F.DT_FAB_EVT_ack_bad
  else
    let gone := x.recs.filter (fun r => serBefore 32 r.seq nx)
    let s1 := s.setTxs m st { x with
      acked := nx, recs := x.recs.filter (fun r => !serBefore 32 r.seq nx)
      backoff := if gone.isEmpty then x.backoff else 0
      progAt := if gone.isEmpty then x.progAt else s.up }
    let s2 := s1.addRtt m (gone.map (fun r => s.up - r.sentAt))
    gone.foldl (fun (t : State) r => r.ends.foldl (fun (u : State) p => u.resolve p.body) t) s2

/-- ACK_RECEIVE (R490): an entry from module `src`. -/
def execAckReceive (src : Nat) (w : Word) (s : State) : Host.Outcome State Fault Refusal :=
  okIf (s.live && s.fabOn && decide (src < 256 ∧ src ≠ s.myId)) s (s.ackEntry src w)

/-! ### Abandonment (R501) -/

/-- The packets that have a cell of the stream unacknowledged. -/
def unackedPkts (x : TxStream) : List Pkt :=
  x.recs.flatMap (·.ends) ++ (match x.recs.getLast?, x.pkts with
    | some r, p :: _ => if 0 < x.cut ∧ r.ends = [] then [p] else []
    | _, _ => [])

/-- Abandon one stream: its unacknowledged packets are lost, and it restarts at 0. A packet whose cells so far are
all acknowledged is cut again from its start. -/
def State.abandonStream (s : State) (m st : Nat) : State :=
  let x := s.txs m st
  let lost := unackedPkts x
  let half := decide (0 < x.cut) && (x.recs.getLast?).any (fun r => r.ends.isEmpty)
  let s1 := s.setTxs m st ⟨0, 0, [], if half then x.pkts.drop 1 else x.pkts, 0, true, 0, s.up⟩
  lost.foldl State.lostCopy s1

/-- Abandon the streams toward a module (R501). -/
def State.abandon (s : State) (m : Nat) : State :=
  (((List.range 9).foldl (fun (t : State) st => t.abandonStream m st) s).raise F.DT_FAB_EVT_abandon).count cgFab 13 0 9

/-- `unreach_ms` in nanoseconds (R501, R506). -/
def State.unreachNs (s : State) : Nat := min 1000 (max 1 (s.get F.DT_FAB_CTL_unreach_ms)) * 1000000

/-- Is the time of R501 over: for a module unreachable so long, or for a stream without progress while it was reachable? -/
def State.abandonDue (s : State) (m : Nat) : Bool :=
  let p := s.peer m
  if p.reachable then
    (List.range 9).any (fun st => !(s.txs m st).recs.isEmpty && decide ((s.txs m st).progAt + s.unreachNs ≤ s.up))
  else decide (p.quietAt + s.unreachNs ≤ s.up)

/-- STREAM_ABANDON (R501): the module was unreachable for `unreach_ms`, or a stream made no progress for as long. -/
def execStreamAbandon (m : Nat) (s : State) : Host.Outcome State Fault Refusal :=
  okIf (s.live && s.fabOn && (tkeys s.fab.peers).contains m && s.abandonDue m) s (s.abandon m)

end Sys2Proof.Machine
end

