-- ==== Sys2Proof/Machine/FabRx.lean ====
section
/-! DEFINITION. The fabric interface from the fabric: resequencing, reassembly and cut-through, entries for the source,
heartbeats, reachability and restarts (R442, R444, R474, R481 to R488, R496 to R503). -/

namespace Sys2Proof.Machine

/-! ### Packets from cells (R388, R442, R465, R474, R485) -/

/-- The resequencer of a source stream. -/
def State.rxs (s : State) (src st : Nat) : RxStream := tget s.fab.rx (16 * src + st) rxStream0

/-- Store it. -/
def State.setRxs (s : State) (src st : Nat) (x : RxStream) : State :=
  { s with fab := { s.fab with rx := tput s.fab.rx (16 * src + st) x rxStream0 } }

/-- A packet that begins in a released cell: its blocks sum to A_c, and its reservation becomes its charge. Without
blocks it goes on without them, since the destination refuses nothing (R486). -/
def State.fabPkt (s : State) (src st len dl tag rw inLport inSpeed : Nat) (egList : Option Nat) (sample multiHit : Bool)
    (arrival : Nat) (bytes : List Byte) (complete : Bool) : Pkt × State :=
  let r := (s.takeAll true (blkReqs len)).getD ([], s)
  let n := blksSize r.1
  let t := ((r.2.releaseResv src dl st (creditCost len)).charge .shared n).newBody
    { bytes := bytes, blks := r.1, charge := .shared, refs := 1, complete := complete }
  ({ body := t.1, dm := s.myId, dl := dl, cls := st, length := len, tag := tag, rw := rw, inLport := inLport
     inSpeed := inSpeed, egList := egList, session := none, sample := sample, multiHit := multiHit, arrival := arrival
     ts := noTs, a := n, src := src, counted := false, moved := false, ct := false, start := 0, best := 0, ret := none
     tr := if sample then some { trace0 with t5 := s.time } else none }, t.2)

/-- The packets of a packed cell: n sub-headers, each with its frame (R473, R474). -/
def State.unpack (s : State) (src st : Nat) : Nat → List Byte → State
  | 0, _ => s
  | n + 1, l =>
    let w := beNat (l.take 8)
    let len := bits w 0 8
    let r := s.fabPkt src st len (bits w 8 8) (bits w 38 8) (bits w 16 22) (bits w 46 8) (bits w 54 3) none false
      (bitOf w 57) 0 ((l.drop 8).take (len - 4)) true
    (r.2.arriveEgress r.1).unpack src st n (l.drop (8 + (len - 4)))

/-- Units that waited for a body are sent again once it is complete (R390). -/
def State.resendReady (s : State) (h : Nat) : State :=
  let hs := s.sch.resend.filter (fun u => (tget? s.sch.outst u).any (fun o => o.pkt.body == h))
  hs.foldl State.resendUnit { s with sch := { s.sch with resend := s.sch.resend.filter (fun u => !hs.contains u) } }

/-- Bytes are added to a packet under reassembly; with its last it enters its egress queue, if it has not (R485). -/
def State.addFragment (s : State) (src st : Nat) (p : Partial) (pay : List Byte) (last : Bool) : State :=
  let h := p.pkt.body
  let s0 := s.setRxs src st { s.rxs src st with asm := if last then none else some p }
  match tget? s.buf.bodies h with
  | none => s0
  | some b =>
    let s1 := s0.setBody h { b with bytes := b.bytes ++ pay.take (p.pkt.length - 4 - b.bytes.length), complete := last }
    if p.queued then (if last then s1.resendReady h else s1)
    else if last then s1.arriveEgress p.pkt
    else if s1.ctOk p.pkt then
      (s1.setRxs src st { s1.rxs src st with asm := some { p with queued := true } }).arriveEgress p.pkt
    else s1

/-- A DATA cell is released. -/
def State.releaseData (s : State) (src st : Nat) (c : Cell) : State :=
  if cPacked c then s.unpack src st (cCount c) c.payload
  else if cSop c then
    let w1 := c.w1.toNat
    let w2 := c.w2.toNat
    let r := s.fabPkt src st (cLength c) (bits w1 46 8) (bits w1 54 8) (bits w2 0 22) (bits w2 22 8) (bits w2 30 3)
      (if bitOf w2 33 then some (bits w2 34 15) else none) (bitOf w1 62) (bitOf w1 63)
      (if bitOf w1 62 then c.w3.toNat else 0) [] false
    r.2.addFragment src st ⟨r.1, false⟩ c.payload (cEop c)
  else match (s.rxs src st).asm with
    | some p => s.addFragment src st p c.payload (cEop c)
    | none => s

/-! ### Messages (R466, R485) -/

/-- The 8-byte words of a payload. -/
def payWords : List Byte → List Word
  | a :: b :: c :: d :: e :: f :: g :: h :: r => BitVec.ofNat 64 (beNat [a, b, c, d, e, f, g, h]) :: payWords r
  | _ => []

/-- Groups of four words. -/
def fours : List Word → List (List Word)
  | a :: b :: c :: d :: r => [a, b, c, d] :: fours r
  | _ => []

/-- The messages of a list that padding may follow: without trailing zeros behind the first. -/
def trimZero {α : Type} (z : α → Bool) : List α → List α
  | [] => []
  | a :: r => a :: (r.reverse.dropWhile z).reverse

/-- The 8-byte messages of a payload; only one of 64 B can hold padding. -/
def msgWords (pay : List Byte) : List Word :=
  if pay.length ≤ 64 then trimZero (fun w => decide (w = 0)) (payWords pay) else payWords pay

/-- The learning records of a payload. -/
def payRecs (pay : List Byte) : List LearnRec :=
  let g := fours (payWords pay)
  (if pay.length ≤ 64 then trimZero (fun l => l.all (fun w => decide (w = 0))) g else g).map learnOfWords

/-- A cell of the control stream is released: its messages act (R485). -/
def State.releaseCtl (s : State) (src : Nat) (c : Cell) : State :=
  let ws := msgWords c.payload
  if cType c = 1 then ws.foldl (fun (t : State) w => (t.count cgSched 3).creditReq src w) s
  else if cType c = 2 then ws.foldl (fun (t : State) w => if bits w.toNat 11 4 = 0 then t
    else t.creditArrive (voqId src (bits w.toNat 0 8) (bits w.toNat 8 3)) (bits w.toNat 11 4)) s
  else if cType c = 4 then { s with tbl := { s.tbl with learnIn := s.tbl.learnIn ++ payRecs c.payload } }
  else if cType c = 6 then ws.foldl (fun (t : State) w => t.controlMsg src w) s
  else s

/-! ### Release in order, and entries (R482, R487, R488) -/

/-- Release the cells that are contiguous, at most n. -/
def State.releaseCells (s : State) (src st : Nat) : Nat → State
  | 0 => s
  | n + 1 =>
    let x := s.rxs src st
    match tget? x.held x.next with
    | none => s
    | some c =>
      let s1 := s.setRxs src st { x with
        held := tdel x.held x.next, heldAt := tdel x.heldAt x.next, next := (x.next + 1) % 2 ^ 32
        since := x.since + 1, sinceAt := if x.since = 0 then s.up else x.sinceAt }
      (if cType c = 0 then s1.releaseData src st c else s1.releaseCtl src c).releaseCells src st n

/-- Send an ACK cell to a module with the entries of its streams that are due (R487, R488). -/
def State.sendAcks (s : State) (src : Nat) (due : RxStream → Bool) : State :=
  let sts := (List.range 9).filter (fun st => due (s.rxs src st))
  match sts, (s.pickLane src none).filter s.ctlFree with
  | _ :: _, some n =>
    let ws := sts.map (fun st => BitVec.ofNat 64 (st + (s.rxs src st).next * 2 ^ 32))
    let s1 := s.sprayOn src n (mkCell (cellHdr 3 0 s.myId src) 0 0 0 (msgPayload ws))
    (sts.foldl (fun (t : State) st => t.setRxs src st { t.rxs src st with since := 0, owed := false }) s1).count cgFab 9 0
      sts.length
  | _, _ => s

/-- Cells released before an entry (R506). -/
def State.ackCells (s : State) : Nat := max 8 (s.get F.DT_FAB_CTL_ack_cells)

/-- Entries that are due at once. -/
def State.acksNow (s : State) (src : Nat) : State :=
  s.sendAcks src (fun x => x.owed || decide (s.ackCells ≤ x.since))

/-- Is an entry of a stream due: owed, for `ack_cells`, or `ack_us` after the first release not covered (R488, R506)? -/
def State.ackDue (s : State) (x : RxStream) : Bool :=
  x.owed || decide (s.ackCells ≤ x.since) ||
    (decide (0 < x.since) && decide (x.sinceAt + max 1 (s.get F.DT_FAB_CTL_ack_us) * 1000 ≤ s.up))

/-- ACK_SEND (R488): the entries that are due to a module. -/
def execAckSend (src : Nat) (s : State) : Host.Outcome State Fault Refusal :=
  okIf (s.live && s.fabOn) s (s.sendAcks src s.ackDue)

/-! ### Restarts (R444, R502) -/

/-- The cells held, in sequence order from `next`, each with its distance from it. -/
def heldFrom (x : RxStream) : List (Nat × Cell) :=
  ((x.held.filter (fun e => decide (x.next ≤ e.1))) ++ (x.held.filter (fun e => decide (e.1 < x.next)))).map
    (fun e => ((e.1 + 2 ^ 32 - x.next) % 2 ^ 32, e.2))

/-- Count the packets of which cells are held: `till` bounds the cells known to belong to the last packet, `cont` is the
place whose cell would continue it. -/
def countHeld : Nat → Option Nat → List (Nat × Cell) → Nat
  | _, _, [] => 0
  | till, cont, (q, c) :: r =>
    let next := if cEop c then none else some (q + 1)
    if cPacked c then cCount c + countHeld 0 none r
    else if cSop c then 1 + countHeld (q + cellsOf (cLength c)) next r
    else if q < till ∨ cont = some q then countHeld till next r
    else 1 + countHeld 0 next r

/-- Cells still to come of the packet under reassembly. -/
def State.asmLeft (s : State) (p : Partial) : Nat :=
  let n := cellsOf p.pkt.length
  n - (s.body p.pkt.body).bytes.length * n / (p.pkt.length - 4)

/-- The packets of which a stream holds any cell (R502). -/
def State.packetsHeld (s : State) (x : RxStream) : Nat :=
  match x.asm with
  | some p => 1 + countHeld (s.asmLeft p) (some 0) (heldFrom x)
  | none => countHeld 0 none (heldFrom x)

/-- A unit whose packet no longer exists leaves the egress side, and its number is passed over. -/
def State.dropUnit (s : State) (h : Nat) : State :=
  match tget? s.sch.outst h with
  | none => s
  | some o =>
    State.passOver { s with sch := { s.sch with
      outst := tdel s.sch.outst h, resend := s.sch.resend.filter (fun u => decide (u ≠ h)) } } h o

/-- Drop a packet under reassembly: where it was sent on by cut-through, from its egress queue or its unit. -/
def State.dropAsm (s : State) (p : Partial) : State :=
  let h := p.pkt.body
  let s1 := if p.queued then
      let t := (tkeys s.sch.queues).foldl (fun (t : State) q =>
        if (t.equeue q).any (fun x => x.body == h) then (t.takeQueue q (fun x => x.body == h)).2 else t) s
      (t.sch.outst.filter (fun e => e.2.pkt.body == h)).foldl (fun (u : State) e => u.dropUnit e.1) t
    else s
  if thas s1.buf.bodies h then s1.freeBody h else s1

/-- The destination port and the length of each packet of a packed cell (R474). -/
def packedHeads : Nat → List Byte → List (Nat × Nat)
  | 0, _ => []
  | n + 1, l =>
    let w := beNat (l.take 8)
    (bits w 8 8, bits w 0 8) :: packedHeads n (l.drop (8 + (bits w 0 8 - 4)))

/-- The reservations of the packets whose first cells are held are released. -/
def State.releaseHeld (s : State) (src st : Nat) (l : List (Nat × Cell)) : State :=
  l.foldl (fun (t : State) e =>
    (if cPacked e.2 then packedHeads (cCount e.2) e.2.payload
      else if cSop e.2 then [(bits e.2.w1.toNat 46 8, cLength e.2)] else []).foldl
      (fun (u : State) h => u.releaseResv src h.1 st (creditCost h.2)) t) s

/-- Discard every cell that a stream holds (R502), with the packet under reassembly. -/
def State.discardHeld (s : State) (src st : Nat) : State :=
  let x := s.rxs src st
  let s1 := ((s.releaseHeld src st x.held).count cgFab 12 0 x.held.length).setRxs src st
    { x with held := [], heldAt := [], asm := none }
  match x.asm with
  | some p => s1.dropAsm p
  | none => s1

/-- Everything reserved for a source's VOQs is released, and they leave the request sets (R444). -/
def State.freeSource (s : State) (m : Nat) : State :=
  let own : Nat × Nat → Bool := fun e => decide (e.1 / 2048 = m)
  let n := ((s.buf.resv.filter own).map (·.2)).sum
  let left := s.sch.reqs.map (fun e => (e.1, e.2.filter (fun x => decide (x ≠ m))))
  let s1 := { s with
    buf := { s.buf with resv := s.buf.resv.filter (fun e => !own e) }
    sch := { s.sch with reqs := left.filter (fun e => !e.2.isEmpty) } }
  (s1.count cgSched 9 0 n).raise F.DT_SCHED_EVT_src_lost

/-- A source shows a new incarnation (R502): what is held of its streams is lost, and they start anew. -/
def State.newSource (s : State) (src : Nat) : State :=
  let s1 := (List.range 9).foldl (fun (t : State) st =>
    let n := if st < 8 then t.packetsHeld (t.rxs src st) else 0
    let t1 := (t.discardHeld src st).setRxs src st rxStream0
    if n = 0 then t1 else (t1.count cgLoss 0x19 0 n).raise F.DT_GUAR_EVT_breach) s
  s1.freeSource src

/-! ### Cells (R466, R482, R483) -/

/-- A cell that restarts its stream (R502), unless it is the copy of one that did. -/
def State.restartRx (s : State) (src st : Nat) (c : Cell) : State :=
  let x := s.rxs src st
  if cRestart c && !(bitOf c.w0.toNat 36 && x.base == some (cSeq c)) then
    let s1 := s.discardHeld src st
    ((s1.setRxs src st { s1.rxs src st with next := cSeq c, base := some (cSeq c) }).raise F.DT_FAB_EVT_abandon).count
      cgFab 13
  else s

/-- A sequenced cell at its resequencer (R482). -/
def State.seqCell (s0 : State) (src st : Nat) (c : Cell) : State :=
  let s := s0.restartRx src st c
  let x := s.rxs src st
  let q := cSeq c
  if serBefore 32 q x.next then ((s.setRxs src st { x with owed := true }).count cgFab 6).acksNow src
  else if thas x.held q then s.count cgFab 6
  else if 65536 ≤ (q + 2 ^ 32 - x.next) % 2 ^ 32 then s.count cgFab 7
  else
    let s1 := s.setRxs src st { x with held := tset x.held q c, heldAt := tset x.heldAt q s.up }
    let s2 := if cType c = 0 then s1.count cgFab 3 else s1
    (s2.releaseCells src st (x.held.length + 1)).acksNow src

/-! ### Heartbeats (R49, R481, R496 to R502) -/

/-- Conflict of ids (R49, R499): every lane is held out of service. -/
def State.idConflict (s : State) : State :=
  let s1 := (List.range 320).foldl (fun (t : State) n => if t.laneSt n = 0 then t else t.setLane n 0) s
  let s2 := { s1 with fab := { s1.fab with links := [], conflict := true } }
  (s2.mapChange s false).raise F.DT_FAB_EVT_id_conflict

/-- The time without progress counts while the module is reachable only (R501): it begins anew. -/
def State.progressAnew (s : State) (m : Nat) : State :=
  (List.range 9).foldl (fun (t : State) st => t.setTxs m st { t.txs m st with progAt :=
    if (t.txs m st).recs.isEmpty then (t.txs m st).progAt else t.up }) s

/-- A heartbeat heard on a plane from another module. -/
def State.hear (s : State) (k src inc heard : Nat) : State :=
  let old := s.peer src
  let s1 := if old.inc.any (fun i => decide (i ≠ inc)) then
      ((s.newSource src).abandon src).raise F.DT_FAB_EVT_new_inc else s
  let p := s1.peer src
  let s2 := (s1.setPeer src { p with
    heardOn := setBits p.heardOn k 1 1, hears := heard, reachable := true, inc := some inc
    hbAt := tset p.hbAt k s1.up }).put F.DT_FAB_DEST_incarnation inc src
  let s3 := if old.reachable then s2 else ((s2.raise F.DT_FAB_EVT_reach).progressAnew src).sendAllStates src
  s3.mapChange s true

/-- A HEARTBEAT cell (R483, R496). -/
def State.heartbeatIn (s : State) (k : Nat) (c : Cell) : State :=
  if !cellOk c || cType c != 5 then s.count cgFab 7
  else
    let w := (payWords c.payload).headD 0
    let s1 := s.count cgFab 11
    if cSrc c = s.myId then s1.idConflict else s1.hear k (cSrc c) (bits w.toNat 0 16) (bits w.toNat 32 8)

/-- HEARTBEAT_RECEIVE (R496): a heartbeat cell on a plane. -/
def execHeartbeatReceive (plane : Nat) (c : Cell) (s : State) : Host.Outcome State Fault Refusal :=
  okIf (s.live && s.fabOn && decide (plane < 8)) s (s.heartbeatIn plane c)

/-- A cell that a lane has delivered. -/
def State.cellIn (s : State) (n : Nat) (c : Cell) : State :=
  if !cellOk c then s.count cgFab 7
  else if cType c = 3 then (msgWords c.payload).foldl (fun (t : State) w => t.ackEntry (cSrc c) w) s
  else if cType c = 5 then s.heartbeatIn (n / 40) c
  else if 7 ≤ cType c ∨ 9 ≤ cStream c then s.count cgFab 7
  else s.seqCell (cSrc c) (cStream c) c

/-- CELL_RECEIVE (R482): the next cell that the lanes have delivered. -/
def execCellReceive (s : State) : Host.Outcome State Fault Refusal :=
  match s.fab.arrived with
  | [] => ok s
  | (n, c) :: rest => okIf (s.live && s.fabOn) s (State.cellIn { s with fab := { s.fab with arrived := rest } } n c)

/-- GAP_OLD_TIMER (R484): a gap of stream c from module m has stayed open for 200 µs. The oldest gap lies before every
cell held, and is as old as the first of them to arrive. -/
def execGapOldTimer (m c : Nat) (s : State) : Host.Outcome State Fault Refusal :=
  okIf (s.live && (s.rxs m c).heldAt.any (fun e => decide (e.2 + 200000 ≤ s.up))) s (s.raise F.DT_FAB_EVT_gap_old)

/-- A module is unreachable (R444, R481, R500): its ports are seen down, and its VOQs lose their balances. -/
def State.unreachable (s : State) (m : Nat) : State :=
  let s1 := (s.setPeer m { s.peer m with reachable := false, quietAt := s.up }).raise F.DT_FAB_EVT_unreach
  let s2 := (List.range 256).foldl (fun (t : State) l => t.report m l false) s1
  let s3 := ((tkeys s2.buf.voqs).filter (fun v => decide (v / 2048 = m))).foldl (fun (t : State) v =>
    (t.setVoq v { t.voq v with balance := 0, reqOn := false }).voqSync v) s2
  s3.freeSource m

/-- The heartbeat period in nanoseconds (R496, R506). -/
def State.hbNs (s : State) : Nat := max 4 (s.get F.DT_FAB_CTL_hb_us) * 1000

/-- HEARTBEAT_TIMEOUT (R478, R481): no heartbeat from module m on a plane for 3 × `hb_us`. -/
def execHeartbeatTimeout (m plane : Nat) (s : State) : Host.Outcome State Fault Refusal :=
  let p := s.peer m
  let s1 := s.setPeer m { p with heardOn := setBits p.heardOn plane 1 0 }
  let s2 := if (s1.peer m).heardOn = 0 ∧ p.reachable = true then s1.unreachable m else s1
  okIf (s.live && s.fabOn && decide (plane < 8) && bitOf p.heardOn plane &&
    decide (tget p.hbAt plane 0 + 3 * s.hbNs ≤ s.up)) s (s2.mapChange s true)

/-- The lane of a plane that carries the next heartbeat: UP lanes in rotation, else lanes in TRIAL (R462, R496). -/
def State.hbLane (s : State) (k : Nat) : Option Nat :=
  let at' : Nat → List Nat := fun st => (planeLanes k).filter (fun n =>
    s.laneSt n == st && decide ((s.flink n).replay.length < 256))
  let ls := if (at' 3).isEmpty then at' 2 else at' 3
  let last := tget s.fab.hbLane k 0
  (ls.find? (fun n => decide (last < n))).orElse (fun _ => ls.head?)

/-- A heartbeat record's words (R496). -/
def State.hbPayload (s : State) (m k : Nat) : List Byte :=
  msgPayload [BitVec.ofNat 64 (s.rec0.inc % 2 ^ 16 + 2 ^ 16 * s.mode + 2 ^ 20 * s.get F.KV_MODE_topology + 2 ^ 24 * k +
    2 ^ 32 * (s.peer m).heardOn), BitVec.ofNat 64 s.time]

/-- Send the heartbeat of a plane to a module. -/
def State.heartbeatTo (s : State) (k m : Nat) : State :=
  match s.hbLane k with
  | none => s
  | some n =>
    let s1 := s.sendOn n (mkCell (cellHdr 5 0 s.myId m) 0 0 0 (s.hbPayload m k))
    { s1 with fab := { s1.fab with hbLane := tset s1.fab.hbLane k n } }

/-- The modules that heartbeats go to; a peer not yet heard has an id that the spec gives no value. -/
def State.hbTargets (s : State) : List Nat × State :=
  if s.get F.KV_MODE_topology = 2 ∧ s.fab.peers = [] then
    let r := s.fresh
    ([Config.free r.1 % 256], r.2)
  else (s.peerModules, s)

/-- HEARTBEAT_SEND (R496): one on each plane to every module of the profile, every `hb_us`. -/
def execHeartbeatSend (s : State) : Host.Outcome State Fault Refusal :=
  let r := s.hbTargets
  let s1 : State := { r.2 with fab := { r.2.fab with hbSent := some s.up } }
  okIf (s.live && s.fabOn && (s.fab.hbSent.all (fun t => decide (t + s.hbNs ≤ s.up)))) s
    ((List.range 8).foldl (fun (t : State) k => r.1.foldl (fun (u : State) m => u.heartbeatTo k m) t) s1)

end Sys2Proof.Machine
end

