-- ==== Sys2Proof/Machine/Memory.lean ====
section
/-! DEFINITION. The LPDDR6 channels (chapter 13): transactions and their errors, pin marking, training, drift and
retrains, failures of channels and packages, scrub and refresh. Channels 0 to 103 are BC0 to BC103, and 104 + n is
SCn. -/

namespace Sys2Proof.Machine

/-! ### Channels, packages and their registers (R547, R579 to R584) -/

/-- The counters of the side. -/
def memCg (ch : Nat) : CntGroup := if isTail ch then cgDtMem else cgTfMem

/-- Set the state of a channel (R567). -/
def State.setChState (s : State) (ch st : Nat) : State :=
  s.put (side ch F.DT_MEM_CH_state F.TF_MEM_CH_state) st (chIdx ch)

/-- Store what is held of a channel, with the length of its catch-up log shown (R580). -/
def State.setMemCh (s : State) (ch : Nat) (c : MemCh) : State :=
  ({ s with mem := { s.mem with chans := tput s.mem.chans ch c memCh0 } }).put
    (side ch F.DT_MEM_CH_log F.TF_MEM_CH_log) c.log.length (chIdx ch)

/-- Raise an event of the side. -/
def State.memEvt (s : State) (ch : Nat) (d t : Fld) : State := s.raise (side ch d t)

/-- The package of a channel (R547). -/
def pkgOf (ch : Nat) : Nat := if isTail ch then ch % 13 else (ch - 104) / 8

/-- The channels of a package. -/
def pkgChans (tail : Bool) (k : Nat) : List Nat :=
  if tail then (List.range 8).map (fun g => 13 * g + k) else (List.range 8).map (fun i => 104 + 8 * k + i)

/-- The other channels of a tail channel's group, or the mirror. -/
def coverOf (ch : Nat) : List Nat :=
  if isTail ch then ((List.range 13).map (fun i => ch / 13 * 13 + i)).filter (· ≠ ch) else [mirrorOf ch]

/-- Are all of them IN, and so healthy (R565, R569)? -/
def State.coverIn (s : State) (ch : Nat) : Bool := (coverOf ch).all (fun c => s.chState c == 2)

/-! ### Uncorrectable data of the tail (R572) -/

/-- A retrain in the group is abandoned: the channel keeps its previous delays and enters CATCHUP (hard case). -/
def State.abandonRetrain (s : State) (g : Nat) : State :=
  (s.groupCh g (· == 3)).foldl (fun (t : State) i => t.setChState (13 * g + i) 4) s

/-- The accepted packets with written bytes in [a, b) of a VOQ's chain are lost (R572). -/
def State.losePackets (s : State) (v a b : Nat) : State :=
  let x := s.voq v
  let hit : VPkt → Bool := fun e => decide (e.place ≠ .die ∧ e.off < b ∧ a < e.off + e.pkt.a ∧ b ≤ x.written)
  let s1 := (x.q.filter hit).foldl (fun (t : State) e => (t.lostCopy e.pkt).count cgDtMem 8) s
  (((s1.setVoq v { x with q := x.q.filter (fun e => !hit e) }).trimChain v).closeChain v).voqSync v

/-- The segment of a row of a group (R554). -/
def State.segOfRow (s : State) (g r : Nat) : Nat := 524288 * g + r * s.rowSize / segSize

/-- A unit of the tail at a channel address that cannot be had from its channel (R572, R573): its row is reconstructed from
the other units, or with another one missing its packets are lost. -/
def State.rowShort (s : State) (ch addr : Nat) (other : Bool) : State :=
  let g := ch / 13
  let r := addr / s.tailGrain
  let seg := s.segOfRow g r
  let gone := (s.missing g seg).filter (fun i => decide (i ≠ ch % 13))
  if gone = [] ∧ other = false then (s.rowRead g r (ch % 13 :: s.missing g seg)).count cgDtMem 3
  else
    match tget? s.buf.segsUsed seg with
    | none => s
    | some v =>
      let x := s.voq v
      match (List.range x.segs.length).find? (fun i => x.segs.getD i 0 == seg) with
      | none => s
      | some i =>
        let a := (x.segBase + i) * segSize + (r * s.rowSize - segSize * (seg % 524288))
        s.losePackets v a (a + s.rowSize)

/-- An uncorrectable unit of the tail (R572): a retrain of the group is abandoned, and the unit is rewritten once its row is
reconstructed. -/
def State.tailBad (s : State) (ch addr : Nat) (other : Bool) : State :=
  ((s.abandonRetrain (ch / 13)).rowShort ch addr other).tailUnit 2 (ch / 13) (addr / s.tailGrain) true (ch % 13)

/-! ### OUT (R570 to R574, R61) -/

/-- Raise `withdrawn` for each tail group that has lost a second channel (R572). -/
def State.noteWithdrawn (s0 s : State) : State :=
  if (List.range 8).any (fun g => s.withdrawn g && !s0.withdrawn g) then s.raise F.DT_MEM_EVT_withdrawn else s

/-- What becomes of a channel's transactions as it enters OUT (R573): reads of the tail are completed by reconstruction,
those of the ballast go to the mirror, and writes are complete with the row's other units, or with the mirror's copy. -/
def State.handOver (s : State) (ch : Nat) : State :=
  let q := s.memq ch
  let s1 := s.setMemq ch memQ0
  let reads := (q.issued ++ q.waiting).filter (fun t => !t.write)
  if isTail ch then
    ((reads.map (fun t => t.addr / s.tailGrain)).eraseDups).foldl (fun (t : State) r => t.rowShort ch (r * s.tailGrain) false) s1
  else { s1 with mem := { s1.mem with
    bq := if s.chServes (mirrorOf ch) then addAt s1.mem.bq (chIdx (mirrorOf ch)) reads else s1.mem.bq } }

/-- A channel enters OUT. -/
def State.enterOut (s : State) (ch : Nat) : State :=
  if s.chState ch = 5 then s
  else
    (((s.setMemCh ch { s.memCh ch with log := [], overflow := false, outAt := some s.up }).setChState ch 5).memEvt ch
      F.DT_MEM_EVT_ch_out F.TF_MEM_EVT_ch_out).handOver ch

/-- A package is declared failed (R571): all its channels enter OUT, and the unit fault is one of a package. -/
def State.packageOut (s : State) (tail : Bool) (k : Nat) : State :=
  let ch := if tail then k else 104 + 8 * k
  if s.flag (side ch F.DT_MEM_PKG_out F.TF_MEM_PKG_out) k then s
  else
    let before := (pkgChans tail k).all s.coverIn
    let s1 := (s.raise (side ch F.DT_MEM_PKG_out F.TF_MEM_PKG_out) k).memEvt ch F.DT_MEM_EVT_pkg_out F.TF_MEM_EVT_pkg_out
    s.noteWithdrawn (((pkgChans tail k).foldl State.enterOut s1).unitFault (if tail then 6 else 8) k before false)

/-- Another channel of the package entered OUT within the last 10 ms (R571). -/
def State.pkgStruck (s : State) (ch : Nat) : Bool :=
  (pkgChans (isTail ch) (pkgOf ch)).any (fun c => c != ch && s.chState c == 5 &&
    (match (s.memCh c).outAt with
     | some t => decide (s.up - t ≤ 10000000)
     | none => false))

/-- A channel is declared failed (R570, R571). -/
def State.channelOut (s : State) (ch : Nat) : State :=
  if s.chState ch = 5 then s
  else if s.pkgStruck ch then s.packageOut (isTail ch) (pkgOf ch)
  else
    s.noteWithdrawn ((s.enterOut ch).unitFault (if isTail ch then 5 else 7) (chIdx ch) (s.coverIn ch) false)

/-- CHANNEL_FAIL (R570, R571, R574): cause 0 a transaction that stays outstanding, another a package that cannot be
read or does not match. -/
def execChannelFail (ch cause : Nat) (s : State) : Host.Outcome State Fault Refusal :=
  okIf (isCh ch && s.awake && (cause != 0 || decide (1 ≤ s.chState ch ∧ s.chState ch ≤ 4))) s
    (if cause = 0 then s.channelOut ch else s.packageOut (isTail ch) (pkgOf ch))

/-! ### Errors of a burst (R549 to R551, R572) -/

/-- The pin that a symbol of a burst belongs to (R549, R550): symbols 0 to 35 of subchannel 0, 36 to 71 of
subchannel 1, three to a pin. -/
def pinOf (sym : Nat) : Nat := sym / 3

/-- What a burst's errors come to: nothing, corrected symbols, or uncorrectable (R550, R551). -/
inductive BurstEnd where
  | clean
  | corrected (pins : List Nat)
  | bad
  deriving DecidableEq, Repr

/-- The code's answer on the erroneous symbols of a burst, with a marked pin or none. -/
def burstEnd (marked : Option Nat) (syms : List Nat) : BurstEnd :=
  let l := syms.eraseDups
  match marked with
  | none => if l = [] then .clean else if l.length ≤ 2 then .corrected (l.map pinOf) else .bad
  | some p =>
    if l.any (fun x => decide (pinOf x ≠ p)) then .bad else if l = [] then .clean else .corrected [p]

/-- The marked pin of a channel (R551, R580). -/
def State.markedPin (s : State) (ch : Nat) : Option Nat :=
  if s.flag (side ch F.DT_MEM_CH_pin_marked F.TF_MEM_CH_pin_marked) (chIdx ch) then
    some (s.get (side ch F.DT_MEM_CH_marked_pin F.TF_MEM_CH_marked_pin) (chIdx ch)) else none

/-- A burst with a corrected symbol on a pin (R551): at the 16th within a second the pin is marked, or the channel
leaves when one is. -/
def State.pinHit (s : State) (ch p : Nat) : State :=
  let c := s.memCh ch
  let l := (tget c.pinHits p []).filter (fun t => decide (s.up - t < 1000000000)) ++ [s.up]
  let s1 := s.setMemCh ch { c with pinHits := tset c.pinHits p l }
  if l.length < 16 ∨ s.markedPin ch = some p then s1
  else if (s.markedPin ch).isSome then s1.channelOut ch
  else ((s1.put (side ch F.DT_MEM_CH_marked_pin F.TF_MEM_CH_marked_pin) p (chIdx ch)).raise
    (side ch F.DT_MEM_CH_pin_marked F.TF_MEM_CH_pin_marked) (chIdx ch)).memEvt ch
      F.DT_MEM_EVT_pin_mark F.TF_MEM_EVT_pin_mark

/-- An uncorrectable burst (R570): the fourth within a millisecond takes the channel OUT. -/
def State.ueHit (s : State) (ch : Nat) : State :=
  let c := s.memCh ch
  let l := c.ueTimes.filter (fun t => decide (s.up - t < 1000000)) ++ [s.up]
  let s1 := ((s.setMemCh ch { c with ueTimes := l }).count (memCg ch) 2).memEvt ch F.DT_MEM_EVT_ue F.TF_MEM_EVT_ue
  if 4 ≤ l.length then s1.channelOut ch else s1

/-- One burst of a read: the state, and whether it was uncorrectable. -/
def State.burst (s : State) (ch : Nat) (syms : List Nat) : State × Bool :=
  if s.chServes ch then
    match burstEnd (s.markedPin ch) syms with
    | .clean => (s, false)
    | .corrected pins =>
      let s1 := (s.count (memCg ch) 1).memEvt ch F.DT_MEM_EVT_ce F.TF_MEM_EVT_ce
      (pins.eraseDups.foldl (fun (t : State) p => t.pinHit ch p) s1, false)
    | .bad => (s.ueHit ch, true)
  else (s, false)

/-- The bursts of a transaction. -/
def State.bursts (s : State) (ch : Nat) : List (List Nat) → State × Bool
  | [] => (s, false)
  | b :: r =>
    let x := s.burst ch b
    let y := x.1.bursts ch r
    (y.1, x.2 || y.2)

/-! ### Uncorrectable data of the ballast (R556, R557, R572) -/

/-- The ballast byte at an address of a channel (R556 read backwards). -/
def State.ballastByte (s : State) (ch addr : Nat) : Nat :=
  let g := s.ballastGrain
  (addr / g * 8 + (ch - 104) % 8) * g + addr % g

/-- Words of a list set to 0 from position p on, n of them. -/
def zeroWords (p n : Nat) (l : List Word) : List Word :=
  l.zipIdx.map (fun e => if p ≤ e.2 ∧ e.2 < p + n then 0 else e.1)

/-- The same over the records of a ring, laid end to end. -/
def zeroRing (n : Nat) : Nat → List (List Word) → List (List Word)
  | _, [] => []
  | p, r :: rest =>
    zeroWords p n r :: zeroRing (if p < r.length then n - (r.length - p) else n) (p - r.length) rest

/-- Counters of which the backing store lost a grain: which counters lie in it is not given, so a free value says for
each. -/
def loseCounters (fv : Nat) (t : Tab Nat) : Tab Nat :=
  (t.zipIdx.filter (fun e => Config.free (fv + e.2) % 2 == 0)).map (·.1)

/-- A grain of the ballast is unreadable in both mirrors (R572, R557). Where in a region the items lie is open, so a
free value says which of them the grain held. -/
def State.ballastLost (s : State) (y : Nat) : State :=
  if y < 0x80000000 then
    ({ s with mem := { s.mem with intact := false } }).raise F.TF_MEM_EVT_ballast_lost
  else
    let s1 := s.count cgTfMem 8
    let n := s.fv
    if y < 0x180000000 then
      { s1 with fv := n + s.tlm.totals.length, tlm := { s1.tlm with totals := loseCounters n s.tlm.totals } }
    else if y < 0x300000000 then
      let i := (y - 0x180000000) / 0x20000000
      let ring := if i < 8 then 8 + i else 100 + i
      let l := tget s.tlm.rings ring []
      let len := (l.map List.length).sum
      let l1 := zeroRing (s.ballastGrain / 8) (Config.free n % (len + 1)) l
      { s1 with fv := n + 1, tlm := { s1.tlm with rings := if l = [] then s.tlm.rings else tset s.tlm.rings ring l1 } }
    else
      let k := Config.free n % 6
      let s2 := { s1 with fv := n + 1 }
      if k < 2 then { s2 with fw := { s2.fw with slots := lset none s2.fw.slots k none } }
      else if k < 4 then { s2 with mc := { s2.mc with snapshots := lset [] s2.mc.snapshots (k - 2) [] } }
      else if k = 4 then { s2 with fw := { s2.fw with rollback := s2.fw.rollback.map (fun w => w.map (fun _ => 0)) } }
      else s2

/-- A grain is read from one channel and written to another (R559, R567, R572). -/
def State.grainCopy (s : State) (src dst addr : Nat) : State :=
  let g := s.ballastGrain
  let a := addr / g * g
  let t := addAt (addAt s.mem.bq (chIdx src) (spanTxs 1 a g false)) (chIdx dst) (spanTxs 2 a g true)
  { s with mem := { s.mem with bq := t } }

/-- An uncorrectable read of the ballast (R572): the grain is read from the mirror and rewritten, or it is lost. -/
def State.ballastBad (s : State) (ch addr : Nat) (other : Bool) : State :=
  let y := s.ballastByte ch addr
  if s.mirrorServes (mirrorOf ch) y && !other then (s.grainCopy (mirrorOf ch) ch addr).count cgTfMem 3 else s.ballastLost y

/-- A write to a grain whose mirror is in RETRAIN enters the grain in the mirror's log (R567, R568). -/
def State.ballastSkip (s : State) (ch addr : Nat) : State :=
  let m := mirrorOf ch
  if s.chState m = 3 then
    let c := s.memCh m
    let k := s.ballastByte ch addr / s.ballastGrain
    s.setMemCh m (if c.log.contains k then c
      else if 4096 ≤ c.log.length then { c with overflow := true } else { c with log := c.log ++ [k] })
  else s

/-! ### Transactions, scrub and refresh (R549, R560, R572, R575) -/

/-- A read of a channel completes, with the erroneous symbols of each burst; `other`: another unit of the row, or the
mirror's copy, is uncorrectable as well. -/
def State.readDone (s : State) (ch addr : Nat) (bursts : List (List Nat)) (other : Bool) : State :=
  let x := (s.count (memCg ch) 0).bursts ch bursts
  if x.2 then (if isTail ch then x.1.tailBad ch addr other else x.1.ballastBad ch addr other) else x.1

/-- MEM_TRANSACTION_COMPLETE (R549, R551, R559, R561, R572): the oldest outstanding transaction of a port of a channel. With none
outstanding it is one that the model does not follow from its start (log 142), at the address given. -/
def execMemTransactionComplete (ch : Nat) (a : MemAddr) (write : Bool) (bursts : List (List Nat)) (other : Bool) (s : State) :
    Host.Outcome State Fault Refusal :=
  let q := s.memq ch
  let t := (oldestTx q a.rank).getD ⟨a.rank, a.addr, write⟩
  let s1 := s.setMemq ch (endTx q t)
  okIf (s.awake && s.chServes ch && decide (1 ≤ a.rank ∧ a.rank ≤ 5) && decide (t.addr < 2147483648) && mayEnd q t) s
    (if t.write then
      let s2 := s1.count (memCg ch) 0
      if isTail ch then s2 else s2.ballastSkip ch t.addr
    else s1.readDone ch t.addr bursts other)

/-- May a scrub transaction be issued (R560, R561): with no other one waiting, or, once in each 10 µs, ahead of every other
rank; and with nothing to its address under way? -/
def State.scrubMay (s : State) (ch addr : Nat) : Bool :=
  let q := s.memq ch
  (q.issued ++ q.waiting).all (fun t => t.addr != addr) &&
    ((decide (q.issued.length < 64) && q.waiting.isEmpty) ||
      decide (tget s.mem.scrubAt (b2n (isTail ch)) 0 + 10000 ≤ s.up))

/-- MEM_SCRUB (R560, R575): one location, whether the parity unit or the mirror copy disagrees, and the progress of the
pass. -/
def execMemScrub (ch addr : Nat) (bursts : List (List Nat)) (other differs : Bool) (pct : Nat) (s : State) :
    Host.Outcome State Fault Refusal :=
  let s0 : State := { s with mem := { s.mem with scrubAt := tset s.mem.scrubAt (b2n (isTail ch)) s.up } }
  okIf (s.live && s.chServes ch && s.flag (side ch F.DT_MEM_CFG_scrub_en F.TF_MEM_CFG_scrub_en) &&
      decide (addr < 2147483648 ∧ pct ≤ 100) && s.scrubMay ch addr) s
    (let s1 := s0.readDone ch addr bursts other
     let used := !isTail ch || thas s.buf.segsUsed (s.segOfRow (ch / 13) (addr / s.tailGrain))
     let s2 := if differs && used && bursts.all (· == []) then s1.count (memCg ch) 7 else s1
     if pct = 100 then
       (State.zero { s2 with mem := { s2.mem with passAt := tset s2.mem.passAt (b2n (isTail ch)) s.up } } (side ch F.DT_MEM_STAT_scrub_pct F.TF_MEM_STAT_scrub_pct)).addSat
         (side ch F.DT_MEM_STAT_passes F.TF_MEM_STAT_passes) 1
     else s2.put (side ch F.DT_MEM_STAT_scrub_pct F.TF_MEM_STAT_scrub_pct) pct)

/-- SCRUB_LATE (R575): a side's pass has run for 24 h. -/
def execScrubLate (dt : Bool) (s : State) : Host.Outcome State Fault Refusal :=
  let ch := if dt then 0 else 104
  okIf (s.live && s.flag (side ch F.DT_MEM_CFG_scrub_en F.TF_MEM_CFG_scrub_en) &&
      decide (tget s.mem.passAt (b2n (isTail ch)) 0 + 86400000000000 ≤ s.up)) s
    (s.memEvt ch F.DT_MEM_EVT_scrub_late F.TF_MEM_EVT_scrub_late)

/-- MEM_REFRESH (R560): the refresh of a channel goes out ahead of every port. -/
def execMemRefresh (ch : Nat) (s : State) : Host.Outcome State Fault Refusal :=
  okIf (s.awake && isCh ch && decide (1 ≤ s.chState ch ∧ s.chState ch ≤ 4)) s (s.emit (.refresh ch))

/-! ### Training, drift and retrains (R562 to R568) -/

/-- The channel's delays after training are saved in retained SRAM (R563). -/
def State.saveTrain (s : State) (ch : Nat) (train : List Int) : State :=
  { s with mem := { s.mem with saved := tset s.mem.saved ch train } }

/-- A channel starts its training from the values it saved in retained SRAM, and without any from the seeds of the image
(R562). -/
def State.trainFrom (s : State) (ch : Nat) : State :=
  let seed := match s.boot.image with
    | some im => im.content.seeds.getD ch []
    | none => []
  (s.setMemCh ch { s.memCh ch with train := tget s.mem.saved ch seed }).setChState ch 1

/-- CHANNEL_TRAIN_DONE (R562, R563, R567). -/
def execChannelTrainDone (ch : Nat) (pass : Bool) (eye : Nat) (train : List Int) (s : State) :
    Host.Outcome State Fault Refusal :=
  okIf (isCh ch && s.chState ch == 1) s
    (if pass then
      (((s.setMemCh ch { s.memCh ch with train := train, drift := [] }).saveTrain ch train).put
        (side ch F.DT_MEM_CH_eye_ps F.TF_MEM_CH_eye_ps) (min eye 255) (chIdx ch)).setChState ch 2
    else s.channelOut ch)

/-- The drift bound of a side in ps (R579). -/
def State.driftPs (s : State) (ch : Nat) : Nat := max 2 (s.get (side ch F.DT_MEM_CFG_drift_ps F.TF_MEM_CFG_drift_ps))

/-- A drift is applied to the delays (R564). -/
def State.applyDrift (s : State) (ch : Nat) (drift : List Int) : State :=
  (s.setMemCh ch { s.memCh ch with drift := drift }).count (memCg ch) 4

/-- The tracking period of a side in nanoseconds (R564, R579). -/
def State.trackNs (s : State) (ch : Nat) : Nat :=
  max 1 (s.get (side ch F.DT_MEM_CFG_track_ms F.TF_MEM_CFG_track_ms)) * 1000000

/-- DRIFT_TRACK (R564, R565): every `track_ms`, the drift of each subchannel in ps. -/
def execDriftTrack (ch : Nat) (drift : List Int) (s : State) : Host.Outcome State Fault Refusal :=
  let t := s.setMemCh ch { s.memCh ch with trackAt := some s.up }
  okIf (s.chServes ch && (s.memCh ch).trackAt.all (fun a => decide (a + s.trackNs ch ≤ s.up))) s
    (if drift.all (fun d => decide (d.natAbs < s.driftPs ch)) then t.applyDrift ch drift
    else if s.chState ch = 2 ∧ s.coverIn ch = true then
      (((t.setMemCh ch { t.memCh ch with retrainAt := s.up }).setChState ch 3).count (memCg ch) 5).addSat
        (side ch F.DT_MEM_CH_retrains F.TF_MEM_CH_retrains) 1 (chIdx ch)
    else ((t.applyDrift ch drift).count (memCg ch) 6).memEvt ch F.DT_MEM_EVT_retrain_blocked F.TF_MEM_EVT_retrain_blocked)

/-- The transactions of CATCHUP (R559, R567, R568): every row of a logged segment is read from its other units and the
channel's unit written; a logged grain is copied from the mirror. With the log overflowed: the rows of every segment in use in
the group. The copy of a whole ballast channel is not held transaction by transaction (log 142). -/
def State.catchupTxs (s : State) (ch : Nat) : State :=
  let c := s.memCh ch
  if isTail ch then
    let segs := if c.overflow then (tkeys s.buf.segsUsed).filter (fun k => decide (k / 524288 = ch / 13)) else c.log
    segs.foldl (fun (t : State) k => (t.rowsOf k 0 segSize).foldl (fun (u : State) r =>
      (u.rowRead (ch / 13) r [ch % 13]).tailUnit 2 (ch / 13) r true (ch % 13)) t) s
  else if c.overflow then s
  else c.log.foldl (fun (t : State) k => t.grainCopy (mirrorOf ch) ch (k / 8 * t.ballastGrain)) s

/-- Are retrained centres within 16 steps of the current ones (R565)? -/
def nearBy (old new : List Int) : Bool := (old.zip new).all (fun e => decide ((e.1 - e.2).natAbs ≤ 16))

/-- RETRAIN_DONE (R565, R567). -/
def execRetrainDone (ch : Nat) (train : List Int) (s : State) : Host.Outcome State Fault Refusal :=
  okIf (isCh ch && s.chState ch == 3 && nearBy (s.memCh ch).train train) s
    ((((s.setMemCh ch { s.memCh ch with train := train, drift := [] }).saveTrain ch train).setChState ch 4).catchupTxs ch)

/-- RETRAIN_TIMEOUT (R566): not passed within 200 µs. -/
def execRetrainTimeout (ch : Nat) (s : State) : Host.Outcome State Fault Refusal :=
  okIf (isCh ch && s.chState ch == 3 && decide ((s.memCh ch).retrainAt + 200000 ≤ s.up)) s (s.channelOut ch)

/-- CATCHUP_DONE (R567, R568): every logged segment or grain has been rebuilt. -/
def execCatchupDone (ch : Nat) (s : State) : Host.Outcome State Fault Refusal :=
  okIf (isCh ch && s.chState ch == 4) s
    ((s.setMemCh ch { s.memCh ch with log := [], overflow := false }).setChState ch 2)

end Sys2Proof.Machine
end

