-- ==== Sys2Proof/Machine/Rewrite.lean ====
section
/-! DEFINITION. The rewrite of an egress pipeline as functions of bytes and entries: its parse, the egress key, TTL, labels,
tunnels, segment routing and the new L2 header (R519 to R524, R533, R537). What the spec gives no value is taken from one
free number (log 5). -/

namespace Sys2Proof.Machine

/-- A byte as a number; 0 past the end. -/
def byteAt (b : List Byte) (i : Nat) : Nat := (b.getD i 0).toNat

/-- Two bytes as a number. -/
def be16 (b : List Byte) (i : Nat) : Nat := byteAt b i * 256 + byteAt b (i + 1)

/-- Replace bytes from an offset on, as far as there are any. -/
def putBytes (b : List Byte) (off : Nat) (x : List Byte) : List Byte :=
  b.take off ++ (x.take (b.length - off)) ++ b.drop (off + x.length)

/-! ### The parse of stage 4 (R517) -/

/-- What the parse finds: length of the L2 header, its EtherType, the MPLS label words, the IP version (0 none) and
where the IP header, or what follows the labels, begins. -/
structure EgHdr where
  l2 : Nat
  etype : Nat
  labels : List Nat
  ip : Nat
  l3 : Nat
  deriving DecidableEq, Repr

/-- Offset of the EtherType behind at most n VLAN tags. -/
def vlanEnd (b : List Byte) : Nat → Nat → Nat
  | 0, o => o
  | n + 1, o => if be16 b o = 0x8100 ∨ be16 b o = 0x88A8 then vlanEnd b n (o + 4) else o

/-- MPLS label words from an offset on, at most n, down to the bottom of the stack. -/
def mplsWords (b : List Byte) : Nat → Nat → List Nat
  | 0, _ => []
  | n + 1, o =>
    if b.length < o + 4 then []
    else
      let w := be16 b o * 65536 + be16 b (o + 2)
      w :: (if bitOf w 8 then [] else mplsWords b n (o + 4))

/-- The IP version at an offset, when a whole header of it is there. -/
def ipAt (b : List Byte) (o : Nat) : Nat :=
  if byteAt b o / 16 = 4 ∧ 5 ≤ byteAt b o % 16 ∧ o + 4 * (byteAt b o % 16) ≤ b.length then 4
  else if byteAt b o / 16 = 6 ∧ o + 40 ≤ b.length then 6 else 0

/-- Parse a frame: Ethernet, up to 2 VLAN tags, up to 8 labels, IPv4 or IPv6. -/
def parseEg (b : List Byte) : EgHdr :=
  let o := vlanEnd b 2 12
  let e := be16 b o
  let ls := if e = 0x8847 ∨ e = 0x8848 then mplsWords b 8 (o + 2) else []
  let l3 := o + 2 + 4 * ls.length
  let below := if ls.isEmpty then (if e = 0x0800 ∨ e = 0x86DD then ipAt b l3 else 0)
    else if (ls.getLast?).any (fun w => bitOf w 8) then ipAt b l3 else 0
  let ip := if ls.isEmpty then (if (e = 0x0800 ∧ below = 4) ∨ (e = 0x86DD ∧ below = 6) then below else 0) else below
  ⟨o + 2, e, ls, ip, l3⟩

/-- Protocol or next header, and where the L4 header is. -/
def ipProto (b : List Byte) (h : EgHdr) : Nat := if h.ip = 4 then byteAt b (h.l3 + 9) else byteAt b (h.l3 + 6)
def l4At (b : List Byte) (h : EgHdr) : Nat := if h.ip = 4 then h.l3 + 4 * (byteAt b h.l3 % 16) else h.l3 + 40

/-- The type-of-service byte, or traffic class. -/
def ipTos (b : List Byte) (o ip : Nat) : Nat :=
  if ip = 4 then byteAt b (o + 1) else (byteAt b o % 16) * 16 + byteAt b (o + 1) / 16

/-- Bytes of a slice, padded with 0. -/
def slice (b : List Byte) (o n : Nat) : List Byte := (List.range n).map (fun i => b.getD (o + i) 0)

/-- The record of R533. -/
def egRecord (b : List Byte) (h : EgHdr) (lport cls inLport vlan : Nat) : List Byte :=
  let z : Nat → List Byte := fun n => List.replicate n 0
  let addr : Nat → List Byte := fun k =>
    if h.ip = 4 then slice b (h.l3 + 12 + 4 * k) 4 ++ z 12
    else if h.ip = 6 then slice b (h.l3 + 8 + 16 * k) 16 else z 16
  let proto := if h.ip = 0 then 0 else ipProto b h
  let frag := decide (h.ip = 4 ∧ be16 b (h.l3 + 6) % 8192 ≠ 0)
  let ports := decide (h.ip ≠ 0) && !frag && [6, 17, 132].contains proto
  let kind := if h.ip ≠ 0 then h.ip else if h.labels.isEmpty then 0 else 8
  beBytes 1 lport ++ beBytes 1 cls ++ beBytes 1 inLport ++ beBytes 1 kind ++ addr 0 ++ addr 1 ++ beBytes 1 proto ++
    beBytes 1 (if h.ip = 0 then 0 else ipTos b h.l3 h.ip / 4 * 4) ++ (if ports then slice b (l4At b h) 4 else z 4) ++
    beBytes 4 (h.labels.headD 0) ++ beBytes 2 vlan ++ z 16

/-! ### Checksums (R524) -/

/-- Sum of 16-bit words. -/
def sum16 : List Byte → Nat
  | a :: b :: r => a.toNat * 256 + b.toNat + sum16 r
  | [a] => a.toNat * 256
  | [] => 0

/-- One's-complement sum in 16 bits. -/
def fold16 (x : Nat) : Nat := let y := x % 65536 + x / 65536; let z := y % 65536 + y / 65536; z % 65536 + z / 65536

/-- The internet checksum of bytes. -/
def csum16 (b : List Byte) : Nat := 65535 - fold16 (sum16 b)

/-- Set the checksum of the IPv4 header at the head of bytes. -/
def ip4Fix (b : List Byte) : List Byte :=
  let z := putBytes b 10 [0, 0]
  putBytes b 10 (beBytes 2 (csum16 (z.take (4 * (byteAt b 0 % 16)))))

/-! ### Stage 6: removal and TTL (R520, R522) -/

/-- The packet between its L2 headers: labels, IP version, bytes from the IP header on, and the EtherType of a payload
that is neither (none where the labels above it hid it). -/
structure EgWork where
  labels : List Nat
  ip : Nat
  body : List Byte
  etype : Option Nat
  deriving DecidableEq, Repr

/-- After the removal of the received L2 header. -/
def egStrip (b : List Byte) (h : EgHdr) : EgWork :=
  ⟨h.labels, h.ip, b.drop h.l3, if h.labels.isEmpty then some h.etype else none⟩

/-- The TTL or hop limit of the outermost label or IP header. -/
def egTtl (w : EgWork) : Option Nat :=
  match w.labels with
  | l :: _ => some (l % 256)
  | [] => if w.ip = 4 then some (byteAt w.body 8) else if w.ip = 6 then some (byteAt w.body 7) else none

/-- The TTL decremented. -/
def egDecTtl (w : EgWork) : EgWork :=
  match w.labels with
  | l :: r => { w with labels := (l - 1) :: r }
  | [] =>
    if w.ip = 4 then { w with body := ip4Fix (putBytes w.body 8 (beBytes 1 (byteAt w.body 8 - 1))) }
    else if w.ip = 6 then { w with body := putBytes w.body 7 (beBytes 1 (byteAt w.body 7 - 1)) } else w

/-- Removal by an ENCAP entry of kind SWAP or POP. -/
def egRemove (kind w0 : Nat) (w : EgWork) : EgWork :=
  if kind = 2 then { w with labels := w.labels.drop 1 }
  else if kind = 3 then { w with labels := w.labels.drop (bits w0 8 2) } else w

/-! ### Stage 7: encapsulation (R520 to R522) -/

/-- The bytes under the new header. -/
def egBytes (w : EgWork) : List Byte := w.labels.flatMap (beBytes 4) ++ w.body

/-- The EtherType of the outermost header; of a payload without one a free value. -/
def egEtype (w : EgWork) (fr : Nat) : Nat :=
  if !w.labels.isEmpty then 0x8847 else if w.ip = 4 then 0x0800 else if w.ip = 6 then 0x86DD
  else w.etype.getD (bits fr 20 16)

/-- Labels pushed (R520, R522), outermost first. -/
def egPush (w0 w1 cls fr : Nat) (w : EgWork) : EgWork :=
  let n := bits w0 8 2
  let tc := if bitOf w0 13 then cls else bits w0 10 3
  let ttl := if bitOf w0 22 then (egTtl w).getD (bits fr 64 8) else bits w0 14 8
  let new := (List.range n).map (fun i =>
    bits w1 (20 * i) 20 * 4096 + tc * 512 + b2n (decide (i + 1 = n) && w.labels.isEmpty) * 256 + ttl)
  { w with labels := new ++ w.labels }

/-- The DSCP of an outer header: copied from the inner IP header, a free value where there is none. -/
def outerDscp (w0 : Nat) (w : EgWork) (fr : Nat) : Nat :=
  if bitOf w0 24 then (if w.labels.isEmpty ∧ w.ip ≠ 0 then ipTos w.body 0 w.ip / 4 else bits fr 96 6) else bits w0 18 6

/-- The protocol number under an outer IP header without GRE. -/
def innerProto (w : EgWork) (fr : Nat) : Nat :=
  if w.labels.isEmpty ∧ w.ip = 4 then 4 else if w.labels.isEmpty ∧ w.ip = 6 then 41 else bits fr 56 8

/-- An IPv4 header (R520). Identification, ECN and DF are free. -/
def ip4Header (len dscp ttl proto src dst fr : Nat) : List Byte :=
  ip4Fix (beBytes 1 0x45 ++ beBytes 1 (dscp * 4 + bits fr 16 2) ++ beBytes 2 len ++ beBytes 2 (bits fr 0 16) ++
    beBytes 2 (bits fr 18 1 * 16384) ++ beBytes 1 ttl ++ beBytes 1 proto ++ beBytes 2 0 ++ beBytes 4 src ++ beBytes 4 dst)

/-- An IPv6 header (R520). ECN is free. -/
def ip6Header (len dscp flow next hop : Nat) (src dst : List Byte) (fr : Nat) : List Byte :=
  beBytes 4 (6 * 2 ^ 28 + (dscp * 4 + bits fr 16 2) * 2 ^ 20 + flow) ++ beBytes 2 len ++ beBytes 1 next ++ beBytes 1 hop ++
    src ++ dst

/-- GRE (R520): no key, sequence or checksum. -/
def greHeader (etype : Nat) : List Byte := beBytes 2 0 ++ beBytes 2 etype

/-- A segment routing header (R520): the list holds segment 0 last. -/
def srh (next : Nat) (segs : List (List Byte)) (fr : Nat) : List Byte :=
  let n := segs.length
  beBytes 1 next ++ beBytes 1 (2 * n) ++ beBytes 1 4 ++ beBytes 1 (n - 1) ++ beBytes 1 (n - 1) ++ beBytes 3 (bits fr 72 24) ++
    segs.reverse.flatten

/-- An address of the address table (R521); an entry never written reads as 0. -/
def addrBytes (v : View) (i : Nat) : List Byte :=
  let a := tget v.addrs (i % 8192) (0, 0)
  beBytes 8 a.1.toNat ++ beBytes 8 a.2.toNat

/-- A tunnel header of kind 4 or 5 over bytes, their GRE EtherType, and their protocol without GRE. -/
def tunnel (v : View) (w0 w1 dscp : Nat) (inner : List Byte) (etype proto fr : Nat) : EgWork :=
  let gre := bits w0 8 2 == 1
  let pay := (if gre then greHeader etype else []) ++ inner
  let pr := if gre then 47 else proto
  if bits w0 3 5 = 4 then
    ⟨[], 4, ip4Header (20 + pay.length) dscp (bits w0 10 8) pr (bits w1 0 32) (bits w1 32 32) fr ++ pay, none⟩
  else
    ⟨[], 6, ip6Header pay.length dscp (bits w1 13 20) pr (bits w0 10 8) (addrBytes v (bits w0 32 13))
      (addrBytes v (bits w1 0 13)) fr ++ pay, none⟩

/-- SRV6_ENCAP. -/
def srv6Encap (v : View) (w0 w1 fr : Nat) (w : EgWork) : EgWork :=
  let segs := (List.range (bits w1 13 3)).map (fun i => addrBytes v (bits w1 0 13 + i))
  let pay := srh (innerProto w fr) segs fr ++ egBytes w
  ⟨[], 6, ip6Header pay.length (outerDscp w0 w fr) (bits fr 36 20) 43 (bits w0 10 8) (addrBytes v (bits w0 32 13))
    (segs.headD []) fr ++ pay, none⟩

/-- SRV6_INSERT: into a packet whose outermost header is IPv6; another stays as it is. -/
def srv6Insert (v : View) (w1 fr : Nat) (w : EgWork) : EgWork :=
  if w.labels.isEmpty ∧ w.ip = 6 then
    let segs := (List.range (bits w1 13 3)).map (fun i => addrBytes v (bits w1 0 13 + i)) ++ [slice w.body 24 16]
    let h := srh (byteAt w.body 6) segs fr
    let b := putBytes (putBytes w.body 4 (beBytes 2 (be16 w.body 4 + h.length) ++ beBytes 1 43)) 24 (segs.headD [])
    { w with body := b.take 40 ++ h ++ b.drop 40 }
  else w

/-- Stage 7 by the kind of an ENCAP entry. -/
def egEncap (v : View) (w0 w1 cls fr : Nat) (w : EgWork) : EgWork :=
  match bits w0 3 5 with
  | 1 => egPush w0 w1 cls fr w
  | 2 => egPush w0 w1 cls fr w
  | 4 => tunnel v w0 w1 (outerDscp w0 w fr) (egBytes w) (egEtype w fr) (innerProto w fr) fr
  | 5 => tunnel v w0 w1 (outerDscp w0 w fr) (egBytes w) (egEtype w fr) (innerProto w fr) fr
  | 6 => srv6Encap v w0 w1 fr w
  | 7 => srv6Insert v w1 fr w
  | _ => w

/-! ### Stages 8 and 9 (R519, R524) -/

/-- The new L2 header before a packet (R519), and padding to the least frame. -/
def egFrame (rw0 cls srcMac fr : Nat) (w : EgWork) : List Byte :=
  let tag := if bitOf rw0 63 then beBytes 2 0x8100 ++ beBytes 2 (cls * 8192 + bits rw0 51 12) else []
  let f := beBytes 6 (bits rw0 3 48) ++ beBytes 6 srcMac ++ tag ++ beBytes 2 (egEtype w fr) ++ egBytes w
  f ++ List.replicate (60 - f.length) 0

/-- A timestamp as IEEE 1588 writes it: seconds in 48 bits and nanoseconds in 32. -/
def ptpBytes (ns : Nat) : List Byte := beBytes 6 (ns / 1000000000) ++ beBytes 4 (ns % 1000000000)

/-- A one-step timestamp written into a frame (R119, R524): the UDP checksum becomes 0 over IPv4 and is updated over
IPv6. -/
def oneStep (b : List Byte) (off ns : Nat) : List Byte :=
  let h := parseEg b
  let u := l4At b h
  let c := putBytes b off (ptpBytes ns)
  if h.ip = 4 ∧ ipProto b h = 17 then putBytes c (u + 6) [0, 0]
  else if h.ip = 6 ∧ ipProto b h = 17 then
    let zero : List Byte → List Byte := fun x => (putBytes x (u + 6) [0, 0]).drop u
    let d := fold16 ((65535 - be16 b (u + 6)) + (65535 - fold16 (sum16 (zero b))) + fold16 (sum16 (zero c)))
    putBytes c (u + 6) (beBytes 2 (if d = 65535 then 65535 else 65535 - d))
  else c

end Sys2Proof.Machine
end

