-- ==== Sys2Proof/Machine/Egress.lean ====
section
/-! DEFINITION. Egress pipelines and the egress MAC: rewrite, classification, replication, mirroring, transmission in
`eseq` order, delivery reports and resending (R53 to R55, R118, R119, R238, R240, R254, R349, R390, R511 to R542, R863). -/

namespace Sys2Proof.Machine

/-! ### Reads and punts of a pipeline (R238, R254, R349, R534, R651) -/

/-- An egress punt: the copy is delivered to a host queue (R57, R650 to R652). -/
def State.egPunt (s : State) (u : EgUnit) (bytes : List Byte) (q code : Nat) : State :=
  s.punt q ⟨bytes, u.multiHit, u.inLport, u.lport, u.cls, true, code, u.tag, u.arrival⟩

/-- A copy that R238 or R254 delivers to the slow-path queue. No counter of `TF_EG_CNT` counts it, so the reason of its
report has no value of the spec's. -/
def State.egSlow (s : State) (u : EgUnit) (bytes : List Byte) : CopyFate × State :=
  let r := s.fresh
  (.punt (Config.free r.1 % 32), (r.2.count cgRoute 4).egPunt u bytes (s.get F.TF_ROUTE_CTL_slow_q) 0x13)

/-- What the read of an RW or ENCAP entry gives: the entry, an invalid one (R238), or an error (R254). -/
inductive EgRead where
  | entry (e : NhEntry)
  | invalid
  | error

/-- Read the entry of a type at an index; `kind` is the kind of error that the operand names for this read. -/
def State.egRead (s : State) (bad : Option Nat) (kind ty i : Nat) : EgRead × State :=
  let r := s.readPoison (if (badBank bad kind).isSome then (badBank bad kind).map (fun b => 5 + 8 * b) else none) pkRw i
  if r.1 then (.error, r.2.raise F.TF_ROUTE_EVT_poisoned)
  else
    match tget? s.act.nh i with
    | some e => if nhType e = ty ∧ nhValid e = true then (.entry e, r.2) else (.invalid, r.2)
    | none => (.invalid, r.2)

/-- Is an ENCAP kind one of R520's? -/
def encapKindOk (w0 : Nat) : Bool := decide (1 ≤ bits w0 3 5 ∧ bits w0 3 5 ≤ 7)

/-- The ENCAP entry that an RW entry asks for: none asked, an entry, or a failing read. -/
def State.egEncapRead (s : State) (bad : Option Nat) (rw1 : Nat) : Option EgRead × State :=
  if bitOf rw1 37 then
    let r := s.egRead bad 4 2 (bits rw1 15 22)
    match r.1 with
    | .entry e => (some (if encapKindOk e.w0.toNat then .entry e else .invalid), r.2)
    | x => (some x, r.2)
  else (none, s)

/-- What the egress tree says (R534, R535): nothing, a policy result, or an error (R349). -/
inductive EgTree where
  | none
  | result (r : Nat)
  | error

/-- Egress classification of a record (R320, R325, R349, R533, R534, R356). -/
def State.egClassify (s : State) (bad : Option Nat) (prof tag : Nat) (key : List Byte) : EgTree × State :=
  if !s.flag F.TF_EG_PROF_class_en prof then (.none, s)
  else
    let n := s.get F.TF_EG_PROF_tree prof
    match (tget? s.act.trees n).filter (·.egress) with
    | none => (.none, (s.count cgEg 9).raise F.TF_EG_EVT_no_tree)
    | some x =>
      let r := s.readPoison bad pkTree n
      if r.1 then (.error, (r.2.raise F.TF_CLASS_EVT_poisoned).count cgClass 8)
      else
        match treeWinner s.act.rules n (treeKey x key tag) with
        | some w => (.result w.2.result, (r.2.count cgClass 0).countBacked 17 w.1 1 s.time)
        | none => (.result x.default, (r.2.count cgClass 0).count cgClass 1)

/-! ### One copy (R517 to R524, R530, R535 to R539) -/

/-- What a pipeline made of a copy: its fate, whether it is tagged, and the bytes that R539 exports. -/
structure CopyOut where
  fate : CopyFate
  sample : Bool
  exported : List Byte
  deriving DecidableEq, Repr

/-- A frame to hand to the MAC, with what a tagged copy exports. -/
def State.egSend (s : State) (prof : Nat) (sample : Bool) (frame : List Byte) : CopyOut :=
  ⟨.send frame, sample, if sample then frame.take (s.get F.TF_EG_PROF_sample_bytes prof) else []⟩

/-- An egress mirror copy of the frame after stage 8 goes to DT behind packet units (R538). -/
def State.egMirror (s : State) (p : Nat) (b : Bool) (u : EgUnit) (session : Nat) (frame : List Byte) : State :=
  let h : ResHdr :=
    { seq := 0, lport := u.inLport, kind := 0, reason := 0, cls := u.cls, mc := none, dm := s.myId, dl := u.lport
      policer := 0, polEn := false, mirror := session, mirEn := true, sample := false, multi := u.multiHit
      length := frame.length + 4, tag := u.tag, rw := u.rw, speed := 0, arrival := u.arrival }
  ({ s with idl := { s.idl with mirrors := s.idl.mirrors ++ [unitOf p b .mirrorCopy h frame none] } }).count cgEg 8

/-- Stages 7 and 8 of a copy: encapsulation, the new L2 header and the MTU check. -/
def State.egBuild (s : State) (u : EgUnit) (rw : NhEntry) (enc : Option NhEntry) (w : EgWork) (fr : Nat) (sample : Bool) :
    CopyOut × State :=
  let prof := bits rw.w1.toNat 38 8
  let w1 := match enc with
    | some e => egEncap s.act e.w0.toNat e.w1.toNat u.cls fr w
    | none => w
  let f := egFrame rw.w0.toNat u.cls (s.get F.TF_EG_PORT_src_mac u.lport) fr w1
  if bits rw.w1.toNat 0 14 < f.length + 4 then
    if s.flag F.TF_EG_PROF_mtu_action prof then
      (⟨.punt 6, sample, []⟩, (s.count cgEg 6).egPunt u f (s.get F.TF_EG_PROF_punt_q prof) 0x12)
    else (⟨.discard 5, sample, []⟩, s.count cgEg 5)
  else (s.egSend prof sample f, s)

/-- Stages 6 to 8 of a copy that classification lets pass. -/
def State.egForward (s : State) (bad : Option Nat) (u : EgUnit) (b : List Byte) (rw : NhEntry) (sample : Bool) :
    CopyOut × State :=
  let prof := bits rw.w1.toNat 38 8
  let r := s.egEncapRead bad rw.w1.toNat
  let e : Option NhEntry := match r.1 with
    | some (.entry x) => some x
    | _ => none
  let w := egRemove (e.elim 0 (fun x => bits x.w0.toNat 3 5)) (e.elim 0 (·.w0.toNat)) (egStrip b (parseEg b))
  let dec := bitOf rw.w1.toNat 14
  if dec = true ∧ (egTtl w).any (fun t => decide (t ≤ 1)) = true then
    if s.flag F.TF_EG_PROF_ttl_action prof then
      (⟨.punt 4, sample, []⟩, (s.count cgEg 4).egPunt u b (s.get F.TF_EG_PROF_punt_q prof) 0x11)
    else (⟨.discard 3, sample, []⟩, s.count cgEg 3)
  else
    match r.1 with
    | some .invalid =>
      let t := r.2.egSlow u b
      (⟨t.1, sample, []⟩, t.2.raise F.TF_ROUTE_EVT_rw_invalid)
    | some .error =>
      let t := r.2.egSlow u b
      (⟨t.1, sample, []⟩, t.2)
    | _ =>
      if (badBank bad 7).isSome && e.any (fun x => [5, 6, 7].contains (bits x.w0.toNat 3 5)) then
        let t := r.2.egSlow u b
        (⟨t.1, sample, []⟩, t.2)
      else
        let f := r.2.fresh
        f.2.egBuild u rw e (if dec then egDecTtl w else w) (Config.free f.1) sample

/-- Stages 4 to 9 of a copy with its RW entry. -/
def State.egTreat (s : State) (bad : Option Nat) (p : Nat) (pb : Bool) (u : EgUnit) (b : List Byte) (rw : NhEntry) :
    CopyOut × State :=
  let prof := bits rw.w1.toNat 38 8
  let c := s.egClassify bad prof u.tag (egRecord b (parseEg b) u.lport u.cls u.inLport (bits rw.w0.toNat 51 12))
  match c.1 with
  | .error =>
    let t := c.2.egSlow u b
    (⟨t.1, u.sample, []⟩, t.2)
  | .none => c.2.egForward bad u b rw u.sample
  | .result r =>
    let smp := u.sample || prSample r
    if prAction r = 1 then (⟨.discard 1, smp, []⟩, c.2.count cgEg 1)
    else if prAction r = 2 then
      (⟨.punt 2, smp, []⟩, (c.2.count cgEg 2).egPunt u b (prTarget r % 64) 0x10)
    else
      let s1 := if prAction r = 3 then c.2.count cgEg 10 else c.2
      let o := s1.egForward bad u b rw smp
      match o.1.fate with
      | .send f => (o.1, if prMirrorEn r && s.flag F.DT_MIRROR_enable (prMirror r) then o.2.egMirror p pb u (prMirror r) f
        else o.2)
      | _ => o

/-- A mirror copy (R537): the whole frame, cut, in the GRE tunnel of the session's RW entry. -/
def State.egMirrored (s : State) (bad : Option Nat) (u : EgUnit) (b : List Byte) (rw : NhEntry) (session : Nat) :
    CopyOut × State :=
  let r := s.egEncapRead bad rw.w1.toNat
  let n := s.get F.DT_MIRROR_trunc_bytes session
  let cut := if n = 0 then b else b.take (max 64 n)
  let slow : State → CopyOut × State := fun t => (⟨(t.egSlow u b).1, u.sample, []⟩, (t.egSlow u b).2)
  match r.1 with
  | some (.entry e) =>
    let w0 := e.w0.toNat
    if (bits w0 3 5 = 4 ∨ bits w0 3 5 = 5) ∧ bits w0 8 2 = 1 then
      let f := r.2.fresh
      let fr := Config.free f.1
      let dscp := if bitOf w0 24 then bits fr 96 6 else bits w0 18 6
      let w := tunnel s.act w0 e.w1.toNat dscp cut 0x6558 47 fr
      (s.egSend (bits rw.w1.toNat 38 8) u.sample
        (egFrame rw.w0.toNat u.cls (s.get F.TF_EG_PORT_src_mac u.lport) fr w), f.2)
    else slow (r.2.raise F.TF_ROUTE_EVT_rw_invalid)
  | some .error => slow r.2
  | _ => slow (r.2.raise F.TF_ROUTE_EVT_rw_invalid)

/-- A copy of a unit with the RW index that serves it (R517). -/
def State.egCopy (s : State) (bad : Option Nat) (p : Nat) (pb : Bool) (u : EgUnit) (b : List Byte) (rw : Nat) :
    CopyOut × State :=
  if u.ts.raw then (⟨.send b, u.sample, []⟩, s)
  else
    let r := s.egRead bad 1 1 rw
    match r.1 with
    | .invalid =>
      let t := r.2.egSlow u b
      (⟨t.1, u.sample, []⟩, t.2.raise F.TF_ROUTE_EVT_rw_invalid)
    | .error =>
      let t := r.2.egSlow u b
      (⟨t.1, u.sample, []⟩, t.2)
    | .entry e =>
      match u.session with
      | some m => r.2.egMirrored bad u b e m
      | none => r.2.egTreat bad p pb u b e

/-! ### A unit (R513, R517, R518, R527, R530, R541, R542) -/

/-- A copy as the MAC gets it. -/
def State.txCopy (s : State) (u : EgUnit) (i : Nat) (last : Bool) (o : CopyOut) : TxCopy :=
  { handle := u.handle, eseq := u.eseq, copy := i, last := last, listed := u.egList.isSome, lport := u.lport, cls := u.cls
    ts := u.ts, fate := o.fate, stage := 0, exported := o.exported, sentAt := 0
    tr := if o.sample then some { u.tr.getD trace0 with t8 := s.time } else none }

/-- The fate of a copy without treatment. -/
def untreated (u : EgUnit) (f : CopyFate) : CopyOut := ⟨f, u.sample, []⟩

/-- Produce copies i, i + 1, … of a unit, n of them, from the RW run at `base` (R530). -/
def State.egList (s : State) (bad : Option Nat) (p : Nat) (pb : Bool) (u : EgUnit) (b : List Byte) (base : Nat) :
    Nat → Nat → List TxCopy × State
  | 0, _ => ([], s)
  | n + 1, i =>
    let o := if s.viewUp s.myId u.lport then s.egCopy bad p pb u b (base + i)
      else (untreated u (.discard 7), s.count cgEg 7)
    let r := o.2.egList none p pb u b base n (i + 1)
    (o.2.txCopy u i (decide (n = 0)) o.1 :: r.1, r.2)

/-- All that a pipeline makes of a unit; a cut-through unit whose bytes are not all there is aborted (R390). -/
def State.egUnitCopies (s : State) (bad : Option Nat) (p : Nat) (pb : Bool) (u : EgUnit) : List TxCopy × State :=
  let body := (tget? s.sch.outst u.handle).map (fun o => s.body o.pkt.body)
  let late := u.ct && body.any (fun x => !x.complete)
  let b := if u.ct then body.elim u.bytes (·.bytes) else u.bytes
  if late then ([s.txCopy u u.start true (untreated u .abort)], s)
  else
    match u.egList with
    | none =>
      if s.viewUp s.myId u.lport then
        let o := s.egCopy bad p pb u b u.rw
        ([o.2.txCopy u 0 true o.1], o.2)
      else ([s.txCopy u 0 true (untreated u .down)], s)
    | some e =>
      let fail : State → List TxCopy × State := fun t =>
        ([t.txCopy u u.start true (untreated u (.discard 11))], t.count cgEg 11)
      if (badBank bad 2).isSome then fail (s.raise F.TF_EG_EVT_list_err)
      else
        match tget? s.act.egHdrs e with
        | none => fail s
        | some h =>
          let n := bits h.1.toNat 22 12 + 1
          if n ≤ u.start then fail s else s.egList bad p pb u b (bits h.1.toNat 0 22) (n - u.start) u.start

/-! ### The MAC: order and reports (R513 to R515, R541, R863) -/

/-- The RUN report of a physical port's run is sent (R515). -/
def State.flushRun (s : State) (p : Nat) : State :=
  let x := s.phys p
  match x.run with
  | [] => s
  | a :: _ =>
    let s1 := s.setPhys p { x with run := [] }
    { s1 with port := { s1.port with
      reports := s1.port.reports ++ [.run a.eseq p x.run.length (x.run.map (fun u => (u.sentAt, u.exported, u.tr)))] } }

/-- A report of one copy (R514). -/
def State.reportOne (s : State) (p : Nat) (r : Report) : State :=
  let s1 := s.flushRun p
  { s1 with port := { s1.port with reports := s1.port.reports ++ [r] } }

/-- Status and reason of an ended copy (R514). -/
def copyStatus (c : TxCopy) : Nat × Nat :=
  if c.stage = 2 then (0, 0)
  else match c.fate with
    | .discard k => (1, k)
    | .punt k => (2, k)
    | _ => (3, 0)

/-- Report an ended copy: a unit delivered without a list joins the run, which 64 units complete (R515). -/
def State.reportCopy (s : State) (p : Nat) (c : TxCopy) : State :=
  if c.stage = 2 ∧ c.listed = false then
    let s1 := match (s.phys p).run.getLast? with
      | some u => if (u.eseq + 1) % 2 ^ 16 = c.eseq then s else s.flushRun p
      | none => s
    let x := s1.phys p
    let s2 := s1.setPhys p { x with run := x.run ++ [⟨c.eseq, c.sentAt, c.exported, c.tr⟩] }
    if 64 ≤ (s2.phys p).run.length then s2.flushRun p else s2
  else s.reportOne p (.one c.handle c.copy (copyStatus c).1 (copyStatus c).2 c.sentAt c.exported c.tr)

/-- Does a copy come before another in report order? -/
def txBefore (a b : TxCopy) : Bool :=
  serBefore 16 a.eseq b.eseq || (decide (a.eseq = b.eseq) && decide (a.copy < b.copy))

/-- The first copy not yet reported. -/
def firstUnreported (l : List TxCopy) : Option TxCopy :=
  l.foldl (fun (m : Option TxCopy) c => if c.stage = 4 then m else match m with
    | none => some c
    | some x => if txBefore c x then some c else m) none

/-- Is it the same copy of the same unit? -/
def sameCopy (a b : TxCopy) : Bool := decide (a.handle = b.handle ∧ a.eseq = b.eseq ∧ a.copy = b.copy)

/-- Reports of ended copies, in `eseq` order, at most n. -/
def State.flushEnded (s : State) (p : Nat) : Nat → State
  | 0 => s
  | n + 1 =>
    let x := s.phys p
    match firstUnreported x.tx with
    | none => s
    | some c =>
      if c.stage ≤ 1 then s
      else
        let kept := c.eseq == x.nextEseq && c.fate != .abort && c.fate != .down
        let tx := if kept then x.tx.map (fun y => if sameCopy y c then { y with stage := 4 } else y)
          else x.tx.filter (fun y => !sameCopy y c)
        let s1 := s.setPhys p { x with tx := tx }
        (s1.reportCopy p c).flushEnded p n

/-- Change every copy at the MAC of a physical port. -/
def State.mapTx (s : State) (p : Nat) (f : TxCopy → TxCopy) : State :=
  s.setPhys p { s.phys p with tx := (s.phys p).tx.map f }

/-- The port's next unit is the one after (R513). -/
def State.passEseq (s : State) (p : Nat) : State :=
  let x := s.phys p
  s.setPhys p { x with
    nextEseq := (x.nextEseq + 1) % 2 ^ 16, tx := x.tx.filter (fun c => decide (c.stage ≠ 4)) }

/-- A frame whose bytes did not all arrive in time ends with a corrupted FCS (R55, R390, R124). A looped port receives it
(R101): how much of the frame had left is open, so a free value says. -/
def State.abortFrame (s : State) (c : TxCopy) : State :=
  let s1 := (s.emit (.frame c.lport [] false)).count cgMac 10 c.lport
  if s1.looped c.lport then
    let b := (tget? s.sch.outst c.handle).elim [] (fun o => (s.body o.pkt.body).bytes)
    let r := s1.fresh
    r.2.frameIn c.lport (b.take (Config.free r.1 % (b.length + 1))) false false 0 0
  else s1

/-- Copies whose turn has come and that need no transmission end, at most n. -/
def State.advance (s : State) (p : Nat) : Nat → State
  | 0 => s
  | n + 1 =>
    let x := s.phys p
    match x.tx.find? (fun c => decide (c.eseq = x.nextEseq ∧ c.stage = 0)) with
    | none => s
    | some c =>
      let s1 := s.mapTx p (fun y => if sameCopy y c then { y with stage := 3 } else y)
      let drop : State → State := fun t => t.setPhys p { t.phys p with
        tx := (t.phys p).tx.filter (fun y => decide (y.handle ≠ c.handle ∨ y.stage ≠ 0)) }
      match c.fate with
      | .send _ => s
      | .abort => drop (s1.abortFrame c)
      | .down => ((drop s1).passEseq p).advance p n
      | _ => if c.last then (s1.passEseq p).advance p n else s1.advance p n

/-- Bring the MAC of a physical port up to date. -/
def State.macSync (s : State) (p : Nat) : State :=
  let s1 := s.advance p ((s.phys p).tx.length + 1)
  s1.flushEnded p (s1.phys p).tx.length

/-- Copies of the next unit already transmitted (R541). -/
def txDone (x : PhysPort) : Nat :=
  (x.tx.filter (fun c => decide (c.eseq = x.nextEseq ∧ (1 ≤ c.stage)))).foldl (fun m c => max m (c.copy + 1)) 0

/-- A unit's copies reach the MAC: a unit already taken is discarded and reported again as delivered (R513), and a
copy already there or already transmitted is discarded (R541). -/
def State.toMac (s : State) (p : Nat) (u : EgUnit) (cs : List TxCopy) : State :=
  let x := s.phys p
  if serBefore 16 u.eseq x.nextEseq then
    match cs.getLast? with
    | some c => s.reportOne p (.one c.handle c.copy 0 0 s.time [] none)
    | none => s
  else
    let new := cs.filter (fun c => !x.tx.any (fun y => sameCopy y c) &&
      !(c.eseq == x.nextEseq && decide (c.copy < txDone x)))
    (s.setPhys p { x with tx := x.tx ++ new }).macSync p

/-- The units of an egress pipeline. -/
def egFifo (x : PhysPort) (b : Bool) : List EgUnit := if b then x.egB else x.egA

/-- A pipeline without its oldest unit. -/
def egPop (x : PhysPort) (b : Bool) : PhysPort := if b then { x with egB := x.egB.drop 1 } else { x with egA := x.egA.drop 1 }

/-- EGRESS_PROCESS (R517, R518): the oldest unit of a pipeline. `bad` names the error that its reads meet, kind + 8 × bank:
0 the header's CRC, 1 RW entry, 2 list header, 3 tree node, 4 ENCAP entry, 7 address table. -/
def execEgressProcess (p : Nat) (pipeB : Bool) (bad : Option Nat) (s : State) : Host.Outcome State Fault Refusal :=
  match (if s.live && decide (p < 32) && s.egPipeOk p pipeB then egFifo (s.phys p) pipeB else []) with
  | [] => ok s
  | u :: _ =>
    let s1 := s.setPhys p (egPop (s.phys p) pipeB)
    if !u.hdrOk || (badBank bad 0).isSome then ok (s1.raise F.TF_EG_EVT_hdr_bad)
    else
      let r := s1.egUnitCopies bad p pipeB u
      ok (r.2.toMac p u r.1)

/-! ### Transmission (R54, R118, R119, R513, R516) -/

/-- Record a transmit timestamp (R118), or drop it when the FIFO is full. -/
def State.recordTs (s : State) (l tag : Nat) : State :=
  let x := s.lp l
  if x.txts.length < 64 then (s.setLp l { x with txts := x.txts ++ [(s.time, tag)] }).count cgMac 14 l
  else s.raise F.TF_LPORT_EVT_txts_overflow l

/-- A copy starts (R116, R118, R119); with its last copy the next unit's turn comes. -/
def State.startCopy (s : State) (p : Nat) (c : TxCopy) (bytes : List Byte) : State :=
  let b := if c.ts.req = 2 then oneStep bytes c.ts.offset s.time else bytes
  let s1 := if c.ts.req = 1 then s.recordTs c.lport c.ts.tag else if c.ts.req = 2 then s.count cgMac 14 c.lport else s
  let s2 := s1.mapTx p (fun y => if sameCopy y c then { y with stage := 1, fate := .send b } else y)
  if c.last then s2.passEseq p else s2

/-- The copy of the next unit that may start: its port is up and carries no other frame, and its class is not paused
(R109). -/
def State.startable (s : State) (p : Nat) : Option (TxCopy × List Byte) :=
  let x := s.phys p
  match x.tx.find? (fun c => decide (c.eseq = x.nextEseq ∧ c.stage = 0)) with
  | none => none
  | some c =>
    match c.fate with
    | .send b =>
      if s.link c.lport = 4 ∧ bitOf (s.get F.TF_LPORT_STAT_rx_paused c.lport) c.cls = false ∧
        !x.tx.any (fun y => decide (y.lport = c.lport ∧ y.stage = 1)) then some (c, b) else none
    | _ => none

/-- TX_UNIT_START (R513): the next unit of a physical port starts on its logical port. -/
def execTxUnitStart (p : Nat) (s : State) : Host.Outcome State Fault Refusal :=
  okIf (s.live && decide (p < 32)) s
    (match (s.macSync p).startable p with
     | none => s.macSync p
     | some (c, b) => ((s.macSync p).startCopy p c b).macSync p)

/-- The next copy of a unit follows the one delivered (R530). -/
def State.followCopy (s : State) (p h : Nat) : State :=
  match s.startable p with
  | some (c, b) => if c.handle = h then s.startCopy p c b else s
  | none => s

/-- A frame has left with a correct FCS (R54). -/
def State.delivered (s : State) (c : TxCopy) (b : List Byte) : State :=
  let p := c.lport / 8
  let s1 := ((s.emit (.frame c.lport b true)).count cgMac 8 c.lport).count cgMac 9 c.lport (b.length + 4)
  let s2 := (s1.count cgEg 0).mapTx p (fun y => if sameCopy y c then { y with stage := 2, sentAt := s.time } else y)
  let s3 := if c.last then s2 else (s2.advance p (s2.phys p).tx.length).followCopy p c.handle
  let s4 := s3.macSync p
  if s4.looped c.lport then s4.frameIn c.lport b true false 0 0 else s4

/-- FRAME_DELIVERED (R54): the frame under way on a logical port ends. -/
def execFrameDelivered (l : Nat) (s : State) : Host.Outcome State Fault Refusal :=
  match (if s.live then (s.phys (l / 8)).tx.find? (fun c => decide (c.lport = l ∧ c.stage = 1)) else none) with
  | none => ok s
  | some c =>
    match c.fate with
    | .send b => ok (s.delivered c b)
    | _ => ok s

/-- RUN_REPORT_FLUSH (R515): 128 ns after the first unit of the run. -/
def execRunReportFlush (p : Nat) (s : State) : Host.Outcome State Fault Refusal :=
  okIf (s.live && decide (p < 32)) s (s.flushRun p)

/-- The copies of a port that has left UP (R863): the first unfinished copy of each unit ends as `down`, and those behind
it are gone. -/
def downCopies (l : Nat) : List Nat → List TxCopy → List TxCopy
  | _, [] => []
  | seen, c :: r =>
    if c.lport = l ∧ c.stage ≤ 1 then
      if seen.contains c.handle then downCopies l seen r
      else { c with fate := .down, stage := if c.stage = 1 then 3 else 0 } :: downCopies l (c.handle :: seen) r
    else c :: downCopies l seen r

/-- The units that the MAC holds for a port that has left UP (R55, R863): a frame under way ends with a corrupted FCS, and
each unit is reported ABORTED. -/
def State.abortDown (s : State) (l : Nat) : State :=
  let p := l / 8
  let x := s.phys p
  let busy := x.tx.filter (fun c => decide (c.lport = l ∧ c.stage = 1))
  let s1 := busy.foldl (fun (t : State) _ => (t.emit (.frame l [] false)).count cgMac 10 l) s
  let cut := busy.any (fun c => c.eseq == x.nextEseq)
  let s2 := s1.setPhys p { x with tx := downCopies l [] x.tx }
  (if cut then s2.passEseq p else s2).macSync p

/-- PORT_DOWN_ABORT (R55, R863): the units that the MAC holds for a port that is not UP. -/
def execPortDownAbort (l : Nat) (s : State) : Host.Outcome State Fault Refusal :=
  okIf (s.live && decide (l < 256) && s.link l != 4) s (s.abortDown l)

/-! ### Reports at DT (R375, R390, R515, R532, R540, R796, R863) -/

/-- A unit is settled by the best outcome of its copies (R57, R532). -/
def State.settleUnit (s : State) (h : Nat) (o : Outstanding) (best : Nat) : State :=
  let s1 := { s with sch := { s.sch with
    outst := tdel s.sch.outst h, resend := s.sch.resend.filter (fun u => decide (u ≠ h)) } }
  let s2 := if best = 3 then s1 else s1.pktCount (if best = 2 then 0x13 else 0x12) o.pkt
  s2.resolve o.pkt.body

/-- A unit is aborted: returned to the head of its queue when its port went down (R863), else sent again in its place once
its bytes are there, with cut-through held off for the pair (R390). -/
def State.unitAborted (s : State) (h : Nat) (o : Outstanding) : State :=
  let x := { o.pkt with start := o.copies }
  if o.down ∧ (s.phys o.port).nextEseq ≠ o.eseq then
    let s1 := { s with sch := { s.sch with outst := tdel s.sch.outst h } }
    match s.view s.myId x.dl with
    | .down => s1.external x
    | .prot => s1.protectPkt x (s.protectPort x.dl).1 (s.protectPort x.dl).2
    | _ => s1.putQueue o.queue (returnTo { x with ret := some o.eseq } (s1.equeue o.queue))
  else
    let s1 := (s.count cgBuf 9).raise F.DT_BUF_EVT_ct_underrun
    let s2 := { s1 with buf := { s1.buf with ctOff := tset s1.buf.ctOff (x.dl * 8 + x.cls) s1.up } }
    if (s.body x.body).complete then s2.resendUnit h
    else { s2 with sch := { s2.sch with resend := s2.sch.resend ++ [h] } }

/-- The trace record of a reported copy (R796, R798). -/
def State.traceCopy (s : State) (o : Outstanding) (copy status sentAt : Nat) (exported : List Byte) (tr : Option Trace) :
    State :=
  match tr with
  | some t => s.traceEg t o.pkt.src o.pkt.inLport o.pkt.dl o.pkt.cls o.pkt.arrival o.pkt.rw o.queue o.eseq
      (o.pkt.src == s.myId) status copy (if status = 0 then sentAt else 0) exported
  | none => s

/-- Copies of a unit in all. -/
def State.unitCopies (s : State) (x : Pkt) : Nat :=
  match x.egList.bind (fun e => tget? s.act.egHdrs e) with
  | some h => bits h.1.toNat 22 12 + 1
  | none => 1

/-- A report of one copy reaches DT. A list header that fails its read ends its unit, whatever copies it would have had
(R542). -/
def State.copyReported (s : State) (h copy status reason sentAt : Nat) (exported : List Byte) (tr : Option Trace) : State :=
  match tget? s.sch.outst h with
  | none => s
  | some o =>
    let s1 := s.traceCopy o copy status sentAt exported tr
    if status = 3 then s1.unitAborted h o
    else
      let best := max o.pkt.best (if status = 0 then 3 else if status = 2 then 2 else 1)
      let s2 := if status = 0 then (s1.countBacked 15 (2 * o.queue) 1 s.time).countBacked 15 (2 * o.queue + 1) o.pkt.length s.time
        else s1
      if s.unitCopies o.pkt ≤ copy + 1 ∨ (status = 1 ∧ reason = 11) then s2.settleUnit h o best
      else { s2 with sch := { s2.sch with
        outst := tset s2.sch.outst h { o with copies := max o.copies (copy + 1), sentAt := none, pkt := { o.pkt with best := best } } } }

/-- The unit that DT dispatched with an eseq (R515). -/
def State.unitByEseq (s : State) (p eseq : Nat) : Option Nat :=
  (s.sch.outst.find? (fun e => e.2.port == p && e.2.eseq == eseq)).map (·.1)

/-- A RUN report reaches DT (R515): each of its units is delivered. -/
def State.runReported (s : State) (p : Nat) : Nat → List (Nat × List Byte × Option Trace) → State
  | _, [] => s
  | q, (at', ex, tr) :: r =>
    let s1 := match s.unitByEseq p q with
      | some h => s.copyReported h 0 0 0 at' ex tr
      | none => s
    s1.runReported p ((q + 1) % 2 ^ 16) r

/-- DELIVERY_REPORT_RECEIVE (R55, R375, R515, R532): the oldest report on its way. -/
def execDeliveryReportReceive (s : State) : Host.Outcome State Fault Refusal :=
  match s.port.reports with
  | [] => ok s
  | r :: rest =>
    let s1 := { s with port := { s.port with reports := rest } }
    okIf s.live s (match r with
      | .one h c st rs t ex tr => s1.copyReported h c st rs t ex tr
      | .run q p _ us => s1.runReported p q us)

/-- The units of a pipeline that are not reported and not waiting for their bytes, in `eseq` order (R540). -/
def State.unreported (s : State) (p : Nat) (b : Bool) : List Nat :=
  let l := (s.sch.outst.filter (fun e => e.2.port == p && e.2.pipeB == b && !s.sch.resend.contains e.1)).map
    (fun e => (e.2.eseq, e.1))
  (l.mergeSort (fun x y => serLe 16 x.1 y.1)).map (·.2)

/-- Send every unreported unit of a pipeline again, to the survivor of the pair (R540). -/
def State.resendPipe (s : State) (p : Nat) (b : Bool) : State :=
  (s.unreported p b).foldl (fun (t : State) h => if s.egPipeOk p (!b) then t.resendTo h (!b) else t.resendUnit h) s

/-- EGRESS_RESEND_TIMEOUT (R540): no report of a unit within 100 µs of its dispatch. -/
def execEgressResendTimeout (h : Nat) (s : State) : Host.Outcome State Fault Refusal :=
  match tget? s.sch.outst h with
  | none => ok s
  | some o => okIf (s.live && !s.sch.resend.contains h && o.sentAt.any (fun t => decide (t + 100000 ≤ s.up))) s
      (s.resendPipe o.port o.pipeB)

/-! ### Lists and addresses (R521, R525 to R528) -/

/-- The members of a list payload. -/
def mcMembers (c : TCmd) (n : Nat) : List Nat := (List.range n).map (fun m => bits (pw c (1 + m / 2)) (32 * (m % 2)) 32)

/-- MC_LIST_SET's effect. -/
def applyMcListSet (c : TCmd) (s : State) : CmdRes :=
  let w := pw c 0
  let n := bits w 16 11
  let id := bits w 0 16
  let others := ((s.inact.mcLists.filter (fun e => decide (e.1 ≠ id))).map (fun e => e.2.length)).sum
  if n = 0 ∨ 1024 < n ∨ bits w 27 37 ≠ 0 ∨ c.words.length ≠ 1 + (n + 1) / 2 ∨ (n % 2 = 1 ∧ bits (pw c (1 + n / 2)) 32 32 ≠ 0)
  then .refuse stBadKey
  else if 65536 < others + n then .refuse stNoSpace
  else .change (s.setInact (fun v => { v with mcLists := tset v.mcLists id (mcMembers c n) }))

/-- MC_LIST_SET (R526, R528). -/
def execMcListSet (c : TCmd) (s : State) : Host.Outcome State Fault Refusal :=
  ok (s.runChange 0x50 (decide (c.words ≠ [])) c (applyMcListSet c))

/-- MC_LIST_DELETE's effect. -/
def applyMcListDelete (c : TCmd) (s : State) : CmdRes :=
  if 2 ^ 16 ≤ pw c 0 then .refuse stBadKey
  else if !thas s.inact.mcLists (pw c 0) then .refuse stNotFound
  else .change (s.setInact (fun v => { v with mcLists := tdel v.mcLists (pw c 0) }))

/-- MC_LIST_DELETE (R526, R528). -/
def execMcListDelete (c : TCmd) (s : State) : Host.Outcome State Fault Refusal :=
  ok (s.runChange 0x51 (plen c 1) c (applyMcListDelete c))

/-- EG_LIST_SET's effect: a header that is not valid leaves the list undefined. -/
def applyEgListSet (c : TCmd) (s : State) : CmdRes :=
  let w := pw c 1
  let base := bits w 0 22
  let n := bits w 22 12 + 1
  if 2 ^ 15 ≤ pw c 0 ∨ bits w 35 29 ≠ 0 then .refuse stBadKey
  else if 4194303 < base + n - 1 ∨ (List.range n).any (fun i => !nhIs s.inact.nh (base + i) 1) then .refuse stBadRef
  else .change (s.setInact (fun v => { v with
    egHdrs := if bitOf w 34 then tset v.egHdrs (pw c 0) (BitVec.ofNat 64 w, 0) else tdel v.egHdrs (pw c 0) }))

/-- EG_LIST_SET (R527, R528). -/
def execEgListSet (c : TCmd) (s : State) : Host.Outcome State Fault Refusal :=
  ok (s.runChange 0x52 (plen c 2) c (applyEgListSet c))

/-- EG_LIST_DELETE's effect. -/
def applyEgListDelete (c : TCmd) (s : State) : CmdRes :=
  if 2 ^ 15 ≤ pw c 0 then .refuse stBadKey
  else if !thas s.inact.egHdrs (pw c 0) then .refuse stNotFound
  else .change (s.setInact (fun v => { v with egHdrs := tdel v.egHdrs (pw c 0) }))

/-- EG_LIST_DELETE (R527, R528). -/
def execEgListDelete (c : TCmd) (s : State) : Host.Outcome State Fault Refusal :=
  ok (s.runChange 0x53 (plen c 1) c (applyEgListDelete c))

/-- ENCAP_ADDR_SET's effect. -/
def applyEncapAddrSet (c : TCmd) (s : State) : CmdRes :=
  if 8192 ≤ pw c 0 then .refuse stBadKey
  else .change (s.setInact (fun v => { v with addrs := tset v.addrs (pw c 0) (c.words.getD 1 0, c.words.getD 2 0) }))

/-- ENCAP_ADDR_SET (R521). -/
def execEncapAddrSet (c : TCmd) (s : State) : Host.Outcome State Fault Refusal :=
  ok (s.runChange 0x54 (plen c 3) c (applyEncapAddrSet c))

end Sys2Proof.Machine
end

