-- ==== Sys2Proof/Machine/Spare.lean ====
section
/-! DEFINITION. Faults of IDL lanes and of pipelines (R21 to R23, R61 to R66, R70, R124, R512, R540), the spare
sequencer (R603 to R606), and the mailbox operation PIPE_RETEST. -/

namespace Sys2Proof.Machine

/-! ### The inter-die link (R19 to R23) -/

/-- The failed lanes of a lane group in a direction (0 TF to DT, 1 DT to TF). -/
def State.idlFailed (s : State) (dir group : Nat) : List Nat := tget s.idl.failed (36 * dir + group) []

/-- IDL_LANE_FAULT (R21, R22, R35, R61), from the training of the IDL on: a spare lane takes the place of the first two of a group; each of the next narrows it,
and at the seventh, below 12 data lanes, it is withdrawn. -/
def execIdlLaneFault (dir group lane : Nat) (s : State) : Host.Outcome State Fault Refusal :=
  let l := s.idlFailed dir group
  okIf (decide (TRAIN ≤ s.mode) && decide (dir < 2 ∧ group < 36 ∧ lane < 18) && !l.contains lane) s
    (State.unitFault { s with idl := { s.idl with failed := tset s.idl.failed (36 * dir + group) (l ++ [lane]) } }
      0xB (648 * dir + 18 * group + lane) true (decide (l.length + 1 ≤ 2 ∨ 7 < l.length + 1)))

/-- IDL_LINK_RETRY (R23, R365): the units of the group are retried until acknowledged, so that none is lost and none
passes another. -/
def execIdlLinkRetry (_dir _group : Nat) (s : State) : Host.Outcome State Fault Refusal := ok s

/-! ### The registers of a spare (R626) -/

/-- State, slot and failed positions of the spare of a direction. -/
def spState (eg : Bool) : Fld := if eg then F.TF_SPARE_STAT_eg_state else F.TF_SPARE_STAT_in_state
def spSlot (eg : Bool) : Fld := if eg then F.TF_SPARE_STAT_eg_slot else F.TF_SPARE_STAT_in_slot
def spFailed (eg : Bool) : Fld := if eg then F.TF_SPARE_STAT_eg_failed else F.TF_SPARE_STAT_in_failed

/-- Set one bit of the failed positions of a cluster. -/
def State.setPipeFailed (s : State) (cl : Nat) (eg : Bool) (pos : Nat) (b : Bool) : State :=
  s.put (spFailed eg) (setBits (s.get (spFailed eg) cl) pos 1 (b2n b)) cl

/-- Has a pipeline failed? -/
def State.pipeFailed (s : State) (cl : Nat) (eg : Bool) (pos : Nat) : Bool := bitOf (s.get (spFailed eg) cl) pos

/-- Is no commit phase in progress (R66, R604)? -/
def State.betweenEpochs (s : State) : Bool := s.eng.phase == 0

/-! ### A fault (R603, R604) -/

/-- The frames in the input FIFO of a failed pipeline are lost: their numbers are gaps of the resequencer (R363). -/
def State.dropIngress (s : State) (p : Nat) (b : Bool) : State :=
  let x := s.phys p
  s.setPhys p (if b then { x with fifoB := [] } else { x with fifoA := [] })

/-- The units in a failed egress pipeline are lost and sent again to the survivor (R540). -/
def State.dropEgress (s : State) (p : Nat) (b : Bool) : State :=
  let x := s.phys p
  (s.setPhys p (if b then { x with egB := [] } else { x with egA := [] })).resendPipe p b

/-- What a slot of a port held is lost. -/
def State.dropSlot (s : State) (cl : Nat) (eg : Bool) (slot : Nat) : State :=
  let p := 2 * cl + slot / 2
  let b := slot % 2 == 1
  if eg then s.dropEgress p b else s.dropIngress p b

/-- The spare is called in for a position (R604): at once, or after the commit phase in progress. -/
def State.callIn (s : State) (cl : Nat) (eg : Bool) (pos : Nat) : State :=
  (s.put (spState eg) (if s.betweenEpochs then 2 else 1) cl).put (spSlot eg) pos cl

/-- A failed spare (R604): the unit fault is recorded with position 4. -/
def State.spareFails (s : State) (cl : Nat) (eg : Bool) : State :=
  (((s.setPipeFailed cl eg 4 true).put (spState eg) 6 cl).raise F.TF_TBL_EVT_spare_fail).unitFault
    (if eg then 2 else 1) (5 * cl + 4) false false

/-- PIPE_FAULT_DETECT (R35, R603 to R605), the tests of RAISE (R736) among its causes: a pipeline of a cluster, or its spare in use or releasing. -/
def execPipeFaultDetect (cl : Nat) (egress : Bool) (pos : Nat) (s : State) : Host.Outcome State Fault Refusal :=
  let st := s.get (spState egress) cl
  let slot := s.get (spSlot egress) cl
  if pos = 4 then
    okIf (decide (RAISE ≤ s.mode) && decide (cl < 16) && (st == 5 || st == 7)) s
      (let s1 := s.spareFails cl egress
       if st = 5 then s1.dropSlot cl egress slot else s1)
  else
    let free := st == 0 && s.flag F.TF_SPARE_CTL_spares_en
    let cover := free && s.get (spFailed egress) cl == 0
    okIf (decide (RAISE ≤ s.mode) && decide (cl < 16 ∧ pos < 4) && !s.pipeFailed cl egress pos) s
      (let s1 := ((s.setPipeFailed cl egress pos true).unitFault (if egress then 2 else 1) (5 * cl + pos) cover
         false).dropSlot cl egress pos
       if free then s1.callIn cl egress pos else s1)

/-! ### The call-in (R604) -/

/-- SPARE_POWER_DONE: POWER to LOAD. -/
def execSparePowerDone (cl : Nat) (egress : Bool) (s : State) : Host.Outcome State Fault Refusal :=
  okIf (decide (cl < 16) && s.get (spState egress) cl == 2) s (s.put (spState egress) 3 cl)

/-- SPARE_LOAD_DONE: LOAD to CHECK; the copies that the spare reads are those in force (R208). -/
def execSpareLoadDone (cl : Nat) (egress : Bool) (s : State) : Host.Outcome State Fault Refusal :=
  okIf (decide (cl < 16) && s.get (spState egress) cl == 3) s (s.put (spState egress) 4 cl)

/-- SPARE_CHECK_DONE: CHECK to IN_USE, where the MAC has a pair again (R124), or to FAILED. -/
def execSpareCheckDone (cl : Nat) (egress : Bool) (pass : Bool) (s : State) : Host.Outcome State Fault Refusal :=
  okIf (decide (cl < 16) && s.get (spState egress) cl == 4) s
    (if pass then
      let s1 := (s.put (spState egress) 5 cl).raise F.TF_TBL_EVT_spare_in
      if egress then s1 else s1.passFrames (2 * cl + s.get (spSlot egress) cl / 2)
    else s.spareFails cl egress)

/-- SPARE_RELEASE_DONE: RELEASING to COLD. -/
def execSpareReleaseDone (cl : Nat) (egress : Bool) (s : State) : Host.Outcome State Fault Refusal :=
  okIf (decide (cl < 16) && s.get (spState egress) cl == 7) s ((s.zero (spState egress) cl).zero (spSlot egress) cl)

/-- A write of `spares_en` (R605). -/
def State.sparesEn (s : State) (en : Bool) : State :=
  let s1 := s.put F.TF_SPARE_CTL_spares_en (b2n en)
  if en then s1 else s1.raise F.DT_GUAR_EVT_cover_lost

/-- SPARES_EN_WRITE (R605). -/
def execSparesEnWrite (en : Bool) (s : State) : Host.Outcome State Fault Refusal :=
  okIf s.awake s (s.sparesEn en)

/-! ### The epoch boundary, and the return of a pipeline (R604, R606) -/

/-- A repaired pipeline returns: new frames and units go to it, and a spare that stood for it releases. -/
def State.pipeReturns (s : State) (e : Nat × Bool × Nat) : State :=
  let s1 := s.setPipeFailed e.1 e.2.1 e.2.2 false
  let s2 := if s.get (spState e.2.1) e.1 = 5 ∧ s.get (spSlot e.2.1) e.1 = e.2.2 then s1.put (spState e.2.1) 7 e.1 else s1
  if e.2.1 then s2 else s2.passFrames (2 * e.1 + e.2.2 / 2)

/-- What waits for an epoch boundary happens (R604, R606): spares leave WAIT_EPOCH, and pipelines return. -/
def State.epochBoundary (s : State) : State :=
  let s1 := (List.range 16).foldl (fun (t : State) c =>
    [false, true].foldl (fun (u : State) eg => if u.get (spState eg) c = 1 then u.put (spState eg) 2 c else u) t) s
  let s2 := s1.eng.returns.foldl State.pipeReturns s1
  { s2 with eng := { s2.eng with returns := [] } }

/-- A retest starts, or is refused (R606, R623). -/
def State.retestStart (s : State) : State :=
  let a := s.marg 0
  if bits a 5 3 < 4 ∧ s.pipeFailed (bits a 0 4) (bitOf a 4) (bits a 5 3) = true then s
  else s.mboxEnd (if bits a 5 3 < 4 then stBusy else stBadKey) []

/-- PIPE_RETEST (R606, R623): BUSY when the pipeline is in service. -/
def execPipeRetest (s : State) : Host.Outcome State Fault Refusal :=
  okIf s.awake s (s.mboxGo 3 State.retestStart)

/-- The end of a retest (R606, R623). -/
def State.retestDone (s : State) (passed : Bool) : State :=
  let a := s.marg 0
  let s1 := if passed then
      let t := { s with eng := { s.eng with returns := s.eng.returns ++ [(bits a 0 4, bitOf a 4, bits a 5 3)] } }
      if t.betweenEpochs then t.epochBoundary else t
    else s
  s1.mboxEnd stOk [b2n passed]

end Sys2Proof.Machine
end

