-- ==== Sys2Proof/Machine/Engine.lean ====
section
/-! DEFINITION. The commit phase (R242, R243, R347, R429 to R431, R447, R576, R590, R613 to R619), the retirement of an
epoch, REPARTITION, and the end of a mailbox operation (R620 to R624). -/

namespace Sys2Proof.Machine

/-! ### Nodes and policers at a commit (R415, R423, R429, R430, R435, R447) -/

/-- The words of a node by its key. -/
def wordsAt (v : View) (k : Nat) : Word × Word × Word := nodeWords v (k / 131072) (k % 131072)

/-- One node of which a commit changed the words: `old` is the view before, and the state has the new one in force. -/
def State.nodeCommit (old : View) (s : State) (k : Nat) : State :=
  let lvl := k / 131072
  let n := k % 131072
  let was := wordsAt old k
  let now := wordsAt s.act k
  let x := tget s.sch.nodes k (nodeInit was)
  if !nwEnable now then { s with sch := { s.sch with nodes := tdel s.sch.nodes k } }
  else if !nwEnable was then (s.setNode lvl n (nodeInit now)).refreshActive lvl n
  else
    let moved := (lvl == 1 || lvl == 2) && nwParent was != nwParent now
    let y : Node := { x with pend := some now, last := if moved then none else x.last }
    let s1 := s.setNode lvl n y
    if moved && x.active then
      ((s1.wake lvl n).refreshActive (lvl - 1) (nwParent was)).refreshActive (lvl - 1) (nwParent now)
    else s1

/-- The nodes that a new view changes. -/
def changedNodes (old new : View) : List Nat := (tkeys new.nodes).filter (fun k => decide (wordsAt old k ≠ wordsAt new k))

/-- One policer of which a commit changed the words. -/
def polCommit (was now : Word × Word × Word) (x : Policer) : Policer :=
  if !polEnable now then { x with w := now, pend := none }
  else if polEnable was then { x with pend := some now }
  else ⟨now, 8 * nwCbs now, 8 * nwPbs now, none⟩

/-- The policers that a new view changes. -/
def State.polsCommit (old : View) (s : State) : State :=
  s.act.pols.foldl (fun (t : State) e =>
    let was := tget old.pols e.1 (0, 0, 0)
    if was = e.2 then t
    else { t with sch := { t.sch with
      pols := tset t.sch.pols e.1 (polCommit was e.2 (tget t.sch.pols e.1 policer0)) } }) s

/-- A view goes into force: nodes and policers take their new words. -/
def State.adopt (s : State) (v : View) : State :=
  let old := s.act
  let s1 := { s with act := v }
  ((changedNodes old v).foldl (State.nodeCommit old) s1).polsCommit old

/-! ### The associative array at a commit (R342, R346, R347) -/

/-- An entry when its batch commits. -/
def assocCommit (e : AssocEntry) : AssocEntry :=
  { e with fresh := false, dying := e.dying || e.deleted, result := e.newResult.getD e.result, newResult := none }

/-! ### The steps of the commit phase (R616 to R619) -/

/-- The epoch that the phase makes active. -/
def State.nextEpoch (s : State) : Nat := (s.get F.TF_EPOCH_epoch + 1) % 2 ^ 32

/-- The rebuilds that have ended report completion at the commit that activates them (R331, R610). -/
def State.rebuildsDone (s : State) (e : Nat) : State :=
  let fin := s.eng.rebuilds.filter (fun r => r.2.2.2)
  let s1 := if fin.isEmpty then s else s.raise F.TF_CLASS_EVT_rebuild_done
  fin.foldl (fun (t : State) r => t.complete ⟨r.1, r.2.1, stOk, e, []⟩)
    { s1 with eng := { s.eng with rebuilds := s.eng.rebuilds.filter (fun r => !r.2.2.2) } }

/-- The view that the phase makes active, without the spill indications that end with this commit (R271). -/
def State.nextView (s : State) : View :=
  (if s.eng.own then s.engV else s.inact).setEm (fun st => emUnspill s.act.em st s.seedA s.seedB)

/-- The associative array that the phase makes active, without the entries it deletes. -/
def State.nextAssoc (s : State) : Tab AssocEntry :=
  if s.eng.own then s.mem.assoc
  else (s.tbl.assoc.map (fun (p : Nat × AssocEntry) => (p.1, assocCommit p.2))).filter (fun p => !p.2.dying)

/-- Step 3 ends: the switch. A host batch makes the inactive view active; the engine's own commit its own view. -/
def State.switchEpoch (s : State) : State :=
  let e := s.nextEpoch
  let v := s.nextView
  let s1 := s.adopt v
  let s2 := { (s1.stampQuar s.act).movesLive with
    engV := v
    inact := if s.eng.own then s1.inact else v
    eng := { s1.eng with dirty := false }
    tbl := { (s1.stampQuar s.act).movesLive.tbl with
      rewrites := 0
      batchRewrites := if s.eng.own then s1.tbl.batchRewrites else 0
      emOld := emLeft s.act.em v.em
      assoc := if s.eng.own then s1.tbl.assoc else s1.tbl.assoc.map (fun (p : Nat × AssocEntry) => (p.1, assocCommit p.2)) } }
  ((s2.put F.TF_EPOCH_epoch e).put F.TF_EPOCH_old_live 1).rebuildsDone e

/-- Step 6 ends: the batch completes with the epoch, its walks start (R278), and the boundary is passed. -/
def State.endPhase (s : State) : State :=
  let e := s.get F.TF_EPOCH_epoch
  let s0 := { s with eng := { s.eng with phase := 0, own := false } }
  let s1 := if s.eng.own then s0
    else
      let q := s.eng.batchQ.getD 0
      let owed := s.eng.owed
      let t := { s0 with eng := { s0.eng with batchQ := none, owed := [], ready := false } }.journalEnd 0 q e
      owed.foldl (fun (u : State) o => match o.2.2 with
        | none => u.complete ⟨o.1, o.2.1, stOk, e, []⟩
        | some w => { u with eng := { u.eng with flushes := u.eng.flushes ++ [⟨o.1, o.2.1, w, e, u.flushFound w⟩] } }) t
  s1.epochBoundary

/-- One step of the phase ends. From the record "fold E" on, a reset completes the fold (R578), so the shadow counts as
folded. -/
def State.phaseStep (s : State) : State :=
  match s.eng.phase with
  | 1 => if s.flag F.TF_EPOCH_old_live then s else { s with eng := { s.eng with phase := 2 } }
  | 2 =>
    let t := s.ballastTxs 2 shadowRegion true (1 + s.eng.owed.length)
    { t with eng := { s.eng with phase := 3, recEpoch := s.nextEpoch, recFold := true },
             mem := { t.mem with shadow := s.nextView, assoc := s.nextAssoc } }
  | 3 => { s.switchEpoch with eng := { s.switchEpoch.eng with phase := 4 } }
  | 4 => { s with eng := { s.eng with phase := 5 }, mem := { s.mem with shadow := s.act } }
  | 5 =>
    let t := s.ballastTx 2 shadowRegion true
    { t with eng := { s.eng with phase := 6, recFold := false }, mem := { t.mem with intact := true } }
  | 6 => s.endPhase
  | _ => s

/-- Is some spare in LOAD, for which a ready commit waits (R604)? -/
def State.spareLoads (s : State) : Bool :=
  (List.range 16).any (fun c => s.get (spState false) c == 3 || s.get (spState true) c == 3)

/-- A phase starts, unless the journal holds it (R590). -/
def State.startPhase (s : State) (own : Bool) : State :=
  if s.journalFull then s.raise F.TF_TBL_EVT_journal_hold
  else { s with eng := { s.eng with phase := 1, own := own } }

/-- May a phase start? -/
def State.mayCommit (s : State) : Bool := s.live && s.isOn 25 && s.betweenEpochs && !s.spareLoads

/-- COMMIT_PHASE_START (R604, R613, R616, R617): the batch is applied, and every shift of it complete (R345). -/
def execCommitPhaseStart (s : State) : Host.Outcome State Fault Refusal :=
  okIf (s.mayCommit && s.eng.ready && s.tbl.jobs.all (fun j => decide (j.2 = assocIdle))) s (s.startPhase false)

/-- COMMIT_STEP_END (R617). -/
def execCommitStepEnd (s : State) : Host.Outcome State Fault Refusal := okIf s.live s s.phaseStep

/-- ENGINE_COMMIT (R619): the engine's own changes take the same steps. -/
def execEngineCommit (s : State) : Host.Outcome State Fault Refusal :=
  okIf (s.mayCommit && s.eng.dirty) s (s.startPhase true)

/-- What the predecessor epoch still held is free (R243, R249, R272, R347). -/
def State.retireEpoch (s : State) : State :=
  let t := s.movesDone
  State.put { t with tbl := { t.tbl with assoc := t.tbl.assoc.filter (fun p => !p.2.dying), emOld := [] } }
    F.TF_EPOCH_old_live 0

/-- EPOCH_RETIRE (R242, R243, R347): the predecessor is gone from every pipeline. -/
def execEpochRetire (s : State) : Host.Outcome State Fault Refusal :=
  okIf (s.live && s.flag F.TF_EPOCH_old_live) s
    s.retireEpoch

/-! ### REPARTITION (R30, R623) -/

/-- The shares that the argument names. -/
def argShares (a : Nat) : List Nat := [bits a 0 16, bits a 16 16, bits a 32 16, bits a 48 16]

/-- Do the contents of a view fit the partition in force? -/
def State.viewFits (s : State) (v : View) : Bool :=
  decide (routeCharge v.routes ≤ s.routeSLeft) && decide (emUnits v.em ≤ s.emUnitLimit) &&
    (tkeys v.nh).all (fun i => decide (i < s.nhLimit)) && decide (copiesUsed v.rules ≤ s.copyLimit) &&
    decide (slotsUsed v.groups ≤ s.slotStore)

/-- A state with other shares. -/
def State.withShares (s : State) (l : List Nat) : State := { s with tbl := { s.tbl with shares := l } }

/-- The operation starts, or is refused. -/
def State.repartitionStart (s : State) : State :=
  let l := argShares (s.marg 0)
  let t := s.withShares l
  if 496 < l.sum then s.mboxEnd stBadKey []
  else if !(t.viewFits s.act && t.viewFits s.inact) then s.mboxEnd stNoSpace []
  else s

/-- REPARTITION (R623): it ends with MBOX_OP_DONE. -/
def execRepartition (s : State) : Host.Outcome State Fault Refusal :=
  okIf s.awake s (s.mboxGo 1 State.repartitionStart)

/-- The new partition is in force. -/
def State.repartitionDone (s : State) : State :=
  let t := s.withShares (argShares (s.marg 0))
  t.mboxEnd stOk [t.routeS]

/-! ### The end of a mailbox operation (R620, R623) -/

/-- MBOX_OP_DONE: the operation in progress ends; `passed` is the result of a retest. -/
def execMboxOpDone (passed : Bool) (s : State) : Host.Outcome State Fault Refusal :=
  if s.flag F.KV_MBOX_STAT_busy && s.activeMc.isSome then
    match s.get F.KV_MBOX_STAT_cur_op with
    | 1 => ok s.repartitionDone
    | 2 => ok (s.reconfigDone.mboxEnd stOk [])
    | 3 => ok (s.retestDone passed)
    | 5 => ok (s.mboxEnd stOk s.epochResults)
    | 6 => okIf s.betweenEpochs s (s.queueResetDone.mboxEnd stOk [])
    | _ => ok s
  else ok s

end Sys2Proof.Machine
end

