-- ==== Sys2Proof/Machine/Modes.lean ====
section
/-! DEFINITION. Mode requests (R34 to R46), the drain (R71 to R77), and the reset sources that drain first: software
system reset, chain reset of system reach and the ripcord (R678, R717, R747, R766). -/

namespace Sys2Proof.Machine

/-! ### Refused requests (R40) -/

/-- A request in a mode that does not allow it: its bit is cleared. -/
def State.modeRefused (s : State) (bit : Fld) : State :=
  ((s.zero bit).raise F.KV_MODE_REQ_req_refused).put F.KV_MODE_REQ_refused_mode s.mode

/-! ### Entering DRAIN (R35, R46, R71) -/

/-- The modes in which no accepted work is held (R46). -/
def idleModes : List Nat := [LOAD, TRAIN, RAISE, QUIESCED, MAINTENANCE]

/-- XOFF for every lossless (ingress port, class) (R71). -/
def State.xoffAll (s : State) : State :=
  (List.range 256).foldl (fun (t : State) l =>
    (bitList (t.get F.DT_LOSSLESS_lossless l) 8).foldl (fun (u : State) c => u.requestXoff (8 * l + c)) t) s

/-- DRAIN is entered, for a reset source or for a request: phase 1 ends at once, and from the modes that hold no
accepted work every phase does (R46). The aging counters are saved (R742). -/
def State.enterDrain (s : State) (src : Option RSrc) : State :=
  let old := s.mode
  let s0 := s.saveAging
  let s1 := { s0 with rst := { s0.rst with serves := src.toList, fromSafe := old == SAFE, drainStart := s.up } }
  let s2 := s1.enterMode DRAIN
  if idleModes.contains old then (s2.wr R.DT_DRAIN_STAT 0).put F.DT_DRAIN_STAT_phase 7
  else ((s2.wr R.DT_DRAIN_STAT 0).put F.DT_DRAIN_STAT_phase 2).xoffAll

/-- A source that drains first (R46, R678): in HELD it asserts at once and joins the episode, in a drain it joins it. -/
def State.drainFirst (s : State) (src : RSrc) : State :=
  if s.mode = OFF then s
  else if s.mode = HELD then s.assertSource src
  else if s.mode = DRAIN then
    { s with rst := { s.rst with serves := s.rst.serves ++ (if s.rst.serves.contains src then [] else [src]) } }
  else s.enterDrain (some src)

/-! ### The phases (R71) -/

/-- Every VOQ is empty, its tail with it. -/
def State.voqsEmpty (s : State) : Bool := s.buf.voqs.all (fun e => e.2.q.isEmpty)

/-- No tether record, and nothing between a VOQ and its cells. -/
def State.tetherEmpty (s : State) : Bool := s.fab.tx.all (fun e => e.2.recs.isEmpty && e.2.pkts.isEmpty)

/-- Nothing is queued for egress, dispatched, or partly arrived. -/
def State.egressEmpty (s : State) : Bool :=
  s.sch.queues.all (fun e => e.2.isEmpty) && s.sch.outst.isEmpty &&
    s.fab.rx.all (fun e => e.2.held.isEmpty && e.2.asm.isNone)

/-- The accepted bytes still held (R77). -/
def State.acceptedBytes (s : State) : Nat :=
  (s.buf.bodies.map (fun e => match e.2.charge with
    | .reseq _ => 0
    | _ => if 0 < e.2.refs then e.2.bytes.length + 4 else 0)).sum

/-- The same in MiB, rounded up. -/
def State.leftMib (s : State) : Nat := min (2 ^ 23 - 1) ((s.acceptedBytes + 1048575) / 1048576)

/-- The microseconds since DRAIN was entered (R77). -/
def State.drainUs (s : State) : Nat := min (2 ^ 32 - 1) ((s.up - s.rst.drainStart) / 1000)

/-- The drain is complete: it ends in QUIESCED, or in the resets that it serves, or, from SAFE, in a system reset that
is recorded as a software one (R35, R36). -/
def State.drainDone (s : State) : State :=
  let s1 := ((s.put F.DT_DRAIN_STAT_phase 7).put F.DT_DRAIN_STAT_elapsed_us s.drainUs).put
    F.DT_DRAIN_STAT_left_mib s.leftMib
  let srcs := if s.rst.serves.isEmpty && s.rst.fromSafe then [RSrc.safeDrain] else s.rst.serves
  if srcs.isEmpty then (s1.zero F.KV_MODE_REQ_drain_req).enterMode QUIESCED
  else srcs.foldl (fun (t : State) x => t.assertSource x true) s1

/-- Does the condition of the current phase hold? Phases 2 and 3 end within a time that the command stands for. In phase 6
copies can still move to a protect port of another module, and the drain waits for them too (R71, R72). -/
def State.phaseOver (s : State) : Bool :=
  match s.get F.DT_DRAIN_STAT_phase with
  | 2 => true
  | 3 => true
  | 4 => s.voqsEmpty
  | 5 => s.tetherEmpty
  | 6 => s.voqsEmpty && s.tetherEmpty && s.egressEmpty
  | 7 => true
  | _ => false

/-- DRAIN_PHASE_END (R71). -/
def execDrainPhaseEnd (s : State) : Host.Outcome State Fault Refusal :=
  okIf (s.mode == DRAIN && s.phaseOver) s
    (if 6 ≤ s.get F.DT_DRAIN_STAT_phase then s.drainDone
    else s.put F.DT_DRAIN_STAT_phase (s.get F.DT_DRAIN_STAT_phase + 1))

/-! ### Requests (R34, R40, R45) -/

/-- A drain request: from the modes that forward; in DRAIN it joins. -/
def State.drainReq (s : State) : State :=
  let s1 := s.raise F.KV_MODE_REQ_drain_req
  if s.mode = DRAIN then s1 else if s.forwarding then s1.enterDrain none else s1.modeRefused F.KV_MODE_REQ_drain_req

/-- DRAIN_REQ. -/
def execDrainReq (s : State) : Host.Outcome State Fault Refusal := okIf s.awake s s.drainReq

/-- A resume request (R45); the `degraded` bit follows the units (R33). Admission opens again, so pairs whose accounts have
drained are sent XON (R384). -/
def State.resumeReq (s : State) : State :=
  if s.mode = QUIESCED then
    ((s.zero F.KV_MODE_REQ_resume_req).enterMode (if s.probRuns then PROBATION
      else if s.degradedNow then DEGRADED else RUN)).xonAll
  else s.modeRefused F.KV_MODE_REQ_resume_req

/-- RESUME_REQ (R45). -/
def execResumeReq (s : State) : Host.Outcome State Fault Refusal := okIf s.awake s s.resumeReq

/-- A maintenance request. -/
def State.maintReq (s : State) : State :=
  if s.mode = QUIESCED then (s.zero F.KV_MODE_REQ_maint_req).enterMode MAINTENANCE
  else s.modeRefused F.KV_MODE_REQ_maint_req

/-- MAINT_REQ. -/
def execMaintReq (s : State) : Host.Outcome State Fault Refusal := okIf s.awake s s.maintReq

/-- A request to leave MAINTENANCE. -/
def State.maintExit (s : State) : State :=
  if s.mode = MAINTENANCE then (s.zero F.KV_MODE_REQ_maint_exit).enterMode QUIESCED
  else s.modeRefused F.KV_MODE_REQ_maint_exit

/-- MAINT_EXIT. -/
def execMaintExit (s : State) : Host.Outcome State Fault Refusal := okIf s.awake s s.maintExit

/-! ### Reset sources that drain first (R46, R678, R717, R766) -/

/-- The keyed write of `sys_req` (R46, R717); the bit is cleared when the episode begins. -/
def State.sysReq (s : State) : State := (if s.awake then s.raise F.KV_RESET_REQ_sys_req else s).drainFirst .swSys

/-- SYS_REQ. -/
def execSysReq (s : State) : Host.Outcome State Fault Refusal := ok s.sysReq

/-- CHAIN_SYS_RESET (R766). -/
def execChainSysReset (target gen : Nat) (s : State) : Host.Outcome State Fault Refusal :=
  let t := s.relayCmd 2 target gen
  okIf (s.mode ≠ OFF) s (if s.cmdMine target then (t.cmdStatus 0).drainFirst .chainSys else t)

/-! ### The ripcord (R76, R747) -/

/-- RIPCORD_TRIP (R747). -/
def execRipcordTrip (s : State) : Host.Outcome State Fault Refusal :=
  okIf (s.mode ≠ OFF && s.get F.KV_THERM_STAT_state != 5) s
    ((State.put { s.emit (.thermtrip true) with rst := { s.rst with tripAt := s.up } } F.KV_THERM_STAT_state 5).drainFirst
      .ripcord)

/-- The accepted packets that the module still holds. -/
def State.heldPkts (s : State) : List Pkt :=
  s.buf.voqs.flatMap (fun e => e.2.q.map (·.pkt)) ++ s.fab.tx.flatMap (fun e => e.2.pkts ++ e.2.recs.flatMap (·.ends)) ++
    s.sch.queues.flatMap (·.2) ++ s.sch.outst.map (fun e => e.2.pkt)

/-- RIPCORD_DRAIN_LIMIT (R76): 10 ms after the trip the drain ends, and what is held is counted under RIPCORD. -/
def execRipcordDrainLimit (s : State) : Host.Outcome State Fault Refusal :=
  okIf (s.mode == DRAIN && s.rst.serves.contains .ripcord && decide (s.rst.tripAt + 10000000 ≤ s.up)) s
    (let l := s.heldPkts
     let s1 := l.foldl (fun (t : State) x => t.pktCount 0x18 x) s
     let s2 := if l.isEmpty then s1 else s1.raise F.DT_GUAR_EVT_ripcord_flush
     s2.rst.serves.foldl (fun (t : State) x => t.assertSource x) s2)

/-- RIPCORD_RELEASE (R747): every valid reading is below 95 °C. -/
def execRipcordRelease (s : State) : Host.Outcome State Fault Refusal :=
  okIf (s.rst.asserted.contains .ripcord) s ((s.releaseSource .ripcord).put F.KV_THERM_STAT_state 1)

end Sys2Proof.Machine
end

