-- ==== Sys2Proof/Machine/Blocks.lean ====
section
/-! DEFINITION. Block reset and the isolation wrapper (R69, R677, R690 to R696, R719, R724). -/

namespace Sys2Proof.Machine

/-! ### What a block reset restores (R14, R69, R122, R567) -/

/-- The registers of a block at their reset values, but for the fields of reach P and of reach kept (R14): these show live
state, some of it of other blocks, and follow what the block loses (`resetContents`). -/
def State.restoreBlock (s : State) (i : Nat) : State :=
  { s with regs := restoreRegs (fun r k =>
      if regIsland r k = i then reachMask r .p ||| reachMask r .kept else allBits) s.regs }

/-- A cluster: what its pipelines held is lost. -/
def State.resetCluster (s : State) (cl : Nat) : State :=
  [0, 1, 2, 3].foldl (fun (t : State) slot => (t.dropSlot cl false slot).dropSlot cl true slot) s

/-- A logical port whose island is reset: the link goes to DISABLED, what the MAC holds to send is reported to DT (R863), and
its fault and framing state is gone. -/
def State.resetLport (s : State) (l : Nat) : State :=
  let s1 := if s.link l = 0 then s else s.disableLink l []
  let s2 := if (s1.phys (l / 8)).tx.any (fun c => decide (c.lport = l)) then s1.abortDown l else s1
  ((s2.zero F.TF_LPORT_STAT_local_fault l).zero F.TF_LPORT_STAT_remote_fault l).wr R.TF_FRM_STAT 0 l

/-- A lane whose island is reset has neither signal nor lock. -/
def State.resetLaneStat (s : State) (n : Nat) : State :=
  (((s.zero F.TF_LANE_STAT_signal n).zero F.TF_LANE_STAT_cdr_lock n).zero F.TF_LANE_STAT_adapting n).zero
    F.TF_LANE_STAT_ber_log n

/-- A port island: its links go to DISABLED, and received frames in its MACs are lost; units that wait there behind one
still in a pipeline go unreported and are sent again (R540); the sequence counters run on (R122). -/
def State.resetPorts (s : State) (j : Nat) : State :=
  let ls := (List.range 32).map (fun i => 32 * j + i)
  let s1 := ls.foldl State.resetLport s
  let s2 := ls.foldl State.resetLaneStat s1
  let s3 := (List.range 4).foldl (fun (t : State) i =>
    (t.flushRun (4 * j + i)).setPhys (4 * j + i) { (t.flushRun (4 * j + i)).phys (4 * j + i) with inbuf := [], tx := [] }) s2
  { s3 with port := { s2.port with
    lports := s3.port.lports.filter (fun e => decide (e.1 / 32 ≠ j))
    frm := s3.port.frm.filter (fun e => decide (e.1 / 32 ≠ j)) } }

/-- Memory channels go to OFF. -/
def State.resetChans (s : State) (chs : List Nat) : State :=
  chs.foldl (fun (t : State) c => ((t.setMemCh c memCh0).setMemq c memQ0).setChState c 0) s

/-- A fabric plane: its lanes are down, without signal. -/
def State.resetPlane (s : State) (k : Nat) : State :=
  (planeLanes k).foldl (fun (t : State) n => ((t.setLane n 0).zero F.DT_FAB_LANE_signal n).setFlink n fabLink0) s

/-- The channels of a memory island. -/
def islandChans (i : Nat) : List Nat :=
  if i = 31 then pkgChans false 0 else if i = 32 then pkgChans false 1
  else if 57 ≤ i ∧ i ≤ 64 then (List.range 13).map (fun k => 13 * (i - 57) + k) else []

/-- What a block holds beyond its registers. -/
def State.resetContents (s : State) (i : Nat) : State :=
  if 1 ≤ i ∧ i ≤ 16 then s.resetCluster (i - 1)
  else if 17 ≤ i ∧ i ≤ 24 then s.resetPorts (i - 17)
  else if i = 25 then s.abortBatch true
  else if 49 ≤ i ∧ i ≤ 56 then s.resetPlane (i - 49)
  else s.resetChans (islandChans i)

/-! ### Leaving service (R690, R691, R724) -/

/-- Is a request for the block refused, and how (R69, R695)? 1 BUSY, 2 DENIED. -/
def State.blockRefusal (s : State) (i : Nat) : Nat :=
  if i = 0 ∨ i = 30 ∨ (28 ≤ i ∧ i ≤ 29 ∧ s.mcActive (i - 28) = true) then 2
  else if ((35 ≤ i ∧ i ≤ 48 ∧ i ≠ 42) ∨ (57 ≤ i ∧ i ≤ 64)) ∧ s.mode ≠ QUIESCED then 1
  else 0

/-- A block enters STOPPING or STARTING now (R690, R692). -/
def State.blkSince (s : State) (i : Nat) : State :=
  { s with rst := { s.rst with blkAt := tset s.rst.blkAt i s.up } }

/-- Have n nanoseconds passed since then? -/
def State.blkFor (s : State) (i n : Nat) : Bool := decide (tget s.rst.blkAt i 0 + n ≤ s.up)

/-- STOPPING: the wrapper isolates the block, its crossings abort, and a plane leaves the spray maps. A controller moves
to TESTING (R597, R695). What its crossings held is counted in `errored` (R691). -/
def State.stopBlock (s : State) (i : Nat) : State :=
  let n := s.xingErrored i
  let s0 := ((s.blkSince i).put F.KV_BLK_STAT_state 1 i).put F.KV_BLK_STAT_isolated 1 i
  let s1 := (s0.xingPeerReset i).put F.KV_BLK_STAT_errored (min n 65535) i
  if 49 ≤ i ∧ i ≤ 56 then s1.mapChange s false
  else if i = 28 ∨ i = 29 then
    ((s1.setRole (i - 28) 2).zero F.KV_MC_HEALTH_ready (i - 28)).setMcOne (i - 28) ⟨0, false, false⟩
  else s1

/-- Does a tether record name the plane of an island (R69, R695)? -/
def State.planeNamed (s : State) (i : Nat) : Bool :=
  decide (49 ≤ i ∧ i ≤ 56) && s.fab.tx.any (fun e => e.2.recs.any (fun r => decide (r.lane / 40 = i - 49)))

/-- Is the block ON or UNSTABLE? -/
def State.blockRuns (s : State) (i : Nat) : Bool := s.blk i == 0 || s.blk i == 6

/-- A reset request (R69, R690, R694, R695): in any other state it has no further effect. -/
def State.resetBlock (s : State) (i : Nat) : State :=
  if s.blockRuns i then
    let r := s.blockRefusal i
    let s1 := s.put F.KV_BLK_STAT_result r i
    if r = 0 then (s1.put F.KV_BLK_CTL_reset_req 1 i).stopBlock i else s1.zero F.KV_BLK_CTL_reset_req i
  else s

/-- BLOCK_RESET_REQ. -/
def execBlockResetReq (i : Nat) (s : State) : Host.Outcome State Fault Refusal :=
  okIf (s.awake && decide (i < 68)) s (s.resetBlock i)

/-- STARTING. -/
def State.startBlock (s : State) (i : Nat) : State :=
  ((s.blkSince i).put F.KV_BLK_STAT_state 3 i).put F.KV_BLK_STAT_clk_lock 0 i

/-- A disable (R690, R694, R695): the field stores the value (R9); the stop is refused like a reset (log 99). -/
def State.disableBlock (s : State) (i : Nat) : State :=
  let s1 := s.put F.KV_BLK_CTL_enable 0 i
  if s.blockRuns i then
    let r := s.blockRefusal i
    let s2 := s1.put F.KV_BLK_STAT_result r i
    if r = 0 then s2.stopBlock i else s2
  else
    if s.blk i = 5 then s1.put F.KV_BLK_STAT_state 1 i else if s.blk i = 2 then s1.put F.KV_BLK_STAT_state 4 i else s1

/-- An enable (R690, R694). -/
def State.enableBlock (s : State) (i : Nat) : State :=
  let was := s.flag F.KV_BLK_CTL_enable i
  let s1 := s.put F.KV_BLK_CTL_enable 1 i
  if s.blk i = 1 ∧ was = false then s1.put F.KV_BLK_STAT_state 5 i
  else if s.blk i = 4 then s1.startBlock i
  else s1

/-- BLOCK_ENABLE_WRITE (R690, R694). -/
def execBlockEnableWrite (i : Nat) (en : Bool) (s : State) : Host.Outcome State Fault Refusal :=
  okIf (s.awake && decide (i < 68)) s (if en then s.enableBlock i else s.disableBlock i)

/-- BLOCK_STOP_DONE (R690, R691, R695): the block is in RESET, with `errored` further transfers ended (accesses into
it, requests of its own), and starts again under its `enable`. -/
def execBlockStopDone (i errored : Nat) (s : State) : Host.Outcome State Fault Refusal :=
  okIf (s.awake && decide (i < 68) && (s.blk i == 1 || s.blk i == 5) && !s.planeNamed i) s
    (let s1 := ((s.resetContents i).restoreBlock i).blockReset i
     let s2 := (s1.put F.KV_BLK_STAT_errored (min 65535 (s.get F.KV_BLK_STAT_errored i + errored)) i).addSat F.KV_BLK_STAT_resets 1 i
     if s2.flag F.KV_BLK_CTL_enable i then s2.startBlock i else s2.put F.KV_BLK_STAT_state 4 i)

/-- The memory channels of a block that has initialised are trained again (R562, log 98). -/
def State.retrainChans (s : State) (i : Nat) : State :=
  (islandChans i).foldl (fun (t : State) c => if t.chState c = 0 then t.trainFrom c else t) s

/-- What a block that is ON again takes up: a memory block trains its channels; the MACs of a cluster's ports pass what waits
for its pipelines (R123); the links of a port island start (R96). -/
def State.blockResumes (s : State) (i : Nat) : State :=
  if 1 ≤ i ∧ i ≤ 16 then (s.passFrames (2 * (i - 1))).passFrames (2 * (i - 1) + 1)
  else if 17 ≤ i ∧ i ≤ 24 then ((List.range 32).map (32 * (i - 17) + ·)).foldl State.tryStart s
  else s.retrainChans i

/-- BLOCK_START_DONE (R690, R724): locked and initialised, the block is ON; one disabled meanwhile stops again. -/
def execBlockStartDone (i : Nat) (s : State) : Host.Outcome State Fault Refusal :=
  okIf (s.awake && decide (i < 68) && s.blk i == 3) s
    (let s1 := (((s.blockOn i).zero F.KV_BLK_CTL_reset_req i).raise F.KV_RST_EVT_block_done).blockResumes i
     if s1.flag F.KV_BLK_CTL_enable i then s1 else s1.stopBlock i)

/-- A forced release (R693): the block runs, still isolated. -/
def State.forceRelease (s : State) (i : Nat) : State :=
  (s.put F.KV_BLK_STAT_state 6 i).raise F.KV_RST_EVT_unstable

/-- BLOCK_LOCK_TIMEOUT (R690, R693): STARTING for 1 ms without lock. -/
def execBlockLockTimeout (i : Nat) (s : State) : Host.Outcome State Fault Refusal :=
  okIf (s.awake && decide (i < 68) && s.blk i == 3 && s.blkFor i 1000000) s
    (if s.flag F.KV_BLK_CTL_force_rel i then s.forceRelease i
    else ((s.put F.KV_BLK_STAT_state 2 i).put F.KV_BLK_STAT_result 4 i).raise F.KV_RST_EVT_lock_fail)

/-- QUIESCE_TIMEOUT (R692): the block reported no idle, and the wrapper goes on by the native method. -/
def execQuiesceTimeout (i : Nat) (s : State) : Host.Outcome State Fault Refusal :=
  okIf (s.awake && decide (i < 68) && (s.blk i == 1 || s.blk i == 5) && s.flag F.KV_BLK_CTL_quiesce i &&
      s.blkFor i (1000 * max 1 (s.get F.KV_BLK_CTL_quiesce_us i))) s
    ((s.put F.KV_BLK_STAT_result 3 i).raise F.KV_RST_EVT_quiesce_timeout)

end Sys2Proof.Machine
end

