-- ==== Sys2Proof/Machine/Repair.lean ====
section
/-! DEFINITION. Repairs from the ballast, and the command that waits for one (R65, R252 to R255, R305, R306, R349 to R352). -/

namespace Sys2Proof.Machine

/-- The check and effect of a table command by its opcode (R608), with whether its payload has a listed length; none for an
opcode without one. -/
def tableOp (op : Nat) (c : TCmd) : Option (Bool × (State → CmdRes)) :=
  match op with
  | 0x10 => some (plen c 4, applyRouteAdd c)
  | 0x11 => some (plen c 4, applyRouteDelete c)
  | 0x12 => some (plen c 1, applyVrfSet c)
  | 0x18 => some (plen c 3, applyNhSet c)
  | 0x19 => some (plen c 1, applyNhDelete c)
  | 0x20 => some (plen c (1 + (gsCount c + 1) / 2), applyGroupSet c)
  | 0x21 => some (plen c 1, applyGroupDelete c)
  | 0x22 => some (plen c 1, applyGroupMember c)
  | 0x28 => some (plen c 3, applyParseState c)
  | 0x29 => some (plen c 3, applyParseTrans c)
  | 0x2A => some (plen c 7, applyKeyTemplate c)
  | 0x30 => some (plen c 4, applyEmAdd c)
  | 0x31 => some (plen c 4, applyEmDelete c)
  | 0x32 => some (plen c 1, applyEmFlush c)
  | 0x33 => some (plen c 3, applyEmRead c)
  | 0x38 => some (plen c 2, applyClassTreeSet c)
  | 0x39 => some (plen c 1, applyClassTreeDelete c)
  | 0x3A => some (plen c (2 + 3 * rpConds c), applyClassRuleAdd c)
  | 0x3B => some (plen c 1, applyClassRuleDelete c)
  | 0x3C => some (plen c 1, applyClassRuleRead c)
  | 0x3D => some (plen c 1, applyClassTreeRebuild c)
  | 0x40 => some (plen c 8, applyAssocAdd c)
  | 0x41 => some (plen c 2, applyAssocSet c)
  | 0x42 => some (plen c 1, applyAssocDelete c)
  | 0x43 => some (plen c 1, applyAssocRead c)
  | 0x48 => some (plen c 3, applyNodeSet c)
  | 0x49 => some (plen c 1, applyNodeRead c)
  | 0x4A => some (plen c 1, applyEqMapSet c)
  | 0x4B => some (plen c 3, applyPolicerSet c)
  | 0x4C => some (plen c 1, applyPolicerRead c)
  | 0x50 => some (!c.words.isEmpty, applyMcListSet c)
  | 0x51 => some (plen c 1, applyMcListDelete c)
  | 0x52 => some (plen c 2, applyEgListSet c)
  | 0x53 => some (plen c 1, applyEgListDelete c)
  | 0x54 => some (plen c 3, applyEncapAddrSet c)
  | _ => none

/-- The command that waits for a repair is applied in its place in the batch (R255, R352); it may wait again. -/
def State.runWaiting (s : State) : State :=
  match s.eng.waiting with
  | none => s
  | some (op, c) =>
    match tableOp op c with
    | none => s
    | some (_, f) =>
      let t := { s with eng := { s.eng with waiting := none } }
      t.answer op c (f t)

/-- What the oldest poisoned node, entry, copy or bucket was is written anew from the ballast, or from another copy (R252 to
R254, R306, R349). -/
def State.repairOldest (s : State) : State :=
  match s.tbl.poison with
  | [] => s
  | p :: r =>
    let t := s.ballastTx 1 shadowRegion false
    if p.1 = pkEm then t.emRepair p.2 else { t with tbl := { t.tbl with poison := r } }

/-- TABLE_REPAIR (R252 to R255). -/
def execTableRepair (s : State) : Host.Outcome State Fault Refusal := okIf s.live s s.repairOldest.runWaiting

/-- BALLAST_COMPARE (R304 to R306): bucket b is compared, and rewritten when it differs or cannot be read; with a write of it
pending the compare skips it. -/
def execBallastCompare (b : Nat) (mismatch : Bool) (s : State) : Host.Outcome State Fault Refusal :=
  if s.live && s.flag F.TF_EM_CTL_compare_en && !s.emPending b then
    let t := s.ballastTx 1 shadowRegion false
    if mismatch || s.poisoned pkEm b then ok (t.emRepair b).runWaiting else ok t
  else ok s

/-- ASSOC_ENTRY_REWRITE (R350 to R352): the entry at an index is rewritten from its ballast copy. -/
def execAssocEntryRewrite (i : Nat) (s : State) : Host.Outcome State Fault Refusal :=
  match tget? s.tbl.assoc i with
  | none => ok s
  | some e =>
    okIf s.live s
      (((s.ballastTx 1 shadowRegion false).setAssoc (tset s.tbl.assoc i { e with excluded := false })).raise F.TF_CLASS_EVT_assoc_parity).runWaiting

end Sys2Proof.Machine
end

