-- ==== Sys2Proof/Machine/Bringup.lean ====
section
/-! DEFINITION. Staggered bring-up and the initial tables (R38, R47, R88, R89, R353, R415, R506, R578, R688, R699, R711,
R712, R736, R773, R794). The steps of R736 are taken one at a time, in one order (log 102). -/

namespace Sys2Proof.Machine

/-- An island is released, unless its clock has not locked (R688, R736). -/
def State.releaseIsland (s : State) (i : Nat) : State :=
  if s.flag F.KV_BLK_STAT_clk_lock i && s.get F.KV_BLK_STAT_result i != 4 then s.blockOn i else s

/-- Several islands. -/
def State.releaseIslands (s : State) (l : List Nat) : State := l.foldl State.releaseIsland s

/-- The next step. -/
def State.nextBringup (s : State) (k : Nat) : State := { s with boot := { s.boot with bringup := k } }

/-! ### TRAIN (R562, R736) -/

/-- The channels of memory batch b. -/
def batchChans (b : Nat) : List Nat :=
  (List.range 8).map (fun i => if b < 2 then 104 + 8 * b + i else 8 * (b - 2) + i)

/-- The island of a channel (R24). -/
def chIsland (ch : Nat) : Nat := if isTail ch then 57 + ch / 13 else if ch < 112 then 31 else 32

/-- A channel starts training, or is out with its island. -/
def State.startTraining (s : State) (ch : Nat) : State :=
  let t := if s.isOn (chIsland ch) then s else s.releaseIsland (chIsland ch)
  if t.isOn (chIsland ch) then (if t.chState ch = 0 then t.trainFrom ch else t) else t.enterOut ch

/-- A step of TRAIN. -/
def State.trainStep (s : State) (k : Nat) : State :=
  if k = 0 then (s.releaseIslands ((List.range 8).map (17 + ·))).nextBringup 1
  else if k ≤ 72 then s.nextBringup (if k = 32 ∧ s.standalone = true then 73 else k + 1)
  else if k ≤ 87 then ((batchChans (k - 73)).foldl State.startTraining s).nextBringup (k + 1)
  else s

/-! ### The port profile (R84, R87, R89, R415) -/

/-- The registers that the port profile loads (R711): breakouts, lane maps, and per logical port the link, framing, parsing,
admission, hold, queue, policer and egress settings. -/
def portProfRegs : List RegD :=
  [R.TF_PORT_CFG, R.TF_PORT_LANEMAP, R.TF_LPORT_CTL, R.TF_FRM_CTL, R.TF_PARSE_PORT, R.DT_LOSSLESS, R.DT_PORT_HOLD,
   R.DT_EQ_PORT, R.DT_POL_PORT, R.TF_EG_PORT]

/-- Load one of them; a register of an absent or unframed port is not there (R84, R165). -/
def State.loadPort (s : State) (e : Nat × Word) : State :=
  match findReg e.1 with
  | none => s
  | some r =>
    let i := (regIdx r e.1).getD (0, 0)
    if !portProfRegs.contains r || (r = R.TF_LPORT_CTL && !s.present i.1) ||
      (r = R.TF_FRM_CTL && !(s.present i.1 && s.framed i.1)) then s
    else s.load r e.2 i.1 i.2

/-- The port profile is applied (R85, R88, R101, R165, R711), the breakouts first. -/
def State.loadPorts (s : State) : State :=
  let l := ((s.boot.image).map (fun i => i.content.portRegs)).getD []
  let cfg := fun (e : Nat × Word) => (regIdx R.TF_PORT_CFG e.1).isSome
  (l.filter (fun e => !cfg e)).foldl State.loadPort ((l.filter cfg).foldl State.loadPort s)

/-- The presence and map-error bits follow the port profile. -/
def State.portLayout (s : State) : State :=
  (List.range 32).foldl (fun (t : State) p =>
    (t.setBreakout p (t.breakout p) (t.flag F.TF_PORT_CFG_framed p)).put F.TF_PORT_CFG_map_err
      (b2n (!(mapOk (t.get F.TF_PORT_LANEMAP_rx_map p) && mapOk (t.get F.TF_PORT_LANEMAP_tx_map p)))) p) s

/-- The words of port node l in the layout loaded at RAISE. -/
def State.portNode (s : State) (l : Nat) : Word × Word × Word :=
  let rate := if s.present l then speedMbps (portSpeed (s.breakout (l / 8))) else 0
  (BitVec.ofNat 64 (4 * l + 2 ^ 34 + 20 * 2 ^ 50 + 2 ^ 57), BitVec.ofNat 64 (rate * 2 ^ 21), BitVec.ofNat 64 (16384 * 2 ^ 24))

/-- The layout of R415 in a view: the port nodes; the other levels stand at their default words. -/
def State.layout (s : State) (v : View) : View :=
  { v with nodes := (List.range 256).foldl (fun (m : Tab (Word × Word × Word)) l => tset m (nodeKey 0 l) (s.portNode l)) v.nodes }

/-- One view in force everywhere. -/
def State.adoptAll (s : State) (v : View) : State :=
  { s.adopt v with engV := v, inact := v }

/-! ### The initial tables (R711, R712) -/

/-- A command that the engine refuses is counted (R712). -/
def State.initRefused (s : State) : State := s.addSat F.KV_BOOT_STAT_init_refused 1

/-- The shift of a bank runs to its end; the number bounds its steps. -/
def State.shiftBank (b : Nat) : Nat → State → State
  | 0, s => s
  | n + 1, s => if s.jobs b = assocIdle then s else (s.shiftStep b).shiftBank b n

/-- Every shift runs to its end. -/
def State.shiftAll (s : State) : State :=
  (tkeys s.tbl.jobs).foldl (fun (t : State) b => t.shiftBank b (((t.jobs b).queue.length + 1) * assocPos)) s

/-- What a command does at once: its shifts, and a rebuild (R331). -/
def State.initApplied (s : State) (op : Nat) (c : TCmd) : State :=
  let s1 := s.shiftAll
  if op = 0x3D then
    { (s1.setInact (fun v => v.setRules (rebuiltRules s1.fv (pw c 0)))).raise F.TF_CLASS_EVT_rebuild_done with
      fv := s1.fv + 1, eng := { s1.eng with rebuilds := [] } }
  else s1

/-- One command of the section, its header first; its `commit` bit is ignored (R712). -/
def State.initCmd (s : State) : List Word → State
  | [] => s
  | h :: payload =>
    let op := bits h.toNat 0 8
    let c : TCmd := ⟨0, bits h.toNat 32 32, false, payload⟩
    match tableOp op c with
    | none => s.initRefused
    | some (lenOk, f) =>
      if !lenOk || s.batchIsFull then s.initRefused
      else
        match f s with
        | .refuse _ => s.initRefused
        | .deny t _ => t.initRefused
        | .wait => s.initRefused
        | .read _ => s
        | .change t => (t.owes c).initApplied op c
        | .start t => t.initApplied op c

/-- The walk of an EM_FLUSH of the section. -/
def State.initFlush (s : State) (w : Nat) : State :=
  (s.flushFound w).foldl (fun (t : State) e => t.emRemove e.1 e.2) s

/-- A batch of the section commits: the switch, the retirement of its predecessor, and its walks. -/
def State.initCommit (s : State) : State :=
  let fl := s.eng.owed.filterMap (fun (o : Nat × Nat × Option Nat) => o.2.2)
  let s1 := { s with eng := { s.eng with batchQ := none, owed := [], rebuilds := [], flushes := [], own := false } }
  let s2 := s1.switchEpoch
  fl.foldl State.initFlush s2.retireEpoch

/-- A batch of the section. -/
def State.initBatch (s : State) (l : List (List Word)) : State := (l.foldl State.initCmd s).initCommit

/-- The profile registers that a view holds (R207, R353): with the tables of the ballast, theirs are in force. -/
def viewProfs : List RegD :=
  [R.TF_HASH_PROF, R.TF_CLASS_PROF, R.TF_ASSOC_BANKSEL, R.TF_ASSOC_GMASK0, R.TF_ASSOC_GMASK1, R.TF_ASSOC_GMASK2]

/-- Load a profile register of the initial tables (R211, R310, R353, R543). -/
def State.loadProfile (s : State) (e : Nat × Word) : State :=
  match findReg e.1 with
  | none => s
  | some r =>
    let i := (regIdx r e.1).getD (0, 0)
    let w := imageWord r (s.rd r i.1 i.2) e.2
    if r = R.TF_HASH_PROF then s.hashProfWrite i.1 w
    else if viewProfs.contains r then
      s.profWrite r w i.1 i.2
    else if [R.TF_EM_TABLE, R.TF_EM_LEARN, R.TF_EG_PROF].contains r then s.wr r w i.1 i.2
    else s

/-- The views and the array of the ballast (R38), with the profile registers that they hold; an index in quarantine starts its
time anew (log 139). -/
def State.fromBallast (s : State) : State :=
  let v := s.mem.shadow
  let s1 := ((v.parse.hash.map (fun (e : Nat × Word) => (regAddr R.TF_HASH_PROF e.1 0, e.2))) ++ v.profs).foldl
    (fun (t : State) e => t.applyRegs [e]) s
  (({ s1 with tbl := { s1.tbl with assoc := s1.mem.assoc } }).adoptAll v).stampQuar view0

/-- The initial tables of the image; the shadow is rebuilt from them (R578). -/
def State.fromImage (s : State) (c : ImgContent) : State :=
  let s1 := c.tables.foldl State.initBatch (s.adoptAll (s.layout s.inact))
  let s2 := s1.adoptAll s1.inact
  { s2 with mem := { s2.mem with shadow := s2.act, assoc := s2.tbl.assoc, intact := true } }

/-- Does the module forward from the ballast copy (R38)? -/
def State.useBallast (s : State) : Bool := s.flag F.KV_MODE_fallback && s.mem.kept

/-- The tables at tR + 35 ms, with the fabric settings of the image (R506) and the seeds of the draws (R794). -/
def State.loadTables (s : State) : State :=
  match s.boot.image with
  | none => s
  | some im =>
    let c := im.content
    let regs := if s.useBallast then c.tableRegs.filter (fun e => !(findReg e.1).any viewProfs.contains) else c.tableRegs
    let s1 := ((regs.foldl State.loadProfile s).load R.DT_FAB_CTL c.fabCtl).put F.TF_MEM_STAT_ballast_kept
      (b2n s.mem.kept)
    let s2 := if s.useBallast then s1.fromBallast else s1.fromImage c
    let seed := s2.get F.TF_SAMPLE_SEED_seed
    { s2 with tlm := { s2.tlm with
      lfsr := (List.range 80).foldl (fun (m : Tab Nat) j => tset m j (lfsrSeed seed j)) [] } }

/-! ### RAISE (R35, R736) -/

/-- The islands of the DT steps of RAISE, in index order. -/
def dtIslands : List Nat := (List.range 14).map (35 + ·) ++ [67]

/-- The mode that RAISE leaves to (R35). -/
def State.raiseTo (s : State) : Nat :=
  if s.boot.resume && s.rec0.prob.isSome then PROBATION
  else if s.flag F.KV_MODE_fallback then SAFE
  else if s.capacityDown then DEGRADED else RUN

/-- The last step: planes, the mode, the ports that are up by their `admin_up` (R96), and `strap_conflict` (R699). -/
def State.leaveRaise (s : State) : State :=
  let s1 := s.releaseIslands ((List.range 8).map (49 + ·))
  let s2 := s1.enterMode s1.raiseTo
  let s3 := (List.range 256).foldl State.tryStart s2
  (if s3.flag F.KV_STRAP_conflict then s3.raise F.KV_RST_EVT_strap_conflict else s3).nextBringup 133

/-- A step of RAISE. -/
def State.raiseStep (s : State) (k : Nat) : State :=
  if k < 100 then s
  else if k ≤ 114 then
    ((if k = 100 then s.loadPorts.portLayout else s).releaseIsland (dtIslands.getD (k - 100) 0)).nextBringup (k + 1)
  else if k ≤ 130 then (s.releaseIsland (k - 114)).nextBringup (k + 1)
  else if k = 131 then (s.releaseIslands [25, 26, 27]).loadTables.nextBringup 132
  else if k = 132 then s.leaveRaise
  else s

/-- BRINGUP_STEP (R736). -/
def execBringupStep (s : State) : Host.Outcome State Fault Refusal :=
  ok (if s.mode = TRAIN then s.trainStep s.boot.bringup
    else if s.mode = RAISE then s.raiseStep s.boot.bringup else s)

end Sys2Proof.Machine
end

