-- ==== Sys2Proof/Machine/Shown.lean ====
section
/-! DEFINITION. What a read of a register shows (R9, R84, R165, R505, R793, R841, R846): the stored word, with the fields
that reflect live state in place of theirs. -/

namespace Sys2Proof.Machine

/-- A word with one field replaced by a value, the low bits of it that fit. -/
def ov (f : Fld) (v : Nat) (w : Nat) : Nat := setBits w f.lo f.w v

/-- The same with a value that saturates. -/
def ovSat (f : Fld) (v : Nat) (w : Nat) : Nat := setBits w f.lo f.w (min v (2 ^ f.w - 1))

/-- How many of a list have a property. -/
def countIf {α : Type} (p : α → Bool) (l : List α) : Nat := (l.filter p).length

/-! ### Common registers -/

/-- Milliseconds left on the watchdog; 0 while it does not count (R681, R717). -/
def State.wdogLeftMs (s : State) : Nat :=
  if s.wdogCounts then (s.wdogNs - (s.up - s.rst.wdogStart) + 999999) / 1000000 else 0

/-- The instances of an event array in a word of its pending map (R808). -/
def State.evtMap (s : State) (r : RegD) (k : Nat) : Nat :=
  maskOf ((List.range 64).map (fun b => decide ((s.rd r (64 * k + b)).toNat &&& accMask r .w1c ≠ 0)))

/-- The common blocks. -/
def State.showCommon (s : State) (r : RegD) (i w : Nat) : Nat :=
  if r = R.KV_SERIAL then Config.serial.toNat
  else if r = R.KV_MC_STAT then ov F.KV_MC_STAT_ctl_absent (b2n s.activeMc.isNone) w
  else if r = R.KV_MBOX_STAT then ov F.KV_MBOX_STAT_ctl_absent (b2n s.activeMc.isNone) w
  else if r = R.KV_WDOG_CTL then ovSat F.KV_WDOG_CTL_left_ms s.wdogLeftMs w
  else if r = R.KV_BOOT_STAT then ov F.KV_BOOT_STAT_fail_count s.rec0.fails w
  else if r = R.KV_PWR_STAT then
    ov F.KV_PWR_STAT_credit (s.pwr.creditUs / 100)
      (ov F.KV_PWR_STAT_updraft_active (maskOf ((List.range 16).map (fun c => s.inUpdraft (1 + c)))) w)
  else if r = R.KV_ISL_STAT then ov F.KV_ISL_STAT_floor_demand (b2n (s.demandHolds i)) w
  else if r = R.KV_TLM_STAT then ov F.KV_TLM_STAT_dumping (b2n !s.tlm.unwritten.isEmpty) w
  else if r = R.KV_FW_STAT then ov F.KV_FW_STAT_inactive_state (s.bank s.inactiveBank).state w
  else if r = R.KV_FW_XFER then ov F.KV_FW_XFER_busy (b2n s.chainBusy) w
  else if r = R.KV_EVT_SRC then ov F.KV_EVT_SRC_pending s.evtSrc w
  else if r = R.KV_ALERT_CTL then ov F.KV_ALERT_CTL_alert (b2n s.alert) w
  else w

/-! ### TF -/

/-- The head of the transmit timestamp FIFO of a port (R118, R120). -/
def State.showTxts (s : State) (l w : Nat) : Nat :=
  match (s.lp l).txts with
  | [] => w
  | e :: _ => ov F.TF_PTP_TXTS_valid 1 (ov F.TF_PTP_TXTS_tag e.2 (ov F.TF_PTP_TXTS_time_lo e.1 w))

/-- The tables (R213, R258, R259, R311, R312, R354): of the view in force; what a batch has not committed is not counted (DESIGN
CHOICE, log 140). -/
def State.showTables (s : State) (r : RegD) (i : Nat) (w : Nat) : Nat :=
  let v := s.act
  if r = R.TF_SPREAD_STAT then
    ov F.TF_SPREAD_STAT_slots_free (s.slotStore - slotsUsed v.groups)
      (ov F.TF_SPREAD_STAT_groups_used v.groups.length (ovSat F.TF_SPREAD_STAT_rewrites_pending (s.tbl.rewrites + s.tbl.batchRewrites) w))
  else if r = R.TF_ROUTE_STAT then
    ov F.TF_ROUTE_STAT_prefixes v.routes.length (ov F.TF_ROUTE_STAT_vrfs (vrfsInUse v.routes) w)
  else if r = R.TF_ROUTE_SPACE then
    ov F.TF_ROUTE_SPACE_charged (routeCharge v.routes) (ovSat F.TF_ROUTE_SPACE_copies s.tbl.copies.sum w)
  else if r = R.TF_ROUTE_CLASS then ov F.TF_ROUTE_CLASS_count (routeClassCount v.routes i) w
  else if r = R.TF_NH_STAT then
    ov F.TF_NH_STAT_used (countIf (fun (e : Nat × NhEntry) => nhValid e.2 && !e.2.quar) v.nh)
      (ov F.TF_NH_STAT_quarantined (countIf (fun (e : Nat × NhEntry) => e.2.quar) v.nh) w)
  else if r = R.TF_EM_STAT then
    ov F.TF_EM_STAT_units (emUnits v.em) (ov F.TF_EM_STAT_ovf_used (emOvfUsed v.em)
      (ov F.TF_EM_STAT_spilled v.em.spill.length w))
  else if r = R.TF_EM_LSTAT then
    ov F.TF_EM_LSTAT_learn_q_depth s.tbl.learnQ.length (ov F.TF_EM_LSTAT_now_tick s.ageTick w)
  else if r = R.TF_EM_TSTAT then
    ov F.TF_EM_TSTAT_units (emTableUnits v.em i)
      (ov F.TF_EM_TSTAT_learned (countIf (fun (e : Nat × EmEntry) => ekTable e.1 == i && e.2.learned) v.em.ents) w)
  else if r = R.TF_CLASS_STAT then
    ov F.TF_CLASS_STAT_rules v.rules.length (ov F.TF_CLASS_STAT_copies (copiesUsed v.rules)
      (ov F.TF_CLASS_STAT_trees v.trees.length
        (ov F.TF_CLASS_STAT_rebuilding (b2n (s.eng.rebuilds.any (fun x => !x.2.2.2))) w)))
  else if r = R.TF_ASSOC_STAT then
    ov F.TF_ASSOC_STAT_entries (countIf (fun (e : Nat × AssocEntry) => !e.2.dying) s.tbl.assoc)
      (ov F.TF_ASSOC_STAT_shifting (b2n (s.tbl.jobs.any (fun j => j.2.shift.isSome))) w)
  else if r = R.TF_BANK_STAT then
    ov F.TF_BANK_STAT_uncorr_24h (min 3 (s.recentFaults i).length)
      (ov F.TF_BANK_STAT_hot (b2n (s.tbl.moves.any (fun m => m.bank == i))) w)
  else if r = R.TF_ASSOC_BANK then ov F.TF_ASSOC_BANK_used (assocBankEnts s.tbl.assoc i).length w
  else w

/-- The error ratio of a lane (R107): that of the lane's last event, and, while the lane is locked and no event has told it,
a free value that is not 0 (log 128). -/
def State.showBer (s : State) (n w : Nat) : Nat :=
  if s.flag F.TF_LANE_STAT_cdr_lock n && s.get F.TF_LANE_STAT_ber_log n == 0 then
    ov F.TF_LANE_STAT_ber_log (1 + Config.free s.fv % 255) w
  else w

/-- The table engine, the host interface and the event map (R626, R674, R799). -/
def State.showTf (s : State) (r : RegD) (i : Nat) (w : Nat) : Nat :=
  if r = R.TF_PTP_TXTS then s.showTxts i w
  else if r = R.TF_LANE_STAT then s.showBer i w
  else if r = R.TF_TIME_NOW then ov F.TF_TIME_NOW_now s.time w
  else if r = R.TF_TBL_STAT then
    ov F.TF_TBL_STAT_in_flight s.inFlight (ov F.TF_TBL_STAT_batch_q (s.eng.batchQ.getD 0)
      (ov F.TF_TBL_STAT_batch_open (b2n s.eng.batchQ.isSome) (ov F.TF_TBL_STAT_batch_cmds s.eng.owed.length
        (ov F.TF_TBL_STAT_phase s.eng.phase (ov F.TF_TBL_STAT_journal_used s.journalUsed
          (ov F.TF_TBL_STAT_commit_hold (b2n (s.journalFull && (s.eng.ready || s.eng.dirty))) w))))))
  else if r = R.TF_HOST_STAT then
    ov F.TF_HOST_STAT_outstanding s.host.reqs.length (ov F.TF_HOST_STAT_held_tags s.host.held.length
      (ov F.TF_HOST_STAT_frozen0 (b2n (s.frozen 0)) (ov F.TF_HOST_STAT_frozen1 (b2n (s.frozen 1)) w)))
  else if r = R.TF_EVT_SUM then ov F.TF_EVT_SUM_sum s.tfSum w
  else if r = R.TF_EVT_MAP then
    s.evtMap (if i < 4 then R.TF_LANE_EVT else if i < 8 then R.TF_LPORT_EVT else R.TF_FRM_EVT) (i % 4)
  else s.showTables r i w

/-! ### Memory (R581, R582) -/

/-- Tail groups, or mirror pairs, with a channel not IN. -/
def State.noCover (s : State) (tail : Bool) : Nat :=
  maskOf ((List.range 8).map (fun g =>
    if tail then !(s.groupCh g (· != 2)).isEmpty else !(s.chState (104 + g) == 2 && s.chState (112 + g) == 2)))

/-- What a package says of itself, and its temperature code, are free values (log 105). -/
def State.showPkg (s : State) (r : RegD) (w : Nat) : Nat :=
  let x := Config.free s.fv
  ov ⟨r, 0, 8⟩ x (ov ⟨r, 8, 8⟩ (x / 2 ^ 8) (ov ⟨r, 16, 8⟩ (x / 2 ^ 16) (ov ⟨r, 32, 8⟩ (x / 2 ^ 24) w)))

/-- The memory registers. -/
def State.showMem (s : State) (r : RegD) (i : Nat) (w : Nat) : Nat :=
  if r = R.TF_MEM_CH then ov F.TF_MEM_CH_outstanding (s.memq (104 + i)).issued.length w
  else if r = R.DT_MEM_CH then ov F.DT_MEM_CH_outstanding (s.memq i).issued.length w
  else if r = R.TF_MEM_STAT then ov F.TF_MEM_STAT_no_cover (s.noCover false) w
  else if r = R.DT_MEM_STAT then
    ov F.DT_MEM_STAT_no_cover (s.noCover true)
      (ov F.DT_MEM_STAT_withdrawn (maskOf ((List.range 8).map s.withdrawn)) w)
  else if r = R.TF_MEM_PKG ∨ r = R.DT_MEM_PKG then s.showPkg r w
  else w

/-! ### DT -/

/-- Buffer use (R406), in units of 256 B. -/
def State.showBuf (s : State) (r : RegD) (i : Nat) (w : Nat) : Nat :=
  if r = R.DT_POOL_FREE then
    ov F.DT_POOL_FREE_free0 (s.poolFree 0) (ov F.DT_POOL_FREE_free1 (s.poolFree 1) (ov F.DT_POOL_FREE_free2 (s.poolFree 2) w))
  else if r = R.DT_SHARED_STAT then
    ovSat F.DT_SHARED_STAT_shared_free (s.freeShared / 256)
      (ovSat F.DT_SHARED_STAT_head_used (((tvals s.buf.loss).map (·.h)).sum / 256)
        (ovSat F.DT_SHARED_STAT_teth_used (min s.buf.tether s.tetherReserve / 256) w))
  else if r = R.DT_SHARED_STAT2 then
    ovSat F.DT_SHARED_STAT2_grant_res (s.reserved / 256)
      (ovSat F.DT_SHARED_STAT2_reseq_used ((tvals s.buf.reseqUse).sum / 256)
        (ovSat F.DT_SHARED_STAT2_stage_used (s.staged / 256) w))
  else if r = R.DT_TAIL_STAT then
    ov F.DT_TAIL_STAT_free_segments (4194304 - s.buf.segsUsed.length)
      (ov F.DT_TAIL_STAT_spilling (countIf (fun (e : Nat × Voq) => e.2.spilling) s.buf.voqs) w)
  else if r = R.DT_RESEQ_STAT then
    let x := tget s.buf.reseq i reseq0
    ov F.DT_RESEQ_STAT_next_seq x.next (ov F.DT_RESEQ_STAT_stalled_a (b2n x.stallA)
      (ov F.DT_RESEQ_STAT_stalled_b (b2n x.stallB)
        (ov F.DT_RESEQ_STAT_gap (b2n (decide (0 < heldSpan x)))
          (ovSat F.DT_RESEQ_STAT_held_kib (tget s.buf.reseqUse i 0 / 1024) w))))
  else w

/-- The code of a port view (R409). -/
def viewCode : PView → Nat
  | .up => 0 | .hold => 1 | .prot => 2 | .down => 3

/-- Milliseconds left of the hold of a port of this module (R409). -/
def State.holdLeftMs (s : State) (l : Nat) : Nat :=
  if s.view s.myId l = .hold then
    s.holdMs l - (s.up - tget s.buf.holdAt (viewKey s.myId l) s.up) / 1000000
  else 0

/-- Ports and credits (R409, R456). -/
def State.showSched (s : State) (r : RegD) (i : Nat) (w : Nat) : Nat :=
  if r = R.DT_HOLD_STAT then
    ov F.DT_HOLD_STAT_state (viewCode (s.view s.myId i)) (ov F.DT_HOLD_STAT_hold_left_ms (s.holdLeftMs i) w)
  else if r = R.DT_CREDIT_STAT then
    ov F.DT_CREDIT_STAT_req_on ((tvals s.sch.reqs).map List.length).sum
      (ov F.DT_CREDIT_STAT_hungry (countIf (fun (e : Nat × Voq) => s.hungry e.2) s.buf.voqs) w)
  else if r = R.DT_EQ_STAT then
    ovSat F.DT_EQ_STAT_queued (((List.range 8).map (s.queuedFor i)).sum / 256)
      (ovSat F.DT_EQ_STAT_reserved (((List.range 8).map (s.resvFor i)).sum / 256)
        (ov F.DT_EQ_STAT_held (b2n (!s.viewUp s.myId i || s.txFull (i / 8))) w))
  else w

/-- The share of control cells of a lane in 0.1 % (R506). -/
def State.sharePermille (s : State) (n : Nat) : Nat :=
  let x := s.laneShare n
  if x.2.2.1 = 0 then 0 else x.2.1 * 1000 / x.2.2.1

/-- The longest round trip toward a module in the last millisecond, in 10 ns (R508). -/
def State.rtt10 (s : State) (m : Nat) : Nat :=
  (((s.peer m).rtts.filter (fun e => decide (s.up - e.1 ≤ 1000000))).foldl (fun x e => max x e.2) 0) / 10

/-- The fabric (R506 to R508). -/
def State.showFab (s : State) (r : RegD) (i : Nat) (w : Nat) : Nat :=
  if r = R.DT_FAB_STAT then
    ov F.DT_FAB_STAT_planes_up (maskOf ((List.range 8).map s.planeUp))
      (ov F.DT_FAB_STAT_reachable s.reachables.length (ov F.DT_FAB_STAT_incarnation s.rec0.inc
        (ovSat F.DT_FAB_STAT_ctl_share ((List.range 320).foldl (fun x n => max x (s.sharePermille n)) 0) w)))
  else if r = R.DT_FAB_PLANE then
    ov F.DT_FAB_PLANE_up (b2n (s.planeUp i))
      (ov F.DT_FAB_PLANE_lanes_up (countIf (fun n => s.laneSt n == 3) (planeLanes i))
        (ov F.DT_FAB_PLANE_reach (countIf (fun m => (s.usable m).contains i) (tkeys s.fab.peers)) w))
  else if r = R.DT_FAB_LANE then
    if s.laneSt i = 0 then w else ov F.DT_FAB_LANE_ber_log (Config.free s.fv) w
  else if r = R.DT_FAB_DEST then
    ov F.DT_FAB_DEST_planes (maskOf ((List.range 8).map (fun k => (s.usable i).contains k)))
      (ov F.DT_FAB_DEST_reachable (b2n (s.peer i).reachable) (ov F.DT_FAB_DEST_window_full (b2n (!s.winOpen i))
        (ov F.DT_FAB_DEST_unacked (s.unacked i) (ovSat F.DT_FAB_DEST_rtt (s.rtt10 i) w))))
  else w

/-- The drain (R77), live while it runs, and the DT summary. -/
def State.showGuar (s : State) (r : RegD) (w : Nat) : Nat :=
  if r = R.DT_DRAIN_STAT then
    let held := (s.mode == DRAIN || s.mode == QUIESCED) &&
      s.sch.queues.any (fun e => !e.2.isEmpty && s.queuePaused e.1)
    let w1 := ov F.DT_DRAIN_STAT_paused_hold (b2n held) w
    if s.mode = DRAIN then ov F.DT_DRAIN_STAT_elapsed_us s.drainUs (ov F.DT_DRAIN_STAT_left_mib s.leftMib w1) else w1
  else if r = R.DT_EVT_SUM then ov F.DT_EVT_SUM_sum s.dtSum w
  else w

/-! ### Absent registers -/

/-- Port registers that exist only for a present logical port (R84). -/
def presentRegs : List RegD := [R.TF_LPORT_CTL, R.TF_LPORT_STAT, R.TF_LINK_PARTNER, R.TF_LPORT_EVT, R.TF_PTP_TXTS, R.TF_MAC_CNT]

/-- Registers of a framed logical port (R165). -/
def framedRegs : List RegD := [R.TF_FRM_CTL, R.TF_FRM_STAT, R.TF_FRM_APS, R.TF_FRM_EVT, R.TF_FRM_CNT]

/-- Fabric registers that read 0 in STANDALONE (R505). -/
def fabRegs : List RegD := [R.DT_FAB_STAT, R.DT_FAB_EVT, R.DT_FAB_CNT, R.DT_FAB_PLANE, R.DT_FAB_LANE, R.DT_FAB_DEST]

/-- Is instance i of a register absent: it reads 0, and a write to it is ignored? -/
def State.absentReg (s : State) (r : RegD) (i : Nat) : Bool :=
  (presentRegs.contains r && !s.present i) || (framedRegs.contains r && !(s.present i && s.framed i))

/-- What a read of a register shows. -/
def State.shown (s : State) (r : RegD) (i j : Nat) : Word :=
  if s.absentReg r i || (fabRegs.contains r && s.standalone) then 0
  else
    BitVec.ofNat 64 (s.showGuar r (s.showFab r i (s.showSched r i (s.showBuf r i
      (s.showMem r i (s.showTf r i (s.showCommon r i (s.rd r i j).toNat)))))))

/-- What a sideband read shows in an episode of system or power-on reach (R15, R846): fields of reach P, and those of reach
kept that the always-on island holds, as they stand, and the others at their reset value. A field of reach kept that is read
out of other state shows, in reset, its Reset column (log 129); the serial number and device time are what they are. -/
def State.shownReset (s : State) (r : RegD) (i j : Nat) : Word :=
  if r = R.KV_SERIAL ∨ r = R.TF_TIME_NOW then s.shown r i j
  else keepBits (s.rd r i j) (resetWord r i)
    (reachMask r .p ||| (if regIsland r i = 0 then reachMask r .kept else 0))

/-! ### Counter pages (R791 to R793) and retained SRAM (R854) -/

/-- Word k of counter page p. -/
def State.pageWord (s : State) (p k : Nat) : Word :=
  if bitOf (s.get F.KV_USER_COUNTER_GRANT_grant) p && s.flag F.KV_USER_PAGE_SEL_valid p then
    match tget? s.tlm.pages (s.get F.KV_USER_PAGE_SEL_sel p) with
    | none => 0
    | some x =>
      if k = 0 then BitVec.ofNat 64 (x.window % 2 ^ 32 * 2 ^ 32)
      else if k = 1 then BitVec.ofNat 64 x.start
      else if k = 2 then x.word2
      else if k < 8 then 0
      else BitVec.ofNat 64 (x.counts.getD (k - 8) 0)
  else 0

/-- A word of the retained SRAM as the window shows it; the layout of the boot record is open, so its words are free
values (log 105). -/
def State.sramWord (s : State) (off : Nat) : Word :=
  if s.sramBad.contains off then BitVec.ofNat 64 (2 ^ 64 - 1)
  else if off < 256 then BitVec.ofNat 64 (Config.free s.fv)
  else s.sramGet off

end Sys2Proof.Machine
end

