-- ==== Sys2Proof/Machine/Access.lean ====
section
/-! DEFINITION. Register accesses (R9 to R12, R841 to R849, R853, R854), the queue contexts of PF1 BAR2 (R644, R661) and the
sideband (R855 to R858). Sources: 0 PF0, 1 the sideband, 2 a controller. -/

namespace Sys2Proof.Machine

/-- Where PF1 BAR2 stands among the addresses of REGISTER_WRITE (log 112). -/
def bar2Base : Nat := 0x100000000

/-- The number that bytes spell, lowest byte first. -/
def leNat (l : List Byte) : Nat := l.foldr (fun b n => b.toNat + 256 * n) 0

/-! ### The access-error log (R853) -/

def causeLocked : Nat := 1
def causeIsolated : Nat := 2
def causeWidth : Nat := 3
def causeUnmapped : Nat := 4
def causeDenied : Nat := 5
def causeEcc : Nat := 6

/-- Log an access. -/
def State.accLog (s : State) (cause src off : Nat) (write : Bool) : State :=
  let n := s.get F.KV_ACC_ERR_STAT_next
  let e := BitVec.ofNat 64 (off % 2 ^ 26 + b2n write * 2 ^ 26 + cause * 2 ^ 27 + src * 2 ^ 30 + bits s.time 10 32 * 2 ^ 32)
  let s1 := if 8 ≤ s.get F.KV_ACC_ERR_STAT_count then s.raise F.KV_ACC_ERR_STAT_wrapped else s
  ((s1.wr R.KV_ACC_ERR_LOG e n).addSat F.KV_ACC_ERR_STAT_count 1).addWrap F.KV_ACC_ERR_STAT_next 1

/-! ### Storing by access type (R9, R12) -/

/-- Are the RWL fields of a register locked: lane maps when RAISE ends (R88), the memory partition when LOAD ends (R711)? -/
def State.locked (s : State) (r : RegD) : Bool :=
  if r = R.TF_PORT_LANEMAP then decide (RUN ≤ s.mode) else decide (TRAIN ≤ s.mode)

/-- The word after a write of its RW, RWL and W1C fields; all other bits stay. -/
def plainWord (r : RegD) (locked : Bool) (old w : Word) : Word :=
  let m := BitVec.ofNat 64 (accMask r .rw ||| (if locked then 0 else accMask r .rwl))
  ((old &&& ~~~ m) ||| (w &&& m)) &&& ~~~ (w &&& BitVec.ofNat 64 (accMask r .w1c))

/-- Store the plain fields. -/
def State.plain (s : State) (r : RegD) (i j : Nat) (w : Word) : State :=
  s.wr r (plainWord r (s.locked r) (s.rd r i j) w) i j

/-- Would the write change a locked field (R849)? -/
def State.locksOut (s : State) (r : RegD) (i j : Nat) (w : Word) : Bool :=
  s.locked r && decide ((w ^^^ s.rd r i j) &&& BitVec.ofNat 64 (accMask r .rwl) ≠ 0)

/-! ### Fields that act -/

/-- Do something when a bit of the written word is 1. -/
def State.onBit (s : State) (w : Word) (b : Nat) (f : State → State) : State := if bitOf w.toNat b then f s else s

/-- `KV_MODE_REQ` (R34): the requests of one write are taken in the order of their bits. -/
def State.modeReqs (s : State) (w : Word) : State :=
  (((s.onBit w 0 State.drainReq).onBit w 1 State.resumeReq).onBit w 2 State.maintReq).onBit w 3 State.maintExit

/-- `KV_RESET_REQ` (R717): bits [1:0] act only under the key. -/
def State.resetReqs (s : State) (w : Word) : State :=
  let keyed := decide (bits w.toNat 8 8 = 0xC3)
  let s1 := s.onBit w 2 (fun t => { t with rec0 := { t.rec0 with fails := 0 } })
  let s2 := if keyed then s1.onBit w 1 (fun t => t.assertSource .swCore) else s1
  if keyed then s2.onBit w 0 State.sysReq else s2

/-- What the start of a mailbox operation does (R623). -/
def mboxRun : Nat → State → State
  | 1, s => s.repartitionStart
  | 2, s => s.reconfigStart
  | 3, s => s.retestStart
  | 4, s => s.mcSwitchStart
  | 5, s => s
  | 6, s => s
  | _, s => s.mboxEnd stBadOpcode []

/-- `KV_MBOX_CMD` (R620, R621). -/
def State.mboxCmd (s : State) (w : Word) : State :=
  let op := bits w.toNat 0 8
  (s.put F.KV_MBOX_CMD_op op).onBit w 8 (fun t => t.mboxGo op (mboxRun op))

/-- `KV_FW_CTL` (R769, R771): `activate` under the key, `confirm` from the ACTIVE controller. -/
def State.fwCtl (s : State) (src : Nat) (w : Word) : State :=
  let s1 := if bits w.toNat 8 8 = 0xC3 then s.onBit w 0 State.tryActivate else s
  if src = 2 ∧ s1.activeMc.isSome = true ∧ s1.probRuns = true ∧ s1.live = true then s1.onBit w 1 State.confirm else s1

/-- `KV_BLK_CTL[i]` (R690 to R694). -/
def State.blkCtl (s : State) (i : Nat) (w : Word) : State :=
  let s1 := ((s.put F.KV_BLK_CTL_quiesce (bits w.toNat 2 1) i).put F.KV_BLK_CTL_force_rel (bits w.toNat 3 1) i).put
    F.KV_BLK_CTL_quiesce_us (bits w.toNat 8 8) i
  let s2 := if bitOf w.toNat 0 then s1.enableBlock i else s1.disableBlock i
  let s3 := s2.onBit w 1 (fun t => t.resetBlock i)
  if s3.blk i = 3 ∧ bitOf w.toNat 3 = true ∧ s3.flag F.KV_BLK_STAT_clk_lock i = false then s3.forceRelease i else s3

/-- A W1S bit whose action lasts (R9, R11): set where the action may start, ignored elsewhere; the row of the action ends it
(log 111). The fields beside it are stored. -/
def State.goWrite (s : State) (r : RegD) (go : Fld) (may : Bool) (w : Word) : State :=
  (s.plain r 0 0 w).onBit w go.lo (fun t => if may then t.raise go else t)

/-- `TF_LPORT_CTL[l]` (R98, R101), with the bytes received of a frame under way at the port (R113). -/
def State.lportCtl (s : State) (l : Nat) (w : Word) (part : List Byte) : State :=
  let up := s.get F.TF_LPORT_CTL_admin_up l
  ((s.plain R.TF_LPORT_CTL l 0 w).put F.TF_LPORT_CTL_admin_up up l).adminUp l (bitOf w.toNat 0) part

/-- `TF_PORT_LANEMAP[p]` (R88, R89). -/
def State.laneMap (s : State) (p : Nat) (w : Word) : State :=
  let t := s.plain R.TF_PORT_LANEMAP p 0 w
  t.put F.TF_PORT_CFG_map_err
    (b2n (!(mapOk (t.get F.TF_PORT_LANEMAP_rx_map p) && mapOk (t.get F.TF_PORT_LANEMAP_tx_map p)))) p

/-- The profile registers whose value in force is that of the last commit (R206, R339). -/
def profRegs : List RegD := [R.TF_CLASS_PROF, R.TF_ASSOC_BANKSEL, R.TF_ASSOC_GMASK0, R.TF_ASSOC_GMASK1, R.TF_ASSOC_GMASK2]

/-- A write that reaches a register: it stores or acts on each field (R9). -/
def State.regAct (s : State) (src : Nat) (r : RegD) (i j : Nat) (w : Word) (part : List Byte) : State :=
  if s.absentReg r i then s
  else if r = R.KV_MODE_REQ then (s.plain r i j w).modeReqs w
  else if r = R.KV_RESET_REQ then s.resetReqs w
  else if r = R.KV_WDOG_CTL then s.wdogCtl w
  else if r = R.KV_MBOX_CMD then s.mboxCmd w
  else if r = R.KV_FW_CTL then s.fwCtl src w
  else if r = R.KV_BLK_CTL then s.blkCtl i w
  else if r = R.KV_HOSTLOAD_CTL then s.goWrite r F.KV_HOSTLOAD_CTL_go s.hostLoads w
  else if r = R.KV_FW_SEND_CTL then s.goWrite r F.KV_FW_SEND_CTL_go s.fwSends w
  else if r = R.KV_ISL_CTL then (s.plain r i j w).avfsOff i
  else if r = R.KV_TLM_CTL then (s.plain r i j w).armWindow
  else if r = R.KV_EVT_ARM then s.put F.KV_EVT_ARM_arm (s.get F.KV_EVT_ARM_arm ||| bits w.toNat 0 32)
  else if r = R.TF_LPORT_CTL then s.lportCtl i w part
  else if r = R.TF_PORT_LANEMAP then s.laneMap i w
  else if r = R.TF_PTP_TXTS then s.onBit w 62 (fun t => t.setLp i { t.lp i with txts := (t.lp i).txts.drop 1 })
  else if r = R.TF_TIME_STEP then (s.plain r i j w).onBit w 63 State.timeStep
  else if r = R.TF_HASH_PROF then s.hashProfWrite i w
  else if profRegs.contains r then s.profWrite r (plainWord r false (s.rd r i j) w) i j
  else if r = R.TF_SPARE_CTL then s.sparesEn (bitOf w.toNat 0)
  else if r = R.DT_EQ_PORT then s.eqPortWrite i w
  else if r = R.DT_ADM_PROF ∨ r = R.DT_LOSSLESS then (s.plain r i j w).xonAll
  else if r = R.DT_FAB_PLANE ∨ r = R.DT_FAB_LANE then (s.plain r i j w).mapChange s false
  else s.plain r i j w

/-! ### The order of the checks (R843, R845, R846, R849, R853, R854, R858) -/

/-- Is an address in a counter page (R806), or in the retained-SRAM window (R838)? -/
def inPages (a : Nat) : Bool := decide (0x30000 ≤ a) && decide (a < 0x40000)
def inSram (a : Nat) : Bool := decide (0x40000 ≤ a) && decide (a < 0x50000)

/-- Is the island of a register in service? Those of the common range never leave ON (R846). -/
def State.reachable (s : State) (r : RegD) (i : Nat) : Bool := regIsland r i == 0 || s.isOn (regIsland r i)

/-- May the sideband write the register (R858)? -/
def smbMay (r : RegD) (w : Option Word) : Bool :=
  r = R.KV_BACKUP || r = R.KV_MODE_REQ ||
    (r = R.KV_RESET_REQ && (match w with | some x => decide (bits x.toNat 8 8 = 0xC3) | none => true))

/-- A register of BAR0 at an address. -/
def bar0Reg (a : Nat) : Option RegD := if a < 0x4000000 then findReg a else none

/-- A write of the word at a, whole or in part, of which `first` is the first byte. The state, and whether the sideband
was denied. -/
def State.writeWord (s : State) (src a first : Nat) (w : Option Word) (part : List Byte := []) : State × Bool :=
  if inPages a then (s, src == 1)
  else if inSram a then
    match w with
    | some x => (if src = 2 ∧ 0x40100 ≤ a then s.sramPut (a - 0x40000) x else s, src == 1)
    | none => (s, src == 1)
  else
    match bar0Reg a with
    | none => (s.accLog causeUnmapped src first true, src == 1)
    | some r =>
      let ij := (regIdx r a).getD (0, 0)
      if src = 1 ∧ smbMay r w = false then (s.accLog causeDenied src first true, true)
      else if !s.reachable r ij.1 then (s.accLog causeIsolated src first true, false)
      else
        match w with
        | none => (s.accLog causeWidth src first true, false)
        | some x =>
          let s1 := if s.locksOut r ij.1 ij.2 x && !s.absentReg r ij.1 then s.accLog causeLocked src first true else s
          (s1.regAct src r ij.1 ij.2 x part, false)

/-! ### Requests (R843, R844) -/

/-- The bytes of a request that lie in the word at a, given the request's address: the whole word, or nothing. -/
def wordAt (addr : Nat) (bytes : List Byte) (a : Nat) : Option Word :=
  if addr ≤ a ∧ a + 8 ≤ addr + bytes.length then some (BitVec.ofNat 64 (leNat ((bytes.drop (a - addr)).take 8))) else none

/-- The words that a request touches, in ascending order. -/
def wordsOf (addr len : Nat) : List Nat :=
  if len = 0 then [] else (List.range ((addr + len - 1) / 8 - addr / 8 + 1)).map (fun k => 8 * (addr / 8 + k))

/-- A request to BAR0. -/
def State.writeBytes (s : State) (src addr : Nat) (bytes part : List Byte) : State :=
  (wordsOf addr bytes.length).foldl (fun (t : State) a => (t.writeWord src a (max addr a) (wordAt addr bytes a) part).1) s

/-! ### PF1 BAR2 (R634, R644, R661) -/

/-- A whole word written to a queue context: with the queue running only `enable` counts. -/
def State.qctxWrite (s : State) (r : RegD) (q : Nat) (w : Word) : State :=
  let run := s.flag F.TF_QCTX_CFG_enable q
  if r = R.TF_QCTX_CFG then
    if run then (if bitOf w.toNat 0 then s else s.queueEnable q false)
    else
      let t := s.plain r q 0 (w &&& 0xFFFFFFFFFFFFFFFE#64)
      t.queueEnable q (bitOf w.toNat 0)
  else if run then s else s.plain r q 0 w

/-- A word of BAR2 at offset o, whole or in part: the MSI-X table takes 32-bit and 64-bit writes. -/
def State.bar2Word (s : State) (o : Nat) (w : Option Word) : State :=
  if 0x10000 ≤ o then
    match findReg (bar2Base + o), w with
    | some r, some x => s.qctxWrite r (((regIdx r (bar2Base + o)).map (·.1)).getD 0) x
    | _, _ => s
  else s

/-- The doublewords of the MSI-X table that a write covers. -/
def State.msixBytes (s : State) (o : Nat) (bytes : List Byte) : State :=
  if o < 0x8000 ∧ o % 4 = 0 ∧ bytes.length % 4 = 0 then
    (List.range (min (bytes.length / 4) ((0x8000 - o) / 4))).foldl (fun (t : State) k =>
      t.msixWrite (o / 4 + k) (BitVec.ofNat 32 (leNat ((bytes.drop (4 * k)).take 4)))) s
  else s

/-- A request to BAR2. -/
def State.bar2Bytes (s : State) (o : Nat) (bytes : List Byte) : State :=
  (wordsOf o bytes.length).foldl (fun (t : State) a => t.bar2Word a (wordAt o bytes a)) (s.msixBytes o bytes)

/-! ### REGISTER_WRITE -/

/-- Does PF0 take memory writes: decoding on, not frozen (R637, R664)? -/
def State.pf0Open (s : State) : Bool := s.awake && s.memEnabled 0 && !s.frozen 0

/-- Does a source reach the registers? -/
def State.srcOpen (s : State) (src : Nat) : Bool :=
  if src = 0 then s.pf0Open else if src = 1 then s.mode != OFF else src == 2 && s.awake

/-- REGISTER_WRITE: an address from `bar2Base` on is one of PF1 BAR2. `data.part` holds the bytes received of a frame under way at
a port that the write takes down (R113). -/
def execRegisterWrite (src addr : Nat) (data : WriteData) (s : State) : Host.Outcome State Fault Refusal :=
  if bar2Base ≤ addr then okIf (s.pf1Open && src == 0) s (s.bar2Bytes (addr - bar2Base) data.bytes)
  else okIf (s.srcOpen src && decide (addr + data.bytes.length ≤ 0x4000000)) s
    (s.writeBytes src addr data.bytes data.part)

/-! ### The sideband (R855 to R858) -/

/-- The status that the next Block Read answers. -/
def State.smbStatus (s : State) (st : Nat) : State := { s with smbNext := some st }

/-- Is the sideband's answer that of an episode of system or power-on reach (R846)? -/
def State.inEpisode (s : State) : Bool := decide (2 ≤ s.rst.reach)

/-- Does a write reach a register in such an episode: only fields of reach P are not held at their reset values, and the
reset requests join the episode (log 108)? -/
def State.heldInReset (s : State) (a : Nat) : Bool :=
  s.inEpisode && (s.rst.reach == 3 || bar0Reg a != some R.KV_BACKUP) && bar0Reg a != some R.KV_RESET_REQ

/-- SMB_WRITE (R855, R858). -/
def execSmbWrite (bytes : List Byte) (pecOk : Bool) (s : State) : Host.Outcome State Fault Refusal :=
  let off := leNat (bytes.take 4)
  let w : Word := BitVec.ofNat 64 (leNat (bytes.drop 4))
  if s.mode = OFF then ok s
  else if !pecOk then ok (s.smbStatus 4)
  else if bytes.length ≠ 12 ∨ off % 8 ≠ 0 then ok (s.smbStatus 2)
  else
    let allowed := match bar0Reg off with
      | some r => smbMay r (some w)
      | none => false
    if allowed && s.heldInReset off then ok s
    else
      let x := s.writeWord 1 off off (some w)
      ok (if x.2 then x.1.smbStatus 3 else x.1)

/-- A sideband read: data, status, and the state with the access logged (R845, R846, R854). -/
def State.smbRead (s : State) (off : Nat) : Word × Nat × State :=
  let s1 : State := { s with fv := s.fv + 1 }
  let ones : Word := BitVec.ofNat 64 (2 ^ 64 - 1)
  if inPages off then (if s.inEpisode then 0 else s.pageWord ((off - 0x30000) / 0x1000) ((off - 0x30000) % 0x1000 / 8), 0, s1)
  else if inSram off then
    (s.sramWord (off - 0x40000), 0,
      if s.sramBad.contains (off - 0x40000) && !s.inEpisode then s1.accLog causeEcc 1 off false else s1)
  else
    match bar0Reg off with
    | none => (0, 0, if s.inEpisode then s1 else s1.accLog causeUnmapped 1 off false)
    | some r =>
      let ij := (regIdx r off).getD (0, 0)
      if s.inEpisode then (s.shownReset r ij.1 ij.2, 0, s1)
      else if s.reachable r ij.1 then (s.shown r ij.1 ij.2, 0, s1)
      else (ones, 1, s1.accLog causeIsolated 1 off false)

/-- SMB_READ_START (R855, R857): the register is read at once. -/
def execSmbReadStart (bytes : List Byte) (pecOk : Bool) (s : State) : Host.Outcome State Fault Refusal :=
  let off := leNat (bytes.take 4)
  if s.mode = OFF then ok s
  else if !pecOk then ok (s.smbStatus 4)
  else if bytes.length ≠ 4 ∨ off % 8 ≠ 0 then ok (s.smbStatus 2)
  else
    let x := s.smbRead off
    ok { x.2.2 with smb := some (x.1, x.2.1) }

/-- SMB_READ_RESULT (R855, R856): a pending status answers in place of the last read, with data 0. -/
def execSmbReadResult (s : State) : Host.Outcome State Fault Refusal :=
  if s.mode = OFF then ok s
  else
    match s.smbNext, s.smb with
    | some st, _ => ok { s.emit (.readData 1 0 0 st) with smbNext := none }
    | none, some r => ok (s.emit (.readData 1 0 r.1 r.2))
    | none, none => ok (s.emit (.readData 1 0 0 5))

end Sys2Proof.Machine
end

