-- ==== Sys2Proof/Machine/Dispatch.lean ====
section
/-! DEFINITION. What each command does: one direct call of its meaning. -/

namespace Sys2Proof.Machine

def exec (i : Instr) (s : State) : Host.Outcome State Fault Refusal :=
  match i with
  | .registerWrite src addr data => Sys2Proof.Machine.execRegisterWrite src addr data s
  | .powerOnDetect railAbsent => Sys2Proof.Machine.execPowerOnDetect railAbsent s
  | .porstPin => Sys2Proof.Machine.execPorstPin s
  | .sysrstPin => Sys2Proof.Machine.execSysrstPin s
  | .sysReq => Sys2Proof.Machine.execSysReq s
  | .coreReq => Sys2Proof.Machine.execCoreReq s
  | .failClear => Sys2Proof.Machine.execFailClear s
  | .wdogPet => Sys2Proof.Machine.execWdogPet s
  | .wdogCtlWrite v => Sys2Proof.Machine.execWdogCtlWrite v s
  | .watchdogExpiry => Sys2Proof.Machine.execWatchdogExpiry s
  | .resetSourceRelease r => Sys2Proof.Machine.execResetSourceRelease r s
  | .exitSequenceStep low high => Sys2Proof.Machine.execExitSequenceStep low high s
  | .islandLockTimeout k => Sys2Proof.Machine.execIslandLockTimeout k s
  | .loadImageDone readErr => Sys2Proof.Machine.execLoadImageDone readErr s
  | .loadTimeout => Sys2Proof.Machine.execLoadTimeout s
  | .hostloadGo length img => Sys2Proof.Machine.execHostloadGo length img s
  | .rrsTimeout => Sys2Proof.Machine.execRrsTimeout s
  | .trainingComplete => Sys2Proof.Machine.execTrainingComplete s
  | .trainLimit => Sys2Proof.Machine.execTrainLimit s
  | .bringupStep => Sys2Proof.Machine.execBringupStep s
  | .drainReq => Sys2Proof.Machine.execDrainReq s
  | .resumeReq => Sys2Proof.Machine.execResumeReq s
  | .maintReq => Sys2Proof.Machine.execMaintReq s
  | .maintExit => Sys2Proof.Machine.execMaintExit s
  | .drainPhaseEnd => Sys2Proof.Machine.execDrainPhaseEnd s
  | .ripcordTrip => Sys2Proof.Machine.execRipcordTrip s
  | .ripcordDrainLimit => Sys2Proof.Machine.execRipcordDrainLimit s
  | .ripcordRelease => Sys2Proof.Machine.execRipcordRelease s
  | .probationExpiry => Sys2Proof.Machine.execProbationExpiry s
  | .fwConfirm src => Sys2Proof.Machine.execFwConfirm src s
  | .fwActivate => Sys2Proof.Machine.execFwActivate s
  | .fwSendGo length img body => Sys2Proof.Machine.execFwSendGo length img body s
  | .chainHdr xfer frameOk hdr => Sys2Proof.Machine.execChainHdr xfer frameOk hdr s
  | .chainData xfer seq frameOk bytes => Sys2Proof.Machine.execChainData xfer seq frameOk bytes s
  | .chainEnd xfer seq frameOk sent crc content => Sys2Proof.Machine.execChainEnd xfer seq frameOk sent crc content s
  | .chainAbort xfer reason => Sys2Proof.Machine.execChainAbort xfer reason s
  | .chainStatus xfer pos ack status gen => Sys2Proof.Machine.execChainStatus xfer pos ack status gen s
  | .chainCredit n => Sys2Proof.Machine.execChainCredit n s
  | .chainCoreReset target gen => Sys2Proof.Machine.execChainCoreReset target gen s
  | .chainSysReset target gen => Sys2Proof.Machine.execChainSysReset target gen s
  | .chainActivate target gen => Sys2Proof.Machine.execChainActivate target gen s
  | .flashOpDone ok => Sys2Proof.Machine.execFlashOpDone ok s
  | .chainLinkUp upstream => Sys2Proof.Machine.execChainLinkUp upstream s
  | .chainLinkDown => Sys2Proof.Machine.execChainLinkDown s
  | .idlLaneFault dir group lane => Sys2Proof.Machine.execIdlLaneFault dir group lane s
  | .idlLinkRetry dir group => Sys2Proof.Machine.execIdlLinkRetry dir group s
  | .frameReceive l bytes fcsOk pcsErr fecBad fecCorr => Sys2Proof.Machine.execFrameReceive l bytes fcsOk pcsErr fecBad fecCorr s
  | .pauseFrameRx l pfc enable times => Sys2Proof.Machine.execPauseFrameRx l pfc enable times s
  | .pauseTimerExpiry l c => Sys2Proof.Machine.execPauseTimerExpiry l c s
  | .pfcTxRequest l c xoff => Sys2Proof.Machine.execPfcTxRequest l c xoff s
  | .xoffRefresh l c => Sys2Proof.Machine.execXoffRefresh l c s
  | .adminUpWrite l up part => Sys2Proof.Machine.execAdminUpWrite l up part s
  | .anResolved l page rate => Sys2Proof.Machine.execAnResolved l page rate s
  | .anTimeout l => Sys2Proof.Machine.execAnTimeout l s
  | .linkTrainingDone l taps => Sys2Proof.Machine.execLinkTrainingDone l taps s
  | .trainingTimeout l lanes => Sys2Proof.Machine.execTrainingTimeout l lanes s
  | .linkUp l => Sys2Proof.Machine.execLinkUp l s
  | .waitLockTimeout l => Sys2Proof.Machine.execWaitLockTimeout l s
  | .laneSignalLoss n cdr => Sys2Proof.Machine.execLaneSignalLoss n cdr s
  | .linkFault l cause part => Sys2Proof.Machine.execLinkFault l cause part s
  | .laneSignalRestore l => Sys2Proof.Machine.execLaneSignalRestore l s
  | .faultTimeout l => Sys2Proof.Machine.execFaultTimeout l s
  | .signalDegrade n ber part => Sys2Proof.Machine.execSignalDegrade n ber part s
  | .sdClear n ber => Sys2Proof.Machine.execSdClear n ber s
  | .adaptStep n target => Sys2Proof.Machine.execAdaptStep n target s
  | .adaptLimit n => Sys2Proof.Machine.execAdaptLimit n s
  | .lossMeasure n loss => Sys2Proof.Machine.execLossMeasure n loss s
  | .timeStep => Sys2Proof.Machine.execTimeStep s
  | .ppsOut => Sys2Proof.Machine.execPpsOut s
  | .ppsInEdge => Sys2Proof.Machine.execPpsInEdge s
  | .todTxStart => Sys2Proof.Machine.execTodTxStart s
  | .todMessageRx head body check => Sys2Proof.Machine.execTodMessageRx head body check s
  | .ptpTxtsPop l => Sys2Proof.Machine.execPtpTxtsPop l s
  | .portReconfig => Sys2Proof.Machine.execPortReconfig s
  | .instanceLockLoss l inst => Sys2Proof.Machine.execInstanceLockLoss l inst s
  | .dlolClear l => Sys2Proof.Machine.execDlolClear l s
  | .deskewRetry l skew => Sys2Proof.Machine.execDeskewRetry l skew s
  | .fasMatch l offset mfas => Sys2Proof.Machine.execFasMatch l offset mfas s
  | .otucFrame l f => Sys2Proof.Machine.execOtucFrame l f s
  | .defectFilterExpiry f => Sys2Proof.Machine.execDefectFilterExpiry f s
  | .ingressProcess p pipeB bad mc => Sys2Proof.Machine.execIngressProcess p pipeB bad mc s
  | .progressUnit p pipeB => Sys2Proof.Machine.execProgressUnit p pipeB s
  | .parseState c => Sys2Proof.Machine.execParseState c s
  | .parseTrans c => Sys2Proof.Machine.execParseTrans c s
  | .keyTemplate c => Sys2Proof.Machine.execKeyTemplate c s
  | .hashProfWrite k v => Sys2Proof.Machine.execHashProfWrite k v s
  | .groupSet c => Sys2Proof.Machine.execGroupSet c s
  | .groupDelete c => Sys2Proof.Machine.execGroupDelete c s
  | .groupMember c => Sys2Proof.Machine.execGroupMember c s
  | .lagMemberRewrite l => Sys2Proof.Machine.execLagMemberRewrite l s
  | .routeAdd c => Sys2Proof.Machine.execRouteAdd c s
  | .routeDelete c => Sys2Proof.Machine.execRouteDelete c s
  | .vrfSet c => Sys2Proof.Machine.execVrfSet c s
  | .nhSet c => Sys2Proof.Machine.execNhSet c s
  | .nhDelete c => Sys2Proof.Machine.execNhDelete c s
  | .nhQuarantineExpiry k => Sys2Proof.Machine.execNhQuarantineExpiry k s
  | .bankLoadWindow win => Sys2Proof.Machine.execBankLoadWindow win s
  | .tableRepair => Sys2Proof.Machine.execTableRepair s
  | .emAdd c => Sys2Proof.Machine.execEmAdd c s
  | .emDelete c => Sys2Proof.Machine.execEmDelete c s
  | .emFlush c => Sys2Proof.Machine.execEmFlush c s
  | .emFlushDone => Sys2Proof.Machine.execEmFlushDone s
  | .emRead c => Sys2Proof.Machine.execEmRead c s
  | .agingSweep b => Sys2Proof.Machine.execAgingSweep b s
  | .learnRecordReceive => Sys2Proof.Machine.execLearnRecordReceive s
  | .learnRecordApply => Sys2Proof.Machine.execLearnRecordApply s
  | .ballastCompare b mismatch => Sys2Proof.Machine.execBallastCompare b mismatch s
  | .tableScrub bank uncorr => Sys2Proof.Machine.execTableScrub bank uncorr s
  | .engineCommit => Sys2Proof.Machine.execEngineCommit s
  | .classTreeSet c => Sys2Proof.Machine.execClassTreeSet c s
  | .classTreeDelete c => Sys2Proof.Machine.execClassTreeDelete c s
  | .classRuleAdd c => Sys2Proof.Machine.execClassRuleAdd c s
  | .classRuleDelete c => Sys2Proof.Machine.execClassRuleDelete c s
  | .classRuleRead c => Sys2Proof.Machine.execClassRuleRead c s
  | .classTreeRebuild c => Sys2Proof.Machine.execClassTreeRebuild c s
  | .rebuildDone => Sys2Proof.Machine.execRebuildDone s
  | .assocAdd c => Sys2Proof.Machine.execAssocAdd c s
  | .assocSet c => Sys2Proof.Machine.execAssocSet c s
  | .assocDelete c => Sys2Proof.Machine.execAssocDelete c s
  | .assocRead c => Sys2Proof.Machine.execAssocRead c s
  | .assocShiftStep b => Sys2Proof.Machine.execAssocShiftStep b s
  | .assocEntryRewrite k => Sys2Proof.Machine.execAssocEntryRewrite k s
  | .idlUnitReceive p flip cut => Sys2Proof.Machine.execIdlUnitReceive p flip cut s
  | .pipeStall p pipeB => Sys2Proof.Machine.execPipeStall p pipeB s
  | .idlCreditReturn p pipeB => Sys2Proof.Machine.execIdlCreditReturn p pipeB s
  | .mirrorCopyTimeout => Sys2Proof.Machine.execMirrorCopyTimeout s
  | .admissionLoopStep => Sys2Proof.Machine.execAdmissionLoopStep s
  | .tailRowWrite v => Sys2Proof.Machine.execTailRowWrite v s
  | .tailRowTimeout v => Sys2Proof.Machine.execTailRowTimeout v s
  | .tailReadback v => Sys2Proof.Machine.execTailReadback v s
  | .holdExpiry m l => Sys2Proof.Machine.execHoldExpiry m l s
  | .ctHoldoffExpiry l c => Sys2Proof.Machine.execCtHoldoffExpiry l c s
  | .schedDecision p => Sys2Proof.Machine.execSchedDecision p s
  | .shaperRefill => Sys2Proof.Machine.execShaperRefill s
  | .voqService => Sys2Proof.Machine.execVoqService s
  | .creditReqReceive src w => Sys2Proof.Machine.execCreditReqReceive src w s
  | .creditGrantIssue l c => Sys2Proof.Machine.execCreditGrantIssue l c s
  | .creditGrantReceive src w => Sys2Proof.Machine.execCreditGrantReceive src w s
  | .nodeSet c => Sys2Proof.Machine.execNodeSet c s
  | .nodeRead c => Sys2Proof.Machine.execNodeRead c s
  | .eqMapSet c => Sys2Proof.Machine.execEqMapSet c s
  | .policerSet c => Sys2Proof.Machine.execPolicerSet c s
  | .policerRead c => Sys2Proof.Machine.execPolicerRead c s
  | .defSubWrite l v => Sys2Proof.Machine.execDefSubWrite l v s
  | .fabLaneSignalDetect n => Sys2Proof.Machine.execFabLaneSignalDetect n s
  | .fabLaneTrained n => Sys2Proof.Machine.execFabLaneTrained n s
  | .fabLaneTrainTimeout n => Sys2Proof.Machine.execFabLaneTrainTimeout n s
  | .fabLaneTrialPass n => Sys2Proof.Machine.execFabLaneTrialPass n s
  | .fabLaneFail n signal => Sys2Proof.Machine.execFabLaneFail n signal s
  | .linkFrameReceive n seq ack kind cell crcOk => Sys2Proof.Machine.execLinkFrameReceive n seq ack kind cell crcOk s
  | .linkIdleFrame n => Sys2Proof.Machine.execLinkIdleFrame n s
  | .cellSend m st => Sys2Proof.Machine.execCellSend m st s
  | .cellReceive => Sys2Proof.Machine.execCellReceive s
  | .ackSend src => Sys2Proof.Machine.execAckSend src s
  | .ackReceive src w => Sys2Proof.Machine.execAckReceive src w s
  | .retxTimeout m c => Sys2Proof.Machine.execRetxTimeout m c s
  | .creditCellSend m grant => Sys2Proof.Machine.execCreditCellSend m grant s
  | .heartbeatSend => Sys2Proof.Machine.execHeartbeatSend s
  | .heartbeatReceive plane c => Sys2Proof.Machine.execHeartbeatReceive plane c s
  | .heartbeatTimeout m plane => Sys2Proof.Machine.execHeartbeatTimeout m plane s
  | .streamAbandon m => Sys2Proof.Machine.execStreamAbandon m s
  | .gapOldTimer m c => Sys2Proof.Machine.execGapOldTimer m c s
  | .portStateMessage m w => Sys2Proof.Machine.execPortStateMessage m w s
  | .portStateRefresh => Sys2Proof.Machine.execPortStateRefresh s
  | .egressProcess p pipeB bad => Sys2Proof.Machine.execEgressProcess p pipeB bad s
  | .txUnitStart p => Sys2Proof.Machine.execTxUnitStart p s
  | .frameDelivered l => Sys2Proof.Machine.execFrameDelivered l s
  | .portDownAbort l => Sys2Proof.Machine.execPortDownAbort l s
  | .runReportFlush p => Sys2Proof.Machine.execRunReportFlush p s
  | .deliveryReportReceive => Sys2Proof.Machine.execDeliveryReportReceive s
  | .egressResendTimeout h => Sys2Proof.Machine.execEgressResendTimeout h s
  | .mcListSet c => Sys2Proof.Machine.execMcListSet c s
  | .mcListDelete c => Sys2Proof.Machine.execMcListDelete c s
  | .egListSet c => Sys2Proof.Machine.execEgListSet c s
  | .egListDelete c => Sys2Proof.Machine.execEgListDelete c s
  | .encapAddrSet c => Sys2Proof.Machine.execEncapAddrSet c s
  | .memTransactionComplete ch a write bursts other => Sys2Proof.Machine.execMemTransactionComplete ch a write bursts other s
  | .channelTrainDone ch pass eye train => Sys2Proof.Machine.execChannelTrainDone ch pass eye train s
  | .driftTrack ch drift => Sys2Proof.Machine.execDriftTrack ch drift s
  | .retrainDone ch train => Sys2Proof.Machine.execRetrainDone ch train s
  | .retrainTimeout ch => Sys2Proof.Machine.execRetrainTimeout ch s
  | .catchupDone ch => Sys2Proof.Machine.execCatchupDone ch s
  | .channelFail ch cause => Sys2Proof.Machine.execChannelFail ch cause s
  | .memScrub ch addr bursts other differs pct => Sys2Proof.Machine.execMemScrub ch addr bursts other differs pct s
  | .scrubLate dt => Sys2Proof.Machine.execScrubLate dt s
  | .memRefresh ch => Sys2Proof.Machine.execMemRefresh ch s
  | .checkpoint snapshot => Sys2Proof.Machine.execCheckpoint snapshot s
  | .mcBeat m word wire => Sys2Proof.Machine.execMcBeat m word wire s
  | .mcFaultDeclare m explicit => Sys2Proof.Machine.execMcFaultDeclare m explicit s
  | .mcTakeoverComplete m => Sys2Proof.Machine.execMcTakeoverComplete m s
  | .selftestPassEnd m code => Sys2Proof.Machine.execSelftestPassEnd m code s
  | .handoverComplete => Sys2Proof.Machine.execHandoverComplete s
  | .pipeFaultDetect cl egress pos => Sys2Proof.Machine.execPipeFaultDetect cl egress pos s
  | .sparePowerDone cl egress => Sys2Proof.Machine.execSparePowerDone cl egress s
  | .spareLoadDone cl egress => Sys2Proof.Machine.execSpareLoadDone cl egress s
  | .spareCheckDone cl egress pass => Sys2Proof.Machine.execSpareCheckDone cl egress pass s
  | .spareReleaseDone cl egress => Sys2Proof.Machine.execSpareReleaseDone cl egress s
  | .sparesEnWrite en => Sys2Proof.Machine.execSparesEnWrite en s
  | .doorbellWrite q v => Sys2Proof.Machine.execDoorbellWrite q v s
  | .commit c => Sys2Proof.Machine.execCommit c s
  | .batchAbort c => Sys2Proof.Machine.execBatchAbort c s
  | .batchIdleTimeout => Sys2Proof.Machine.execBatchIdleTimeout s
  | .commitPhaseStart => Sys2Proof.Machine.execCommitPhaseStart s
  | .commitStepEnd => Sys2Proof.Machine.execCommitStepEnd s
  | .epochRetire => Sys2Proof.Machine.execEpochRetire s
  | .repartition => Sys2Proof.Machine.execRepartition s
  | .pipeRetest => Sys2Proof.Machine.execPipeRetest s
  | .mcSwitch => Sys2Proof.Machine.execMcSwitch s
  | .epochQuery => Sys2Proof.Machine.execEpochQuery s
  | .queueReset => Sys2Proof.Machine.execQueueReset s
  | .mboxUnknownOp op => Sys2Proof.Machine.execMboxUnknownOp op s
  | .mboxOpDone passed => Sys2Proof.Machine.execMboxOpDone passed s
  | .configWrite fn off v be => Sys2Proof.Machine.execConfigWrite fn off v be s
  | .memRequestUnsupported fn read addr => Sys2Proof.Machine.execMemRequestUnsupported fn read addr s
  | .atomicopRequest addr => Sys2Proof.Machine.execAtomicopRequest addr s
  | .pcieLinkUp width speed flit => Sys2Proof.Machine.execPcieLinkUp width speed flit s
  | .msixVectorUnmask v => Sys2Proof.Machine.execMsixVectorUnmask v s
  | .irqCoalesceTimeout q => Sys2Proof.Machine.execIrqCoalesceTimeout q s
  | .puntDeliver q addr len => Sys2Proof.Machine.execPuntDeliver q addr len s
  | .injectDescriptor q w0 w1 bytes => Sys2Proof.Machine.execInjectDescriptor q w0 w1 bytes s
  | .queueEnableWrite q en => Sys2Proof.Machine.execQueueEnableWrite q en s
  | .functionFreeze fn bit => Sys2Proof.Machine.execFunctionFreeze fn bit s
  | .freezeNow fn => Sys2Proof.Machine.execFreezeNow fn s
  | .unfreeze fn => Sys2Proof.Machine.execUnfreeze fn s
  | .unfreezeRelease fn => Sys2Proof.Machine.execUnfreezeRelease fn s
  | .flr fn => Sys2Proof.Machine.execFlr fn s
  | .conventionalReset linkDown => Sys2Proof.Machine.execConventionalReset linkDown s
  | .completionTimeout tag => Sys2Proof.Machine.execCompletionTimeout tag s
  | .dmaCompletion tag status poisoned => Sys2Proof.Machine.execDmaCompletion tag status poisoned s
  | .lateCompletion tag => Sys2Proof.Machine.execLateCompletion tag s
  | .tagHoldExpiry tag => Sys2Proof.Machine.execTagHoldExpiry tag s
  | .blockResetReq k => Sys2Proof.Machine.execBlockResetReq k s
  | .blockEnableWrite k en => Sys2Proof.Machine.execBlockEnableWrite k en s
  | .blockStopDone k errored => Sys2Proof.Machine.execBlockStopDone k errored s
  | .blockStartDone k => Sys2Proof.Machine.execBlockStartDone k s
  | .blockLockTimeout k => Sys2Proof.Machine.execBlockLockTimeout k s
  | .quiesceTimeout k => Sys2Proof.Machine.execQuiesceTimeout k s
  | .xingTimeout data src dst n => Sys2Proof.Machine.execXingTimeout data src dst n s
  | .avfsStep k slack => Sys2Proof.Machine.execAvfsStep k slack s
  | .droopDetect k => Sys2Proof.Machine.execDroopDetect k s
  | .avsComplete rail mv => Sys2Proof.Machine.execAvsComplete rail mv s
  | .powerEstimate watts => Sys2Proof.Machine.execPowerEstimate watts s
  | .updraftEnter cl est => Sys2Proof.Machine.execUpdraftEnter cl est s
  | .updraftExit cl => Sys2Proof.Machine.execUpdraftExit cl s
  | .ageCounterSave => Sys2Proof.Machine.execAgeCounterSave s
  | .sensorRead temps valid => Sys2Proof.Machine.execSensorRead temps valid s
  | .counterFlush => Sys2Proof.Machine.execCounterFlush s
  | .windowTick => Sys2Proof.Machine.execWindowTick s
  | .shadowClose => Sys2Proof.Machine.execShadowClose s
  | .evtArmWrite v => Sys2Proof.Machine.execEvtArmWrite v s
  | .bufferMacroFault m => Sys2Proof.Machine.execBufferMacroFault m s
  | .smbWrite bytes pecOk => Sys2Proof.Machine.execSmbWrite bytes pecOk s
  | .smbReadStart bytes pecOk => Sys2Proof.Machine.execSmbReadStart bytes pecOk s
  | .smbReadResult => Sys2Proof.Machine.execSmbReadResult s
  | .railsUp => Sys2Proof.Machine.execRailsUp s
  | .fecPcsLock l => Sys2Proof.Machine.execFecPcsLock l s
  | .alignmentMarkerLock l m => Sys2Proof.Machine.execAlignmentMarkerLock l m s
  | .pauseHoldExpiry l c => Sys2Proof.Machine.execPauseHoldExpiry l c s
  | .grantWaitFTimeout => Sys2Proof.Machine.execGrantWaitFTimeout s
  | .txHoldTimeout p => Sys2Proof.Machine.execTxHoldTimeout p s
  | .tableUnknownOpcode opcode c => Sys2Proof.Machine.execTableUnknownOpcode opcode c s
  | .xingAcknowledge data src dst x => Sys2Proof.Machine.execXingAcknowledge data src dst x s
  | .xingResync data src dst n => Sys2Proof.Machine.execXingResync data src dst n s

end Sys2Proof.Machine
end

