-- ==== Sys2Proof/Machine/Tick.lean ====
section
/-! DEFINITION. One nanosecond of the 25 MHz reference, which passes when no command waits (log 115): device time (R114),
the frames of framed ports (R164), the ages of self-test passes (R599, R625), the seconds of aging, probation and trace records (R742, R773, R796), and
the clocks that the fabric spends with a full window (R510). -/

namespace Sys2Proof.Machine

/-- Units of the rate correction in a nanosecond: `freq_adj` counts 1/1,024 ppb (`TF_TIME_ADJ`). -/
def adjUnit : Nat := 1024000000000

/-- Does device time run: not in an episode of system or power-on reach whose exit sequence has not begun (R114, R686)? -/
def State.timeRuns (s : State) : Bool :=
  s.mode != OFF && (!s.inEpisode || (match s.rst.exit with | some k => decide (0 < k) | none => false))

/-- Device time advances by a nanosecond of the reference, corrected. -/
def State.timeTick (s : State) : State :=
  let a := (adjUnit : Int) + s.frac + sgn 32 (s.get F.TF_TIME_ADJ_freq_adj)
  State.setTime { s with frac := (a % adjUnit).toNat } ((s.time + (a / adjUnit).toNat) % 2 ^ 64)

/-- A millisecond of a controller (R599, R625): its last pass ages, and a STANDBY one is not ready after 2 s. -/
def State.ageMs (s : State) (m : Nat) : State :=
  let t := s.addSat F.KV_MC_HEALTH_age_ms 1 m
  if t.role m = 1 ∧ 2000 ≤ t.get F.KV_MC_HEALTH_age_ms m then t.zero F.KV_MC_HEALTH_ready m else t

/-- A second of probation (R773): it counts from RAISE's end. -/
def State.probationSecond (s : State) : State :=
  match s.rec0.prob with
  | none => s
  | some p =>
    if s.live && s.probRuns then
      { s with rec0 := { s.rec0 with prob := some { p with left := p.left - 1 } } }.put F.KV_MODE_probation_left (p.left - 1)
    else s

/-- A second outside OFF. -/
def State.secondTick (s : State) : State :=
  let t := s.ageSecond.probationSecond
  { t with tlm := { t.tlm with traceSec := 0 } }

/-- Clocks of an island at 1,250 MHz that end in the n-th nanosecond. -/
def dtClocks (n : Nat) : Nat := 5 * (n + 1) / 4 - 5 * n / 4

/-- Clocks with a full window (R510). -/
def State.windowClocks (s : State) : State :=
  if (tkeys s.fab.tx).any (fun k => !s.winOpen (k / 16)) then s.count cgFab 14 0 (dtClocks s.up) else s

/-- One nanosecond. -/
def State.tick (s : State) : State :=
  if s.mode = OFF then s
  else
    let s1 := if s.timeRuns then s.timeTick else s
    let s2 := s1.windowClocks
    let s3 : State := { s2.txFrames with up := s2.up + 1 }
    let s4 := if s3.up % 1000000 = 0 then (s3.ageMs 0).ageMs 1 else s3
    if s4.up % 1000000000 = 0 then s4.secondTick else s4

end Sys2Proof.Machine
end

