-- ==== Sys2Proof/Machine/Step.lean ====
section
/-! DEFINITION. One step of the module: the command at the front of the queue, or, with none waiting, one nanosecond. -/

namespace Sys2Proof.Machine

/-- One step: the front command runs with the rest of the queue; an empty queue lets one nanosecond pass (log 115). -/
def step (s : State) : Host.Outcome State Fault Refusal :=
  match s.pending with
  | [] => ok s.tick
  | c :: rest => exec c { s with pending := rest }

/-- The state with the command that a table word spells at the front of its queue. -/
def State.withFetchWord (s : State) (nbits w : Nat) : State :=
  match decodeTableWord nbits w with
  | some c => { s with pending := c :: s.pending }
  | none => s

end Sys2Proof.Machine
end

