-- ==== Sys2Proof/WellFormed.lean ====
section
/-! DEFINITION. Well-formed commands: every operand within the range that the spec gives the thing it names (32 physical
and 256 logical ports, 256 lanes, 320 fabric lanes, 256 modules, 8 planes, 16 clusters, 68 islands, 120 memory
channels, 168 queues, and the field widths of messages). No other command can reach the module. -/

namespace Sys2Proof

/-- A table command that a command ring can hold: queue, tag and payload count of R607. -/
def Machine.TCmd.wf (c : Machine.TCmd) : Bool := decide (c.q < 32 ∧ c.tag < 2 ^ 32 ∧ c.words.length < 1024)

/-- A command whose operands name things that the module has. -/
def Instr.wf : Instr → Bool
  | .registerWrite src addr data => decide (src < 3 ∧ addr + data.bytes.length ≤ 0x101000000)
  | .powerOnDetect _ => true
  | .porstPin => true
  | .sysrstPin => true
  | .sysReq => true
  | .coreReq => true
  | .failClear => true
  | .wdogPet => true
  | .wdogCtlWrite _ => true
  | .watchdogExpiry => true
  | .resetSourceRelease r => decide (r.straps < 32)
  | .exitSequenceStep low high => decide (low < 2 ^ 34 ∧ high < 2 ^ 34)
  | .islandLockTimeout i => decide (i < 68)
  | .loadImageDone readErr => decide (readErr < 4)
  | .loadTimeout => true
  | .hostloadGo length _ => decide (length < 2 ^ 32)
  | .rrsTimeout => true
  | .trainingComplete => true
  | .trainLimit => true
  | .bringupStep => true
  | .drainReq => true
  | .resumeReq => true
  | .maintReq => true
  | .maintExit => true
  | .drainPhaseEnd => true
  | .ripcordTrip => true
  | .ripcordDrainLimit => true
  | .ripcordRelease => true
  | .probationExpiry => true
  | .fwConfirm src => decide (src < 3)
  | .fwActivate => true
  | .fwSendGo length _ _ => decide (length < 2 ^ 32)
  | .chainHdr xfer _ _ => decide (xfer < 65536)
  | .chainData xfer _ _ bytes => decide (xfer < 65536 ∧ bytes.length ≤ 4096)
  | .chainEnd xfer _ _ _ crc _ => decide (xfer < 65536 ∧ crc < 2 ^ 32)
  | .chainAbort xfer reason => decide (xfer < 65536 ∧ reason < 256)
  | .chainStatus xfer pos _ status gen => decide (xfer < 65536 ∧ pos < 256 ∧ status < 256 ∧ gen < 2 ^ 32)
  | .chainCredit n => decide (n < 256)
  | .chainCoreReset target gen => decide (target < 256 ∧ gen < 2 ^ 32)
  | .chainSysReset target gen => decide (target < 256 ∧ gen < 2 ^ 32)
  | .chainActivate target gen => decide (target < 256 ∧ gen < 2 ^ 32)
  | .flashOpDone _ => true
  | .chainLinkUp upstream => decide (upstream < 256)
  | .chainLinkDown => true
  | .idlLaneFault dir group lane => decide (dir < 2 ∧ group < 36 ∧ lane < 18)
  | .idlLinkRetry dir group => decide (dir < 2 ∧ group < 36)
  | .frameReceive l _ _ _ _ _ => decide (l < 256)
  | .pauseFrameRx l _ enable times => decide (l < 256 ∧ enable < 256 ∧ times.length ≤ 8)
  | .pauseTimerExpiry l c => decide (l < 256 ∧ c < 8)
  | .pfcTxRequest l c _ => decide (l < 256 ∧ c < 8)
  | .xoffRefresh l c => decide (l < 256 ∧ c < 8)
  | .adminUpWrite l _ _ => decide (l < 256)
  | .anResolved l _ rate => decide (l < 256 ∧ rate < 16)
  | .anTimeout l => decide (l < 256)
  | .linkTrainingDone l _ => decide (l < 256)
  | .trainingTimeout l lanes => decide (l < 256 ∧ lanes < 256)
  | .linkUp l => decide (l < 256)
  | .waitLockTimeout l => decide (l < 256)
  | .laneSignalLoss n _ => decide (n < 256)
  | .linkFault l cause _ => decide (l < 256 ∧ cause < 4)
  | .laneSignalRestore l => decide (l < 256)
  | .faultTimeout l => decide (l < 256)
  | .signalDegrade n ber _ => decide (n < 256 ∧ ber < 256)
  | .sdClear n ber => decide (n < 256 ∧ ber < 256)
  | .adaptStep n _ => decide (n < 256)
  | .adaptLimit n => decide (n < 256)
  | .lossMeasure n loss => decide (n < 256 ∧ loss < 256)
  | .timeStep => true
  | .ppsOut => true
  | .ppsInEdge => true
  | .todTxStart => true
  | .todMessageRx head body check => decide (head.length = 3 ∧ body.length = 7 ∧ check.length = 1)
  | .ptpTxtsPop l => decide (l < 256)
  | .portReconfig => true
  | .instanceLockLoss l inst => decide (l < 256 ∧ inst < 16)
  | .dlolClear l => decide (l < 256)
  | .deskewRetry l _ => decide (l < 256)
  | .fasMatch l offset mfas => decide (l < 256 ∧ offset < 122368 ∧ mfas < 256)
  | .otucFrame l _ => decide (l < 256)
  | .defectFilterExpiry f => decide (f.l < 256)
  | .ingressProcess p _ _ _ => decide (p < 32)
  | .progressUnit p _ => decide (p < 32)
  | .parseState c => c.wf
  | .parseTrans c => c.wf
  | .keyTemplate c => c.wf
  | .hashProfWrite i _ => decide (i < 16)
  | .groupSet c => c.wf
  | .groupDelete c => c.wf
  | .groupMember c => c.wf
  | .lagMemberRewrite l => decide (l < 256)
  | .routeAdd c => c.wf
  | .routeDelete c => c.wf
  | .vrfSet c => c.wf
  | .nhSet c => c.wf
  | .nhDelete c => c.wf
  | .nhQuarantineExpiry i => decide (i < 2 ^ 22)
  | .bankLoadWindow win => decide (win.loads.length ≤ 1024) && win.loads.all (fun b => decide (b.pct < 256))
  | .tableRepair => true
  | .emAdd c => c.wf
  | .emDelete c => c.wf
  | .emFlush c => c.wf
  | .emFlushDone => true
  | .emRead c => c.wf
  | .agingSweep _ => true
  | .learnRecordReceive => true
  | .learnRecordApply => true
  | .ballastCompare _ _ => true
  | .tableScrub bank _ => decide (bank < 1024)
  | .engineCommit => true
  | .classTreeSet c => c.wf
  | .classTreeDelete c => c.wf
  | .classRuleAdd c => c.wf
  | .classRuleDelete c => c.wf
  | .classRuleRead c => c.wf
  | .classTreeRebuild c => c.wf
  | .rebuildDone => true
  | .assocAdd c => c.wf
  | .assocSet c => c.wf
  | .assocDelete c => c.wf
  | .assocRead c => c.wf
  | .assocShiftStep b => decide (b < 64)
  | .assocEntryRewrite i => decide (i < 524288)
  | .idlUnitReceive p flip _ => decide (p < 32 ∧ flip < 2 ^ 256)
  | .pipeStall p _ => decide (p < 32)
  | .idlCreditReturn p _ => decide (p < 32)
  | .mirrorCopyTimeout => true
  | .admissionLoopStep => true
  | .tailRowWrite v => decide (v < 2 ^ 19)
  | .tailRowTimeout v => decide (v < 2 ^ 19)
  | .tailReadback v => decide (v < 2 ^ 19)
  | .holdExpiry m l => decide (m < 256 ∧ l < 256)
  | .ctHoldoffExpiry l c => decide (l < 256 ∧ c < 8)
  | .schedDecision p => decide (p < 32)
  | .shaperRefill => true
  | .voqService => true
  | .creditReqReceive src _ => decide (src < 256)
  | .creditGrantIssue l c => decide (l < 256 ∧ c < 8)
  | .creditGrantReceive src _ => decide (src < 256)
  | .nodeSet c => c.wf
  | .nodeRead c => c.wf
  | .eqMapSet c => c.wf
  | .policerSet c => c.wf
  | .policerRead c => c.wf
  | .defSubWrite l _ => decide (l < 256)
  | .fabLaneSignalDetect n => decide (n < 320)
  | .fabLaneTrained n => decide (n < 320)
  | .fabLaneTrainTimeout n => decide (n < 320)
  | .fabLaneTrialPass n => decide (n < 320)
  | .fabLaneFail n _ => decide (n < 320)
  | .linkFrameReceive n seq ack _ _ _ => decide (n < 320 ∧ seq < 4096 ∧ ack < 4096)
  | .linkIdleFrame n => decide (n < 320)
  | .cellSend m st => decide (m < 256 ∧ st < 9)
  | .cellReceive => true
  | .ackSend src => decide (src < 256)
  | .ackReceive src _ => decide (src < 256)
  | .retxTimeout m c => decide (m < 256 ∧ c < 9)
  | .creditCellSend m _ => decide (m < 256)
  | .heartbeatSend => true
  | .heartbeatReceive plane _ => decide (plane < 8)
  | .heartbeatTimeout m plane => decide (m < 256 ∧ plane < 8)
  | .streamAbandon m => decide (m < 256)
  | .gapOldTimer m c => decide (m < 256 ∧ c < 9)
  | .portStateMessage m _ => decide (m < 256)
  | .portStateRefresh => true
  | .egressProcess p _ _ => decide (p < 32)
  | .txUnitStart p => decide (p < 32)
  | .frameDelivered l => decide (l < 256)
  | .portDownAbort l => decide (l < 256)
  | .runReportFlush p => decide (p < 32)
  | .deliveryReportReceive => true
  | .egressResendTimeout _ => true
  | .mcListSet c => c.wf
  | .mcListDelete c => c.wf
  | .egListSet c => c.wf
  | .egListDelete c => c.wf
  | .encapAddrSet c => c.wf
  | .memTransactionComplete ch a _ _ _ => decide (ch < 120 ∧ 1 ≤ a.rank ∧ a.rank ≤ 5 ∧ a.addr < 2 ^ 31)
  | .channelTrainDone ch _ _ _ => decide (ch < 120)
  | .driftTrack ch _ => decide (ch < 120)
  | .retrainDone ch _ => decide (ch < 120)
  | .retrainTimeout ch => decide (ch < 120)
  | .catchupDone ch => decide (ch < 120)
  | .channelFail ch cause => decide (ch < 120 ∧ cause < 2)
  | .memScrub ch addr _ _ _ pct => decide (ch < 120 ∧ addr < 2 ^ 31 ∧ pct ≤ 100)
  | .scrubLate _ => true
  | .memRefresh ch => decide (ch < 120)
  | .checkpoint _ => true
  | .mcBeat m _ _ => decide (m < 2)
  | .mcFaultDeclare m _ => decide (m < 2)
  | .mcTakeoverComplete m => decide (m < 2)
  | .selftestPassEnd m code => decide (m < 2 ∧ code < 16)
  | .handoverComplete => true
  | .pipeFaultDetect cl _ pos => decide (cl < 16 ∧ pos ≤ 4)
  | .sparePowerDone cl _ => decide (cl < 16)
  | .spareLoadDone cl _ => decide (cl < 16)
  | .spareCheckDone cl _ _ => decide (cl < 16)
  | .spareReleaseDone cl _ => decide (cl < 16)
  | .sparesEnWrite _ => true
  | .doorbellWrite q _ => decide (q < 168)
  | .commit c => c.wf
  | .batchAbort c => c.wf
  | .batchIdleTimeout => true
  | .commitPhaseStart => true
  | .commitStepEnd => true
  | .epochRetire => true
  | .repartition => true
  | .pipeRetest => true
  | .mcSwitch => true
  | .epochQuery => true
  | .queueReset => true
  | .mboxUnknownOp op => decide (op < 256)
  | .mboxOpDone _ => true
  | .configWrite fn off _ _ => decide (fn < 2 ∧ off < 4096 ∧ off % 4 = 0)
  | .memRequestUnsupported fn _ _ => decide (fn < 2)
  | .atomicopRequest _ => true
  | .pcieLinkUp width speed _ => [1, 2, 4, 8].contains width && decide (1 ≤ speed ∧ speed ≤ 6)
  | .msixVectorUnmask v => decide (v < 2048)
  | .irqCoalesceTimeout q => decide (q < 168)
  | .puntDeliver q _ _ => decide (q < 64)
  | .injectDescriptor q _ _ _ => decide (64 ≤ q ∧ q < 128)
  | .queueEnableWrite q _ => decide (q < 168)
  | .functionFreeze fn bit => decide (fn < 2 ∧ bit < 32)
  | .freezeNow fn => decide (fn < 2)
  | .unfreeze fn => decide (fn < 2)
  | .unfreezeRelease fn => decide (fn < 2)
  | .flr fn => decide (fn < 2)
  | .conventionalReset _ => true
  | .completionTimeout tag => decide (tag < 16384)
  | .dmaCompletion tag status _ => decide (tag < 16384 ∧ status < 3)
  | .lateCompletion tag => decide (tag < 16384)
  | .tagHoldExpiry tag => decide (tag < 16384)
  | .blockResetReq i => decide (i < 68)
  | .blockEnableWrite i _ => decide (i < 68)
  | .blockStopDone i _ => decide (i < 68)
  | .blockStartDone i => decide (i < 68)
  | .blockLockTimeout i => decide (i < 68)
  | .quiesceTimeout i => decide (i < 68)
  | .xingTimeout _ src dst n => decide (src < 68 ∧ dst < 68 ∧ src ≠ dst ∧ n < 2 ^ 32)
  | .avfsStep i _ => decide (i < 68)
  | .droopDetect i => decide (i < 68)
  | .avsComplete rail _ => decide (rail < 32)
  | .powerEstimate _ => true
  | .updraftEnter cl _ => decide (cl < 16)
  | .updraftExit cl => decide (cl < 16)
  | .ageCounterSave => true
  | .sensorRead temps valid => decide (temps.length = valid.length)
  | .counterFlush => true
  | .windowTick => true
  | .shadowClose => true
  | .evtArmWrite _ => true
  | .bufferMacroFault m => decide (m < 544)
  | .smbWrite _ _ => true
  | .smbReadStart _ _ => true
  | .smbReadResult => true
  | .railsUp => true
  | .fecPcsLock l => decide (l < 256)
  | .alignmentMarkerLock l m => decide (l < 256 ∧ m.insts < 2 ^ 16)
  | .pauseHoldExpiry l c => decide (l < 256 ∧ c < 8)
  | .grantWaitFTimeout => true
  | .txHoldTimeout p => decide (p < 32)
  | .tableUnknownOpcode opcode c => decide (opcode < 256) && c.wf
  | .xingAcknowledge _ src dst x => decide (src < 68 ∧ dst < 68 ∧ src ≠ dst ∧ x.n < 2 ^ 32)
  | .xingResync _ src dst n => decide (src < 68 ∧ dst < 68 ∧ src ≠ dst ∧ n < 2 ^ 32)

end Sys2Proof
end

