-- ==== Sys2Proof/Safety.lean ====
section
/-! DEFINITION. The words that statements about the module are made of: what a command answers, what it leaves alone,
and the invariants that every step keeps. -/

namespace Sys2Proof.Machine

/-- The command answers a next state with the property. -/
def Answers (c : Instr) (s : State) (P : State → Prop) : Prop := ∃ t, exec c s = .next t ∧ P t

/-- The state s but for what may follow any command in its clock, taken from t: the register file, what is sent, pending
messages and INTA, and the failure count (R35, R37, R641, R801). -/
def State.settled (s t : State) : State :=
  { s with regs := t.regs, out := t.out
           host := { s.host with msiPend := t.host.msiPend, inta := t.host.inta }
           rec0 := { s.rec0 with fails := t.rec0.fails } }

/-- Every register of t at an address outside the list, `KV_MODE`, `KV_EVT` and `KV_EVT_ARM` is that of s. -/
def RegsBut (l : List Nat) (s t : State) : Prop :=
  ∀ a, a ∉ l → a ≠ regAddr R.KV_MODE 0 0 → a ≠ regAddr R.KV_EVT 0 0 → a ≠ regAddr R.KV_EVT_ARM 0 0 →
    tget? t.regs a = tget? s.regs a

/-- The frame of a command that touches registers alone: those listed. -/
def OnlyRegs (l : List Nat) (s t : State) : Prop := t = s.settled t ∧ RegsBut l s t

/-! ### Table commands -/

/-- The registers that the fetch of a table command touches: the consumer index of its queue and the count of commands, whose
window may have closed (R658, R782). -/
def tookRegs (c : TCmd) : List Nat :=
  [regAddr R.TF_QCTX_STAT (128 + c.q) 0, regAddr R.TF_HOST_CNT 4 0, regAddr R.TF_HOST_CNT 5 0,
    regAddr R.KV_TLM_CNT 2 0, regAddr R.KV_TLM_EVT 0 0]

/-- The engine takes a command of n payload words, of which up to `ret` return, into a batch with room, in a mode in which
tables may change (R608, R613 to R616, R658). -/
abbrev Taken (c : TCmd) (n ret : Nat) (s : State) : Prop :=
  s.fetchable c ret = true ∧ s.batchIsFull = false ∧ c.words.length = n ∧ s.tablesShut = false

/-- The command has joined its queue's batch, and its change is in the inactive view alone: what is in force, and the
engine's own view, stay (R239, R613). -/
def Joins (c : TCmd) (s t : State) : Prop :=
  t.eng = { s.eng with
      batchQ := some c.q, owed := s.eng.owed ++ [(c.q, c.tag, none)], ready := c.commit, lastQ := c.q, fetchAt := s.up } ∧
    t.act = s.act ∧ t.engV = s.engV

/-- The command has joined its queue's batch with one change of the inactive view; the tables outside the views, and every
register but those of its fetch, stay. -/
def Changes (c : TCmd) (f : View → View) (s t : State) : Prop :=
  Joins c s t ∧ t.inact = f s.inact ∧ t.tbl = s.tbl ∧ RegsBut (tookRegs c) s t

/-- The command has completed at once with words, and changed no view (R610). -/
def Returns (c : TCmd) (ws : List Word) (s t : State) : Prop :=
  (∀ o ∈ s.cplOuts ⟨c.q, c.tag, stOk, 0, ws⟩, o ∈ t.out) ∧ t.act = s.act ∧ t.engV = s.engV ∧ t.inact = s.inact ∧
    RegsBut (tookRegs c) s t

/-- The canonical form of the retained SRAM: offsets strictly rising, no byte that is 0 listed. -/
def Memory.wf (m : List Host.Cell) : Bool := trising m && m.all (fun e => decide (e.2 ≠ 0))

/-! ### Invariants -/

/-- The mode and the `degraded` bit show whether a unit is out of service (R33, R35, R39). -/
def State.Levelled (s : State) : Prop :=
  s.get F.KV_MODE_degraded = b2n s.degradedNow ∧ (s.mode = RUN → s.capacityDown = false) ∧
    (s.mode = DEGRADED → s.degradedNow = true)

/-- INTA as R641 gives it: with MSI disabled, asserted exactly while a source is pending, INTx is not disabled, PF0 is not
frozen and the device is out of reset. -/
def State.IntaLevel (s : State) : Prop :=
  s.msiOn = false →
    s.host.inta = (decide (s.evtSrc ≠ 0) && s.cfgBits 0 0x04 10 1 == 0 && !s.frozen 0 && s.awake)

/-- No source that is pending is still armed once MSI is enabled: its message has been sent, or its pending bit is set, and
its arm bit cleared (R801). -/
def State.Signalled (s : State) : Prop :=
  s.msiOn = true → ∀ n < 16, s.srcPending n = true → bitOf (s.get F.KV_EVT_ARM_arm) n = false

end Sys2Proof.Machine
end

