-- ==== Sys2Proof/Certificates/Slice0/Obligations.lean ====
section
/-! DEFINITION. The statements about the module that are to be proved. Each cites the rules of the spec that it comes
from; where a clause rests on a choice of the model, its docstring names the log entry. -/

open Sys2Proof Sys2Proof.Machine

/-- For every command and every state, a step with that command at the front of the queue is exec of it on the
state with the queue's rest. (The queue is the model's own: log 1.) (R9, R10) -/
def Obligations.StepRunsTheFrontCommand : Prop :=
  ∀ (c : Instr) (rest : List Instr) (s : State),
    step { s with pending := c :: rest } = exec c { s with pending := rest }

/-- With no command waiting, a step answers a next state. Outside OFF the reference count grows by one nanosecond.
While device time runs and freq_adj is 0, device time advances by 1 ns per ns of the reference (with what the rate
correction had gathered before), and the fraction left is below a nanosecond. In OFF nothing changes in time. That
an empty queue is a nanosecond is the model's choice (log 115). (R114) -/
def Obligations.AnEmptyQueueLetsOneNanosecondPass : Prop :=
  ∀ s : State, s.pending = [] → ∃ t, step s = .next t ∧ t.pending = [] ∧
    (s.mode = OFF → t.time = s.time ∧ t.up = s.up) ∧
    (s.mode ≠ OFF → t.up = s.up + 1) ∧
    (s.mode ≠ OFF → s.timeRuns = true → s.get F.TF_TIME_ADJ_freq_adj = 0 →
      t.time = (s.time + 1 + s.frac / adjUnit) % 2 ^ 64 ∧ t.frac = s.frac % adjUnit)

/-- At reset the mode is HELD, the power-on detector's source is asserted in an episode of power-on reach whose
exit has not begun, every register of every array reads its reset word, device time is 0, no retained byte is
listed, nothing has been sent and no command waits. (Reset words that no table gives are named in log 2; that the
model starts inside the power-on episode is log 3.) (R15, R35, R678, R838) -/
def Obligations.ResetStateIsPowerOn : Prop :=
  State.reset.mode = HELD ∧ State.reset.rst.reach = 3 ∧ State.reset.rst.asserted = [.por] ∧
    State.reset.rst.exit = none ∧ State.reset.time = 0 ∧ State.reset.sram = [] ∧ State.reset.out = [] ∧
    State.reset.pending = [] ∧ ∀ (r : RegD) (i j : Nat), State.reset.rd r i j = resetWord r i

/-- For every command, with any operands, and every state, exec answers a next state: no event that the spec lists
ends a run, and ordinary data never does. (R9, R35, R850) -/
def Obligations.EveryCommandAnswersANextState : Prop :=
  ∀ (c : Instr) (s : State), ∃ t, exec c s = .next t

/-- After every step, from any state whatever, the degraded bit of KV_MODE is 1 exactly when a unit is out of
service, a spare in use or a controller not in service and ready, the mode RUN stands only while no capacity has
fallen (no such unit or spare, no controller with a declared fault and none OUT; core reset alone takes none, which
is the model's reading in log 121), and the mode DEGRADED only while the bit is 1. So the invariant holds after
every step, whichever command it runs. (R33, R35, R39, R586) -/
def Obligations.ModeAndDegradedBitFollowTheUnits : Prop :=
  ∀ s t : State, step s = .next t → t.Levelled

/-- After every step, from any state, with MSI disabled, INTA is asserted exactly while some source of the event
tree is pending and unmasked, with Interrupt Disable 0, PF0 not frozen and the device out of reset. (R641, R800,
R801) -/
def Obligations.IntaFollowsThePendingSources : Prop :=
  ∀ s t : State, step s = .next t → t.IntaLevel

/-- After every step, from any state, with MSI enabled, a source that is pending has its arm bit clear: a message
was generated for it, and generation cleared the bit. (R641, R801) -/
def Obligations.NoArmedSourceStaysPendingWithMsi : Prop :=
  ∀ s t : State, step s = .next t → t.Signalled

/-- In the reset state the degraded bit and the mode are level with the units, INTA is at its level, no armed
source is pending, and the retained SRAM and the register file are in their canonical form. (R33, R641, R801) -/
def Obligations.InvariantsHoldAtReset : Prop :=
  State.reset.Levelled ∧ State.reset.IntaLevel ∧ State.reset.Signalled ∧
    Memory.wf State.reset.sram = true ∧ trising State.reset.regs = true

/-- Outside OFF each of the power-on pin, the system pin, a core request, the training limit of 5 s, the loader's
limit of 1 s, the watchdog at its timeout and the probation window's end asserts its own source, so that the
episode's reach becomes the deeper of the reach it had and that of the source, and the exit sequence waits for the
release; a source of system or power-on reach that finds no such episode takes the mode to HELD. (R35, R678, R680,
R681, R682, R683, R687, R772) -/
def Obligations.ResetSourcesAssert : Prop :=
  (∀ s : State, s.mode ≠ OFF →
    Answers .porstPin s (fun t => t.rst.reach = max s.rst.reach 3 ∧ .porstPin ∈ t.rst.asserted ∧ t.rst.exit = none ∧
      (s.rst.reach < 3 → t.mode = HELD))) ∧
  (∀ s : State, s.mode ≠ OFF →
    Answers .sysrstPin s (fun t => t.rst.reach = max s.rst.reach 2 ∧ .sysrstPin ∈ t.rst.asserted ∧
      t.rst.exit = none ∧ (s.rst.reach < 2 → t.mode = HELD))) ∧
  (∀ s : State, s.awake = true →
    Answers .coreReq s (fun t => t.rst.reach = max s.rst.reach 1 ∧ .swCore ∈ t.rst.asserted ∧ t.rst.exit = none)) ∧
  (∀ s : State, s.mode = TRAIN → s.boot.trainAt + 5000000000 ≤ s.up →
    Answers .trainLimit s (fun t => t.rst.reach = max s.rst.reach 2 ∧ .trainLimit ∈ t.rst.asserted ∧
      t.rst.exit = none ∧ (s.rst.reach < 2 → t.mode = HELD))) ∧
  (∀ s : State, s.flashLoad = true → s.boot.loadAt + 1000000000 ≤ s.up →
    Answers .loadTimeout s (fun t => t.rst.reach = max s.rst.reach 2 ∧ .loadFail ∈ t.rst.asserted ∧
      t.rst.exit = none ∧ (s.rst.reach < 2 → t.mode = HELD))) ∧
  (∀ s : State, s.wdogCounts = true → s.wdogOver = true → s.flag F.KV_WDOG_CTL_wd_reach = true →
    Answers .watchdogExpiry s (fun t => t.rst.reach = max s.rst.reach 2 ∧ .wdogSys ∈ t.rst.asserted)) ∧
  (∀ s : State, s.wdogCounts = true → s.wdogOver = true → s.flag F.KV_WDOG_CTL_wd_reach = false → s.probRuns = false →
    Answers .watchdogExpiry s (fun t => t.rst.reach = max s.rst.reach 1 ∧ .wdogCore ∈ t.rst.asserted)) ∧
  (∀ (p : ProbRec) (s : State), s.probRuns = true → s.rec0.prob = some p → p.left = 0 → s.live = true → s.mode ≠ SAFE →
    Answers .probationExpiry s (fun t => t.rst.reach = max s.rst.reach 1 ∧ .probation ∈ t.rst.asserted ∧
      t.rec0.prob = none))

/-- When the internal detector asserts with a rail absent the mode is OFF; otherwise it is HELD when it starts the
power-on episode. When the rails come up in OFF the mode becomes HELD. In each case the episode has power-on reach.
(R35, R678, R821) -/
def Obligations.TheDetectorHoldsOffAndHeld : Prop :=
  (∀ s : State, Answers (.powerOnDetect true) s (fun t => t.mode = OFF ∧ 3 ≤ t.rst.reach ∧ .por ∈ t.rst.asserted)) ∧
  (∀ s : State, s.rst.reach < 3 →
    Answers (.powerOnDetect false) s (fun t => t.mode = HELD ∧ t.rst.reach = 3 ∧ .por ∈ t.rst.asserted)) ∧
  (∀ s : State, s.mode = OFF →
    Answers .railsUp s (fun t => t.mode = HELD ∧ 3 ≤ t.rst.reach ∧ .por ∈ t.rst.asserted))

/-- A release of the last asserted source starts the exit sequence of the episode, and with a power-on source
samples the straps; while another is asserted it does not. The first step of system or power-on reach sets device
time to 0 and, once for the episode, advances the incarnation; the second, at power-on reach, clears the retained
SRAM; the last enters LOAD and ends the episode. The exit of core reach ends the episode and leaves the mode. The
ripcord's release also returns the thermal state to WARM (log 95) and raises THERMTRIP_N. (R114, R683, R684, R686,
R689, R697, R701, R747) -/
def Obligations.TheExitSequenceFollowsTheLastRelease : Prop :=
  (∀ (x : RSrc) (straps : Nat) (s : State), s.mode ≠ OFF → x ∈ s.rst.asserted → (∀ y ∈ s.rst.asserted, y = x) →
    Answers (.resetSourceRelease ⟨x, straps⟩) s (fun t => t.rst.asserted = [] ∧ t.rst.exit = some 0 ∧
      (srcReach x = 3 → t.get F.KV_STRAP_raw = straps % 32 ∧ RegsBut [regAddr R.KV_STRAP 0 0] s t) ∧
      (srcReach x ≠ 3 → RegsBut [] s t))) ∧
  (∀ (x y : RSrc) (straps : Nat) (s : State), s.mode ≠ OFF → x ∈ s.rst.asserted → y ∈ s.rst.asserted → y ≠ x →
    Answers (.resetSourceRelease ⟨x, straps⟩) s (fun t => x ∉ t.rst.asserted ∧ y ∈ t.rst.asserted ∧ t.rst.exit = none)) ∧
  (∀ s : State, .ripcord ∈ s.rst.asserted →
    Answers .ripcordRelease s (fun t => .ripcord ∉ t.rst.asserted ∧ t.get F.KV_THERM_STAT_state = 1 ∧
      .thermtrip false ∈ t.out ∧ RegsBut [regAddr R.KV_THERM_STAT 0 0] s t)) ∧
  (∀ (low high : Nat) (s : State), 2 ≤ s.rst.reach → s.rst.exit = some 0 →
    Answers (.exitSequenceStep low high) s (fun t => t.time = 0 ∧ t.rst.exit = some 1 ∧
      t.rec0.inc = (if s.rst.incDone then s.rec0.inc else (s.rec0.inc + 1) % 2 ^ 16))) ∧
  (∀ (low high : Nat) (s : State), 2 ≤ s.rst.reach → s.rst.exit = some 1 →
    Answers (.exitSequenceStep low high) s (fun t => t.rst.exit = some 2 ∧
      t.sram = (if s.rst.reach = 3 then [] else s.sram))) ∧
  (∀ (low high : Nat) (s : State), 2 ≤ s.rst.reach → s.rst.exit = some 3 →
    Answers (.exitSequenceStep low high) s (fun t => t.mode = LOAD ∧ t.rst.reach = 0 ∧ t.rst.exit = none)) ∧
  (∀ (low high k : Nat) (s : State), s.rst.reach = 1 → s.rst.exit = some k →
    Answers (.exitSequenceStep low high) s (fun t => t.rst.reach = 0 ∧ t.rst.exit = none ∧
      t.mc.starting = true ∧ t.isOn 28 = true ∧ t.isOn 29 = true))

/-- A write of pet restarts the watchdog's count and touches nothing else. A write of KV_WDOG_CTL with pet stores
enable, reach and timeout, restarts the count and asserts no source. A write of fail_clear sets the boot failure
count to 0. An island whose clock has not locked within its millisecond shows LOCK_FAIL and raises the event.
(R681, R688, R709, R717) -/
def Obligations.WatchdogAndFailureCountControls : Prop :=
  (∀ s : State, s.awake = true →
    Answers .wdogPet s (fun t => t.rst.wdogStart = s.up ∧ t = { s.settled t with rst := t.rst } ∧
      t.rst = { s.rst with wdogStart := s.up } ∧ RegsBut [] s t)) ∧
  (∀ (v : Word) (s : State), s.awake = true → bitOf v.toNat 2 = true →
    Answers (.wdogCtlWrite v) s (fun t => t.get F.KV_WDOG_CTL_enable = bits v.toNat 0 1 ∧
      t.get F.KV_WDOG_CTL_wd_reach = bits v.toNat 1 1 ∧ t.get F.KV_WDOG_CTL_timeout_ms = bits v.toNat 16 16 ∧
      t.rst = { s.rst with wdogStart := s.up } ∧ RegsBut [regAddr R.KV_WDOG_CTL 0 0] s t)) ∧
  (∀ s : State, s.awake = true →
    Answers .failClear s (fun t => t.rec0 = { s.rec0 with fails := 0 } ∧ OnlyRegs [] s t)) ∧
  (∀ (n : Nat) (s : State), n < 68 → s.blk n = 2 → s.flag F.KV_BLK_STAT_clk_lock n = false →
    s.rst.exitAt + 1000000 ≤ s.up →
    Answers (.islandLockTimeout n) s (fun t => t.get F.KV_BLK_STAT_result n = 4 ∧
      t.flag F.KV_RST_EVT_lock_fail = true ∧
      OnlyRegs [regAddr R.KV_BLK_STAT n 0, regAddr R.KV_RST_EVT 0 0] s t))

/-- A resume request in QUIESCED leads to PROBATION while probation is still running, and otherwise to RUN when the
degraded bit is 0 and to DEGRADED when it is 1. (R45) -/
def Obligations.ResumeLeadsToRunDegradedOrProbation : Prop :=
  ∀ s : State, s.mode = QUIESCED →
    Answers .resumeReq s (fun t =>
      (s.probRuns = true → t.mode = PROBATION) ∧
      (s.probRuns = false → t.get F.KV_MODE_degraded = 0 → t.mode = RUN) ∧
      (s.probRuns = false → t.get F.KV_MODE_degraded = 1 → t.mode = DEGRADED) ∧
      (t.get F.KV_MODE_degraded = 0 ∨ t.get F.KV_MODE_degraded = 1))

/-- A drain request in a mode that forwards enters DRAIN for no reset source; one in DRAIN joins the drain in
progress. A maintenance request moves QUIESCED to MAINTENANCE, and its exit moves MAINTENANCE to QUIESCED. In every
other mode out of reset each request leaves the mode, sets req_refused, records the mode and clears its bit, and so
does a resume request outside QUIESCED. (R34, R35, R40) -/
def Obligations.ModeRequestsMoveTheModeOrAreRefused : Prop :=
  (∀ s : State, s.forwarding = true →
    Answers .drainReq s (fun t => t.mode = DRAIN ∧ t.rst.serves = [] ∧ t.rst.drainStart = s.up)) ∧
  (∀ s : State, s.mode = DRAIN →
    Answers .drainReq s (fun t => t.mode = DRAIN ∧ t.flag F.KV_MODE_REQ_drain_req = true ∧
      OnlyRegs [regAddr R.KV_MODE_REQ 0 0] s t)) ∧
  (∀ s : State, s.mode = QUIESCED →
    Answers .maintReq s (fun t => t.mode = MAINTENANCE ∧ OnlyRegs [regAddr R.KV_MODE_REQ 0 0] s t)) ∧
  (∀ s : State, s.mode = MAINTENANCE →
    Answers .maintExit s (fun t => t.mode = QUIESCED ∧ OnlyRegs [regAddr R.KV_MODE_REQ 0 0] s t)) ∧
  (∀ (c : Instr) (f : Fld) (s : State), s.awake = true → s.mode ≠ RUN → s.mode ≠ DEGRADED →
    ((c = .drainReq ∧ f = F.KV_MODE_REQ_drain_req ∧ s.forwarding = false ∧ s.mode ≠ DRAIN) ∨
      (c = .resumeReq ∧ f = F.KV_MODE_REQ_resume_req ∧ s.mode ≠ QUIESCED) ∨
      (c = .maintReq ∧ f = F.KV_MODE_REQ_maint_req ∧ s.mode ≠ QUIESCED) ∨
      (c = .maintExit ∧ f = F.KV_MODE_REQ_maint_exit ∧ s.mode ≠ MAINTENANCE)) →
    Answers c s (fun t => t.mode = s.mode ∧ t.flag F.KV_MODE_REQ_req_refused = true ∧
      t.get F.KV_MODE_REQ_refused_mode = s.mode ∧ t.get f = 0 ∧ OnlyRegs [regAddr R.KV_MODE_REQ 0 0] s t))

/-- When the condition of a drain's phase holds the next phase starts and nothing else changes. When the last ends,
a drain that serves no source takes the mode to QUIESCED, shows its time and clears drain_req; one that serves a
source asserts it, with `drained`. The ripcord's drain ends 10 ms after the trip in the ripcord's source, whatever
is held. (R35, R71, R76, R77, R678, R685) -/
def Obligations.DrainPhasesEndInQuiescedOrTheReset : Prop :=
  (∀ s : State, s.mode = DRAIN → s.phaseOver = true → s.get F.DT_DRAIN_STAT_phase < 6 →
    Answers .drainPhaseEnd s (fun t => t.get F.DT_DRAIN_STAT_phase = s.get F.DT_DRAIN_STAT_phase + 1 ∧
      t.mode = DRAIN ∧ OnlyRegs [regAddr R.DT_DRAIN_STAT 0 0] s t)) ∧
  (∀ s : State, s.mode = DRAIN → s.phaseOver = true → 6 ≤ s.get F.DT_DRAIN_STAT_phase → s.rst.serves = [] →
    s.rst.fromSafe = false →
    Answers .drainPhaseEnd s (fun t => t.mode = QUIESCED ∧ t.get F.DT_DRAIN_STAT_phase = 7 ∧
      t.get F.DT_DRAIN_STAT_elapsed_us = s.drainUs ∧ t.get F.KV_MODE_REQ_drain_req = 0 ∧
      OnlyRegs [regAddr R.DT_DRAIN_STAT 0 0, regAddr R.KV_MODE_REQ 0 0] s t)) ∧
  (∀ (x : RSrc) (s : State), s.mode = DRAIN → s.phaseOver = true → 6 ≤ s.get F.DT_DRAIN_STAT_phase →
    s.rst.serves = [x] →
    Answers .drainPhaseEnd s (fun t => x ∈ t.rst.asserted ∧ t.rst.reach = max s.rst.reach (srcReach x))) ∧
  (∀ s : State, s.mode = DRAIN → .ripcord ∈ s.rst.serves → s.rst.tripAt + 10000000 ≤ s.up →
    Answers .ripcordDrainLimit s (fun t => .ripcord ∈ t.rst.asserted ∧ 2 ≤ t.rst.reach))

/-- In a mode that forwards, a software system reset, a chain reset of system reach addressed to the module, and
the ripcord take the mode to DRAIN, which then serves them; in HELD, where no drain can run, the software system
reset asserts at once and joins the episode. The ripcord sets the thermal state and asserts THERMTRIP_N. (R46,
R678, R717, R747, R766) -/
def Obligations.SourcesThatDrainFirstEnterDrain : Prop :=
  (∀ s : State, s.forwarding = true →
    Answers .sysReq s (fun t => t.mode = DRAIN ∧ t.rst.serves = [.swSys])) ∧
  (∀ s : State, s.mode = HELD →
    Answers .sysReq s (fun t => .swSys ∈ t.rst.asserted ∧ t.rst.reach = max s.rst.reach 2)) ∧
  (∀ (target gen : Nat) (s : State), s.forwarding = true → s.cmdMine target = true →
    Answers (.chainSysReset target gen) s (fun t => t.mode = DRAIN ∧ t.rst.serves = [.chainSys] ∧
      .chainDown 6 0 0 (cmdBytes 2 target gen) ∈ t.out)) ∧
  (∀ s : State, s.forwarding = true → s.get F.KV_THERM_STAT_state ≠ 5 →
    Answers .ripcordTrip s (fun t => t.mode = DRAIN ∧ t.rst.serves = [.ripcord] ∧
      t.get F.KV_THERM_STAT_state = 5 ∧ .thermtrip true ∈ t.out))

/-- In LOAD with a flash boot source and no probation, a COMMITTED bank A that passes the check, the other bank
being none, is booted: the mode becomes TRAIN, the bank in use is A, and the image run is the bank's. With no
COMMITTED bank the load fails, which asserts its reset source. A host's image that passes is booted in the same way
where host load is available. At 900 ms in LOAD the endpoint stops answering Request Retry Status, and nothing else
changes. (R35, R678, R707, R708, R713, R714, R715) -/
def Obligations.TheLoaderBootsAnImageIntoTrain : Prop :=
  (∀ (readErr : Nat) (s : State), s.flashLoad = true → s.rec0.fails < 3 → s.rec0.prob = none → s.sramBad = [] →
    s.boot.bankA.state = 0x1F → s.boot.bankB.state ≠ 0x1F → bitOf readErr 0 = false →
    imageCheck allTypes false s.boot.bankA.image = 0 →
    Answers (.loadImageDone readErr) s (fun t => t.mode = TRAIN ∧ t.boot.image = s.boot.bankA.image ∧
      t.get F.KV_BOOT_STAT_bank = 0)) ∧
  (∀ (readErr : Nat) (s : State), s.flashLoad = true → s.rec0.fails < 3 → s.rec0.prob = none → s.sramBad = [] →
    s.boot.bankA.state ≠ 0x1F → s.boot.bankB.state ≠ 0x1F →
    Answers (.loadImageDone readErr) s (fun t => .loadFail ∈ t.rst.asserted ∧ t.rst.exit = none)) ∧
  (∀ (length : Nat) (im : Image) (s : State), s.hostLoads = true → s.mayIssue 0 = true →
    imageCheck allTypes false (some im) = 0 →
    Answers (.hostloadGo length (some im)) s (fun t => t.mode = TRAIN ∧ t.boot.image = some im)) ∧
  (∀ s : State, s.mode = LOAD → s.boot.loadAt + 900000000 ≤ s.up →
    Answers .rrsTimeout s (fun t => t.boot = { s.boot with rrs := false } ∧
      t = { s.settled t with boot := t.boot } ∧ RegsBut [] s t))

/-- When every training has ended TRAIN leads to RAISE and the steps of RAISE begin. Each step of bring-up is
followed by the next, the steps that only power a SerDes group changing nothing else. The last step leads to
PROBATION for a probation that resumes, to SAFE with the fallback firmware, and otherwise to RUN or DEGRADED. The
one order of the steps is the model's (log 102). (R35, R36, R710, R736, R773) -/
def Obligations.BringUpPassesFromTrainToTheModesThatForward : Prop :=
  (∀ s : State, s.mode = TRAIN →
    Answers .trainingComplete s (fun t => t.mode = RAISE ∧ t.boot.bringup = 100 ∧ t.mc.starting = true)) ∧
  (∀ s : State, s.mode = TRAIN → 1 ≤ s.boot.bringup → s.boot.bringup ≤ 72 → s.standalone = false →
    Answers .bringupStep s (fun t => t.boot = { s.boot with bringup := s.boot.bringup + 1 } ∧
      t = { s.settled t with boot := t.boot } ∧ RegsBut [] s t)) ∧
  (∀ s : State, s.mode = RAISE → 100 ≤ s.boot.bringup → s.boot.bringup ≤ 131 →
    Answers .bringupStep s (fun t => t.boot.bringup = s.boot.bringup + 1)) ∧
  (∀ s : State, s.mode = RAISE → s.boot.bringup = 132 →
    Answers .bringupStep s (fun t => t.boot.bringup = 133 ∧
      (s.boot.resume = true → s.rec0.prob.isSome = true → t.mode = PROBATION) ∧
      (s.boot.resume = false → s.flag F.KV_MODE_fallback = true → t.mode = SAFE) ∧
      (s.boot.resume = false → s.flag F.KV_MODE_fallback = false → t.mode = RUN ∨ t.mode = DEGRADED)))

/-- An HDR that passes the header check on a free port starts a transfer, is relayed, and leaves the inactive bank
EMPTY but where the image is booted from staging; one that fails is relayed with its status kept for END; one on a
busy port is answered BUSY and changes nothing. A DATA frame in order is staged. An END that closes a body with
matching CRC and length that passes its checks keeps the image for programming. An ABORT ends the transfer and is
relayed. (R758, R759, R760, R761, R762, R763, R764, R765) -/
def Obligations.ATransferIsTakenFrameByFrame : Prop :=
  (∀ (xfer : Nat) (h : ImgHdr) (s : State), s.awake = true → s.fw.linkUp = true → s.chainBusy = false →
    s.hdrRefusal h = 0 →
    Answers (.chainHdr xfer true h) s (fun t => t.fw.step = .receiving ∧ t.fw.hdr = some h ∧ t.fw.staged = [] ∧
      t.get F.KV_FW_XFER_xfer_id = xfer % 2 ^ 16 ∧ .chainDown 0 (xfer % 2 ^ 16) 0 [] ∈ t.out ∧
      (s.chainBoot = false → t.bank s.inactiveBank = bank0))) ∧
  (∀ (xfer : Nat) (h : ImgHdr) (s : State), s.awake = true → s.fw.linkUp = true → s.chainBusy = false →
    s.hdrRefusal h ≠ 0 →
    Answers (.chainHdr xfer true h) s (fun t => t.fw.step = .relaying (s.hdrRefusal h) ∧ t.boot = s.boot ∧
      .chainDown 0 (xfer % 2 ^ 16) 0 [] ∈ t.out)) ∧
  (∀ (xfer : Nat) (ok : Bool) (h : ImgHdr) (s : State), s.awake = true → s.fw.linkUp = true → s.chainBusy = true →
    Answers (.chainHdr xfer ok h) s (fun t => .chainUp 4 s.chainPos xfer (statusWord false 5 0) ∈ t.out ∧
      OnlyRegs [] s t)) ∧
  (∀ (xfer : Nat) (bytes : List Byte) (s : State), s.xferIs xfer = true → s.fw.step = .receiving →
    Answers (.chainData xfer s.fw.nextSeq true bytes) s (fun t => t.fw.nextSeq = s.fw.nextSeq + 1 ∧
      t.fw.staged = s.fw.staged ++ bytes ∧ t.fw.step = .receiving ∧ RegsBut [regAddr R.KV_FW_SEND_CTL 0 0] s t)) ∧
  (∀ (xfer : Nat) (h : ImgHdr) (c : ImgContent) (s : State), s.xferIs xfer = true → s.fw.step = .receiving →
    s.fw.hdr = some h → h.bodyCrc = crc32 s.fw.staged → bodyCheck h c = 0 → s.chainBoot = false →
    Answers (.chainEnd xfer s.fw.nextSeq true s.fw.staged.length (crc32 s.fw.staged) c) s (fun t =>
      t.fw.stagedImg = some ⟨h, c⟩ ∧ t.fw.step = (if s.fw.erased then .programming else .ended) ∧
      RegsBut [regAddr R.KV_FW_SEND_CTL 0 0] s t)) ∧
  (∀ (xfer reason : Nat) (s : State), s.xferIs xfer = true →
    Answers (.chainAbort xfer reason) s (fun t => t.fw.step = .idle ∧ t.fw.hdr = none ∧ t.fw.staged = [] ∧
      .chainDown 3 (s.get F.KV_FW_XFER_xfer_id) s.fw.nextSeq [BitVec.ofNat 8 reason] ∈ t.out ∧
      RegsBut [regAddr R.KV_FW_SEND_CTL 0 0] s t))

/-- A programming step that ends well leaves the staged image in the inactive bank, in the state of the mode; its
read-back ends the transfer; a flash step that fails leaves the bank EMPTY and ends it. A STATUS is counted at the
head and relayed elsewhere. Credit rises to at most 32. A chain core reset addressed to the module asserts its
source and is relayed. The link coming up gives the position, and going down ends a transfer. At the head a
transfer of a host's image starts with a read of it and a relayed HDR of the next number. (R757, R758, R759, R760,
R761, R764, R765, R766, R767, R768, R816) -/
def Obligations.FlashStepsAndTheChainLink : Prop :=
  (∀ s : State, s.awake = true → s.fw.step = .programming → s.fw.erased = true →
    Answers (.flashOpDone true) s (fun t => t.bank s.inactiveBank = ⟨s.writtenState, s.fw.stagedImg⟩ ∧
      t.fw = { s.fw with step := .reading } ∧ RegsBut [] s t)) ∧
  (∀ s : State, s.awake = true → s.fw.step = .reading → s.fw.erased = true →
    Answers (.flashOpDone true) s (fun t => t.fw.step = .idle ∧ t.flag F.KV_FW_EVT_staged = true ∧ t.boot = s.boot)) ∧
  (∀ s : State, s.awake = true → s.flashBusy = true →
    Answers (.flashOpDone false) s (fun t => t.bank s.inactiveBank = bank0 ∧ t.fw.step = .idle)) ∧
  (∀ (xfer pos status gen : Nat) (ack : Bool) (s : State), s.awake = true → s.isHead = false →
    Answers (.chainStatus xfer pos ack status gen) s (fun t =>
      .chainUp 4 pos xfer (statusWord ack status gen) ∈ t.out ∧ OnlyRegs [] s t)) ∧
  (∀ (xfer pos status gen : Nat) (s : State), s.awake = true → s.isHead = true →
    Answers (.chainStatus xfer pos true status gen) s (fun t =>
      t.get F.KV_FW_XFER_acks = satAdd (2 ^ F.KV_FW_XFER_acks.w - 1) (s.get F.KV_FW_XFER_acks) 1 ∧
      pos ∈ t.fw.statusFrom)) ∧
  (∀ (n : Nat) (s : State), s.awake = true → s.fw.relayQ = [] →
    Answers (.chainCredit n) s (fun t => t.fw = { s.fw with credit := min 32 (s.fw.credit + n) } ∧ RegsBut [] s t)) ∧
  (∀ (target gen : Nat) (s : State), s.awake = true → s.cmdMine target = true →
    Answers (.chainCoreReset target gen) s (fun t => .chainCore ∈ t.rst.asserted ∧
      t.rst.reach = max s.rst.reach 1 ∧ .chainDown 6 0 0 (cmdBytes 1 target gen) ∈ t.out)) ∧
  (∀ (upstream : Nat) (s : State), s.awake = true →
    Answers (.chainLinkUp upstream) s (fun t => t.fw = { s.fw with linkUp := true } ∧
      t.chainPos = (if s.isHead then 0 else upstream + 1) % 2 ^ F.KV_FW_XFER_position.w ∧
      RegsBut [regAddr R.KV_FW_XFER 0 0] s t)) ∧
  (∀ s : State, s.awake = true →
    Answers .chainLinkDown s (fun t => t.fw.linkUp = false ∧ t.fw.step = .idle)) ∧
  (∀ (length : Nat) (im : Image) (body : List Byte) (s : State), s.awake = true → s.isHead = true →
    s.chainBusy = false →
    Answers (.fwSendGo length im body) s (fun t =>
      t.get F.KV_FW_XFER_xfer_id = (s.get F.KV_FW_XFER_xfer_id + 1) % 2 ^ 16 ∧
      .dmaRead 0 0 (s.get F.KV_FW_SEND_ADDR_addr) length ∈ t.out ∧
      .chainDown 0 ((s.get F.KV_FW_XFER_xfer_id + 1) % 2 ^ 16) 0 [] ∈ t.out))

/-- An activation that is not refused, asked for by a keyed write or by a chain command naming the staged
generation, puts the inactive bank in TRIAL, records the probation with its window, asserts the activation source
and enters PROBATION; a refused one records its status and changes nothing else. Confirmation by the ACTIVE
controller commits the trial bank, ends probation, and leads out of PROBATION; in another mode the mode stays.
(R35, R44, R678, R757, R766, R769, R770, R771) -/
def Obligations.ActivationConfirmationAndFallback : Prop :=
  (∀ (im : Image) (s : State), s.awake = true → s.actRefusal = 0 → (s.bank s.inactiveBank).image = some im →
    Answers .fwActivate s (fun t => t.mode = PROBATION ∧ (t.bank s.inactiveBank).state = 0x3F ∧
      t.rec0.prob = some ⟨s.inactiveBank, probationSecs im.hdr, 1 - s.fw.running⟩ ∧ .activation ∈ t.rst.asserted)) ∧
  (∀ s : State, s.awake = true → s.actRefusal ≠ 0 →
    Answers .fwActivate s (fun t => t.get F.KV_FW_STAT_act_err = s.actRefusal ∧
      OnlyRegs [regAddr R.KV_FW_STAT 0 0] s t)) ∧
  (∀ (target : Nat) (im : Image) (s : State), s.awake = true → s.cmdMine target = true → s.actRefusal = 0 →
    (s.bank s.inactiveBank).image = some im →
    Answers (.chainActivate target im.hdr.generation) s (fun t => t.mode = PROBATION ∧
      (t.bank s.inactiveBank).state = 0x3F ∧ .activation ∈ t.rst.asserted ∧
      .chainDown 6 0 0 (cmdBytes 3 target im.hdr.generation) ∈ t.out)) ∧
  (∀ (p : ProbRec) (s : State), s.activeMc.isSome = true → s.probRuns = true → s.rec0.prob = some p → s.live = true →
    Answers (.fwConfirm 2) s (fun t => (t.bank p.bank).state = 0x1F ∧ t.rec0.prob = none ∧
      t.get F.KV_MODE_probation_left = 0 ∧ t.flag F.KV_FW_EVT_confirmed = true ∧
      (s.mode = PROBATION → t.mode = RUN ∨ t.mode = DEGRADED) ∧
      (s.mode ≠ PROBATION → s.mode ≠ RUN → s.mode ≠ DEGRADED → t.mode = s.mode)))

/-- Between two islands: the acknowledge of a crossing in REQ leads to ACK; its fall leads to IDLE, or to REQ again
with the pending event and its merge count; events offered while one is pending merge into it. A data crossing
takes the entries that its FIFO has room for, overwriting none, and its reader takes the oldest. A crossing that
has made no progress for xing_timeout_us, in REQ or ACK or with entries held, goes to TIMEOUT, loses what it held,
counts it at the sending island and raises xing_timeout. Once timed out it resynchronises to IDLE. Nothing else
changes. (How many events or entries arrive is the command's operand: log 116; the FIFO's depth is open: log 145.)
(R721, R722, R723, R726, R727, R728) -/
def Obligations.CrossingsHandshakeMergeTimeOutAndResync : Prop :=
  (∀ (src dst n : Nat) (s : State), xingIs src dst = true →
    ((s.xingOffer (xingNo false src dst) n).xing (xingNo false src dst)).st = .req →
    Answers (.xingAcknowledge false src dst ⟨n, true⟩) s (fun t =>
      t.xing (xingNo false src dst) =
        { (s.xingOffer (xingNo false src dst) n).xing (xingNo false src dst) with st := .ack, at' := s.up } ∧
      t = { s.settled t with pwr := t.pwr } ∧ RegsBut [regAddr R.KV_ISL_XING src 0] s t)) ∧
  (∀ (src dst : Nat) (s : State), xingIs src dst = true → (s.xing (xingNo false src dst)).st = .ack →
    Answers (.xingAcknowledge false src dst ⟨0, false⟩) s (fun t =>
      t.xing (xingNo false src dst) =
        (if (s.xing (xingNo false src dst)).pend then { xing0 with st := .req, at' := s.up } else xing0) ∧
      ((s.xing (xingNo false src dst)).pend = true → t.get F.KV_ISL_XING_max_merge src =
        max (s.get F.KV_ISL_XING_max_merge src) (s.xing (xingNo false src dst)).merge % 2 ^ 8) ∧
      t = { s.settled t with pwr := t.pwr } ∧ RegsBut [regAddr R.KV_ISL_XING src 0] s t)) ∧
  (∀ (src dst n : Nat) (s : State), xingIs src dst = true → (s.xing (xingNo false src dst)).st = .req →
    (s.xing (xingNo false src dst)).pend = true → s.flag F.KV_ISL_CTL_merge_cnt_en src = true → 0 < n →
    Answers (.xingAcknowledge false src dst ⟨n, false⟩) s (fun t =>
      t.xing (xingNo false src dst) =
        { s.xing (xingNo false src dst) with merge := min 255 ((s.xing (xingNo false src dst)).merge + n) } ∧
      t = { s.settled t with pwr := t.pwr } ∧ RegsBut [] s t)) ∧
  (∀ (src dst n w : Nat) (high : Bool) (s : State), xingIs src dst = true → (s.xing (xingNo true src dst)).st = .idle →
    w = (s.xing (xingNo true src dst)).wr + min n (Config.xingDepth (xingNo true src dst) -
      ((s.xing (xingNo true src dst)).wr - (s.xing (xingNo true src dst)).rd)) →
    Answers (.xingAcknowledge true src dst ⟨n, high⟩) s (fun t => (t.xing (xingNo true src dst)).wr = w ∧
      (t.xing (xingNo true src dst)).rd = (s.xing (xingNo true src dst)).rd +
        (if high = true ∧ (s.xing (xingNo true src dst)).rd < w then 1 else 0) ∧
      t = { s.settled t with pwr := t.pwr } ∧ RegsBut [] s t)) ∧
  (∀ (data : Bool) (src dst n : Nat) (s : State), xingIs src dst = true →
    (s.xingArrive data (xingNo data src dst) n).xingStuck (xingNo data src dst) = true →
    Answers (.xingTimeout data src dst n) s (fun t => t.xing (xingNo data src dst) = { xing0 with st := .timeout } ∧
      t.get F.KV_ISL_XING_lost_events src = min 65535 (s.get F.KV_ISL_XING_lost_events src +
        xingHeld ((s.xingArrive data (xingNo data src dst) n).xing (xingNo data src dst))) ∧
      t.flag F.KV_PWR_EVT_xing_timeout = true ∧ t = { s.settled t with pwr := t.pwr } ∧
      RegsBut [regAddr R.KV_ISL_XING src 0, regAddr R.KV_PWR_EVT 0 0] s t)) ∧
  (∀ (data : Bool) (src dst : Nat) (s : State), xingIs src dst = true →
    (s.xing (xingNo data src dst)).st = .timeout →
    Answers (.xingResync data src dst 0) s (fun t => t.xing (xingNo data src dst) = xing0 ∧
      t = { s.settled t with pwr := t.pwr } ∧ RegsBut [] s t))

/-- A step of the loop of an island in service with too little slack raises its voltage by one step while that is
below the highest, and at the highest voltage lowers its frequency by one step while the floor allows. A droop
lowers the frequency of the island by one step and raises the event. A rail that has completed the voltage it still
wants has no request under way. Only the island's status and the events change. (R732, R733, R734, R820) -/
def Obligations.AvfsStepsFollowTheSlack : Prop :=
  (∀ (i slack : Nat) (s : State), s.live = true → i < 68 → s.isOn i = true → s.flag F.KV_ISL_CTL_avfs_en i = true →
    slack < 15 → s.islMv i < 800 →
    Answers (.avfsStep i slack) s (fun t => t.islMv i = s.islMv i + 5 ∧ t.get F.KV_ISL_STAT_margin_ps i = slack ∧
      t.get F.KV_ISL_STAT_f_mhz i = s.get F.KV_ISL_STAT_f_mhz i ∧
      t = { s.settled t with pwr := t.pwr } ∧ RegsBut [regAddr R.KV_ISL_STAT i 0] s t)) ∧
  (∀ (i slack : Nat) (s : State), s.live = true → i < 68 → s.isOn i = true → s.flag F.KV_ISL_CTL_avfs_en i = true →
    slack < 15 → 800 ≤ s.islMv i → lowestMHz i true + 25 ≤ s.get F.KV_ISL_STAT_f_mhz i →
    Answers (.avfsStep i slack) s (fun t => t.islMv i = s.islMv i ∧
      t.get F.KV_ISL_STAT_f_mhz i = s.get F.KV_ISL_STAT_f_mhz i - 25 ∧
      t = { s.settled t with pwr := t.pwr } ∧ RegsBut [regAddr R.KV_ISL_STAT i 0] s t)) ∧
  (∀ (i : Nat) (s : State), s.awake = true → i < 68 → s.isOn i = true → s.flag F.KV_ISL_CTL_avfs_en i = true →
    lowestMHz i false + 25 ≤ s.get F.KV_ISL_STAT_f_mhz i →
    Answers (.droopDetect i) s (fun t => t.get F.KV_ISL_STAT_f_mhz i = s.get F.KV_ISL_STAT_f_mhz i - 25 ∧
      t.flag F.KV_PWR_EVT_droop = true ∧
      OnlyRegs [regAddr R.KV_ISL_STAT i 0, regAddr R.KV_PWR_EVT 0 0] s t)) ∧
  (∀ (rail : Nat) (s : State), thas s.pwr.avsDue rail = true →
    Answers (.avsComplete rail (s.railWant rail)) s (fun t => thas t.pwr.avsDue rail = false ∧
      t = { s.settled t with pwr := { s.pwr with avsDue := t.pwr.avsDue } } ∧ RegsBut [] s t))

/-- An estimate is shown; at or below 1,350 W it earns 2 µs of credit up to 50 ms, above it spends 20 µs, raises
over_tdp with no island in updraft, and where that ends the credit raises credit_empty, takes every island out of
updraft and bars it until the credit is back at 10 ms. A cluster island out of updraft whose ports hold more than
64 KiB enters it when it is allowed, and shows that. One in updraft leaves it, for its nominal frequency or below,
once the buffers have been low for 10 µs or it is allowed no longer; before, nothing changes. (R738, R739, R740,
R741, R743) -/
def Obligations.TheEstimateAndUpdraftFollowTheCredit : Prop :=
  (∀ (watts : Nat) (s : State), s.awake = true →
    Answers (.powerEstimate watts) s (fun t => t.get F.KV_PWR_STAT_power_w = watts % 2 ^ 11 ∧
      (watts ≤ 1350 → t.pwr.creditUs = min 50000 (s.pwr.creditUs + 2) ∧
        t.pwr.barred = (s.pwr.barred && decide (t.pwr.creditUs < 10000))) ∧
      (1350 < watts → t.pwr.creditUs = s.pwr.creditUs - 20 ∧
        (s.anyUpdraft = false → t.flag F.KV_PWR_EVT_over_tdp = true) ∧
        (s.pwr.creditUs ≤ 20 → t.pwr.barred = true ∧ t.anyUpdraft = false) ∧
        (0 < s.pwr.creditUs → s.pwr.creditUs ≤ 20 → t.flag F.KV_PWR_EVT_credit_empty = true)) ∧
      t = { s.settled t with pwr := t.pwr })) ∧
  (∀ (cl est : Nat) (s : State), s.live = true → cl < 16 → s.isOn (cl + 1) = true → s.inUpdraft (cl + 1) = false →
    (65536 < s.inbufBytes (2 * cl) ∨ 65536 < s.inbufBytes (2 * cl + 1)) → s.updraftAllowed cl est = true →
    Answers (.updraftEnter cl est) s (fun t => t.inUpdraft (cl + 1) = true ∧ t.flag F.KV_AGE_UPD_aged_out cl = false ∧
      t = { s.settled t with pwr := { s.pwr with updraftAt := tset s.pwr.updraftAt cl s.up } } ∧
      RegsBut [regAddr R.KV_ISL_STAT (cl + 1) 0, regAddr R.KV_AGE_UPD cl 0] s t)) ∧
  (∀ (cl : Nat) (s : State), cl < 16 → s.inUpdraft (cl + 1) = true →
    (s.inbufLow cl = true ∨ s.updraftAllowed cl (s.get F.KV_PWR_STAT_power_w) = false) →
    Answers (.updraftExit cl) s (fun t => t.inUpdraft (cl + 1) = false ∧
      t.get F.KV_ISL_STAT_f_mhz (cl + 1) = min (s.get F.KV_ISL_STAT_f_mhz (cl + 1)) 1250 ∧
      t = { s.settled t with pwr := { s.pwr with updraftAt := tdel s.pwr.updraftAt cl } } ∧
      RegsBut [regAddr R.KV_ISL_STAT (cl + 1) 0] s t)) ∧
  (∀ (cl : Nat) (s : State), s.inbufLow cl = false → s.updraftAllowed cl (s.get F.KV_PWR_STAT_power_w) = true →
    Answers (.updraftExit cl) s (fun t => OnlyRegs [] s t))

/-- A save of the aging counters appends to the flash event log one record, of the time outside OFF and of each
island's time in updraft, and changes nothing else. A reading of the sensors shows the junction temperature of each
die, that of its highest valid sensor, and moves the thermal state up through every threshold reached and down
through every one that it has fallen 3 °C below, but not out of the ripcord's state. From HOT on no island is in
updraft. (R742, R744, R745, R746) -/
def Obligations.AgingIsSavedAndReadingsMoveTheThermalState : Prop :=
  (∀ s : State, s.awake = true →
    Answers .ageCounterSave s (fun t => t.boot.eventLog = s.boot.eventLog ++
        [1 :: BitVec.ofNat 64 (s.get F.KV_AGE_ON_on_s) ::
          (List.range 16).map (fun c => BitVec.ofNat 64 (s.get F.KV_AGE_UPD_upd_s c))] ∧
      t = { s.settled t with boot := { s.boot with eventLog := t.boot.eventLog } } ∧ RegsBut [] s t)) ∧
  (∀ (temps : List Int) (valid : List Bool) (s : State), s.awake = true →
    Answers (.sensorRead temps valid) s (fun t =>
      t.get F.KV_THERM_STAT_tj_tf = unsgn 8 (dieTj temps valid false).2 ∧
      t.get F.KV_THERM_STAT_tj_dt = unsgn 8 (dieTj temps valid true).2 ∧
      (s.therm = 5 → t.therm = 5) ∧
      (s.therm ≠ 5 → t.therm = thermDown (max (dieTj temps valid false).2 (dieTj temps valid true).2) 5
          (thermUp (max (dieTj temps valid false).2 (dieTj temps valid true).2) 5 s.therm) ∧
        (2 ≤ t.therm → t.anyUpdraft = false))))

/-- A reset request of a block in service that nothing refuses isolates it and starts its stop; a refused one shows
the refusal and changes nothing else. A write of enable starts a block that is OFF and turns one in RESET off. A
stopped block starts again under its enable and is OFF without it, with the transfers that its wrapper ended
counted. A started block is in service, and the event says so. Without lock for its millisecond it fails, or runs
UNSTABLE under force_rel. A block that reports no idle shows the timeout. (R69, R690, R691, R692, R693, R694, R695)
-/
def Obligations.BlocksStopStartAndTimeOut : Prop :=
  (∀ (i : Nat) (s : State), s.awake = true → i < 68 → s.blockRuns i = true → s.blockRefusal i = 0 →
    Answers (.blockResetReq i) s (fun t => t.blk i = 1 ∧ t.flag F.KV_BLK_STAT_isolated i = true ∧
      t.get F.KV_BLK_STAT_result i = 0 ∧ t.flag F.KV_BLK_CTL_reset_req i = true)) ∧
  (∀ (i : Nat) (s : State), s.awake = true → i < 68 → s.blockRuns i = true → s.blockRefusal i ≠ 0 →
    Answers (.blockResetReq i) s (fun t => t.blk i = s.blk i ∧ t.get F.KV_BLK_STAT_result i = s.blockRefusal i ∧
      t.get F.KV_BLK_CTL_reset_req i = 0 ∧
      OnlyRegs [regAddr R.KV_BLK_STAT i 0, regAddr R.KV_BLK_CTL i 0] s t)) ∧
  (∀ (i : Nat) (s : State), s.awake = true → i < 68 → s.blk i = 4 →
    Answers (.blockEnableWrite i true) s (fun t => t.blk i = 3 ∧ t.flag F.KV_BLK_CTL_enable i = true ∧
      t = { s.settled t with rst := { s.rst with blkAt := tset s.rst.blkAt i s.up } } ∧
      RegsBut [regAddr R.KV_BLK_STAT i 0, regAddr R.KV_BLK_CTL i 0] s t)) ∧
  (∀ (i : Nat) (s : State), s.awake = true → i < 68 → s.blk i = 2 →
    Answers (.blockEnableWrite i false) s (fun t => t.blk i = 4 ∧ t.flag F.KV_BLK_CTL_enable i = false ∧
      OnlyRegs [regAddr R.KV_BLK_STAT i 0, regAddr R.KV_BLK_CTL i 0] s t)) ∧
  (∀ (i errored : Nat) (s : State), s.awake = true → i < 68 → s.blk i = 1 → s.planeNamed i = false →
    Answers (.blockStopDone i errored) s (fun t => t.get F.KV_BLK_STAT_errored i =
        min 65535 (s.get F.KV_BLK_STAT_errored i + errored) ∧
      t.flag F.KV_BLK_STAT_isolated i = true ∧
      ((t.flag F.KV_BLK_CTL_enable i = true ∧ t.blk i = 3) ∨ (t.flag F.KV_BLK_CTL_enable i = false ∧ t.blk i = 4)))) ∧
  (∀ (i : Nat) (s : State), s.awake = true → i < 68 → s.blk i = 3 → s.flag F.KV_BLK_CTL_enable i = true →
    Answers (.blockStartDone i) s (fun t => t.isOn i = true ∧ t.get F.KV_BLK_CTL_reset_req i = 0 ∧
      t.flag F.KV_RST_EVT_block_done = true ∧ t.flag F.KV_BLK_STAT_isolated i = false)) ∧
  (∀ (i : Nat) (s : State), s.awake = true → i < 68 → s.blk i = 3 → s.blkFor i 1000000 = true →
    Answers (.blockLockTimeout i) s (fun t =>
      (s.flag F.KV_BLK_CTL_force_rel i = false → t.blk i = 2 ∧ t.get F.KV_BLK_STAT_result i = 4 ∧
        t.flag F.KV_RST_EVT_lock_fail = true) ∧
      (s.flag F.KV_BLK_CTL_force_rel i = true → t.blk i = 6 ∧ t.flag F.KV_RST_EVT_unstable = true) ∧
      OnlyRegs [regAddr R.KV_BLK_STAT i 0, regAddr R.KV_RST_EVT 0 0] s t)) ∧
  (∀ (i : Nat) (s : State), s.awake = true → i < 68 → s.blk i = 1 → s.flag F.KV_BLK_CTL_quiesce i = true →
    s.blkFor i (1000 * max 1 (s.get F.KV_BLK_CTL_quiesce_us i)) = true →
    Answers (.quiesceTimeout i) s (fun t => t.blk i = 1 ∧ t.get F.KV_BLK_STAT_result i = 3 ∧
      t.flag F.KV_RST_EVT_quiesce_timeout = true ∧
      OnlyRegs [regAddr R.KV_BLK_STAT i 0, regAddr R.KV_RST_EVT 0 0] s t))

/-- A flush adds the accumulator of every backed counter into its total and clears it, changing nothing else but
registers. A tick of a running window moves its counts to a shadow set that ends now, numbers the next window, and
starts it empty. The closure of a shadow set, 1 ms after its tick, ends its settling; an enabled entry with a
ballast ring has its counts kept; while dumps are paused the set waits with nothing written. A write of the arm
register adds bits; those of pending sources are used up at once where MSI is enabled. (R779, R780, R781, R782,
R783, R746, R801, R802) -/
def Obligations.FlushesWindowsAndArming : Prop :=
  (∀ (g flat : Nat) (s : State), s.live = true → 0 < g → flat < 2 ^ 24 →
    Answers .counterFlush s (fun t => t.tlm.accum = [] ∧
      tget t.tlm.totals (cntKey g flat) 0 = tget s.tlm.totals (cntKey g flat) 0 +
        ((s.tlm.accum.filter (fun e => e.1 == cntKey g flat)).map (fun e => e.2)).sum ∧
      t = { s.settled t with
        tlm := { s.tlm with accum := [], totals := t.tlm.totals }
        mem := { s.mem with bq := t.mem.bq, bseq := t.mem.bseq } })) ∧
  (∀ s : State, s.awake = true → s.tlm.running = true → s.tlm.nextB ≤ s.time →
    Answers .windowTick s (fun t => (∃ sh, t.tlm.shadow = some sh ∧
        (s.tlm.shadow = none → s.tlm.unwritten = [] → sh.counts = s.tlm.live) ∧ sh.finish = s.time ∧
        sh.start = s.tlm.start ∧ sh.window = s.get F.KV_TLM_STAT_window) ∧
      t.tlm.live = [] ∧ t.tlm.start = s.time ∧ t.time = s.time ∧
      t.get F.KV_TLM_STAT_window = (s.get F.KV_TLM_STAT_window + 1) % 2 ^ 32)) ∧
  (∀ s : State, s.awake = true → s.tlm.running = false → s.flag F.KV_TLM_CTL_win_en = true → s.tlm.nextB ≤ s.time →
    Answers .windowTick s (fun t => t.tlm.running = true ∧ t.tlm.live = [] ∧ t.tlm.start = s.time ∧
      t.get F.KV_TLM_STAT_window = s.get F.KV_TLM_STAT_window)) ∧
  (∀ (sh : Shadow) (s : State), s.tlm.shadow = some sh → s.tlm.startUp + 1000000 ≤ s.up →
    Answers .shadowClose s (fun t => t.tlm.shadow = none ∧ t.tlm.totals = s.tlm.totals ∧
      t.get F.KV_TLM_STAT_settling = 0 ∧
      (s.dumpsPaused = true → t.tlm.unwritten = s.tlm.unwritten ++ [(0, sh)] ∧ t.tlm.pages = s.tlm.pages))) ∧
  (∀ (sh : Shadow) (n : Nat) (w : Word) (s : State), s.tlm.shadow = some sh → sh.sel = [(n, w)] → sh.bw = none →
    8 ≤ selRing w → s.tlm.startUp + 1000000 ≤ s.up → s.dumpsPaused = false →
    Answers .shadowClose s (fun t => ∃ p, tget? t.tlm.pages n = some p ∧ p.counts = selCounts sh w ∧
      p.window = sh.window ∧ p.start = sh.start)) ∧
  (∀ (v : Word) (s : State), s.awake = true →
    Answers (.evtArmWrite v) s (fun t =>
      (s.msiOn = false → t.get F.KV_EVT_ARM_arm = s.get F.KV_EVT_ARM_arm ||| bits v.toNat 0 32) ∧
      (∀ n < 32, bitOf v.toNat n = true → bitOf (t.get F.KV_EVT_ARM_arm) n = true ∨
        (s.msiOn = true ∧ t.srcPending n = true)) ∧ OnlyRegs [] s t))

/-- The ACTIVE controller's checkpoint has the next number, writes its record into one of two copies (at 0x140 and
0x160: log 21) with the device time in its second word, keeps the snapshot, and moves jidx to the journal's head;
every other retained byte stays. A beat seen on both paths ends the run of missed ones and advances the
controller's word alone; one seen on neither is missed, and the controller is not ready. (R588, R590, R592, R593,
R599) -/
def Obligations.CheckpointsAndBeatsWriteTheRetainedSram : Prop :=
  (∀ (snap : List Word) (s : State), s.activeMc.isSome = true → s.flag F.KV_MC_STAT_handover = false →
    Answers (.checkpoint snap) s (fun t => t.mc.ckptSeq = s.mc.ckptSeq + 1 ∧
      t.mc.snapshots.getD ((s.mc.ckptSeq + 1) % 2) [] = snap ∧ t.eng.jIdx = s.eng.jHead ∧
      t.sramGet (0x140 + 32 * ((s.mc.ckptSeq + 1) % 2) + 8) = BitVec.ofNat 64 s.time ∧
      (∀ a, (a < 0x140 + 32 * ((s.mc.ckptSeq + 1) % 2) ∨ 0x140 + 32 * ((s.mc.ckptSeq + 1) % 2) + 32 ≤ a) →
        tget t.sram a 0 = tget s.sram a 0) ∧
      RegsBut [regAddr R.KV_MC_STAT 0 0] s t)) ∧
  (∀ (m : Nat) (s : State), s.beats m = true →
    Answers (.mcBeat m true true) s (fun t => (t.mcOne m).missed = 0 ∧
      t.sramGet (0x100 + 8 * m) = s.sramGet (0x100 + 8 * m) + 1 ∧
      (∀ a, (a < 0x100 + 8 * m ∨ 0x100 + 8 * m + 8 ≤ a) → tget t.sram a 0 = tget s.sram a 0) ∧ RegsBut [] s t)) ∧
  (∀ (m : Nat) (s : State), s.beats m = true →
    Answers (.mcBeat m false false) s (fun t => (t.mcOne m).missed = (s.mcOne m).missed + 1 ∧ t.mcReady m = false ∧
      t.sram = s.sram ∧ RegsBut [regAddr R.KV_MC_HEALTH m 0] s t))

/-- An explicit fault, or the third beat missed, puts a controller in TESTING, not ready, and starts a ready
partner loading; the one that loads becomes ACTIVE, and the takeover is counted. A STANDBY controller that passes
with every beat seen is ready, one that fails is not; a TESTING one that passes becomes ACTIVE or STANDBY. A
handover gives the controller it names the role ACTIVE, and the other STANDBY (counted as ready: log 22). (R585,
R593, R594, R597, R598, R599, R600, R601) -/
def Obligations.TheBridlePairTakesOverTestsAndHandsOver : Prop :=
  (∀ (m : Nat) (explicit : Bool) (s : State), s.beats m = true → (explicit = true ∨ 3 ≤ (s.mcOne m).missed) →
    Answers (.mcFaultDeclare m explicit) s (fun t => t.role m = 2 ∧ t.mcReady m = false ∧
      t.flag F.TF_TBL_EVT_mc_fault = true ∧
      (s.mcActive m = true → s.role (1 - m) = 1 → s.mcReady (1 - m) = true → s.isOn (28 + (1 - m)) = true →
        (t.mcOne (1 - m)).loading = true ∧ .mcStart (1 - m) ∈ t.out))) ∧
  (∀ (m : Nat) (s : State), m < 2 → (s.mcOne m).loading = true → s.activeMc = none → s.role m = 1 →
    s.isOn (28 + m) = true →
    Answers (.mcTakeoverComplete m) s (fun t => t.role m = 0 ∧ t.mcActive m = true ∧ (t.mcOne m).loading = false ∧
      t.get F.KV_MC_STAT_takeovers =
        satAdd (2 ^ F.KV_MC_STAT_takeovers.w - 1) (s.get F.KV_MC_STAT_takeovers) 1)) ∧
  (∀ (m code : Nat) (s : State), m < 2 → RAISE ≤ s.mode → s.isOn (28 + m) = true → s.role m = 1 →
    Answers (.selftestPassEnd m code) s (fun t => t.role m = 1 ∧
      t.mcReady m = (code == 0 && !(s.mcOne m).beatMiss) ∧ (t.mcOne m).beatMiss = false ∧
      t.flag F.KV_MC_HEALTH_last_pass m = (code == 0))) ∧
  (∀ (m : Nat) (s : State), m < 2 → RAISE ≤ s.mode → s.isOn (28 + m) = true → s.role m = 2 →
    Answers (.selftestPassEnd m 0) s (fun t => t.role m = 0 ∨ (t.role m = 1 ∧ t.mcReady m = true))) ∧
  (∀ (m : Nat) (s : State), m < 2 → s.mc.handTo = some m → s.flag F.KV_MC_STAT_handover = true →
    Answers .handoverComplete s (fun t => t.role m = 0 ∧ t.role (1 - m) = 1 ∧ t.mcReady (1 - m) = true ∧
      t.flag F.KV_MC_STAT_handover = false ∧ t.mc.handTo = none ∧ t.flag F.TF_TBL_EVT_handover = true))

/-- While no operation runs and a controller is ACTIVE, a go latches the arguments, and the operation is busy when
its own checks pass: the switch to a ready controller, a partition that fits, a port group that is down, a pipeline
that has failed. Otherwise a go sets refused and changes nothing else. An unknown operation ends at once with
BAD_OPCODE. EPOCH_QUERY ends with its results, REPARTITION with the new shares in force. (R30, R86, R601, R606,
R620, R621, R623) -/
def Obligations.MailboxOperationsStartEndOrAreRefused : Prop :=
  (∀ (c : Instr) (s : State), s.awake = true → (s.flag F.KV_MBOX_STAT_busy = true ∨ s.activeMc = none) →
    (c = .mcSwitch ∨ c = .epochQuery ∨ c = .queueReset ∨ c = .repartition ∨ c = .portReconfig ∨ c = .pipeRetest ∨
      ∃ op, (op = 0 ∨ 6 < op) ∧ c = .mboxUnknownOp op) →
    Answers c s (fun t => t.flag F.KV_MBOX_STAT_refused = true ∧
      OnlyRegs [regAddr R.KV_MBOX_CMD 0 0, regAddr R.KV_MBOX_STAT 0 0] s t)) ∧
  (∀ (c : Instr) (op : Nat) (s : State), s.awake = true → s.flag F.KV_MBOX_STAT_busy = false →
    s.activeMc.isSome = true →
    ((c = .epochQuery ∧ op = 5) ∨ (c = .queueReset ∧ op = 6) ∨
      (c = .mcSwitch ∧ op = 4 ∧ s.role (1 - s.activeMc.getD 0) = 1 ∧ s.mcReady (1 - s.activeMc.getD 0) = true) ∨
      (c = .repartition ∧ op = 1 ∧ (argShares (s.rd R.KV_MBOX_ARG 0).toNat).sum ≤ 496 ∧
        (s.withShares (argShares (s.rd R.KV_MBOX_ARG 0).toNat)).viewFits s.act = true ∧
        (s.withShares (argShares (s.rd R.KV_MBOX_ARG 0).toNat)).viewFits s.inact = true) ∨
      (c = .pipeRetest ∧ op = 3 ∧ bits (s.rd R.KV_MBOX_ARG 0).toNat 5 3 < 4 ∧
        s.pipeFailed (bits (s.rd R.KV_MBOX_ARG 0).toNat 0 4) (bitOf (s.rd R.KV_MBOX_ARG 0).toNat 4)
          (bits (s.rd R.KV_MBOX_ARG 0).toNat 5 3) = true)) →
    Answers c s (fun t => t.flag F.KV_MBOX_STAT_busy = true ∧ t.get F.KV_MBOX_STAT_cur_op = op ∧
      t.mc.args = (List.range 4).map (fun i => s.rd R.KV_MBOX_ARG i) ∧
      (op = 4 → t.mc.handTo = some (1 - s.activeMc.getD 0)) ∧
      RegsBut [regAddr R.KV_MBOX_CMD 0 0, regAddr R.KV_MBOX_STAT 0 0] s t)) ∧
  (∀ (p code : Nat) (s : State), s.awake = true → s.flag F.KV_MBOX_STAT_busy = false → s.activeMc.isSome = true →
    p = bits (s.rd R.KV_MBOX_ARG 0).toNat 0 5 → code = bits (s.rd R.KV_MBOX_ARG 0).toNat 5 3 → code < 5 →
    (bitOf (s.rd R.KV_MBOX_ARG 0).toNat 8 = true → code < 3) →
    (∀ i < 8, s.present (8 * p + i) = true →
      s.flag F.TF_LPORT_CTL_admin_up (8 * p + i) = false ∧ s.holdsFor (8 * p + i) = false) →
    Answers .portReconfig s (fun t => t.flag F.KV_MBOX_STAT_busy = true ∧ t.get F.KV_MBOX_STAT_cur_op = 2 ∧
      t.flag F.TF_PORT_CFG_reconfig_busy p = true)) ∧
  (∀ (op : Nat) (s : State), s.awake = true → s.flag F.KV_MBOX_STAT_busy = false → s.activeMc.isSome = true →
    (op = 0 ∨ 6 < op) →
    Answers (.mboxUnknownOp op) s (fun t => t.flag F.KV_MBOX_STAT_busy = false ∧
      t.flag F.KV_MBOX_STAT_done = true ∧ t.get F.KV_MBOX_STAT_status = stBadOpcode)) ∧
  (∀ (passed : Bool) (s : State), s.flag F.KV_MBOX_STAT_busy = true → s.activeMc.isSome = true →
    Answers (.mboxOpDone passed) s (fun t =>
      (s.get F.KV_MBOX_STAT_cur_op = 5 → t.flag F.KV_MBOX_STAT_busy = false ∧ t.flag F.KV_MBOX_STAT_done = true ∧
        t.get F.KV_MBOX_STAT_status = 0 ∧
        ∀ i < 4, t.rd R.KV_MBOX_RES i = BitVec.ofNat 64 (s.epochResults.getD i 0)) ∧
      (s.get F.KV_MBOX_STAT_cur_op = 1 → t.flag F.KV_MBOX_STAT_busy = false ∧
        t.tbl.shares = argShares (s.marg 0)) ∧
      (s.get F.KV_MBOX_STAT_cur_op = 3 → t.flag F.KV_MBOX_STAT_busy = false ∧
        t.rd R.KV_MBOX_RES 0 = BitVec.ofNat 64 (b2n passed))))

/-- COMMIT of the queue of the open batch readies it and owes its completion; with none open it completes at once.
An abort, or the idle limit, discards the batch: the inactive view is again the engine's, and the commands are
answered ABORTED. A phase starts between epochs for a ready batch or the engine's own changes. Its steps wait for
the predecessor's retirement, record and fold the shadow, make the view active with the next epoch, and pass the
boundary. The retirement ends the predecessor and frees what it held. An unknown opcode is refused with BAD_OPCODE.
(R239, R242, R243, R604, R608, R613, R615, R616, R617, R619) -/
def Obligations.BatchesOpenCommitAndAbort : Prop :=
  (∀ (c : TCmd) (q : Nat) (s : State), s.fetchable c 0 = true → c.words = [] → s.eng.batchQ = some q →
    Answers (.commit c) s (fun t => t.eng.ready = true ∧ t.eng.owed = s.eng.owed ++ [(c.q, c.tag, none)] ∧
      t.eng.batchQ = some q ∧ RegsBut (tookRegs c) s t)) ∧
  (∀ (c : TCmd) (s : State), s.fetchable c 0 = true → c.words = [] → s.eng.batchQ = none →
    Answers (.commit c) s (fun t => (∀ o ∈ s.cplOuts ⟨c.q, c.tag, stOk, 0, []⟩, o ∈ t.out) ∧
      t.eng = { s.eng with lastQ := c.q, fetchAt := s.up } ∧ RegsBut (tookRegs c) s t)) ∧
  (∀ (c : TCmd) (s : State), s.fetchable c 0 = true → c.words = [] →
    Answers (.batchAbort c) s (fun t => t.eng.batchQ = none ∧
      (s.eng.batchQ.isSome = true → t.inact = s.engV ∧ t.eng.owed = []) ∧ t.act = s.act)) ∧
  (∀ s : State, s.live = true → s.eng.batchQ.isSome = true → s.eng.ready = false → s.eng.phase = 0 →
    s.eng.waiting = none → s.eng.fetchAt + max 1 (s.get F.TF_TBL_CTL_batch_idle_ms) * 1000000 ≤ s.up →
    Answers .batchIdleTimeout s (fun t => t.eng.batchQ = none ∧ t.eng.owed = [] ∧ t.inact = s.engV ∧ t.act = s.act ∧
      t.flag F.TF_TBL_EVT_idle_abort = true)) ∧
  (∀ s : State, s.mayCommit = true → s.journalFull = false →
    (s.eng.ready = true → (∀ j ∈ s.tbl.jobs, j.2 = assocIdle) →
      Answers .commitPhaseStart s (fun t => t.eng = { s.eng with phase := 1, own := false } ∧
        t = { s.settled t with eng := t.eng } ∧ RegsBut [] s t)) ∧
    (s.eng.dirty = true →
      Answers .engineCommit s (fun t => t.eng = { s.eng with phase := 1, own := true } ∧
        t = { s.settled t with eng := t.eng } ∧ RegsBut [] s t))) ∧
  (∀ s : State, s.live = true →
    Answers .commitStepEnd s (fun t =>
      (s.eng.phase = 1 → t.eng.phase = (if s.flag F.TF_EPOCH_old_live then 1 else 2) ∧ t.act = s.act) ∧
      (s.eng.phase = 2 → t.eng.phase = 3 ∧ t.mem.shadow = s.nextView ∧ t.act = s.act) ∧
      (s.eng.phase = 3 → t.eng.phase = 4 ∧ t.act = s.nextView ∧ t.engV = s.nextView ∧
        t.get F.TF_EPOCH_epoch = (s.get F.TF_EPOCH_epoch + 1) % 2 ^ 32 ∧ t.flag F.TF_EPOCH_old_live = true) ∧
      (s.eng.phase = 4 → t.eng.phase = 5 ∧ t.mem.shadow = s.act) ∧
      (s.eng.phase = 5 → t.eng.phase = 6 ∧ t.mem.intact = true) ∧
      (s.eng.phase = 6 → t.eng.phase = 0 ∧ (s.eng.own = false → t.eng.batchQ = none ∧ t.eng.owed = [])))) ∧
  (∀ s : State, s.live = true → s.flag F.TF_EPOCH_old_live = true →
    Answers .epochRetire s (fun t => t.flag F.TF_EPOCH_old_live = false ∧
      t.get F.TF_EPOCH_epoch = s.get F.TF_EPOCH_epoch ∧
      t = { s.settled t with tbl := { s.tbl with
        assoc := s.tbl.assoc.filter (fun p => !p.2.dying), emOld := []
        moves := s.tbl.moves.filter (fun m => !m.live) } } ∧
      RegsBut [regAddr R.TF_EPOCH 0 0] s t)) ∧
  (∀ (op : Nat) (c : TCmd) (s : State), s.fetchable c 0 = true → s.batchIsFull = false → knownOpcodes.contains op = false →
    Answers (.tableUnknownOpcode op c) s (fun t => (∀ o ∈ s.cplOuts ⟨c.q, c.tag, stBadOpcode, 0, []⟩, o ∈ t.out) ∧
      t.inact = s.inact ∧ t.eng.batchQ = s.eng.batchQ ∧ t.eng.owed = s.eng.owed ∧
      t.eng.ready = (c.commit && s.eng.batchQ.isSome) ∧ RegsBut (tookRegs c) s t))

/-- A taken PARSE_STATE, PARSE_TRANS or KEY_TEMPLATE of a legal index and record stores its record; a taken group
command with a legal payload defines, deletes or marks the group (a member rewrite is pending until the commit);
each joins its batch, and only the inactive view's table changes. A parser record with an index out of range is
refused with BAD_KEY. A hash profile's word shows at once and waits for the next commit. A change of a local port's
state changes the LAG groups that name the port, for the engine's commit. (R176, R179, R185, R192, R196, R197,
R199, R202, R203, R204, R206, R213) -/
def Obligations.ParserAndGroupCommandsChangeTheInactiveView : Prop :=
  (∀ (c : TCmd) (s : State), Taken c 3 0 s → pw c 0 < 512 → bits (pw c 1 + pw c 2 * 2 ^ 64) 125 3 = 0 →
    Answers (.parseState c) s (Changes c (fun v => v.setParse (fun p => { p with
      states := tput p.states (pw c 0) (BitVec.ofNat 128 (pw c 1 + pw c 2 * 2 ^ 64)) 0 })) s)) ∧
  (∀ (c : TCmd) (s : State), Taken c 3 0 s → 512 ≤ pw c 0 →
    Answers (.parseState c) s (fun t => (∀ o ∈ s.cplOuts ⟨c.q, c.tag, stBadKey, 0, []⟩, o ∈ t.out) ∧ t.inact = s.inact ∧
      t.eng.owed = s.eng.owed)) ∧
  (∀ (c : TCmd) (s : State), Taken c 3 0 s → pw c 0 < 2048 → bits (pw c 1 + pw c 2 * 2 ^ 64) 73 55 = 0 →
    Answers (.parseTrans c) s (Changes c (fun v => v.setParse (fun p => { p with
      trans := tput p.trans (pw c 0) (BitVec.ofNat 128 (pw c 1 + pw c 2 * 2 ^ 64)) 0 })) s)) ∧
  (∀ (c : TCmd) (x : BitVec 384) (s : State), Taken c 7 0 s → pw c 0 < 16 →
    x = BitVec.ofNat 384 (wordsNat (c.words.drop 1)) →
    tmplOk x (s.flag F.TF_EM_TABLE_learn_en (bits (tmplWord x 0) 26 4)) = true →
    Answers (.keyTemplate c) s (Changes c (fun v => v.setParse (fun p => { p with
      tmpl := tput p.tmpl (pw c 0) x 0 })) s)) ∧
  (∀ (i : Nat) (v : Word) (s : State), s.awake = true → i < 16 →
    Answers (.hashProfWrite i v) s (fun t => t.rd R.TF_HASH_PROF i = v ∧ t.act = s.act ∧
      tget t.inact.parse.hash i 0xFFFFFFFFFFFFFFFF#64 = v ∧ tget t.engV.parse.hash i 0xFFFFFFFFFFFFFFFF#64 = v ∧
      RegsBut [regAddr R.TF_HASH_PROF i 0] s t)) ∧
  (∀ (c : TCmd) (s : State), Taken c (1 + (gsCount c + 1) / 2) 0 s →
    gsReservedOk c (gsCount c) (bitOf (pw c 0) 16) = true → 5 ≤ bits (pw c 0) 18 4 → bits (pw c 0) 18 4 ≤ 12 →
    1 ≤ gsCount c → gsCount c ≤ 512 → gsCount c ≤ 2 ^ bits (pw c 0) 18 4 →
    (bitOf (pw c 0) 16 = false → ∀ m ∈ gsMembers c.words (gsCount c), isFwd s.inact m.entry = true →
      ∀ e, tget? s.inact.nh m.entry = some e → fwKind e ≠ 1) →
    slotsUsed s.inact.groups + 2 ^ bits (pw c 0) 18 4 ≤ s.slotStore →
    Answers (.groupSet c) s (Changes c (fun v => v.setGroups (fun t => tset t (bits (pw c 0) 0 16)
      (gSet (bitOf (pw c 0) 16) (bitOf (pw c 0) 17) (bits (pw c 0) 18 4) (gsMembers c.words (gsCount c))))) s)) ∧
  (∀ (c : TCmd) (s : State), Taken c 1 0 s → pw c 0 < 65536 → thas s.inact.groups (pw c 0) = true →
    groupNamed s.inact (pw c 0) = false →
    Answers (.groupDelete c) s (Changes c (fun v => v.setGroups (fun t => tdel t (pw c 0))) s)) ∧
  (∀ (c : TCmd) (x : Group) (s : State), Taken c 1 0 s → bits (pw c 0) 26 38 = 0 →
    tget? s.inact.groups (bits (pw c 0) 0 16) = some x → bits (pw c 0) 16 9 < x.members.length →
    Answers (.groupMember c) s (fun t => Joins c s t ∧ t.inact = s.inact.setGroups (fun m => tset m (bits (pw c 0) 0 16)
        (groupMember (bits (pw c 0) 16 9) (bitOf (pw c 0) 25) x)) ∧
      t.tbl = { s.tbl with
        batchRewrites := s.tbl.batchRewrites +
          b2n ((x.members[bits (pw c 0) 16 9]?).any (fun y => y.up != bitOf (pw c 0) 25)) } ∧
      RegsBut (tookRegs c) s t)) ∧
  (∀ (l : Nat) (s : State), s.live = true → 0 < lagRewrites s.myId l (s.portUp l) s.engV.groups →
    Answers (.lagMemberRewrite l) s (fun t => t.eng = { s.eng with dirty := true } ∧ t.act = s.act ∧
      t.engV.groups = s.engV.groups.map (fun e => (e.1, lagFollow s.myId l (s.portUp l) e.2)) ∧
      t.inact.groups = s.inact.groups.map (fun e => (e.1, lagFollow s.myId l (s.portUp l) e.2)) ∧
      t.tbl = { s.tbl with rewrites := s.tbl.rewrites + lagRewrites s.myId l (s.portUp l) s.engV.groups } ∧
      RegsBut [] s t))

/-- A taken ROUTE_ADD of a legal prefix, result and reference stores the result, in place of the prefix's old one
or as a new route with room; ROUTE_DELETE removes one that is there; a prefix that is not is refused with
NOT_FOUND. VRF_SET stores its VRF; NH_SET a legal entry that changes no type; NH_DELETE puts an RW or ENCAP entry
that nothing names into quarantine, and removes such a FWD entry at once. Each joins its batch and changes only the
inactive view's table. When its quarantine has lasted nh_quarantine_ms, the index is free in every view. (R221,
R223, R227, R230, R231, R235, R236, R237) -/
def Obligations.RouteAndNextHopCommandsChangeTheInactiveView : Prop :=
  (∀ (c : TCmd) (s : State), Taken c 4 0 s → rpOk c true = true → resultKeyOk (bits (pw c 1) 0 32) = true →
    resultRefOk s.inact (bits (pw c 1) 0 32) = true → s.routePoisoned (rpKey c) = false →
    (thas s.inact.routes (rpKey c) = true →
      Answers (.routeAdd c) s (Changes c (fun v => v.setRoutes (fun t =>
        tset t (rpKey c) (BitVec.ofNat 32 (bits (pw c 1) 0 32)))) s)) ∧
    (thas s.inact.routes (rpKey c) = false →
      routeCharge (tset s.inact.routes (rpKey c) (BitVec.ofNat 32 (bits (pw c 1) 0 32))) ≤ s.routeSLeft →
      s.inact.routes.length < 16777216 →
      Answers (.routeAdd c) s (fun t => Joins c s t ∧ t.inact = s.inact.setRoutes (fun m =>
        tset m (rpKey c) (BitVec.ofNat 32 (bits (pw c 1) 0 32)))))) ∧
  (∀ (c : TCmd) (s : State), Taken c 4 0 s → rpOk c false = true → s.routePoisoned (rpKey c) = false →
    (thas s.inact.routes (rpKey c) = true →
      Answers (.routeDelete c) s (Changes c (fun v => v.setRoutes (fun t => tdel t (rpKey c))) s)) ∧
    (thas s.inact.routes (rpKey c) = false →
      Answers (.routeDelete c) s (fun t => (∀ o ∈ s.cplOuts ⟨c.q, c.tag, stNotFound, 0, []⟩, o ∈ t.out) ∧ t.inact = s.inact ∧
        t.eng.owed = s.eng.owed))) ∧
  (∀ (c : TCmd) (s : State), Taken c 1 0 s → bits (pw c 0) 23 41 = 0 →
    Answers (.vrfSet c) s (Changes c (fun v => { v with
      vrf := tset v.vrf (bits (pw c 0) 0 16) ⟨bitOf (pw c 0) 16, bits (pw c 0) 17 6⟩ }) s)) ∧
  (∀ (c : TCmd) (e : NhEntry) (s : State), Taken c 3 0 s → pw c 0 < s.nhLimit →
    e = ⟨BitVec.ofNat 64 (pw c 1), BitVec.ofNat 64 (pw c 2), false⟩ → nhLayoutOk (pw c 1) (pw c 2) = true →
    (∀ o, tget? s.inact.nh (pw c 0) = some o → o.quar = false ∧ (nhValid o = true → nhType o = nhType e)) →
    s.poisoned pkFwd (pw c 0) = false → s.poisoned pkRw (pw c 0) = false →
    (nhType e = 1 → bitOf (pw c 2) 37 = true → nhIs s.inact.nh (bits (pw c 2) 15 22) 2 = true) →
    (nhType e = 0 → fwKind e = 1 → groupIs s.inact (fwLag e) true = true ∧ ecmpMember s.inact (pw c 0) = false) →
    Answers (.nhSet c) s (Changes c (fun v => v.setNh (fun t => tset t (pw c 0) e)) s)) ∧
  (∀ (c : TCmd) (e : NhEntry) (s : State), Taken c 1 0 s → pw c 0 < 2 ^ 22 → tget? s.inact.nh (pw c 0) = some e →
    e.quar = false → nhValid e = true → nhRouted s.inact (pw c 0) = false →
    s.nhNamed s.inact (pw c 0) = false → rwNames s.inact (pw c 0) = false → egRuns s.inact (pw c 0) = false →
    s.poisoned pkFwd (pw c 0) = false → s.poisoned pkRw (pw c 0) = false →
    Answers (.nhDelete c) s (Changes c (fun v => v.setNh (fun t =>
      if nhType e = 0 then tdel t (pw c 0) else tset t (pw c 0) { e with quar := true })) s)) ∧
  (∀ (i : Nat) (e : NhEntry) (s : State), s.live = true → tget? s.act.nh i = some e → e.quar = true →
    tget s.tbl.quarAt i 0 + max 1100 (s.get F.TF_ROUTE_CTL_nh_quarantine_ms) * 1000000 ≤ s.up →
    Answers (.nhQuarantineExpiry i) s (fun t => tget? t.act.nh i = none ∧ t.act.routes = s.act.routes ∧
      (tget? s.inact.nh i = some e → tget? t.inact.nh i = none) ∧ RegsBut [] s t))

/-- A window shows the percentage of every bank it names, adds the clocks in which any bank delayed a read to
TF_ROUTE_CNT[5] and raises bank_over for them. A window with every bank within balance_high starts no move and ends
every run of hot windows. In the second window in a row above balance_high, with balancing enabled and the chip
cooler than CRITICAL, a bank's group moves to the coolest other bank, or is replicated when it is read more than
1.25 G times a second, and the engine then commits. (Of equally cool banks the lowest takes it: log 132.) (R247,
R248, R249, R251, R257, R259, R260, R261) -/
def Obligations.ABankLoadWindowReportsAndRelieves : Prop :=
  (∀ (loads : List BankLoad) (delayed room : Nat) (s : State), s.live = true →
    Answers (.bankLoadWindow ⟨loads, delayed, room⟩) s (fun t =>
      (∀ b < 1024, ∀ x, loads[b]? = some x →
        t.get F.TF_BANK_STAT_load_pct b = x.pct % 2 ^ F.TF_BANK_STAT_load_pct.w) ∧
      (∀ b < 1024, loads[b]? = none → t.rd R.TF_BANK_STAT b = s.rd R.TF_BANK_STAT b) ∧
      (delayed = 0 → t.rd R.TF_ROUTE_CNT 5 = s.rd R.TF_ROUTE_CNT 5 ∧ t.rd R.TF_ROUTE_EVT = s.rd R.TF_ROUTE_EVT) ∧
      (0 < delayed → t.rd R.TF_ROUTE_CNT 5 = cntAdd (s.rd R.TF_ROUTE_CNT 5) delayed ∧
        t.flag F.TF_ROUTE_EVT_bank_over = true) ∧
      ((∀ x ∈ loads, x.pct ≤ s.balHigh) → t.eng = s.eng ∧ t.tbl = { s.tbl with bankOver := t.tbl.bankOver } ∧
        (s.get F.KV_THERM_STAT_state < 3 → ∀ b < 1024, b < loads.length → tget? t.tbl.bankOver b = none)) ∧
      t.act = s.act ∧ t.inact = s.inact ∧ t.engV = s.engV)) ∧
  (∀ (x y : BankLoad) (g : NodeGroup) (room : Nat) (s : State), s.live = true → s.get F.KV_THERM_STAT_state < 3 →
    s.flag F.TF_ROUTE_CTL_balance_en = true → s.balHigh < x.pct → y.pct ≤ s.balHigh → x.groups = [g] → 0 < room →
    1 ≤ tget s.tbl.bankOver 0 0 → s.flag F.TF_BANK_STAT_retired 0 = false → s.flag F.TF_BANK_STAT_retired 1 = false →
    Answers (.bankLoadWindow ⟨[x, y], 0, room⟩) s (fun t => t.eng = { s.eng with dirty := true } ∧
      (g.rate ≤ 1250 → t.tbl.moves = s.tbl.moves ++ [⟨0, 1, 1, true, false⟩] ∧ t.tbl.copies = s.tbl.copies) ∧
      (1250 < g.rate → t.tbl.moves = s.tbl.moves ++ [⟨0, 1, 1, false, false⟩] ∧
        t.tbl.copies = s.tbl.copies ++ List.replicate (max 2 (min 64 g.copies) - 1) g.bytes)))

/-- A repair takes the oldest poisoned node or entry off the list; of an exact-match bucket it stamps the entries,
counts the repair and raises the event; with nothing poisoned it changes nothing. A command that waited for it is
then applied in its place in the batch. An uncorrectable word is a fault of its bank, and the third within 24 hours
retires the bank; what it held of the route tables then moves away, and the engine commits. A retired bank has no
more faults. (R61, R62, R65, R67, R252, R254, R255, R256, R260, R306) -/
def Obligations.TableBanksAreRepairedScrubbedAndRetired : Prop :=
  (∀ s : State, s.live = true → s.eng.waiting = none →
    (s.tbl.poison = [] → Answers .tableRepair s (OnlyRegs [] s)) ∧
    (∀ p r, s.tbl.poison = p :: r → p.1 ≠ pkEm →
      Answers .tableRepair s (fun t => t = { s.settled t with
          tbl := { s.tbl with poison := r }, mem := { s.mem with bq := t.mem.bq, bseq := t.mem.bseq } } ∧
        RegsBut [] s t)) ∧
    (∀ b r, s.tbl.poison = (pkEm, b) :: r →
      Answers .tableRepair s (fun t => t.poisoned pkEm b = false ∧ t.act.em = stampBucket b s.ageTick s.act.em ∧
        t.rd R.TF_EM_CNT 7 = cntAdd (s.rd R.TF_EM_CNT 7) 1 ∧ t.flag F.TF_EM_EVT_mismatch = true ∧ t.eng = s.eng))) ∧
  (∀ (p : Nat × Nat) (c : TCmd) (s : State), s.live = true → s.tbl.poison = [p] → p.1 = pkRoute →
    s.eng.waiting = some (0x11, c) → rpOk c false = true → thas s.inact.routes (rpKey c) = true →
    Answers .tableRepair s (fun t => t.tbl.poison = [] ∧ t.eng.waiting = none ∧ t.eng.batchQ = some c.q ∧
      t.eng.owed = s.eng.owed ++ [(c.q, c.tag, none)] ∧ t.inact = s.inact.setRoutes (fun m => tdel m (rpKey c)) ∧
      t.act = s.act ∧ t.engV = s.engV ∧ RegsBut [] s t)) ∧
  (∀ (b : Nat) (routes : Bool) (s : State), s.live = true → b < 1024 → s.flag F.TF_BANK_STAT_retired b = false →
    Answers (.tableScrub b (some routes)) s (fun t => tget? t.tbl.bankFaults b = some (s.recentFaults b ++ [s.up]) ∧
      (t.flag F.TF_BANK_STAT_retired b = true ↔ 2 ≤ (s.recentFaults b).length) ∧
      t.get F.DT_GUAR_EVT_unit_kind = 3 ∧ t.get F.DT_GUAR_EVT_unit_index = b ∧
      t.get F.DT_GUAR_EVT_unit_faults = satAdd (2 ^ F.DT_GUAR_EVT_unit_faults.w - 1) (s.get F.DT_GUAR_EVT_unit_faults) 1 ∧
      (s.bankCover = false → t.flag F.DT_GUAR_EVT_double_fault = true ∧ t.flag F.DT_GUAR_EVT_cover_lost = true) ∧
      ((routes = false ∨ (s.recentFaults b).length < 2) →
        t = { s.settled t with tbl := { s.tbl with bankFaults := t.tbl.bankFaults } }) ∧
      (routes = true → 2 ≤ (s.recentFaults b).length → t.flag F.TF_ROUTE_EVT_bank_retired = true ∧
        t.eng = { s.eng with dirty := true } ∧
        ∃ m : NodeMove, t.tbl.moves = s.tbl.moves ++ [m] ∧ m.bank = b ∧ 1 ≤ m.n ∧ m.live = false))) ∧
  (∀ (b : Nat) (routes : Bool) (s : State), s.live = true → b < 1024 → s.flag F.TF_BANK_STAT_retired b = true →
    Answers (.tableScrub b (some routes)) s (OnlyRegs [] s))

/-- A taken EM_ADD of a legal key and result replaces the entry of a key that is there, as host-owned, and places a
new one where the placement rule finds room; EM_DELETE removes an entry. Each joins its batch and changes the store
of the inactive view alone. EM_READ returns the entry in force. EM_FLUSH of a table with no flush in progress joins
the batch; its walk removes every entry that its filter names from the active store, but for those learned behind
it, and then completes. (R270, R274, R275, R276, R277, R278, R279, R280) -/
def Obligations.ExactMatchCommandsChangeTheInactiveView : Prop :=
  (∀ (c : TCmd) (s : State), Taken c 4 0 s → s.epOk c = true → emResultKeyOk (pw c 3) = true →
    (bitOf (pw c 3) 32 = true → resultRefOk s.inact (pw c 3 % 2 ^ 32) = true) →
    s.emPoisoned s.inact (epKey c) = false →
    (∀ e, tget? s.inact.em.ents (epKey c) = some e →
      Answers (.emAdd c) s (Changes c (fun v => v.setEm (fun st => { st with
        ents := tset st.ents (epKey c) { e with
          static := bitOf (pw c 0) 8, learned := false, result := pw c 3, origin := s.myId, time := 0 } })) s)) ∧
    (∀ p, tget? s.inact.em.ents (epKey c) = none →
      s.tableRoom s.inact.em (epTable c) (ekUnits (epKey c)) = true → s.storeRoom s.inact.em (ekUnits (epKey c)) = true →
      emPlace s.inact.em s.seedA s.seedB (epKey c) = some p → s.emBlocked s.inact.em p.store = false →
      Answers (.emAdd c) s (fun t => Joins c s t ∧ t.inact = s.inact.setEm (fun _ => emPut p (epKey c)
        ⟨0, 0, bitOf (pw c 0) 8, false, pw c 3, s.ageTick, s.myId, 0⟩)))) ∧
  (∀ (c : TCmd) (s : State), Taken c 4 0 s → s.epOk c = true → s.emPoisoned s.inact (epKey c) = false →
    thas s.inact.em.ents (epKey c) = true →
    Answers (.emDelete c) s (Changes c (fun v => v.setEm (fun st => { st with ents := tdel st.ents (epKey c) })) s)) ∧
  (∀ (c : TCmd) (s : State), s.fetchable c 4 = true → s.batchIsFull = false → c.words.length = 3 → s.epOk c = true →
    Answers (.emRead c) s (Returns c (s.emReadWords c) s)) ∧
  (∀ (c : TCmd) (s : State), Taken c 1 0 s → bits (pw c 0) 24 40 = 0 → bitOf (pw c 0) 7 = false →
    s.flushing (bits (pw c 0) 0 4) = false →
    Answers (.emFlush c) s (fun t => t.eng.batchQ = some c.q ∧
      t.eng.owed = s.eng.owed ++ [(c.q, c.tag, some (pw c 0))] ∧ t.inact = s.inact ∧ t.act = s.act ∧
      RegsBut (tookRegs c) s t)) ∧
  (∀ (f : EmWalk) (rest : List EmWalk) (s : State), s.eng.flushes = f :: rest →
    Answers .emFlushDone s (fun t => t.eng = { s.eng with flushes := rest } ∧
      (∀ k e, tget? s.act.em.ents k = some e → s.flushHits f.w k e = true → f.behind s.fv k e = false →
        tget? t.act.em.ents k = none) ∧
      (∀ k, (∀ e, (k, e) ∈ s.act.em.ents → s.flushHits f.w k e = false ∨ f.behind s.fv k e = true) →
        tget? t.act.em.ents k = tget? s.act.em.ents k) ∧
      (s.qRuns (128 + f.q) = true → ∀ o ∈ s.cplOuts ⟨f.q, f.tag, stOk, f.epoch, []⟩, o ∈ t.out)))

/-- The sweep of a bucket removes its aged entries from the active store and leaves entries that are not due. A
received record joins the learning queue, a local one with the next sequence number, or is dropped when the queue
is full. An applied record that may refresh its entry stamps it in place with the age tick; a duplicate changes no
entry and is counted. A compare that finds a difference stamps the bucket's entries, mends it and raises the event.
(R285, R287, R295, R296, R297, R298, R305, R306, R308) -/
def Obligations.LearningAgingAndCompareActOnEveryView : Prop :=
  (∀ (b : Nat) (s : State), s.live = true → s.flag F.TF_EM_CTL_sweep_en = true → s.poisoned pkEm b = false →
    Answers (.agingSweep b) s (fun t => t.eng = s.eng ∧
      (∀ k e, tget? s.act.em.ents k = some e → e.bucket = b → s.agedOut k e = true → tget? t.act.em.ents k = none) ∧
      (∀ k, (∀ e, (k, e) ∈ emIn s.act.em b → s.agedOut k e = false) →
        tget? t.act.em.ents k = tget? s.act.em.ents k))) ∧
  (∀ (r : LearnRec) (rest : List LearnRec) (s : State), s.tbl.learnIn = r :: rest →
    Answers .learnRecordReceive s (fun t => t.tbl.learnIn = rest ∧ t.act = s.act ∧
      (s.tbl.learnQ.length < 4096 → r.origin = s.myId → t.tbl.learnSeq = (s.tbl.learnSeq + 1) % 2 ^ 32 ∧
        t.tbl.learnQ = s.tbl.learnQ ++ [{ r with seq := (s.tbl.learnSeq + 1) % 2 ^ 32 }]) ∧
      (s.tbl.learnQ.length < 4096 → r.origin ≠ s.myId → t.tbl.learnQ = s.tbl.learnQ ++ [r] ∧
        t.tbl.learnSeq = s.tbl.learnSeq) ∧
      (4096 ≤ s.tbl.learnQ.length → t.tbl.learnQ = s.tbl.learnQ ∧ t.flag F.TF_EM_EVT_learn_q_full = true))) ∧
  (∀ (r : LearnRec) (rest : List LearnRec) (e : EmEntry) (s : State), s.live = true → s.tbl.learnQ = r :: rest →
    s.emPoisoned s.engV (recKey r) = false →
    (r.origin = s.myId ∨ s.flag F.TF_EM_TABLE_accept_remote r.table = true) →
    (s.isDup r = true →
      (thas s.engV.em.ents (recKey r) = true ∨ s.learnBlocked (recKey r) (s.learnEntry r) = false) →
      Answers .learnRecordApply s (fun t => t.tbl.learnQ = rest ∧ t.act = s.act ∧ t.engV = s.engV)) ∧
    (s.isDup r = false → r.kind = 2 → tget? s.engV.em.ents (recKey r) = some e → tget? s.act.em.ents (recKey r) = some e →
      e.learned = true → e.origin = r.origin →
      isFwd s.act (learnedFwd (s.get F.TF_EM_LEARN_learn_nh_base r.table) r.origin r.lport) = true →
      Answers .learnRecordApply s (fun t => t.tbl.learnQ = rest ∧ tget? t.tbl.lastSeq r.origin = some r.seq ∧
        tget? t.act.em.ents (recKey r) = some { e with stamp := s.ageTick }))) ∧
  (∀ (b : Nat) (s : State), s.live = true → s.flag F.TF_EM_CTL_compare_en = true → s.emPending b = false →
    s.eng.waiting = none →
    Answers (.ballastCompare b true) s (fun t => t.poisoned pkEm b = false ∧ t.eng = s.eng ∧
      t.act.em = stampBucket b s.ageTick s.act.em ∧ t.flag F.TF_EM_EVT_mismatch = true))

/-- A taken CLASS_TREE_SET of a legal payload that keeps the shape of a tree with rules stores the tree;
CLASS_TREE_DELETE removes one that holds no rules and that no profile names; CLASS_RULE_ADD stores a legal rule
that fits, with a number of copies that the spec leaves open (a free value: log 5); CLASS_RULE_DELETE removes one.
CLASS_RULE_READ returns the rule in force. A rebuild is taken up, and once ended waits in the engine's view for a
commit. (R314, R319, R321, R322, R323, R325, R326, R328, R331) -/
def Obligations.ClassificationCommandsChangeTheInactiveView : Prop :=
  (∀ (c : TCmd) (s : State), Taken c 2 0 s → bits (pw c 0) 16 48 = 0 → policyKeyOk (pw c 1) = true →
    s.poisoned pkTree (bits (pw c 0) 0 8) = false →
    (treeBusy s.inact (bits (pw c 0) 0 8) = true → ∀ o, tget? s.inact.trees (bits (pw c 0) 0 8) = some o →
      o = { o with egress := bitOf (pw c 0) 8, keyLen := bits (pw c 0) 9 6, tagEn := bitOf (pw c 0) 15 }) →
    Answers (.classTreeSet c) s (Changes c (fun v => v.setTrees (fun m => tset m (bits (pw c 0) 0 8)
      ⟨bitOf (pw c 0) 8, bits (pw c 0) 9 6, bitOf (pw c 0) 15, pw c 1⟩)) s)) ∧
  (∀ (c : TCmd) (s : State), Taken c 1 0 s → pw c 0 < 256 → thas s.inact.trees (pw c 0) = true →
    treeBusy s.inact (pw c 0) = false → s.treeNamed (pw c 0) = false →
    Answers (.classTreeDelete c) s (Changes c (fun v => v.setTrees (fun m => tdel m (pw c 0))) s)) ∧
  (∀ (c : TCmd) (id : Nat) (tr : Tree) (s : State), Taken c (2 + 3 * rpConds c) 0 s → id = bits (pw c 0) 0 21 →
    bits (pw c 0) 49 15 = 0 → id < maxRules → rpConds c ≤ 8 → policyKeyOk (pw c 1) = true →
    condsReservedOk c.words (rpConds c) = true → tget? s.inact.trees (bits (pw c 0) 21 8) = some tr →
    (ruleConds c.words (rpConds c)).all (condOk tr) = true → policyRefOk s.inact (pw c 1) = true →
    tget? s.inact.rules id = none → s.poisoned pkTree (bits (pw c 0) 21 8) = false →
    copiesUsed s.inact.rules + s.copiesOf ≤ s.copyLimit → s.inact.rules.length < maxRules →
    tooDeep (tr.keyLen + 1) (ruleConds c.words (rpConds c)) (otherRules s.inact (bits (pw c 0) 21 8) id) = false →
    Answers (.classRuleAdd c) s (fun t => Joins c s t ∧ t.fv = s.fv + 1 ∧ t.inact = s.inact.setRules (fun m => tset m id
      ⟨bits (pw c 0) 21 8, bits (pw c 0) 29 16, ruleConds c.words (rpConds c), pw c 1, s.copiesOf⟩))) ∧
  (∀ (c : TCmd) (r : Rule) (s : State), Taken c 1 0 s → pw c 0 < 2 ^ 21 → tget? s.inact.rules (pw c 0) = some r →
    s.poisoned pkTree r.tree = false →
    Answers (.classRuleDelete c) s (Changes c (fun v => v.setRules (fun m => tdel m (pw c 0))) s)) ∧
  (∀ (c : TCmd) (r : Rule) (s : State), s.fetchable c 4 = true → s.batchIsFull = false → c.words.length = 1 →
    pw c 0 < 2 ^ 21 → tget? s.act.rules (pw c 0) = some r →
    Answers (.classRuleRead c) s (Returns c
      [BitVec.ofNat 64 (pw c 0 + r.tree * 2 ^ 21 + r.prio * 2 ^ 29 + r.conds.length * 2 ^ 45),
        BitVec.ofNat 64 r.result, BitVec.ofNat 64 r.copies, BitVec.ofNat 64 (tget s.tlm.totals (cntKey 17 (pw c 0)) 0)] s)) ∧
  (∀ (c : TCmd) (s : State), Taken c 1 0 s → pw c 0 < 256 → thas s.inact.trees (pw c 0) = true →
    copiesUsed s.inact.rules + treeCopies s.inact (pw c 0) ≤ s.copyLimit →
    Answers (.classTreeRebuild c) s (fun t => t.eng.rebuilds = s.eng.rebuilds ++ [(c.q, c.tag, pw c 0, false)] ∧
      t.inact = s.inact ∧ t.act = s.act ∧ RegsBut (tookRegs c) s t)) ∧
  (∀ (r : Nat × Nat × Nat × Bool) (s : State), s.eng.rebuilds.find? (fun r => !r.2.2.2) = some r →
    Answers .rebuildDone s (fun t => t.eng = { s.eng with dirty := true, rebuilds := endRebuild s.eng.rebuilds } ∧
      t.engV = s.engV.setRules (rebuiltRules s.fv r.2.2.1) ∧ t.inact = s.inact.setRules (rebuiltRules s.fv r.2.2.1) ∧
      t.act = s.act ∧ t.fv = s.fv + 1 ∧ RegsBut [] s t))

/-- A taken ASSOC_ADD with a legal payload, an id not in use and room in its bank is placed at once where a
position fits, or begins a shift. ASSOC_SET changes the result at the commit, ASSOC_DELETE marks the entry, which
is seen until then; ASSOC_READ returns the entry that the active epoch sees. The last step of a shift writes the
waiting entry at its place. A rewrite from the ballast ends an entry's exclusion and raises the event. (R341, R342,
R343, R344, R345, R346, R347, R348, R350, R352) -/
def Obligations.AssociativeArrayCommandsPlaceChangeAndShift : Prop :=
  (∀ (c : TCmd) (b : Nat) (e : AssocEntry) (s : State), Taken c 8 0 s → bits (pw c 0) 41 23 = 0 →
    bits (pw c 3) 0 32 = 0 → bits (pw c 6) 0 32 = 0 → policyKeyOk (pw c 7) = true → policyRefOk s.inact (pw c 7) = true →
    s.assocIdBusy (bits (pw c 0) 0 19) = false → b = bits (pw c 0) 19 6 → s.assocHeld b < assocPos →
    s.jobs b = assocIdle →
    e = ⟨bits (pw c 0) 0 19,
      assoc160 (c.words.getD 1 0) (c.words.getD 2 0) (c.words.getD 3 0) &&&
        assoc160 (c.words.getD 4 0) (c.words.getD 5 0) (c.words.getD 6 0),
      assoc160 (c.words.getD 4 0) (c.words.getD 5 0) (c.words.getD 6 0), bits (pw c 0) 25 16, pw c 7,
      true, false, false, false, none⟩ →
    (∀ p, assocPlan s.tbl.assoc b e.prio = some (.inl p) →
      Answers (.assocAdd c) s (fun t => Joins c s t ∧ t.inact = s.inact ∧
        t.tbl.assoc = tset s.tbl.assoc (b * assocPos + p) e ∧ t.jobs b = assocIdle)) ∧
    (∀ sh, assocPlan s.tbl.assoc b e.prio = some (.inr sh) →
      Answers (.assocAdd c) s (fun t => Joins c s t ∧ t.inact = s.inact ∧ t.tbl.assoc = s.tbl.assoc ∧
        t.jobs b = ⟨some sh, [e]⟩))) ∧
  (∀ (c : TCmd) (i : Nat) (e : AssocEntry) (s : State), Taken c 2 0 s → pw c 0 < 2 ^ 19 → policyKeyOk (pw c 1) = true →
    policyRefOk s.inact (pw c 1) = true → s.assocQueued (pw c 0) = false →
    assocFind s.tbl.assoc (pw c 0) = some (i, e) → e.excluded = false → e.fresh = false →
    Answers (.assocSet c) s (fun t => Joins c s t ∧ t.inact = s.inact ∧
      t.tbl = { s.tbl with assoc := tset s.tbl.assoc i { e with newResult := some (pw c 1) } } ∧
      RegsBut (tookRegs c) s t)) ∧
  (∀ (c : TCmd) (i : Nat) (e : AssocEntry) (s : State), Taken c 1 0 s → pw c 0 < 2 ^ 19 →
    s.assocQueued (pw c 0) = false → assocFind s.tbl.assoc (pw c 0) = some (i, e) → e.excluded = false →
    Answers (.assocDelete c) s (fun t => Joins c s t ∧ t.inact = s.inact ∧
      t.tbl = { s.tbl with assoc := tset s.tbl.assoc i { e with deleted := true } } ∧ RegsBut (tookRegs c) s t)) ∧
  (∀ (c : TCmd) (i : Nat) (e : AssocEntry) (s : State), s.fetchable c 9 = true → s.batchIsFull = false →
    c.words.length = 1 → pw c 0 < 2 ^ 19 →
    s.tbl.assoc.find? (fun e => decide (e.2.id = pw c 0) && !e.2.fresh && !e.2.dying) = some (i, e) →
    e.excluded = false → (s.jobs (i / assocPos)).shift = none →
    Answers (.assocRead c) s (Returns c ([BitVec.ofNat 64 (pw c 0 + i / assocPos * 2 ^ 19 + e.prio * 2 ^ 25)] ++
      assocWords e.value ++ assocWords e.mask ++ [BitVec.ofNat 64 e.result, BitVec.ofNat 64 i]) s)) ∧
  (∀ (b : Nat) (sh : AssocShift) (e : AssocEntry) (s : State), s.jobs b = ⟨some sh, [e]⟩ →
    (∀ x, tget? s.tbl.assoc (shiftSource b sh) = some x → x.excluded = false) →
    Answers (.assocShiftStep b) s (fun t =>
      ((assocShiftStep s.tbl.assoc b sh).2.left = 0 →
        t.tbl.assoc = tset (assocShiftStep s.tbl.assoc b sh).1 (b * assocPos + sh.ins) e ∧ t.jobs b = assocIdle) ∧
      ((assocShiftStep s.tbl.assoc b sh).2.left ≠ 0 →
        t.tbl.assoc = (assocShiftStep s.tbl.assoc b sh).1 ∧
        t.jobs b = ⟨some (assocShiftStep s.tbl.assoc b sh).2, [e]⟩))) ∧
  (∀ (i : Nat) (e : AssocEntry) (s : State), s.live = true → tget? s.tbl.assoc i = some e → s.eng.waiting = none →
    Answers (.assocEntryRewrite i) s (fun t =>
      t.tbl = { s.tbl with assoc := tset s.tbl.assoc i { e with excluded := false } } ∧
      t.flag F.TF_CLASS_EVT_assoc_parity = true ∧ RegsBut [regAddr R.TF_CLASS_EVT 0 0] s t))

/-- A taken NODE_SET that no check refuses, EQ_MAP_SET, POLICER_SET, multicast and egress list commands and
ENCAP_ADDR_SET with legal payloads store or delete their record in the inactive view alone, joining the batch.
NODE_READ and POLICER_READ return words, with the state of the node and the buckets and totals of the policer. A
default subscriber that lies beneath its port is stored at once; another is ignored, with the event. (R446, R448,
R449, R450, R451, R452, R453, R521, R526, R527, R528) -/
def Obligations.SchedulerPolicerAndListCommandsChangeTheInactiveView : Prop :=
  (∀ (c : TCmd) (s : State), Taken c 3 0 s →
    s.nodeSetCheck s.inact (bits (pw c 0) 0 2) (bits (pw c 0) 2 16)
      (c.words.getD 0 0, c.words.getD 1 0, c.words.getD 2 0) = none →
    Answers (.nodeSet c) s (Changes c (fun v => { v with
      nodes := tset v.nodes (nodeKey (bits (pw c 0) 0 2) (bits (pw c 0) 2 16))
        (c.words.getD 0 0, c.words.getD 1 0, c.words.getD 2 0) }) s)) ∧
  (∀ (c : TCmd) (lvl n : Nat) (w : Word × Word × Word) (s : State), s.fetchable c 5 = true → s.batchIsFull = false →
    c.words.length = 1 → lvl = bits (pw c 0) 0 2 → n = bits (pw c 0) 2 16 → n < levelSize lvl →
    bits (pw c 0) 18 46 = 0 → w = nodeWords s.act lvl n →
    Answers (.nodeRead c) s (Returns c
      [w.1, w.2.1, w.2.2, BitVec.ofNat 64 (sat32 (s.node lvl n).c + 2 ^ 32 * sat32 (s.node lvl n).p),
       BitVec.ofNat 64 (b2n (s.node lvl n).active +
         2 * b2n (if lvl = 0 then s.portElig n else s.nodeElig lvl n) + 4 * b2n (nodeCommitted (s.node lvl n)) +
         256 * ((if lvl = 3 then (pktsBytes (s.equeue n) + 255) / 256 else 0) % 2 ^ 24))] s)) ∧
  (∀ (c : TCmd) (s : State), Taken c 1 0 s → bits (pw c 0) 31 33 = 0 →
    (bitOf (pw c 0) 30 = true → subOk s.inact (bits (pw c 0) 0 8) (bits (pw c 0) 16 14) = true →
      Answers (.eqMapSet c) s (Changes c (fun v => { v with
        eqMap := tset v.eqMap (bits (pw c 0) 0 8 * 256 + bits (pw c 0) 8 8) (bits (pw c 0) 16 14) }) s)) ∧
    (bitOf (pw c 0) 30 = false →
      Answers (.eqMapSet c) s (Changes c (fun v => { v with
        eqMap := tdel v.eqMap (bits (pw c 0) 0 8 * 256 + bits (pw c 0) 8 8) }) s))) ∧
  (∀ (l : Nat) (v : Word) (s : State), s.live = true → l < 256 →
    Answers (.defSubWrite l v) s (fun t =>
      (subOk s.act l (bits v.toNat 0 14) = true → t.get F.DT_EQ_PORT_def_sub l = bits v.toNat 0 14 ∧
        OnlyRegs [regAddr R.DT_EQ_PORT l 0] s t) ∧
      (subOk s.act l (bits v.toNat 0 14) = false → t.get F.DT_EQ_PORT_def_sub l = s.get F.DT_EQ_PORT_def_sub l ∧
        t.flag F.DT_SCHED_EVT_def_sub_bad = true ∧
        OnlyRegs [regAddr R.DT_EQ_PORT l 0, regAddr R.DT_SCHED_EVT 0 0] s t))) ∧
  (∀ (c : TCmd) (s : State), Taken c 3 0 s → bits (pw c 0) 27 37 = 0 → bits (pw c 1) 42 22 = 0 →
    bits (pw c 2) 48 16 = 0 →
    Answers (.policerSet c) s (Changes c (fun v => { v with
      pols := tset v.pols (bits (pw c 0) 0 18) (c.words.getD 0 0, c.words.getD 1 0, c.words.getD 2 0) }) s)) ∧
  (∀ (c : TCmd) (i : Nat) (w : Word × Word × Word) (x : Policer) (s : State), s.fetchable c 7 = true →
    s.batchIsFull = false → c.words.length = 1 → pw c 0 < 2 ^ 18 → i = pw c 0 →
    w = tget s.act.pols i (BitVec.ofNat 64 i, 0, 0) → x = tget s.sch.pols i policer0 →
    Answers (.policerRead c) s (Returns c
      [w.1, w.2.1, w.2.2, BitVec.ofNat 64 (x.b0 % 2 ^ 32 + 2 ^ 32 * (x.b1 % 2 ^ 32)),
       BitVec.ofNat 64 (tget s.tlm.totals (cntKey 16 (i * 3)) 0),
       BitVec.ofNat 64 (tget s.tlm.totals (cntKey 16 (i * 3 + 1)) 0),
       BitVec.ofNat 64 (tget s.tlm.totals (cntKey 16 (i * 3 + 2)) 0)] s)) ∧
  (∀ (c : TCmd) (n : Nat) (s : State), n = bits (pw c 0) 16 11 → Taken c (1 + (n + 1) / 2) 0 s → 1 ≤ n → n ≤ 1024 →
    bits (pw c 0) 27 37 = 0 → (n % 2 = 1 → bits (pw c (1 + n / 2)) 32 32 = 0) →
    ((s.inact.mcLists.filter (fun e => decide (e.1 ≠ bits (pw c 0) 0 16))).map (fun e => e.2.length)).sum + n ≤ 65536 →
    Answers (.mcListSet c) s (Changes c (fun v => { v with
      mcLists := tset v.mcLists (bits (pw c 0) 0 16) (mcMembers c n) }) s)) ∧
  (∀ (c : TCmd) (s : State), Taken c 1 0 s →
    (thas s.inact.mcLists (pw c 0) = true → pw c 0 < 2 ^ 16 →
      Answers (.mcListDelete c) s (Changes c (fun v => { v with mcLists := tdel v.mcLists (pw c 0) }) s)) ∧
    (thas s.inact.egHdrs (pw c 0) = true → pw c 0 < 2 ^ 15 →
      Answers (.egListDelete c) s (Changes c (fun v => { v with egHdrs := tdel v.egHdrs (pw c 0) }) s))) ∧
  (∀ (c : TCmd) (s : State), Taken c 2 0 s → pw c 0 < 2 ^ 15 → bits (pw c 1) 35 29 = 0 → bitOf (pw c 1) 34 = true →
    bits (pw c 1) 0 22 + bits (pw c 1) 22 12 ≤ 4194303 →
    (∀ i ≤ bits (pw c 1) 22 12, nhIs s.inact.nh (bits (pw c 1) 0 22 + i) 1 = true) →
    Answers (.egListSet c) s (Changes c (fun v => { v with
      egHdrs := tset v.egHdrs (pw c 0) (BitVec.ofNat 64 (pw c 1), 0) }) s)) ∧
  (∀ (c : TCmd) (s : State), Taken c 3 0 s → pw c 0 < 8192 →
    Answers (.encapAddrSet c) s (Changes c (fun v => { v with
      addrs := tset v.addrs (pw c 0) (c.words.getD 1 0, c.words.getD 2 0) }) s))

/-- An auto-negotiation of a present logical port that resolves to a rate other than the breakout rate leaves the
port in AN, adds one to an_restarts, which saturates, and raises an_fail. Nothing else of the module changes but
the record of the partner. (R100) -/
def Obligations.AnToAnotherRateStaysInAn : Prop :=
  ∀ (l rate : Nat) (page : Word) (s : State), s.live = true → s.present l = true → s.link l = 1 →
    rate ≠ portSpeed (s.breakout (l / 8)) →
    Answers (.anResolved l page rate) s (fun t => t.link l = 1 ∧
      t.get F.TF_LPORT_STAT_an_restarts l = min 255 (s.get F.TF_LPORT_STAT_an_restarts l + 1) ∧
      t.flag F.TF_LPORT_EVT_an_fail l = true ∧
      OnlyRegs [regAddr R.TF_LINK_PARTNER l 0, regAddr R.TF_LPORT_STAT l 0, regAddr R.TF_LPORT_EVT l 0] s t)

/-- Enabling a port in DISABLED whose block runs and whose map stands leads to WAIT_LOCK when framed, else to AN,
TRAINING or WAIT_LOCK by its enables. AN to the breakout rate leads to TRAINING and records the partner; its limit
starts AN again. Trained lanes lead to WAIT_LOCK, the limit back to AN or TRAINING with the lanes that failed
reported. Lock held for up_filter_ms and, when framed, a locked receive path lead to UP: the view of the port is
up, every reachable module is told, and PFC shows its state. Without lock, or with a fault that has lasted, the
attempt starts again, counted where it negotiates. A fault in UP leads to FAULT and a hold of the view; signal and
lock restored on all lanes lead to WAIT_LOCK, unless a degrade holds the port. Disabling leads to DISABLED from
every state. (R89, R96, R97, R98, R99, R102, R103, R112, R126, R127, R134, R862) -/
def Obligations.LinkAttemptsMoveThroughTheirStates : Prop :=
  (∀ (l : Nat) (part : List Byte) (s : State), s.live = true → s.present l = true → s.isOn (17 + l / 32) = true →
    s.link l = 0 → s.flag F.TF_PORT_CFG_map_err (l / 8) = false →
    s.flag F.TF_PORT_CFG_reconfig_busy (l / 8) = false →
    Answers (.adminUpWrite l true part) s (fun t => t.flag F.TF_LPORT_CTL_admin_up l = true ∧
      t.link l = (if s.framed l then 3 else if s.flag F.TF_LPORT_CTL_an_en l then 1
        else if s.flag F.TF_LPORT_CTL_lt_en l then 2 else 3) ∧
      (∀ k < 256, k ≠ l → t.link k = s.link k) ∧ t.buf = s.buf)) ∧
  (∀ (l : Nat) (part : List Byte) (s : State), s.awake = true → s.present l = true → s.link l ≠ 0 →
    Answers (.adminUpWrite l false part) s (fun t => t.flag F.TF_LPORT_CTL_admin_up l = false ∧ t.link l = 0 ∧
      (t.lp l).sdHeld = [] ∧ (s.link l = 4 → s.viewUp s.myId l = true → t.view s.myId l = .hold) ∧
      (s.link l ≠ 4 → t.buf = s.buf))) ∧
  (∀ (l rate : Nat) (page : Word) (s : State), s.live = true → s.present l = true → s.link l = 1 →
    rate = portSpeed (s.breakout (l / 8)) →
    Answers (.anResolved l page rate) s (fun t => t.link l = 2 ∧
      t.get F.TF_LINK_PARTNER_base_page l = bits page.toNat 0 48 ∧ t.get F.TF_LINK_PARTNER_resolved l = rate ∧
      t.flag F.TF_LINK_PARTNER_valid l = true ∧ t.lp l = { s.lp l with at' := s.up } ∧
      (∀ k, k ≠ l → t.lp k = s.lp k) ∧ t = { s.settled t with port := { s.port with lports := t.port.lports } } ∧
      RegsBut ([regAddr R.TF_LINK_PARTNER l 0, regAddr R.TF_LPORT_STAT l 0] ++
        (s.lanesOf l).map (fun n => regAddr R.TF_LANE_STAT n 0)) s t)) ∧
  (∀ (l : Nat) (s : State), s.live = true → s.present l = true → s.link l = 1 →
    (s.lp l).at' + 5000000000 ≤ s.up →
    Answers (.anTimeout l) s (fun t => t.link l = 1 ∧ t.flag F.TF_LPORT_EVT_an_fail l = true ∧
      t.get F.TF_LPORT_STAT_an_restarts l = min 255 (s.get F.TF_LPORT_STAT_an_restarts l + 1) ∧
      t.flag F.TF_LINK_PARTNER_valid l = false)) ∧
  (∀ (l : Nat) (taps : List (List Int)) (s : State), s.live = true → s.present l = true → s.link l = 2 →
    Answers (.linkTrainingDone l taps) s (fun t => t.link l = 3 ∧ (t.lp l).locked = false ∧
      (s.untrained l = false → (s.txLanesOf l).Nodup → ∀ (i n : Nat) (tp : List Int),
        (s.txLanesOf l)[i]? = some n → taps[i]? = some tp →
        (tget t.port.lanes n laneEq0).taps = tp ∧
        (tget t.port.lanes n laneEq0).coef = (tget s.port.lanes n laneEq0).coef) ∧
      (∀ im, s.untrained l = true → (s.txLanesOf l).Nodup → s.boot.image = some im → ∀ n ∈ s.txLanesOf l,
        (tget t.port.lanes n laneEq0).taps = im.content.serdes.getD (s.get F.TF_LANE_STAT_length_class n)
          (tget s.port.lanes n laneEq0).taps))) ∧
  (∀ (l lanes : Nat) (s : State), s.live = true → s.present l = true → s.link l = 2 →
    (s.lp l).at' + 3000000000 ≤ s.up →
    Answers (.trainingTimeout l lanes) s (fun t => t.link l = (if s.flag F.TF_LPORT_CTL_an_en l then 1 else 2) ∧
      t.get F.TF_LPORT_STAT_an_restarts l = min 255 (s.get F.TF_LPORT_STAT_an_restarts l + 1) ∧
      (∀ (i n : Nat), (s.lanesOf l)[i]? = some n → bitOf lanes i = true → t.flag F.TF_LANE_EVT_train_fail n = true) ∧
      t = { s.settled t with port := { s.port with lports := t.port.lports } })) ∧
  (∀ (l : Nat) (s : State), s.live = true → s.present l = true → s.link l = 3 →
    s.lanesLock l = true → (s.framed l = true → s.frmLocked l = true) →
    Answers (.fecPcsLock l) s (fun t => t.lp l = { s.lp l with
        locked := true
        lockAt := if (s.lp l).locked = true then (s.lp l).lockAt else s.up } ∧
      (∀ k, k ≠ l → t.lp k = s.lp k) ∧ t = { s.settled t with port := { s.port with lports := t.port.lports } } ∧
      RegsBut [] s t)) ∧
  (∀ (l : Nat) (s : State), s.live = true → s.present l = true → s.link l = 3 → (s.lp l).locked = true →
    (s.lp l).lockAt + 1000000 * s.get F.TF_LPORT_CTL_up_filter_ms l ≤ s.up →
    (s.framed l = true → s.frmLocked l = true) →
    Answers (.linkUp l) s (fun t => t.link l = 4 ∧ t.view s.myId l = .up ∧ t.flag F.TF_LPORT_EVT_link_up l = true ∧
      bitOf (t.get F.TF_PORT_CFG_up (l / 8)) (l % 8) = true ∧ t.get F.TF_LPORT_STAT_an_restarts l = 0 ∧
      (∀ m ∈ s.reachables, portStateMsg l true ∈ (t.msgs m).ctl) ∧
      (s.get F.TF_LPORT_CTL_fc_mode l = 1 → s.get F.TF_LPORT_CTL_pfc_tx_en l ≠ 0 → ∃ times,
        .pfc l (s.get F.TF_LPORT_CTL_pfc_tx_en l) times ∈ t.out ∧ ∀ c < 8, times.getD c 0 =
          if bitOf (s.get F.TF_LPORT_CTL_pfc_tx_en l) c && bitOf (s.get F.TF_LPORT_STAT_tx_xoff l) c
            then 0xFFFF else 0))) ∧
  (∀ (l : Nat) (s : State), s.live = true → s.present l = true → s.link l = 3 →
    (s.lp l).locked = false → (s.lp l).at' + 500000000 ≤ s.up →
    Answers (.waitLockTimeout l) s (fun t => t.link l = s.startLink l ∧ (t.lp l).locked = false ∧
      t.get F.TF_LPORT_STAT_an_restarts l = min 255 (s.get F.TF_LPORT_STAT_an_restarts l +
        if s.startLink l = 3 then 0 else 1) ∧ t.buf = s.buf)) ∧
  (∀ (l cause : Nat) (part : List Byte) (s : State), s.live = true → s.present l = true → s.link l = 4 →
    s.faultHolds l cause = true →
    Answers (.linkFault l cause part) s (fun t => t.link l = 5 ∧ t.flag F.TF_LPORT_EVT_link_down l = true ∧
      bitOf (t.get F.TF_PORT_CFG_up (l / 8)) (l % 8) = false ∧ (t.lp l).quanta = [0, 0, 0, 0, 0, 0, 0, 0] ∧
      (cause = 2 → t.flag F.TF_LPORT_STAT_remote_fault l = true) ∧
      (cause ≠ 2 → t.flag F.TF_LPORT_STAT_local_fault l = true) ∧
      (s.viewUp s.myId l = true → t.view s.myId l = .hold))) ∧
  (∀ (l : Nat) (s : State), s.live = true → s.present l = true →
    Answers (.laneSignalRestore l) s (fun t => (∀ n ∈ s.lanesOf l, t.flag F.TF_LANE_STAT_signal n = true ∧
        t.flag F.TF_LANE_STAT_cdr_lock n = true) ∧
      t.link l = (if s.link l = 5 ∧ (s.lp l).sdHeld = [] then 3 else s.link l))) ∧
  (∀ (l : Nat) (s : State), s.live = true → s.present l = true → s.link l = 5 →
    (s.startLink l = 3 → (s.lp l).sdHeld = []) → (s.lp l).at' + 500000000 ≤ s.up →
    Answers (.faultTimeout l) s (fun t => t.link l = s.startLink l ∧ t.buf = s.buf))

/-- A loss clears the lane's lock, and its signal when that is gone, and raises the event. A degrade is reported
with its exponent, and takes the port in UP that owns the lane to FAULT where sd_action says so; the port is held
there until the degrade of every such lane clears, and then waits for lock once its lanes show it. A step of
adaptation moves each coefficient by at most one toward its target, and a coefficient at its limit raises the
event. A measured loss is reported with its length class, and a loss above 40 dB raises the event. No other lane
changes. (R104, R105, R106, R107, R126, R127) -/
def Obligations.LanesReportSignalDegradeAdaptAndLoss : Prop :=
  (∀ (n : Nat) (cdr : Bool) (s : State), s.live = true → n < 256 →
    Answers (.laneSignalLoss n cdr) s (fun t => t.flag F.TF_LANE_STAT_cdr_lock n = false ∧
      t.flag F.TF_LANE_STAT_signal n = (cdr && s.flag F.TF_LANE_STAT_signal n) ∧
      t.flag (if cdr then F.TF_LANE_EVT_cdr_loss else F.TF_LANE_EVT_sig_loss) n = true ∧
      t.get F.TF_LANE_STAT_ber_log n = 0 ∧ t = { s.settled t with port := { s.port with lports := t.port.lports } } ∧
      (∀ l, s.laneOwner n = some l → s.link l = 3 → t.lp l = { s.lp l with locked := false }) ∧
      (∀ l, (s.laneOwner n ≠ some l ∨ s.link l ≠ 3) → t.lp l = s.lp l) ∧
      RegsBut [regAddr R.TF_LANE_STAT n 0, regAddr R.TF_LANE_EVT n 0] s t)) ∧
  (∀ (n ber : Nat) (part : List Byte) (s : State), s.live = true → n < 256 → 0 < ber → ber < 45 →
    s.flag F.TF_LANE_STAT_cdr_lock n = true →
    Answers (.signalDegrade n ber part) s (fun t => t.get F.TF_LANE_STAT_ber_log n = ber ∧
      t.flag F.TF_LANE_EVT_sd n = true ∧
      (∀ l, s.laneOwner n = some l → s.get F.TF_LPORT_CTL_sd_action l = 1 →
        (s.link l = 4 ∨ s.link l = 5) → t.link l = 5 ∧ n ∈ (t.lp l).sdHeld) ∧
      ((∀ l, s.laneOwner n = some l → s.get F.TF_LPORT_CTL_sd_action l ≠ 1 ∨ (s.link l ≠ 4 ∧ s.link l ≠ 5)) →
        OnlyRegs [regAddr R.TF_LANE_STAT n 0, regAddr R.TF_LANE_EVT n 0] s t))) ∧
  (∀ (n ber l : Nat) (s : State), s.live = true → n < 256 → 45 ≤ ber → ber < 256 → s.laneOwner n = some l →
    s.flag F.TF_LANE_STAT_cdr_lock n = true →
    Answers (.sdClear n ber) s (fun t => t.get F.TF_LANE_STAT_ber_log n = ber ∧
      (t.lp l).sdHeld = (s.lp l).sdHeld.filter (· ≠ n) ∧
      t.link l = (if s.link l = 5 ∧ s.lanesLock l = true ∧ (s.lp l).sdHeld.filter (· ≠ n) = [] then 3
        else s.link l))) ∧
  (∀ (n : Nat) (target : List Int) (s : State), s.live = true → n < 256 →
    s.flag F.TF_LANE_STAT_adapting n = true →
    Answers (.adaptStep n target) s (fun t =>
      (∀ i, (tget t.port.lanes n laneEq0).coef.getD i 0 =
        if i < target.length then stepToward ((tget s.port.lanes n laneEq0).coef.getD i 0) (target.getD i 0)
        else (tget s.port.lanes n laneEq0).coef.getD i 0) ∧
      (∀ k, k ≠ n → tget t.port.lanes k laneEq0 = tget s.port.lanes k laneEq0) ∧
      t = { s.settled t with port := { s.port with lanes := t.port.lanes } } ∧ RegsBut [] s t)) ∧
  (∀ (n : Nat) (s : State), s.live = true → n < 256 → s.flag F.TF_LANE_STAT_adapting n = true →
    Answers (.adaptLimit n) s (fun t => t.flag F.TF_LANE_EVT_adapt_limit n = true ∧
      OnlyRegs [regAddr R.TF_LANE_EVT n 0] s t)) ∧
  (∀ (n loss l : Nat) (s : State), s.live = true → n < 256 → s.laneOwner n = some l →
    (s.link l = 2 ∨ s.link l = 4) →
    Answers (.lossMeasure n loss) s (fun t => t.get F.TF_LANE_STAT_loss_db n = min 255 loss ∧
      t.get F.TF_LANE_STAT_length_class n = (if loss < 48 then 0 else if loss < 80 then 1 else if loss < 112 then 2
        else if loss < 144 then 3 else if loss ≤ 160 then 4 else 5) ∧
      (160 < loss → t.flag F.TF_LANE_EVT_loss_high n = true) ∧
      t = { s.settled t with port := { s.port with lanes := t.port.lanes } } ∧
      (s.boot.image = none → t.port.lanes = s.port.lanes) ∧
      RegsBut [regAddr R.TF_LANE_STAT n 0, regAddr R.TF_LANE_EVT n 0] s t))

/-- A frame received in UP, with nothing waiting and room in the FIFO that R123 picks, enters that FIFO with the
next sequence number, its arrival and its mark, and is counted with its length. One that the MAC buffer cannot hold
is discarded and counted. A MAC control frame is counted and passed to no pipeline. An obeyed pause time replaces
the class's own and shows in rx_paused; its end, once the time has passed at the port's rate, resumes the class. A
request of DT shows in tx_xoff, and is sent at once in UP where the class is enabled; an XOFF in force is sent
again 0x8000 quanta later. (R93, R94, R108, R109, R110, R111, R112, R116, R121, R123, R125) -/
def Obligations.FramesPauseAndPfcAtTheMac : Prop :=
  (∀ (l : Nat) (bytes : List Byte) (fcsOk pcsErr : Bool) (fecBad fecCorr : Nat) (b : Bool) (s : State),
    s.live = true → s.present l = true → bytes ≠ [] → s.receives l = true → (isMacCtl bytes && fcsOk) = false →
    (s.phys (l / 8)).inbuf = [] → s.pickPipe (l / 8) (bytes.length + 4) = some b →
    Answers (.frameReceive l bytes fcsOk pcsErr fecBad fecCorr) s (fun t => ∃ g : RxFrame,
      g = ⟨l, (s.phys (l / 8)).seq, s.time, bytes, !fcsOk || pcsErr || decide (0 < fecBad) ||
        decide (bytes.length + 4 < 64) || decide (s.maxFrame l < bytes.length + 4)⟩ ∧
      t.phys (l / 8) = { s.phys (l / 8) with
        seq := ((s.phys (l / 8)).seq + 1) % 2 ^ 32
        anySeq := true
        lastB := b
        fifoA := if b then (s.phys (l / 8)).fifoA else (s.phys (l / 8)).fifoA ++ [g]
        fifoB := if b then (s.phys (l / 8)).fifoB ++ [g] else (s.phys (l / 8)).fifoB } ∧
      (∀ p, p ≠ l / 8 → t.phys p = s.phys p) ∧
      t.rd R.TF_MAC_CNT l 0 = cntAdd (s.rd R.TF_MAC_CNT l 0) 1 ∧
      t.rd R.TF_MAC_CNT l 1 = cntAdd (s.rd R.TF_MAC_CNT l 1) (bytes.length + 4))) ∧
  (∀ (l : Nat) (bytes : List Byte) (fcsOk pcsErr : Bool) (fecBad fecCorr : Nat) (s : State),
    s.live = true → s.present l = true → bytes ≠ [] → s.receives l = true → (isMacCtl bytes && fcsOk) = false →
    524288 < rxBytes (s.phys (l / 8)).inbuf + (bytes.length + 4) →
    (∀ f r, (s.phys (l / 8)).inbuf = f :: r → s.pickPipe (l / 8) (rxLen f) = none) →
    Answers (.frameReceive l bytes fcsOk pcsErr fecBad fecCorr) s (fun t => t.port = s.port ∧
      t.rd R.TF_MAC_CNT l 0 = cntAdd (s.rd R.TF_MAC_CNT l 0) 1 ∧
      t.rd R.TF_MAC_CNT l 13 = cntAdd (s.rd R.TF_MAC_CNT l 13) 1 ∧
      t.rd R.DT_PORT_CNT l 9 = cntAdd (s.rd R.DT_PORT_CNT l 9) 1)) ∧
  (∀ (l : Nat) (bytes : List Byte) (pcsErr : Bool) (fecBad fecCorr : Nat) (s : State),
    s.live = true → s.present l = true → bytes ≠ [] → s.receives l = true → isMacCtl bytes = true →
    Answers (.frameReceive l bytes true pcsErr fecBad fecCorr) s (fun t => t.port = s.port ∧ t.buf = s.buf ∧
      t.rd R.TF_MAC_CNT l 7 = cntAdd (s.rd R.TF_MAC_CNT l 7) 1)) ∧
  (∀ (l enable c : Nat) (pfc : Bool) (times : List Nat) (s : State), s.live = true → s.present l = true →
    s.receives l = true → c < 8 →
    Answers (.pauseFrameRx l pfc enable times) s (fun t =>
      t.rd R.TF_MAC_CNT l 7 = cntAdd (s.rd R.TF_MAC_CNT l 7) 1 ∧ t.buf = s.buf ∧
      (s.get F.TF_LPORT_CTL_fc_mode l = 1 → pfc = true →
        bitOf enable c = true → bitOf (s.get F.TF_LPORT_CTL_pfc_rx_en l) c = true →
        (t.lp l).quanta.getD c 0 = times.getD c 0 % 65536 ∧
        bitOf (t.get F.TF_LPORT_STAT_rx_paused l) c = decide (0 < times.getD c 0 % 65536)) ∧
      (s.get F.TF_LPORT_CTL_fc_mode l = 1 → pfc = true →
        (bitOf enable c = false ∨ bitOf (s.get F.TF_LPORT_CTL_pfc_rx_en l) c = false) →
        (t.lp l).quanta.getD c 0 = (s.lp l).quanta.getD c 0) ∧
      (s.get F.TF_LPORT_CTL_fc_mode l = 2 → pfc = false →
        (t.lp l).quanta.getD c 0 = times.getD 0 0 % 65536) ∧
      ((s.get F.TF_LPORT_CTL_fc_mode l ≠ 1 ∨ pfc = false) → (s.get F.TF_LPORT_CTL_fc_mode l ≠ 2 ∨ pfc = true) →
        t.port = s.port))) ∧
  (∀ (l c : Nat) (s : State), s.live = true → l < 256 → c < 8 →
    s.quantaOver l ((s.lp l).quanta.getD c 0) ((s.lp l).pauseAt.getD c 0) = true →
    Answers (.pauseTimerExpiry l c) s (fun t => (t.lp l).quanta.getD c 0 = 0 ∧
      bitOf (t.get F.TF_LPORT_STAT_rx_paused l) c = false ∧
      t = { s.settled t with port := { s.port with lports := t.port.lports } } ∧
      RegsBut [regAddr R.TF_LPORT_STAT l 0] s t)) ∧
  (∀ (l c : Nat) (xoff : Bool) (s : State), s.live = true → s.present l = true → c < 8 → s.xoffOn l c = xoff →
    Answers (.pfcTxRequest l c xoff) s (fun t => bitOf (t.get F.TF_LPORT_STAT_tx_xoff l) c = xoff ∧
      (s.link l = 4 → s.pfcSends l c = true → .pfc l (2 ^ c)
        ((List.range 8).map (fun i => if i = c ∧ xoff = true then 0xFFFF else 0)) ∈ t.out) ∧
      (s.link l ≠ 4 → OnlyRegs [regAddr R.TF_LPORT_STAT l 0] s t))) ∧
  (∀ (l c : Nat) (s : State), s.live = true → s.present l = true → c < 8 → s.link l = 4 →
    bitOf (s.get F.TF_LPORT_STAT_tx_xoff l) c = true → s.pfcSends l c = true →
    s.quantaOver l 0x8000 ((s.lp l).xoffAt.getD c 0) = true →
    Answers (.xoffRefresh l c) s (fun t =>
      .pfc l (2 ^ c) ((List.range 8).map (fun i => if i = c then 0xFFFF else 0)) ∈ t.out ∧
      t.get F.TF_LPORT_STAT_tx_xoff l = s.get F.TF_LPORT_STAT_tx_xoff l))

/-- Loss of one instance's lock takes the aligner to OOF and declares dLOL, which clears once every instance has
held lock. The markers of instances lock one by one, and with all of them locked the skew shows; above 1 us the
aligner is held in OOF until a new measurement is within it. A match at a new position opens a candidate while the
search has room, and otherwise nothing. A second correct pattern in OOF leads to IF, a third MFAS in sequence to
IM, the fifth MFAS out of sequence from IM to OOM, and the fifth errored pattern to OOF with its event. dLOF and
dLOM follow the aligner, each after its own filter. (R136, R137, R138, R139, R143, R145, R146, R147, R148) -/
def Obligations.FramedReceivePathsAlignAndReportDefects : Prop :=
  (∀ (l inst : Nat) (s : State), s.frmRuns l = true → inst < s.flexos l →
    Answers (.instanceLockLoss l inst) s (fun t => t.frm l = enterOof (s.frm l) ∧
      bitOf (t.get F.TF_FRM_STAT_instance_lock l) inst = false ∧ t.flag F.TF_FRM_STAT_dlol l = true ∧
      t.flag F.TF_FRM_EVT_lol l = true)) ∧
  (∀ (l insts skew m : Nat) (s : State), s.frmRuns l = true →
    m = s.get F.TF_FRM_STAT_instance_lock l ||| (insts % 2 ^ s.flexos l) →
    Answers (.alignmentMarkerLock l ⟨insts, skew⟩) s (fun t => t.get F.TF_FRM_STAT_instance_lock l = m % 2 ^ 16 ∧
      (m % 2 ^ 16 ≠ 2 ^ s.flexos l - 1 → OnlyRegs [regAddr R.TF_FRM_STAT l 0] s t) ∧
      (m % 2 ^ 16 = 2 ^ s.flexos l - 1 →
        t.get F.TF_FRM_STAT_skew_ns l = min 4095 skew ∧ t.flag F.TF_FRM_STAT_skew_exceeded l = decide (1000 < skew) ∧
        t.frm l = (if 1000 < skew then enterOof (s.frm l) else s.frm l) ∧
        (1000 < skew → s.flag F.TF_FRM_STAT_skew_exceeded l = false → t.flag F.TF_FRM_EVT_skew l = true)))) ∧
  (∀ (l : Nat) (s : State), s.frmRuns l = true → s.get F.TF_FRM_STAT_instance_lock l = 2 ^ s.flexos l - 1 →
    Answers (.dlolClear l) s (fun t => t.flag F.TF_FRM_STAT_dlol l = false ∧
      OnlyRegs [regAddr R.TF_FRM_STAT l 0] s t)) ∧
  (∀ (l skew : Nat) (s : State), s.frmRuns l = true → s.flag F.TF_FRM_STAT_skew_exceeded l = true →
    s.get F.TF_FRM_STAT_instance_lock l = 2 ^ s.flexos l - 1 →
    Answers (.deskewRetry l skew) s (fun t => t.flag F.TF_FRM_STAT_skew_exceeded l = decide (1000 < skew) ∧
      t.get F.TF_FRM_STAT_skew_ns l = min 4095 skew ∧
      t.frm l = (if 1000 < skew then enterOof (s.frm l) else s.frm l) ∧
      (skew ≤ 1000 → OnlyRegs [regAddr R.TF_FRM_STAT l 0] s t))) ∧
  (∀ (l offset mfas : Nat) (s : State), s.frmRuns l = true → s.deskewed l = true → offset < 122368 → mfas < 256 →
    Answers (.fasMatch l offset mfas) s (fun t =>
      (searching (s.frm l) = true → (s.frm l).cands.length < 4 → (∀ c ∈ (s.frm l).cands, c.offset ≠ offset) →
        offset ∉ (s.frm l).barred →
        t.frm l = { s.frm l with cands := (s.frm l).cands ++ [⟨offset, 1, mfas, 1⟩] }) ∧
      ((searching (s.frm l) = false ∨ 4 ≤ (s.frm l).cands.length ∨ (∃ c ∈ (s.frm l).cands, c.offset = offset) ∨
        offset ∈ (s.frm l).barred) → t.frm l = s.frm l) ∧
      (∀ k, k ≠ l → t.frm k = s.frm k) ∧ RegsBut [regAddr R.TF_FRM_STAT l 0] s t)) ∧
  (∀ (l : Nat) (fr : OtucFrame) (c : FasCand) (s : State), s.frmRuns l = true → s.deskewed l = true →
    s.slicesFit l fr = true →
    (s.frm l).cands.find? (fun x => decide (x.offset = fr.offset)) = some c →
    Answers (.otucFrame l fr) s (fun t =>
      ((s.frm l).aligner = 0 → (s.frm l).held = none → fr.fas.headD false = true → 1 ≤ c.good →
        (t.frm l).aligner = 1 ∧ (t.frm l).held = some fr.offset) ∧
      ((s.frm l).aligner = 1 → (s.frm l).held = some fr.offset → fr.fas.all id = true → 2 ≤ c.run →
        fr.mfas % 256 = (c.mfas + 1) % 256 → (t.frm l).aligner = 2 ∧ (t.frm l).held = some fr.offset))) ∧
  (∀ (l : Nat) (fr : OtucFrame) (s : State), s.frmRuns l = true → s.deskewed l = true → s.slicesFit l fr = true →
    (s.frm l).held = some fr.offset →
    Answers (.otucFrame l fr) s (fun t =>
      ((s.frm l).aligner = 2 → fr.fas.all id = true → 4 ≤ (s.frm l).misRun →
        fr.mfas % 256 ≠ ((s.frm l).expMfas + 1) % 256 → (t.frm l).aligner = 3) ∧
      ((s.frm l).aligner = 2 → fr.fas.all id = true → fr.mfas % 256 = ((s.frm l).expMfas + 1) % 256 →
        (t.frm l).aligner = 2 ∧ (t.frm l).misRun = 0) ∧
      ((s.frm l).aligner ≠ 0 → fr.fas.all id = false → 4 ≤ (s.frm l).errRun → (t.frm l).aligner = 0 ∧
        (t.frm l).held = none ∧ t.flag F.TF_FRM_EVT_oof l = true))) ∧
  (∀ (l : Nat) (s : State), s.frmRuns l = true →
    Answers (.defectFilterExpiry ⟨l, false⟩) s (fun t =>
      t.flag F.TF_FRM_STAT_dlof l = decide ((s.frm l).aligner = 0) ∧
      t.flag F.TF_FRM_STAT_dlom l = s.flag F.TF_FRM_STAT_dlom l ∧
      OnlyRegs [regAddr R.TF_FRM_STAT l 0, regAddr R.TF_FRM_EVT l 0] s t) ∧
    Answers (.defectFilterExpiry ⟨l, true⟩) s (fun t =>
      ((s.frm l).aligner = 1 ∨ (s.frm l).aligner = 3 → t.flag F.TF_FRM_STAT_dlom l = true) ∧
      ((s.frm l).aligner = 2 → t.flag F.TF_FRM_STAT_dlom l = false) ∧
      ((s.frm l).aligner = 0 → t.flag F.TF_FRM_STAT_dlom l = s.flag F.TF_FRM_STAT_dlom l) ∧
      t.flag F.TF_FRM_STAT_dlof l = s.flag F.TF_FRM_STAT_dlof l ∧
      OnlyRegs [regAddr R.TF_FRM_STAT l 0, regAddr R.TF_FRM_EVT l 0] s t))

/-- A step adds the signed step_ns to device time and is noted. A pulse, high for 100 us, is sent at a whole
second, and the message due 10 ms after it carries the seconds of that pulse; a received edge records the time and
clears the time of day, which a message whose CRC passes within 900 ms sets. A read takes the oldest transmit
timestamp. The refresh tells every reachable module the state of each of the 256 ports; a message from another
module moves its view of a port, up from any state and down from UP only, and a message of another kind changes
nothing. (R115, R118, R120, R397, R503, R831, R832, R833) -/
def Obligations.TimeStepsPulsesAndPortStateMessages : Prop :=
  (∀ s : State, s.awake = true →
    Answers .timeStep s (fun t => (s.get F.TF_TIME_STEP_step_ns < 2 ^ 39 →
        t.time = (s.time + s.get F.TF_TIME_STEP_step_ns) % 2 ^ 64) ∧
      (2 ^ 39 ≤ s.get F.TF_TIME_STEP_step_ns →
        t.time = (s.time + 2 ^ 64 - (2 ^ 40 - s.get F.TF_TIME_STEP_step_ns)) % 2 ^ 64) ∧
      t.get F.TF_TIME_STEP_step_go = 0 ∧ t.up = s.up)) ∧
  (∀ s : State, s.awake = true → s.port.ppsDue = true →
    Answers .ppsOut s (fun t => .ppsPulse ∈ t.out ∧
      t.port = { s.port with
        ppsDue := false
        ppsHigh := s.up + 100000
        todDue := if s.flag F.TF_TOD_TX_tx_en then some (s.time / 1000000000) else none } ∧ RegsBut [] s t)) ∧
  (∀ s : State, s.awake = true →
    Answers .ppsInEdge s (fun t => t.get F.TF_PPS_CAP_pps_time = s.time % 2 ^ 64 ∧
      t.flag F.TF_TOD_RX_valid = false ∧ t.get F.TF_TOD_RX_seconds = s.get F.TF_TOD_RX_seconds ∧
      t = { s.settled t with port := { s.port with ppsIn := some s.up } } ∧
      RegsBut [regAddr R.TF_PPS_CAP 0 0, regAddr R.TF_TOD_RX 0 0] s t)) ∧
  (∀ (sec : Nat) (s : State), s.awake = true → s.port.todDue = some sec →
    s.port.ppsHigh + 9900000 ≤ s.up →
    Answers .todTxStart s (fun t => (∃ b : Byte, .todTx ([0x55, 0xAA, 0x01] ++ beBytes 6 sec ++
        [BitVec.ofNat 8 (s.get F.TF_TOD_TX_tx_flags), b]) ∈ t.out ∧
        crc8 ([0x01] ++ beBytes 6 sec ++ [BitVec.ofNat 8 (s.get F.TF_TOD_TX_tx_flags)]) % 256 = b.toNat) ∧
      t.port = { s.port with todDue := none } ∧ RegsBut [] s t)) ∧
  (∀ (sec flags edge : Nat) (head body check : List Byte) (s : State), s.awake = true → s.port.ppsIn = some edge → s.up ≤ edge + 900000000 →
    sec < 2 ^ 48 → flags < 256 → head ++ body ++ check = todBytes sec flags →
    Answers (.todMessageRx head body check) s (fun t => t.get F.TF_TOD_RX_seconds = sec ∧
      t.get F.TF_TOD_RX_flags = flags ∧ t.flag F.TF_TOD_RX_valid = true ∧
      OnlyRegs [regAddr R.TF_TOD_RX 0 0] s t)) ∧
  (∀ (m head body check : List Byte) (s : State), s.awake = true → head ++ body ++ check = m →
    (m.take 3 ≠ [0x55, 0xAA, 0x01] ∨ crc8 ((m.drop 2).take 8) ≠ beNat (m.drop 10) ∨
      ∀ edge, s.port.ppsIn = some edge → edge + 900000000 < s.up) →
    Answers (.todMessageRx head body check) s (OnlyRegs [] s)) ∧
  (∀ (l : Nat) (s : State), s.awake = true → s.present l = true →
    Answers (.ptpTxtsPop l) s (fun t => t.lp l = { s.lp l with txts := (s.lp l).txts.tail } ∧
      (∀ k, k ≠ l → t.lp k = s.lp k) ∧ RegsBut [] s t)) ∧
  (∀ s : State, s.live = true →
    Answers .portStateRefresh s (fun t => (∀ m ∈ s.reachables, ∀ l < 256,
        portStateMsg l (decide (s.link l = 4)) ∈ (t.msgs m).ctl) ∧
      (∀ m, m ∉ s.reachables → t.msgs m = s.msgs m) ∧ t.buf = s.buf ∧ RegsBut [] s t)) ∧
  (∀ (m : Nat) (w : Word) (s : State), s.live = true → m ≠ s.myId →
    Answers (.portStateMessage m w) s (fun t =>
      (bits w.toNat 0 4 = 0 → t.view m (bits w.toNat 4 8) =
        if bitOf w.toNat 12 then .up else if s.viewUp m (bits w.toNat 4 8) then .hold
          else s.view m (bits w.toNat 4 8)) ∧
      (bits w.toNat 0 4 ≠ 0 → t.buf = s.buf) ∧
      (∀ k l, viewKey k l ≠ viewKey m (bits w.toNat 4 8) → t.view k l = s.view k l) ∧
      t = { s.settled t with buf := { s.buf with
        views := t.buf.views
        holdAt := t.buf.holdAt } } ∧ RegsBut [] s t))

/-- A pipeline that runs takes the oldest frame of its FIFO and emits one unit with its number, port and arrival; a
marked frame becomes a disposition under reason 0. A progress unit carries the finished value. At DT, a disposition
whose number is next is counted under its reason and the number advances; one with a later number is held while a
pipeline still owes the gap; one before it is counted as a duplicate; a unit whose seq_chk fails is counted and
dropped; a packet that finds no block waits and withholds its pipeline's credit. A stalled pipeline closes the gap
of its port, and is shown; credit returns once the held bytes fall below the allowance. A mirror copy that waits
too long is discarded and counted. (R93, R121, R357, R358, R359, R360, R361, R362, R363, R364, R367, R371) -/
def Obligations.PipelinesEmitAndResequencersReleaseInOrder : Prop :=
  (∀ (p : Nat) (b : Bool) (bad mc : Option Nat) (f : RxFrame) (rest : List RxFrame) (s : State),
    s.pipeRuns p b = true → pipeFifo (s.phys p) b = f :: rest → (s.phys p).inbuf = [] → f.lport < 256 →
    f.seq < 2 ^ 32 →
    Answers (.ingressProcess p b bad mc) s (fun t => ∃ u : IdlUnit, t.idl.up = s.idl.up ++ [u] ∧ u.port = p ∧
      u.pipeB = b ∧ uSeqOk u = true ∧ uSeq u = f.seq ∧ uLport u = f.lport ∧ u.w3 = BitVec.ofNat 64 f.time ∧
      (f.marked = true → uKind u = 1 ∧ uReason u = 0) ∧ (uKind u = 0 → u.bytes = f.bytes) ∧ uKind u < 2 ∧
      pipeFifo (t.phys p) b = rest)) ∧
  (∀ (p : Nat) (b : Bool) (s : State), s.pipeRuns p b = true →
    Answers (.progressUnit p b) s (fun t => ∃ u : IdlUnit,
      t = { s.settled t with idl := { s.idl with up := s.idl.up ++ [u] } } ∧ u.port = p ∧ u.pipeB = b ∧
      uSeqOk u = true ∧ uHdrOk u = true ∧ uKind u = 2 ∧ uLport u = 8 * p ∧
      uSeq u = finishedValue (s.phys p) b % 2 ^ 32 ∧ RegsBut [] s t)) ∧
  (∀ (p : Nat) (u : IdlUnit) (rest : List IdlUnit) (s : State), s.live = true → s.idl.up = u :: rest → u.port = p →
    (s.reseq p).waiting = [] → (s.reseq p).held = [] → (s.reseq p).next < 2 ^ 32 →
    Answers (.idlUnitReceive p 0 0) s (fun t => (uKind u ≠ 0 → t.idl = { s.idl with up := rest }) ∧
      (uSeqOk u = true → uHdrOk u = true → uKind u = 1 → uSeq u = (s.reseq p).next →
        (t.reseq p).next = ((s.reseq p).next + 1) % 2 ^ 32 ∧ (t.reseq p).held = [] ∧
        (uReason u = 1 → t.rd R.DT_PORT_CNT (uLport u) 0x0D = cntAdd (s.rd R.DT_PORT_CNT (uLport u) 0x0D) 1)) ∧
      (uSeqOk u = true → uHdrOk u = true → uKind u = 1 → serBefore 32 (s.reseq p).next (uSeq u) = true →
        (s.reseq p).stallA = false → (s.reseq p).stallB = false →
        (if u.pipeB then (s.reseq p).finA else (s.reseq p).finB) = none →
        (t.reseq p).next = (s.reseq p).next ∧ (t.reseq p).held = [(uSeq u, .disposition u)]) ∧
      (uSeqOk u = true → uKind u ≠ 2 → serBefore 32 (uSeq u) (s.reseq p).next = true →
        (t.reseq p).next = (s.reseq p).next ∧ (t.reseq p).held = [] ∧
        t.rd R.DT_BUF_CNT 1 = cntAdd (s.rd R.DT_BUF_CNT 1) 1) ∧
      (uSeqOk u = false → (t.reseq p).next = (s.reseq p).next ∧ (t.reseq p).held = [] ∧
        t.buf.bodies = s.buf.bodies ∧ t.rd R.DT_BUF_CNT 13 = cntAdd (s.rd R.DT_BUF_CNT 13) 1) ∧
      (uSeqOk u = true → uHdrOk u = true → uKind u = 0 → 0 < uLength u →
        serBefore 32 (uSeq u) (s.reseq p).next = false → (∀ k < 3, s.poolHas k = false) →
        (t.reseq p).waiting = [u] ∧ t.creditHeld p u.pipeB = true ∧ t.buf.bodies = s.buf.bodies))) ∧
  (∀ (p : Nat) (b : Bool) (s : State), s.live = true → p < 32 → stalledOn (s.reseq p) b = false →
    s.creditHeld p b = false →
    Answers (.pipeStall p b) s (fun t =>
      ((s.reseq p).held = [] → stalledOn (t.reseq p) b = true ∧ (t.reseq p).next = (s.reseq p).next ∧
        t.flag F.DT_BUF_EVT_stalled = true) ∧
      (∀ (n : Nat) (u : IdlUnit), (s.reseq p).held = [(n, .disposition u)] → (s.reseq p).waiting = [] →
        n < 2 ^ 32 → (s.reseq p).next < 2 ^ 32 → serBefore 32 (s.reseq p).next n = true →
        (t.reseq p).next = (n + 1) % 2 ^ 32 ∧ (t.reseq p).held = [] ∧ t.flag F.DT_BUF_EVT_gap_closed = true ∧
        t.flag F.DT_BUF_EVT_stalled = true))) ∧
  (∀ (p : Nat) (b : Bool) (s : State), s.live = true → p < 32 → s.creditHeld p b = true →
    (s.reseq p).waiting = [] →
    Answers (.idlCreditReturn p b) s (fun t =>
      (tget s.buf.reseqUse p 0 < s.reseqAllow → t.creditHeld p b = false ∧
        t.creditHeld p (!b) = s.creditHeld p (!b)) ∧
      (s.reseqAllow ≤ tget s.buf.reseqUse p 0 → t.reseq p = s.reseq p) ∧ (∀ k, k ≠ p → t.reseq k = s.reseq k) ∧
      t = { s.settled t with buf := { s.buf with reseq := t.buf.reseq } } ∧ RegsBut [] s t)) ∧
  (∀ (u : IdlUnit) (rest : List IdlUnit) (s : State), s.live = true → s.idl.mirrors = u :: rest →
    Answers .mirrorCopyTimeout s (fun t => t.idl = { s.idl with mirrors := rest } ∧ t.buf = s.buf ∧
      t.rd R.TF_EG_CNT 12 = cntAdd (s.rd R.TF_EG_CNT 12) 1 ∧
      RegsBut [regAddr R.TF_EG_CNT 12 0, regAddr R.KV_TLM_CNT 2 0, regAddr R.KV_TLM_EVT 0 0] s t))

/-- A step of the loop lowers the k of a profile with loop_en by one while use is at or above u_high, not below
k_min, and raises it by one while use is below u_low and copies were refused; it starts the count of refusals
again. A descriptor of the queue whose turn it is whose frame is too short, too long or for an absent port is
answered with status 1 and injects nothing; a received one that fits enters the MAC buffer of its port and is
answered with status 0; one to send that finds no block is refused under NO_CELL. A buffer macro that fails is
recorded as a unit fault of kind 4 whose cover is gone, and as a double fault in a stripe that had lost one. (R61,
R62, R64, R65, R381, R382, R639, R653, R654, R655, R656, R657) -/
def Obligations.AdmissionLoopInjectionAndBufferMacros : Prop :=
  (∀ s : State, s.live = true →
    Answers .admissionLoopStep s (fun t => ∀ c < 8, tget t.buf.thrRef c 0 = 0 ∧
      (s.flag F.DT_ADM_PROF_loop_en c = true → s.profK F.DT_ADM_PROF_k c ≤ s.profK F.DT_ADM_PROF_k_max c →
        s.get F.DT_ADM_LOOP_u_low < s.get F.DT_ADM_LOOP_u_high →
        (s.get F.DT_ADM_LOOP_u_high * s.sharedSize ≤ s.sharedUsed * 100 →
          (s.profK F.DT_ADM_PROF_k_min c < s.profK F.DT_ADM_PROF_k c →
            t.profK F.DT_ADM_PROF_k c = s.profK F.DT_ADM_PROF_k c - 1) ∧
          (s.profK F.DT_ADM_PROF_k_min c = s.profK F.DT_ADM_PROF_k c →
            t.profK F.DT_ADM_PROF_k c = s.profK F.DT_ADM_PROF_k c ∧ t.flag F.DT_BUF_EVT_loop_floor = true)) ∧
        (s.sharedUsed * 100 < s.get F.DT_ADM_LOOP_u_low * s.sharedSize → 0 < tget s.buf.thrRef c 0 →
          s.profK F.DT_ADM_PROF_k_min c ≤ s.profK F.DT_ADM_PROF_k c →
          s.profK F.DT_ADM_PROF_k c < s.profK F.DT_ADM_PROF_k_max c →
          t.profK F.DT_ADM_PROF_k c = s.profK F.DT_ADM_PROF_k c + 1)) ∧
      (s.flag F.DT_ADM_PROF_loop_en c = false → t.profK F.DT_ADM_PROF_k c = s.profK F.DT_ADM_PROF_k c))) ∧
  (∀ (q : Nat) (w0 w1 : Word) (bytes : List Byte) (s : State), s.live = true → 64 ≤ q → q < 128 → s.qRuns q = true →
    s.mayIssue 1 = true → s.injNext = some (q - 64) →
    Answers (.injectDescriptor q w0 w1 bytes) s (fun t =>
      (bits w1.toNat 0 14 < 60 ∨ 15996 < bits w1.toNat 0 14 ∨ s.present (bits w1.toNat 15 8) = false →
        .dmaWrite 1 (s.slotAddr q (s.get F.TF_QCTX_STAT_dev_idx q) + 16) [BitVec.ofNat 64 (1 + 2 ^ 63), 0] ∈ t.out ∧
        t.get F.TF_QCTX_STAT_dev_idx q = (s.get F.TF_QCTX_STAT_dev_idx q + 1) % 2 ^ 32 ∧
        t.port = s.port ∧ t.buf = s.buf) ∧
      (60 ≤ bits w1.toNat 0 14 → bits w1.toNat 0 14 ≤ 15996 → s.present (bits w1.toNat 15 8) = true →
        bytes.length = bits w1.toNat 0 14 → bitOf w1.toNat 14 = true → (∀ k < 3, s.poolHas k = false) →
        .dmaWrite 1 (s.slotAddr q (s.get F.TF_QCTX_STAT_dev_idx q) + 16)
          [BitVec.ofNat 64 (3 + 2 * 256 + 2 ^ 63), 0] ∈ t.out ∧
        t.flag F.DT_BUF_EVT_no_cell = true ∧ t.port = s.port ∧ t.buf = s.buf))) ∧
  (∀ (q l : Nat) (w0 w1 : Word) (bytes : List Byte) (s : State), s.live = true → 64 ≤ q → q < 128 →
    s.qRuns q = true → s.mayIssue 1 = true →
    s.injNext = some (q - 64) → l = bits w1.toNat 15 8 →
    60 ≤ bits w1.toNat 0 14 → bits w1.toNat 0 14 ≤ 15996 → s.present l = true →
    bytes.length = bits w1.toNat 0 14 → bitOf w1.toNat 14 = false →
    rxBytes (s.phys (l / 8)).inbuf + (bytes.length + 4) ≤ 524288 →
    Answers (.injectDescriptor q w0 w1 bytes) s (fun t =>
      .dmaWrite 1 (s.slotAddr q (s.get F.TF_QCTX_STAT_dev_idx q) + 16) [BitVec.ofNat 64 (2 ^ 63), 0] ∈ t.out ∧
      t.port = ((s.intoMac l ⟨l, 0, s.time, bytes, decide (s.maxFrame l < bytes.length + 4)⟩).2).port ∧
      t.rd R.TF_HOST_CNT 2 = cntAdd (s.rd R.TF_HOST_CNT 2) 1)) ∧
  (∀ (m : Nat) (s : State), s.live = true → m < 544 → m ∉ s.buf.badMacros →
    Answers (.bufferMacroFault m) s (fun t => t.buf = { s.buf with badMacros := s.buf.badMacros ++ [m] } ∧
      t.get F.DT_GUAR_EVT_unit_kind = 4 ∧ t.get F.DT_GUAR_EVT_unit_index = m ∧
      t.get F.DT_GUAR_EVT_unit_faults = min (2 ^ 32 - 1) (s.get F.DT_GUAR_EVT_unit_faults + 1) ∧
      t.flag F.DT_GUAR_EVT_cover_lost = true ∧
      ((∃ n ∈ s.buf.badMacros, n / 34 = m / 34) → t.flag F.DT_GUAR_EVT_double_fault = true) ∧
      RegsBut [regAddr R.DT_GUAR_EVT 0 0] s t))

/-- A request received enters its module in the set of a port and class or takes it out, and releases what is
returned. A grant takes the next module of the set to its end, reserves one credit for another module and sends it
the grant, and adds it to an own queue at once. A grant received adds to the balance of a queue that holds packets,
and goes back from one that is empty and not hungry. Serving a queue takes its head packet and its cost, to the
streams of another module or to the egress queue of the own; an emptied queue keeps no balance. A grant that waits
on free memory raises its event. The end of the holdoff after 1 ms lets a port and class cut through again. (R387,
R390, R413, R436, R437, R438, R439, R440, R441, R442, R443, R445) -/
def Obligations.CreditsAreRequestedGrantedAndSpent : Prop :=
  (∀ (src l c : Nat) (w : Word) (s : State), s.live = true → src < 256 → src ≠ s.myId → l = bits w.toNat 0 8 →
    c = bits w.toNat 8 3 →
    Answers (.creditReqReceive src w) s (fun t =>
      (src ∈ tget t.sch.reqs (l * 8 + c) [] ↔ bitOf w.toNat 11 = true) ∧
      (∀ m, m ≠ src → (m ∈ tget t.sch.reqs (l * 8 + c) [] ↔ m ∈ tget s.sch.reqs (l * 8 + c) [])) ∧
      tget t.buf.resv (resvKey src l c) 0 = tget s.buf.resv (resvKey src l c) 0 - 256 * bits w.toNat 16 20 ∧
      (∀ k, k ≠ resvKey src l c → tget t.buf.resv k 0 = tget s.buf.resv k 0) ∧
      RegsBut ([regAddr R.DT_SCHED_CNT 3 0, regAddr R.DT_BUF_CNT 7 0, regAddr R.KV_TLM_CNT 2 0, regAddr R.KV_TLM_EVT 0 0] ++
        (List.range 256).map (fun i => regAddr R.DT_LOSSLESS i 0)) s t)) ∧
  (∀ (l c src : Nat) (s : State), s.live = true → l < 256 → c < 8 → s.nextGrant l c = some src →
    s.grantWindow l c = true → 4096 ≤ s.freeShared →
    Answers (.creditGrantIssue l c) s (fun t =>
      (src ≠ s.myId →
        tget t.sch.reqs (l * 8 + c) [] = (tget s.sch.reqs (l * 8 + c) []).filter (fun m => m ≠ src) ++ [src] ∧
        tget t.buf.resv (resvKey src l c) 0 = tget s.buf.resv (resvKey src l c) 0 + 4096 ∧
        ∃ e ∈ (t.msgs src).grant, bits e.2.toNat 0 11 = l + c * 256 ∧ 0 < bits e.2.toNat 11 4) ∧
      (src = s.myId → (s.voq (voqId src l c)).q ≠ [] →
        (t.voq (voqId src l c)).balance = (s.voq (voqId src l c)).balance + 4096 ∧
        (t.voq (voqId src l c)).q = (s.voq (voqId src l c)).q ∧ t.buf.resv = s.buf.resv))) ∧
  (∀ (src v n : Nat) (w : Word) (s : State), s.live = true → src < 256 → src ≠ s.myId → n = bits w.toNat 11 4 →
    0 < n → v = voqId src (bits w.toNat 0 8) (bits w.toNat 8 3) →
    Answers (.creditGrantReceive src w) s (fun t => (t.voq v).q = (s.voq v).q ∧
      ((s.voq v).q ≠ [] → (t.voq v).balance = (s.voq v).balance + n * 4096) ∧
      ((s.voq v).q = [] → (s.voq v).reqOn = false → t.voq v = s.voq v ∧ t.flag F.DT_SCHED_EVT_late_return = true ∧
        (s.up, reqMsg v false (n * 4096)) ∈ (t.msgs src).req))) ∧
  (∀ (l c : Nat) (s : State), s.live = true → s.freeShared < 4096 → thas s.sch.reqs (l * 8 + c) = true → c < 8 →
    s.grantWindow l c = true → (s.nextGrant l c).isSome = true →
    Answers .grantWaitFTimeout s (fun t => t.flag F.DT_SCHED_EVT_grant_wait_f = true ∧
      OnlyRegs [regAddr R.DT_SCHED_EVT 0 0] s t)) ∧
  (∀ (v : Nat) (e : VPkt) (rest : List VPkt) (s : State), s.live = true → s.nextVoq = some v →
    (s.voq v).q = e :: rest → e.pkt.tr = none →
    (e.pkt.dm = s.myId → s.view s.myId e.pkt.dl = .up) →
    Answers .voqService s (fun t => (t.voq v).q = rest ∧
      (t.voq v).balance = (if rest = [] then 0 else (s.voq v).balance - creditCost e.pkt.length) ∧
      t.sch.rrVoq = v ∧
      (e.pkt.dm ≠ s.myId →
        (t.txs e.pkt.dm e.pkt.cls).pkts = (s.txs e.pkt.dm e.pkt.cls).pkts ++ [e.pkt] ∧
        t.sch.queues = s.sch.queues) ∧
      (e.pkt.dm = s.myId →
        t.equeue (s.eqOf e.pkt.dl e.pkt.cls e.pkt.tag) =
          s.equeue (s.eqOf e.pkt.dl e.pkt.cls e.pkt.tag) ++ [{ e.pkt with ct := false }] ∧ t.fab.tx = s.fab.tx))) ∧
  (∀ (l c since : Nat) (s : State), s.live = true → tget? s.buf.ctOff (l * 8 + c) = some since →
    since + 1000000 ≤ s.up →
    Answers (.ctHoldoffExpiry l c) s (fun t => thas t.buf.ctOff (l * 8 + c) = false ∧
      t = { s.settled t with buf := { s.buf with ctOff := tdel s.buf.ctOff (l * 8 + c) } } ∧ RegsBut [] s t))

/-- A full row of a queue that is written, or an open one at its limit, moves the written offset by it, and no
entry that lies below stays staged. Read-back of the one entry that is still staged brings it on die and ends the
chain. A hold that has lasted hold_ms leads to PROTECT where a protect port that is UP is enabled, else to DOWN
with the queues of the port flushed; it is counted and raises the event. In DRAIN or QUIESCED the packets that a
class paused for longer than hold_ms holds for a port without protect port leave its queues, and no other queue
changes. (R72, R391, R393, R394, R395, R397, R398, R400, R554, R555) -/
def Obligations.TailRowsReadBackAndHoldExpiry : Prop :=
  (∀ (v : Nat) (s : State), s.live = true → (s.voq v).written + s.rowSize ≤ (s.voq v).wOff →
    s.deadStripe = false → 0 < voqTail (s.voq v) →
    Answers (.tailRowWrite v) s (fun t => (t.voq v).written = (s.voq v).written + s.rowSize ∧
      (t.voq v).wOff = (s.voq v).wOff ∧ (t.voq v).segs = (s.voq v).segs ∧
      (∀ e ∈ (t.voq v).q, e.place = .staged → (s.voq v).written + s.rowSize < e.off + e.pkt.a) ∧
      (∀ k, k ≠ v → t.voq k = s.voq k))) ∧
  (∀ (v : Nat) (s : State), s.live = true → (s.voq v).written < (s.voq v).wOff →
    (s.voq v).wOff < (s.voq v).written + s.rowSize → (s.voq v).fedAt + 100000 ≤ s.up →
    s.deadStripe = false → 0 < voqTail (s.voq v) →
    Answers (.tailRowTimeout v) s (fun t => (t.voq v).wOff = (t.voq v).written ∧ (s.voq v).wOff ≤ (t.voq v).wOff ∧
      (t.voq v).written % s.rowSize = 0 ∧
      (∀ e ∈ (t.voq v).q, e.place = .staged → (t.voq v).written < e.off + e.pkt.a))) ∧
  (∀ (v : Nat) (e : VPkt) (s : State), s.live = true → (s.voq v).spilling = true → (s.voq v).q = [e] →
    e.place = .staged → (s.voq v).written ≤ e.off → 0 < e.pkt.a → 0 < s.spillAt v → segSize ≤ s.freeShared →
    Answers (.tailReadback v) s (fun t => (t.voq v).q = [{ e with place := .die }] ∧ (t.voq v).spilling = false ∧
      (t.voq v).segs = [] ∧ (t.voq v).balance = (s.voq v).balance ∧
      t.rd R.DT_BUF_CNT 5 = cntAdd (s.rd R.DT_BUF_CNT 5) 1)) ∧
  (∀ (m l : Nat) (s : State), s.live = true → l < 256 → s.view m l = .hold →
    tget s.buf.holdAt (viewKey m l) 0 + s.holdMs l * 1000000 ≤ s.up →
    Answers (.holdExpiry m l) s (fun t =>
      t.view m l = (if (s.protectOf l).isSome = true then .prot else .down) ∧
      t.flag F.DT_BUF_EVT_hold_expired = true ∧ t.rd R.DT_BUF_CNT 10 = cntAdd (s.rd R.DT_BUF_CNT 10) 1 ∧
      (s.protectOf l = none → ∀ c < 8, (t.voq (voqId m l c)).q = [] ∧ (t.voq (voqId m l c)).balance = 0) ∧
      (s.protectOf l = none → m = s.myId → ∀ q, ∀ x ∈ t.equeue q, x.dl ≠ l))) ∧
  (∀ (l c : Nat) (s : State), (s.mode = DRAIN ∨ s.mode = QUIESCED) → l < 256 → c < 8 →
    bitOf (s.get F.TF_LPORT_STAT_rx_paused l) c = true → s.protectOf l = none →
    (s.lp l).since.getD c 0 + s.holdMs l * 1000000 < s.up →
    Answers (.pauseHoldExpiry l c) s (fun t =>
      (∀ q, q % 4 = s.qmap l c → t.equeue q = (s.equeue q).filter (fun x => !decide (x.dl = l))) ∧
      (∀ q, q % 4 ≠ s.qmap l c → t.equeue q = s.equeue q) ∧ t.buf.views = s.buf.views))

/-- A decision of a physical port takes the head packet of the queue that its levels pick, gives it the next handle
and the next eseq of its port, records it as outstanding with its pipeline, and is counted. A refill adds the rate
in bits to each bucket of a node and of an enabled policer, not above its cap, and installs the words that wait.
Nothing else changes. A full transmit buffer that has held a port raises its event. (R417, R418, R419, R426, R429,
R432, R435, R457, R512, R513, R540) -/
def Obligations.SchedulingDecisionsAndRefills : Prop :=
  (∀ (p l g sub q : Nat) (b : Bool) (x : Pkt) (rest : List Pkt) (s : State), s.live = true → p < 32 →
    s.nextPort p = some l → s.egPick p = some b → s.pickChild 0 l = some g → s.pickChild 1 g = some sub →
    s.pickChild 2 sub = some q → s.equeue q = x :: rest → s.deadStripe = false →
    Answers (.schedDecision p) s (fun t => t.equeue q = rest ∧
      (∃ o : Outstanding, tget? t.sch.outst s.sch.nextH = some o ∧ o.pkt.body = x.body ∧ o.pkt.dl = x.dl ∧
        o.port = x.dl / 8 ∧ o.pipeB = b ∧ o.eseq = (s.phys (x.dl / 8)).eseq ∧ o.queue = q ∧ o.copies = x.start) ∧
      t.sch.nextH = (s.sch.nextH + 1) % 2 ^ 24 ∧
      (t.phys (x.dl / 8)).eseq = ((s.phys (x.dl / 8)).eseq + 1) % 2 ^ 16 ∧
      t.rd R.DT_SCHED_CNT 8 = cntAdd (s.rd R.DT_SCHED_CNT 8) 1 ∧
      (∀ k, k ≠ q → t.equeue k = s.equeue k) ∧ t.buf.bodies = s.buf.bodies)) ∧
  (∀ (p : Nat) (s : State), s.live = true → s.nextPort p = none →
    Answers (.schedDecision p) s (fun t => OnlyRegs [] s t)) ∧
  (∀ s : State, s.live = true →
    Answers .shaperRefill s (fun t =>
      (∀ k x, tget? s.sch.nodes k = some x → ∃ y, tget? t.sch.nodes k = some y ∧
        (x.pend = none → y = { x with
          c := if nwCir x.rate = 0 then x.c else min (x.c + nwCir x.rate) ((8 * nwCbs x.rate : Nat) : Int)
          p := if nwPir x.rate = 0 then x.p else min (x.p + nwPir x.rate) ((8 * nwPbs x.rate : Nat) : Int) }) ∧
        (∀ w, x.pend = some w → y.rate = w ∧ y.pend = none ∧ y.c ≤ (8 * nwCbs w : Nat) ∧
          y.p ≤ (8 * nwPbs w : Nat))) ∧
      (∀ k x, tget? s.sch.pols k = some x → x.pend = none → polEnable x.w = true →
        ∃ y, tget? t.sch.pols k = some y ∧ y.w = x.w ∧ y.b0 = min (8 * nwCbs x.w) (x.b0 + nwCir x.w) ∧
          (polSr x.w = false → y.b1 = min (8 * nwPbs x.w) (x.b1 + nwPir x.w)) ∧
          (polSr x.w = true → y.b1 = min (8 * nwPbs x.w) (x.b1 + (x.b0 + nwCir x.w - 8 * nwCbs x.w)))) ∧
      (∀ k x, tget? s.sch.pols k = some x → polEnable x.w = false → tget? t.sch.pols k = some x) ∧
      t = { s.settled t with sch := { s.sch with
        nodes := t.sch.nodes
        pols := t.sch.pols } } ∧ RegsBut [] s t)) ∧
  (∀ (p : Nat) (s : State), s.live = true → p < 32 → s.txFull p = true →
    Answers (.txHoldTimeout p) s (fun t => t.flag F.DT_SCHED_EVT_tx_hold = true ∧
      OnlyRegs [regAddr R.DT_SCHED_EVT 0 0] s t))

/-- A lane with signal in RAISE or later trains with a new link; trained it is on trial, and it falls back to DOWN
after 500 ms of training; a trial passed after 1 ms is UP and its fault is gone. A lane that fails is DOWN and
counted. A frame with the next link sequence is taken and delivered; the first out of order, or one whose CRC
fails, is answered with a NAK, and those after it are dropped in silence. An acknowledgement frees the replay
buffer up to it, and nothing else where no lost record waits for room; a NAK sends it again, counted. An idle frame
carries the acknowledgement. (R460, R461, R462, R463, R813) -/
def Obligations.FabricLanesTrainFailAndReplay : Prop :=
  (∀ (n : Nat) (s : State), RAISE ≤ s.mode → s.fabOn = true → n < 320 → s.isOn (49 + n / 40) = true → s.laneSt n = 0 →
    Answers (.fabLaneSignalDetect n) s (fun t => t.laneSt n = 1 ∧ t.flag F.DT_FAB_LANE_signal n = true ∧
      t.flink n = fabLink0 ∧ (∀ k, k ≠ n → t.flink k = s.flink k) ∧
      t = { s.settled t with fab := { s.fab with
        links := t.fab.links
        laneAt := tset s.fab.laneAt n s.up } } ∧
      RegsBut [regAddr R.DT_FAB_LANE n 0] s t)) ∧
  (∀ (n : Nat) (s : State), n < 320 → s.laneSt n = 1 →
    Answers (.fabLaneTrained n) s (fun t => t.laneSt n = 2 ∧
      t = { s.settled t with fab := { s.fab with laneAt := tset s.fab.laneAt n s.up } } ∧
      RegsBut [regAddr R.DT_FAB_LANE n 0] s t)) ∧
  (∀ (n : Nat) (s : State), n < 320 → s.laneSt n = 1 → tget s.fab.laneAt n 0 + 500000000 ≤ s.up →
    Answers (.fabLaneTrainTimeout n) s (fun t => t.laneSt n = 0 ∧
      t = { s.settled t with fab := { s.fab with laneAt := tset s.fab.laneAt n s.up } } ∧
      RegsBut [regAddr R.DT_FAB_LANE n 0] s t)) ∧
  (∀ (n : Nat) (s : State), n < 320 → s.laneSt n = 2 →
    tget s.fab.laneAt n 0 + 1000000 ≤ s.up →
    Answers (.fabLaneTrialPass n) s (fun t => t.laneSt n = 3 ∧ t.flag F.DT_FAB_EVT_lane_up = true ∧
      thas t.fab.down n = false ∧ t.buf = s.buf)) ∧
  (∀ (n : Nat) (signal : Bool) (s : State), n < 320 → 2 ≤ s.laneSt n →
    Answers (.fabLaneFail n signal) s (fun t => t.laneSt n = 0 ∧ t.flag F.DT_FAB_LANE_signal n = signal ∧
      t.get F.DT_FAB_LANE_fails n = min 255 (s.get F.DT_FAB_LANE_fails n + 1) ∧
      t.flag F.DT_FAB_EVT_lane_down = true ∧ t.buf = s.buf)) ∧
  (∀ (n : Nat) (s : State), n < 320 → 1 ≤ s.laneSt n →
    Answers (.linkIdleFrame n) s (fun t => (∃ q, .linkFrame n .idle q (linkAck (s.flink n)) none ∈ t.out) ∧
      t.fab = s.fab ∧ RegsBut [] s t)) ∧
  (∀ (n seq ack : Nat) (c : Cell) (s : State), n < 320 → 1 ≤ s.laneSt n → (s.flink n).replay = [] →
    Answers (.linkFrameReceive n seq ack .cell (some c) true) s (fun t =>
      (seq = (s.flink n).rxSeq → t.fab.arrived = s.fab.arrived ++ [(n, c)] ∧
        t.flink n = { s.flink n with
          rxSeq := ((s.flink n).rxSeq + 1) % 4096
          nakked := false }) ∧
      (seq ≠ (s.flink n).rxSeq → t.fab.arrived = s.fab.arrived ∧ t.flink n = { s.flink n with nakked := true }) ∧
      (seq ≠ (s.flink n).rxSeq → (s.flink n).nakked = false →
        ∃ q, .linkFrame n .nak q (linkAck (s.flink n)) none ∈ t.out) ∧
      (seq ≠ (s.flink n).rxSeq → (s.flink n).nakked = true → OnlyRegs [] s t))) ∧
  (∀ (n seq ack : Nat) (kind : LinkKind) (cell : Option Cell) (s : State), n < 320 → 1 ≤ s.laneSt n →
    Answers (.linkFrameReceive n seq ack kind cell false) s (fun t => t.fab.arrived = s.fab.arrived ∧
      t.flink n = { s.flink n with nakked := true } ∧
      (∃ q, .linkFrame n .nak q (linkAck (s.flink n)) none ∈ t.out) ∧ RegsBut [] s t)) ∧
  (∀ (n seq ack : Nat) (c : Cell) (rest : List (Nat × Cell)) (s : State), n < 320 → 1 ≤ s.laneSt n →
    (s.flink n).replay = (ack, c) :: rest → (∀ m st, ∀ r ∈ (s.txs m st).recs, s.recLost m r = false) →
    Answers (.linkFrameReceive n seq ack .idle none true) s (fun t =>
      t.flink n = { s.flink n with
        replay := rest
        replays := 0 } ∧ t.fab.arrived = s.fab.arrived ∧ RegsBut [] s t)) ∧
  (∀ (n seq ack : Nat) (e : Nat × Cell) (s : State), n < 320 → 1 ≤ s.laneSt n → (s.flink n).replay = [e] →
    e.1 ≠ ack → (s.flink n).replays < 7 →
    Answers (.linkFrameReceive n seq ack .nak none true) s (fun t =>
      .linkFrame n .cell e.1 (linkAck (s.flink n)) (some e.2) ∈ t.out ∧
      t.flink n = { s.flink n with replays := (s.flink n).replays + 1 } ∧
      t.get F.DT_FAB_LANE_replays n = min (2 ^ 32 - 1) (s.get F.DT_FAB_LANE_replays n + 1)))

/-- A slot offered to a data stream whose one packet fits a cell sends it with the next number and keeps the
record; one offered to the control stream, or to credit messages that are due, sends up to 60 of those that wait
and keeps the record. An acknowledgement past the last one frees the records below it, a stale one is counted, and
one past what was sent is counted and raises the event. The timer, once the oldest cell has gone that long, sends
it again, counted, and doubles. Streams abandoned when the time of R501 is over hold nothing, restart at 0 with the
restart mark, and are counted. (R445, R467, R468, R469, R473, R479, R489, R490, R493, R495, R501) -/
def Obligations.SourceStreamsSendAckResendAndRestart : Prop :=
  (∀ (m st n : Nat) (p : Pkt) (s : State), m < 256 → st < 8 → s.slotFor m true = some n → (s.txs m st).pkts = [p] →
    (s.txs m st).cut = 0 → cellsOf p.length = 1 → s.deadStripe = false →
    Answers (.cellSend m st) s (fun t => ∃ c : Cell, cType c = 0 ∧ cSop c = true ∧ cEop c = true ∧
      cSeq c = (s.txs m st).next % 2 ^ 32 ∧
      .linkFrame n .cell (s.flink n).txSeq (linkAck (s.flink n)) (some c) ∈ t.out ∧
      t.txs m st = { s.txs m st with
        next := ((s.txs m st).next + 1) % 2 ^ 32
        restart := false
        recs := (s.txs m st).recs ++ [⟨(s.txs m st).next, c, n, [p], s.up⟩]
        progAt := if (s.txs m st).recs.isEmpty then s.up else (s.txs m st).progAt
        pkts := [] })) ∧
  (∀ (m n : Nat) (s : State), s.slotFor m false = some n → (s.msgs m).ctl ≠ [] →
    Answers (.cellSend m 8) s (fun t => (t.msgs m).ctl = (s.msgs m).ctl.drop 60 ∧ (t.msgs m).req = (s.msgs m).req ∧
      ∃ c : Cell, cType c = 6 ∧ cSeq c = (s.txs m 8).next % 2 ^ 32 ∧
        .linkFrame n .cell (s.flink n).txSeq (linkAck (s.flink n)) (some c) ∈ t.out ∧
        (t.txs m 8).recs = (s.txs m 8).recs ++ [⟨(s.txs m 8).next, c, n, [], s.up⟩])) ∧
  (∀ (m n : Nat) (grant : Bool) (s : State), s.slotFor m false = some n →
    s.creditDue (if grant then (s.msgs m).grant else (s.msgs m).req) = true →
    Answers (.creditCellSend m grant) s (fun t =>
      (t.msgs m).grant = (if grant then (s.msgs m).grant.drop 60 else (s.msgs m).grant) ∧
      (t.msgs m).req = (if grant then (s.msgs m).req else (s.msgs m).req.drop 60) ∧
      ∃ c : Cell, cType c = (if grant then 2 else 1) ∧ cSeq c = (s.txs m 8).next % 2 ^ 32 ∧
        (t.txs m 8).recs = (s.txs m 8).recs ++ [⟨(s.txs m 8).next, c, n, [], s.up⟩])) ∧
  (∀ (src st nx : Nat) (w : Word) (s : State), s.live = true → s.fabOn = true → src < 256 → src ≠ s.myId →
    st = bits w.toNat 0 4 → st < 9 → nx = bits w.toNat 32 32 →
    Answers (.ackReceive src w) s (fun t =>
      (serLe 32 nx (s.txs src st).acked = true → t.fab.tx = s.fab.tx ∧
        t.rd R.DT_FAB_CNT 10 = cntAdd (s.rd R.DT_FAB_CNT 10) 1) ∧
      (serLe 32 nx (s.txs src st).acked = false → serBefore 32 (s.txs src st).next nx = true →
        t.fab.tx = s.fab.tx ∧ t.flag F.DT_FAB_EVT_ack_bad = true) ∧
      (serLe 32 nx (s.txs src st).acked = false → serBefore 32 (s.txs src st).next nx = false →
        (t.txs src st).acked = nx ∧ (t.txs src st).next = (s.txs src st).next ∧
        (t.txs src st).recs = (s.txs src st).recs.filter (fun r => !serBefore 32 r.seq nx)))) ∧
  (∀ (m c : Nat) (r : Tether) (rest : List Tether) (s : State), s.live = true → s.fabOn = true →
    (s.peer m).reachable = true → (s.pickLane m none).isSome = true → (s.txs m c).recs = r :: rest →
    r.sentAt + s.rtoNs (s.txs m c) ≤ s.up →
    Answers (.retxTimeout m c) s (fun t => (t.txs m c).backoff = min 3 ((s.txs m c).backoff + 1) ∧
      (t.txs m c).recs.map (fun x => x.seq) = (s.txs m c).recs.map (fun x => x.seq) ∧
      (t.txs m c).next = (s.txs m c).next ∧
      (∀ n, s.pickLane m (some (r.lane / 40)) = some n →
        .linkFrame n .cell (s.flink n).txSeq (linkAck (s.flink n)) (some (retxCell r.cell)) ∈ t.out ∧
        t.rd R.DT_FAB_CNT 5 = cntAdd (s.rd R.DT_FAB_CNT 5) 1))) ∧
  (∀ (m : Nat) (s : State), s.live = true → s.fabOn = true → m ∈ tkeys s.fab.peers →
    s.abandonDue m = true →
    Answers (.streamAbandon m) s (fun t => (∀ st < 9, (t.txs m st).next = 0 ∧ (t.txs m st).acked = 0 ∧
        (t.txs m st).recs = [] ∧ (t.txs m st).cut = 0 ∧ (t.txs m st).restart = true) ∧
      t.flag F.DT_FAB_EVT_abandon = true ∧ t.rd R.DT_FAB_CNT 13 = cntAdd (s.rd R.DT_FAB_CNT 13) 9))

/-- A cell whose header CRC fails is counted and dropped; one already released is counted and owes an entry; a data
cell ahead of the next number is counted and held; a port state message in order releases, and its sender's view is
up. An acknowledgement carries the entries that are due, and only those streams owe none then. A gap open for 200
us raises its event. Every period a heartbeat goes to the peer on each plane with a lane. One heard marks its
plane, makes its module reachable and records what it hears and its incarnation; one with the module's own id is a
conflict. A plane without heartbeat for three periods is unmarked; without any plane the module is unreachable, and
nothing stays reserved for it. (R444, R466, R478, R481, R482, R483, R484, R487, R488, R496, R499, R503) -/
def Obligations.DestinationStreamsReleaseInOrderAndHeartbeatsReach : Prop :=
  (∀ (n src st : Nat) (c : Cell) (rest : List (Nat × Cell)) (s : State), s.live = true → s.fabOn = true →
    s.fab.arrived = (n, c) :: rest → src = cSrc c → st = cStream c →
    Answers .cellReceive s (fun t => (cellOk c = false → t.fab = { s.fab with arrived := rest } ∧
        t.rd R.DT_FAB_CNT 7 = cntAdd (s.rd R.DT_FAB_CNT 7) 1) ∧
      (cellOk c = true → cType c = 0 → st < 9 → cRestart c = false → serBefore 32 (cSeq c) (s.rxs src st).next = true →
        (t.rxs src st).next = (s.rxs src st).next ∧ (t.rxs src st).held = (s.rxs src st).held ∧
        t.rd R.DT_FAB_CNT 6 = cntAdd (s.rd R.DT_FAB_CNT 6) 1) ∧
      (cellOk c = true → cType c = 0 → st < 9 → cRestart c = false → (s.rxs src st).held = [] →
        serBefore 32 (s.rxs src st).next (cSeq c) = true →
        (cSeq c + 2 ^ 32 - (s.rxs src st).next) % 2 ^ 32 < 65536 → (s.rxs src st).next < 2 ^ 32 →
        (t.rxs src st).next = (s.rxs src st).next ∧ (t.rxs src st).held = [(cSeq c, c)] ∧
        t.rd R.DT_FAB_CNT 3 = cntAdd (s.rd R.DT_FAB_CNT 3) 1) ∧
      (∀ w : Word, cellOk c = true → cType c = 6 → st < 9 → cRestart c = false → (s.rxs src st).held = [] →
        cSeq c = (s.rxs src st).next → src ≠ s.myId → msgWords c.payload = [w] → bits w.toNat 0 4 = 0 →
        bitOf w.toNat 12 = true →
        (t.rxs src st).next = ((s.rxs src st).next + 1) % 2 ^ 32 ∧ (t.rxs src st).held = [] ∧
        t.view src (bits w.toNat 4 8) = .up))) ∧
  (∀ (src n st0 : Nat) (s : State), s.live = true → s.fabOn = true →
    (s.pickLane src none).filter s.ctlFree = some n → st0 < 9 →
    s.ackDue (s.rxs src st0) = true →
    Answers (.ackSend src) s (fun t => (∀ st < 9,
        (s.ackDue (s.rxs src st) = true → (t.rxs src st).since = 0 ∧ (t.rxs src st).owed = false) ∧
        (s.ackDue (s.rxs src st) = false → t.rxs src st = s.rxs src st) ∧
        (t.rxs src st).next = (s.rxs src st).next ∧ (t.rxs src st).held = (s.rxs src st).held) ∧
      ∃ c : Cell, cType c = 3 ∧
        .linkFrame n .cell (s.flink n).txSeq (linkAck (s.flink n)) (some c) ∈ t.out)) ∧
  (∀ (m c q since : Nat) (s : State), s.live = true → (q, since) ∈ (s.rxs m c).heldAt → since + 200000 ≤ s.up →
    Answers (.gapOldTimer m c) s (fun t => t.flag F.DT_FAB_EVT_gap_old = true ∧
      OnlyRegs [regAddr R.DT_FAB_EVT 0 0] s t)) ∧
  (∀ (m k n : Nat) (s : State), s.live = true → s.fabOn = true → s.peerModules = [m] → k < 8 → s.hbLane k = some n →
    (∀ t0, s.fab.hbSent = some t0 → t0 + s.hbNs ≤ s.up) →
    Answers .heartbeatSend s (fun t => ∃ c : Cell, cType c = 5 ∧
      .linkFrame n .cell (s.flink n).txSeq (linkAck (s.flink n)) (some c) ∈ t.out)) ∧
  (∀ (plane : Nat) (c : Cell) (s : State), s.live = true → s.fabOn = true → plane < 8 → cellOk c = true →
    cType c = 5 →
    Answers (.heartbeatReceive plane c) s (fun t =>
      (cSrc c = s.myId → t.fab.conflict = true ∧ t.flag F.DT_FAB_EVT_id_conflict = true) ∧
      (cSrc c ≠ s.myId → ((s.peer (cSrc c)).inc = none ∨
          (s.peer (cSrc c)).inc = some (bits ((payWords c.payload).headD 0).toNat 0 16)) →
        (t.peer (cSrc c)).reachable = true ∧ bitOf (t.peer (cSrc c)).heardOn plane = true ∧
        (t.peer (cSrc c)).hears = bits ((payWords c.payload).headD 0).toNat 32 8 ∧
        (t.peer (cSrc c)).inc = some (bits ((payWords c.payload).headD 0).toNat 0 16)))) ∧
  (∀ (m plane : Nat) (s : State), s.live = true → s.fabOn = true → plane < 8 →
    bitOf (s.peer m).heardOn plane = true → tget (s.peer m).hbAt plane 0 + 3 * s.hbNs ≤ s.up →
    Answers (.heartbeatTimeout m plane) s (fun t => bitOf (t.peer m).heardOn plane = false ∧
      ((s.peer m).heardOn ≠ 2 ^ plane → (t.peer m).reachable = (s.peer m).reachable) ∧
      ((s.peer m).heardOn = 2 ^ plane → (s.peer m).reachable = true → (t.peer m).reachable = false ∧
        t.flag F.DT_FAB_EVT_unreach = true ∧ (∀ l < 256, ∀ c < 8, tget t.buf.resv (resvKey m l c) 0 = 0))))

/-- A pipeline takes its oldest unit: one whose header fails is dropped with its event, and one to be sent as it is
reaches an empty MAC unchanged, unless its number has passed. The copy whose turn it is starts unless its class is
paused, and the next number's turn comes. A frame that has left is counted with its length and, when a list named
it, reported at once; one cut off by a port that went down leaves with a bad FCS, is counted and reported. A run is
reported with its first number and length. A report of the last copy delivered settles the unit and frees its body;
one of an abort in place raises ct_underrun and holds cut-through off. Without a report for 100 us the units of the
pipeline are sent again to the other with their numbers. (R54, R375, R390, R511, R513, R514, R515, R517, R518,
R532, R540, R863) -/
def Obligations.UnitsAreRewrittenTransmittedReportedAndSettled : Prop :=
  (∀ (p : Nat) (b : Bool) (bad : Option Nat) (u : EgUnit) (rest : List EgUnit) (s : State), s.live = true → p < 32 →
    s.egPipeOk p b = true → egFifo (s.phys p) b = u :: rest →
    Answers (.egressProcess p b bad) s (fun t =>
      (u.hdrOk = false → egFifo (t.phys p) b = rest ∧ t.flag F.TF_EG_EVT_hdr_bad = true ∧ (t.phys p).tx = (s.phys p).tx) ∧
      (u.hdrOk = true → bad = none → u.ts.raw = true → u.egList = none → u.ct = false →
        s.viewUp s.myId u.lport = true → egFifo (t.phys p) b = rest ∧
        ((s.phys p).tx = [] → serBefore 16 u.eseq (s.phys p).nextEseq = false → ∃ c : TxCopy,
          (t.phys p).tx = [c] ∧ c.fate = .send u.bytes ∧ c.handle = u.handle ∧ c.eseq = u.eseq ∧
          c.lport = u.lport ∧ c.last = true ∧ c.stage = 0) ∧
        (serBefore 16 u.eseq (s.phys p).nextEseq = true → (t.phys p).tx = (s.phys p).tx ∧
          .one u.handle 0 0 0 s.time [] none ∈ t.port.reports)))) ∧
  (∀ (p : Nat) (c : TxCopy) (b : List Byte) (s : State), s.live = true → p < 32 → (s.phys p).tx = [c] →
    c.eseq = (s.phys p).nextEseq → c.stage = 0 → c.fate = .send b → c.last = true → c.ts.req = 0 →
    s.link c.lport = 4 → bitOf (s.get F.TF_LPORT_STAT_rx_paused c.lport) c.cls = false →
    Answers (.txUnitStart p) s (fun t => (t.phys p).tx = [{ c with stage := 1 }] ∧
      (t.phys p).nextEseq = ((s.phys p).nextEseq + 1) % 2 ^ 16 ∧ t.buf = s.buf ∧ RegsBut [] s t)) ∧
  (∀ (l : Nat) (c : TxCopy) (b : List Byte) (s : State), s.live = true → l < 256 → s.mode ≠ MAINTENANCE →
    (s.phys (l / 8)).tx = [c] → c.lport = l → c.stage = 1 → c.fate = .send b → c.last = true →
    Answers (.frameDelivered l) s (fun t => .frame l b true ∈ t.out ∧
      t.rd R.TF_MAC_CNT l 8 = cntAdd (s.rd R.TF_MAC_CNT l 8) 1 ∧
      t.rd R.TF_MAC_CNT l 9 = cntAdd (s.rd R.TF_MAC_CNT l 9) (b.length + 4) ∧
      t.rd R.TF_EG_CNT 0 = cntAdd (s.rd R.TF_EG_CNT 0) 1 ∧
      (c.listed = true → .one c.handle c.copy 0 0 s.time c.exported c.tr ∈ t.port.reports))) ∧
  (∀ (l : Nat) (c : TxCopy) (s : State), s.live = true → l < 256 → s.link l ≠ 4 → (s.phys (l / 8)).tx = [c] →
    c.lport = l → c.stage = 1 →
    Answers (.portDownAbort l) s (fun t => .frame l [] false ∈ t.out ∧
      t.rd R.TF_MAC_CNT l 10 = cntAdd (s.rd R.TF_MAC_CNT l 10) 1 ∧ (t.phys (l / 8)).tx = [] ∧
      .one c.handle c.copy 3 0 c.sentAt c.exported c.tr ∈ t.port.reports)) ∧
  (∀ (p : Nat) (a : RunUnit) (r : List RunUnit) (s : State), s.live = true → p < 32 → (s.phys p).run = a :: r →
    Answers (.runReportFlush p) s (fun t => (t.phys p).run = [] ∧
      t.port.reports = s.port.reports ++ [.run a.eseq p (r.length + 1)
        ((a :: r).map (fun u => (u.sentAt, u.exported, u.tr)))] ∧ RegsBut [] s t)) ∧
  (∀ (h copy sentAt reason : Nat) (ex : List Byte) (rest : List Report) (o : Outstanding) (s : State), s.live = true →
    s.port.reports = .one h copy 0 reason sentAt ex none :: rest → tget? s.sch.outst h = some o →
    s.unitCopies o.pkt ≤ copy + 1 →
    Answers .deliveryReportReceive s (fun t => thas t.sch.outst h = false ∧ t.port.reports = rest ∧
      (∀ k, k ≠ h → tget? t.sch.outst k = tget? s.sch.outst k) ∧
      ((s.body o.pkt.body).refs ≤ 1 → thas t.buf.bodies o.pkt.body = false))) ∧
  (∀ (h copy sentAt reason : Nat) (ex : List Byte) (rest : List Report) (o : Outstanding) (s : State), s.live = true →
    s.port.reports = .one h copy 3 reason sentAt ex none :: rest → tget? s.sch.outst h = some o → o.down = false →
    (s.body o.pkt.body).complete = false →
    Answers .deliveryReportReceive s (fun t => t.flag F.DT_BUF_EVT_ct_underrun = true ∧ h ∈ t.sch.resend ∧
      thas t.buf.ctOff (o.pkt.dl * 8 + o.pkt.cls) = true ∧ tget? t.sch.outst h = some o)) ∧
  (∀ (h sent : Nat) (o : Outstanding) (s : State), s.live = true → tget? s.sch.outst h = some o → h ∉ s.sch.resend →
    o.sentAt = some sent → sent + 100000 ≤ s.up → s.deadStripe = false → s.egPipeOk o.port (!o.pipeB) = true →
    Answers (.egressResendTimeout h) s (fun t => t.flag F.TF_EG_EVT_resend = true ∧
      ∃ q : Outstanding, tget? t.sch.outst h = some q ∧ q.pipeB = !o.pipeB ∧ q.eseq = o.eseq ∧ q.port = o.port))

/-- A channel that trains is IN with its delays saved, and OUT when it does not; each period, drift below the bound
is applied, a larger one takes a covered channel that is IN to RETRAIN and is otherwise applied and reported; a
retrain leads to CATCHUP, its limit to OUT, and catch-up back to IN with an empty log. A failure takes the channel,
or every channel of its package, OUT with the event. The oldest transaction of a port ends, counted, and the ones
that wait take its place; a corrected read and an uncorrectable one that the mirror serves are counted. A scrub
shows its progress, counts what disagrees, and ends a pass; one that has run for 24 h, and a refresh, are shown. (A
package that has been declared out stays out: the channel statements are about one that has not.) (R549, R551,
R559, R560, R561, R564, R565, R566, R567, R570, R571, R575) -/
def Obligations.MemoryChannelsTrainTrackScrubAndFail : Prop :=
  (∀ (ch eye : Nat) (pass : Bool) (train : List Int) (s : State), isCh ch = true → s.chState ch = 1 →
    s.flag (side ch F.DT_MEM_PKG_out F.TF_MEM_PKG_out) (pkgOf ch) = false →
    Answers (.channelTrainDone ch pass eye train) s (fun t => t.chState ch = (if pass then 2 else 5) ∧
      (pass = true → (t.memCh ch).train = train ∧ (t.memCh ch).drift = [] ∧
        tget? t.mem.saved ch = some train ∧
        t.get (side ch F.DT_MEM_CH_eye_ps F.TF_MEM_CH_eye_ps) (chIdx ch) = min eye 255) ∧
      (pass = false → t.flag (side ch F.DT_MEM_EVT_ch_out F.TF_MEM_EVT_ch_out) = true))) ∧
  (∀ (ch : Nat) (drift : List Int) (s : State), s.chServes ch = true →
    (∀ a, (s.memCh ch).trackAt = some a → a + s.trackNs ch ≤ s.up) →
    Answers (.driftTrack ch drift) s (fun t =>
      ((∀ d ∈ drift, d.natAbs < s.driftPs ch) → (t.memCh ch).drift = drift ∧ t.chState ch = s.chState ch ∧
        t.rd (memCg ch).reg 4 = cntAdd (s.rd (memCg ch).reg 4) 1) ∧
      ((∃ d ∈ drift, s.driftPs ch ≤ d.natAbs) → s.chState ch = 2 → s.coverIn ch = true → t.chState ch = 3 ∧
        t.rd (memCg ch).reg 5 = cntAdd (s.rd (memCg ch).reg 5) 1) ∧
      ((∃ d ∈ drift, s.driftPs ch ≤ d.natAbs) → (s.chState ch ≠ 2 ∨ s.coverIn ch = false) →
        (t.memCh ch).drift = drift ∧ t.chState ch = s.chState ch ∧
        t.rd (memCg ch).reg 6 = cntAdd (s.rd (memCg ch).reg 6) 1 ∧
        t.flag (side ch F.DT_MEM_EVT_retrain_blocked F.TF_MEM_EVT_retrain_blocked) = true))) ∧
  (∀ (ch : Nat) (train : List Int) (s : State), isCh ch = true → s.chState ch = 3 →
    (nearBy (s.memCh ch).train train = true →
      Answers (.retrainDone ch train) s (fun t => t.chState ch = 4 ∧ (t.memCh ch).train = train ∧
        (t.memCh ch).log = (s.memCh ch).log)) ∧
    ((s.memCh ch).retrainAt + 200000 ≤ s.up → s.flag (side ch F.DT_MEM_PKG_out F.TF_MEM_PKG_out) (pkgOf ch) = false →
      Answers (.retrainTimeout ch) s (fun t => t.chState ch = 5 ∧
        t.flag (side ch F.DT_MEM_EVT_ch_out F.TF_MEM_EVT_ch_out) = true))) ∧
  (∀ (ch : Nat) (s : State), isCh ch = true → s.chState ch = 4 →
    Answers (.catchupDone ch) s (fun t => t.chState ch = 2 ∧ (t.memCh ch).log = [] ∧ (t.memCh ch).overflow = false ∧
      (∀ k, k ≠ ch → t.memCh k = s.memCh k))) ∧
  (∀ (ch cause : Nat) (s : State), isCh ch = true → s.awake = true →
    s.flag (side ch F.DT_MEM_PKG_out F.TF_MEM_PKG_out) (pkgOf ch) = false →
    (cause = 0 → 1 ≤ s.chState ch ∧ s.chState ch ≤ 4) →
    Answers (.channelFail ch cause) s (fun t => t.chState ch = 5 ∧
      (cause ≠ 0 → (∀ c ∈ pkgChans (isTail ch) (pkgOf ch), t.chState c = 5) ∧
        t.flag (side ch F.DT_MEM_EVT_pkg_out F.TF_MEM_EVT_pkg_out) = true))) ∧
  (∀ (ch rank addr : Nat) (write : Bool) (x : MemTx) (s : State), s.awake = true → s.chServes ch = true → 1 ≤ rank →
    rank ≤ 5 → oldestTx (s.memq ch) rank = some x → x.addr < 2147483648 → mayEnd (s.memq ch) x = true →
    (x.write = true → isTail ch = true) →
    Answers (.memTransactionComplete ch ⟨rank, addr⟩ write [[]] false) s (fun t =>
      t.rd (memCg ch).reg 0 = cntAdd (s.rd (memCg ch).reg 0) 1 ∧ t.memq ch = endTx (s.memq ch) x ∧
      (∀ k < 120, k ≠ ch → t.memq k = s.memq k) ∧ t.buf = s.buf ∧
      RegsBut [regAddr (memCg ch).reg 0 0, regAddr R.KV_TLM_CNT 2 0, regAddr R.KV_TLM_EVT 0 0] s t)) ∧
  (∀ (ch rank addr sym : Nat) (x : MemTx) (s : State), s.awake = true → s.chServes ch = true → 1 ≤ rank → rank ≤ 5 →
    oldestTx (s.memq ch) rank = some x → x.write = false → x.addr < 2147483648 → mayEnd (s.memq ch) x = true →
    s.markedPin ch = none →
    Answers (.memTransactionComplete ch ⟨rank, addr⟩ false [[sym]] false) s (fun t =>
      t.rd (memCg ch).reg 1 = cntAdd (s.rd (memCg ch).reg 1) 1 ∧
      t.flag (side ch F.DT_MEM_EVT_ce F.TF_MEM_EVT_ce) = true ∧ t.chState ch = s.chState ch)) ∧
  (∀ (ch rank addr : Nat) (x : MemTx) (s : State), s.awake = true → s.chServes ch = true → isTail ch = false → 1 ≤ rank →
    rank ≤ 5 → oldestTx (s.memq ch) rank = some x → x.write = false → x.addr < 2147483648 →
    mayEnd (s.memq ch) x = true → s.markedPin ch = none → (s.memCh ch).ueTimes = [] →
    s.mirrorServes (mirrorOf ch) (s.ballastByte ch x.addr) = true →
    Answers (.memTransactionComplete ch ⟨rank, addr⟩ false [[0, 3, 6]] false) s (fun t =>
      t.rd R.TF_MEM_CNT 2 = cntAdd (s.rd R.TF_MEM_CNT 2) 1 ∧
      t.rd R.TF_MEM_CNT 3 = cntAdd (s.rd R.TF_MEM_CNT 3) 1 ∧ t.flag F.TF_MEM_EVT_ue = true)) ∧
  (∀ (ch addr pct : Nat) (differs : Bool) (s : State), s.live = true → s.chServes ch = true →
    s.flag (side ch F.DT_MEM_CFG_scrub_en F.TF_MEM_CFG_scrub_en) = true → addr < 2147483648 → pct ≤ 100 →
    s.scrubMay ch addr = true →
    Answers (.memScrub ch addr [[]] false differs pct) s (fun t =>
      t.get (side ch F.DT_MEM_STAT_scrub_pct F.TF_MEM_STAT_scrub_pct) = (if pct = 100 then 0 else pct) ∧
      (pct = 100 → t.get (side ch F.DT_MEM_STAT_passes F.TF_MEM_STAT_passes) =
        min 65535 (s.get (side ch F.DT_MEM_STAT_passes F.TF_MEM_STAT_passes) + 1)) ∧
      (differs = true → (isTail ch = true → thas s.buf.segsUsed (s.segOfRow (ch / 13) (addr / s.tailGrain)) = true) →
        t.rd (memCg ch).reg 7 = cntAdd (s.rd (memCg ch).reg 7) 1) ∧
      t.mem = { s.mem with
        scrubAt := tset s.mem.scrubAt (b2n (isTail ch)) s.up
        passAt := if pct = 100 then tset s.mem.passAt (b2n (isTail ch)) s.up else s.mem.passAt })) ∧
  (∀ (dt : Bool) (s : State), s.live = true →
    s.flag (if dt then F.DT_MEM_CFG_scrub_en else F.TF_MEM_CFG_scrub_en) = true →
    tget s.mem.passAt (b2n dt) 0 + 86400000000000 ≤ s.up →
    Answers (.scrubLate dt) s (fun t =>
      t.flag (if dt then F.DT_MEM_EVT_scrub_late else F.TF_MEM_EVT_scrub_late) = true ∧
      OnlyRegs [regAddr (if dt then F.DT_MEM_EVT_scrub_late else F.TF_MEM_EVT_scrub_late).reg 0 0] s t)) ∧
  (∀ (ch : Nat) (s : State), s.awake = true → isCh ch = true → 1 ≤ s.chState ch → s.chState ch ≤ 4 →
    Answers (.memRefresh ch) s (fun t => .refresh ch ∈ t.out ∧ OnlyRegs [] s t))

/-- A fault of a pipeline with its spare COLD and enabled marks it, records a unit fault of its kind, empties the
input FIFO of an ingress one, and calls the spare in for its position, in POWER, or in WAIT_EPOCH while a commit
phase runs. A fault of the spare in use or releasing leaves it FAILED, with no cover left. POWER leads to LOAD,
LOAD to CHECK, a passed check to IN_USE with its event and a failed one to FAILED, and RELEASING to COLD. A write
of spares_en shows, and 0 takes cover away. A failed lane of the inter-die link is recorded with a fault of kind
0xB, with cover while spares are left; a link retry changes nothing. (R21, R22, R23, R61, R62, R63, R603, R604,
R605) -/
def Obligations.SparesAreCalledInAndLaneFaultsRecorded : Prop :=
  (∀ (cl pos : Nat) (eg : Bool) (s : State), s.live = true → cl < 16 → pos < 4 → s.pipeFailed cl eg pos = false →
    s.get (spState eg) cl = 0 → s.flag F.TF_SPARE_CTL_spares_en = true →
    Answers (.pipeFaultDetect cl eg pos) s (fun t => t.pipeFailed cl eg pos = true ∧
      t.get (spState eg) cl = (if s.betweenEpochs then 2 else 1) ∧ t.get (spSlot eg) cl = pos ∧
      t.get F.DT_GUAR_EVT_unit_kind = (if eg then 2 else 1) ∧ t.get F.DT_GUAR_EVT_unit_index = 5 * cl + pos ∧
      t.flag F.DT_GUAR_EVT_cover_lost = true ∧
      (eg = false → pipeFifo (t.phys (2 * cl + pos / 2)) (pos % 2 == 1) = []))) ∧
  (∀ (cl : Nat) (eg : Bool) (s : State), s.live = true → cl < 16 →
    (s.get (spState eg) cl = 5 ∨ s.get (spState eg) cl = 7) →
    Answers (.pipeFaultDetect cl eg 4) s (fun t => t.get (spState eg) cl = 6 ∧ t.pipeFailed cl eg 4 = true ∧
      t.flag F.TF_TBL_EVT_spare_fail = true ∧ t.flag F.DT_GUAR_EVT_double_fault = true)) ∧
  (∀ (cl : Nat) (eg : Bool) (s : State), cl < 16 → s.get (spState eg) cl = 2 →
    Answers (.sparePowerDone cl eg) s (fun t => t.get (spState eg) cl = 3 ∧
      OnlyRegs [regAddr R.TF_SPARE_STAT cl 0] s t)) ∧
  (∀ (cl : Nat) (eg : Bool) (s : State), cl < 16 → s.get (spState eg) cl = 3 →
    Answers (.spareLoadDone cl eg) s (fun t => t.get (spState eg) cl = 4 ∧
      OnlyRegs [regAddr R.TF_SPARE_STAT cl 0] s t)) ∧
  (∀ (cl : Nat) (eg pass : Bool) (s : State), cl < 16 → s.get (spState eg) cl = 4 →
    Answers (.spareCheckDone cl eg pass) s (fun t => t.get (spState eg) cl = (if pass then 5 else 6) ∧
      t.flag (if pass then F.TF_TBL_EVT_spare_in else F.TF_TBL_EVT_spare_fail) = true ∧
      t.get (spSlot eg) cl = s.get (spSlot eg) cl ∧ t.buf = s.buf)) ∧
  (∀ (cl : Nat) (eg : Bool) (s : State), cl < 16 → s.get (spState eg) cl = 7 →
    Answers (.spareReleaseDone cl eg) s (fun t => t.get (spState eg) cl = 0 ∧ t.get (spSlot eg) cl = 0 ∧
      t.get (spState (!eg)) cl = s.get (spState (!eg)) cl ∧ OnlyRegs [regAddr R.TF_SPARE_STAT cl 0] s t)) ∧
  (∀ (en : Bool) (s : State), s.awake = true →
    Answers (.sparesEnWrite en) s (fun t => t.flag F.TF_SPARE_CTL_spares_en = en ∧
      (en = false → t.flag F.DT_GUAR_EVT_cover_lost = true) ∧
      OnlyRegs [regAddr R.TF_SPARE_CTL 0 0, regAddr R.DT_GUAR_EVT 0 0] s t)) ∧
  (∀ (dir group lane : Nat) (s : State), s.live = true → dir < 2 → group < 36 → lane < 18 →
    lane ∉ s.idlFailed dir group →
    Answers (.idlLaneFault dir group lane) s (fun t =>
      t.idlFailed dir group = s.idlFailed dir group ++ [lane] ∧ t.get F.DT_GUAR_EVT_unit_kind = 0xB ∧
      t.get F.DT_GUAR_EVT_unit_index = 648 * dir + 18 * group + lane ∧
      ((s.idlFailed dir group).length = 2 → t.flag F.DT_GUAR_EVT_cover_lost = true) ∧
      ((s.idlFailed dir group).length < 2 →
        t.flag F.DT_GUAR_EVT_cover_lost = s.flag F.DT_GUAR_EVT_cover_lost) ∧
      RegsBut [regAddr R.DT_GUAR_EVT 0 0] s t)) ∧
  (∀ (dir group : Nat) (s : State), Answers (.idlLinkRetry dir group) s (fun t => OnlyRegs [] s t))

/-- FREEZE_NOW, and an error whose severity bit freezes, freeze a function with its cause; PF1's queues then stop.
A release frees it at once without requests outstanding, else it is pending until they end. A function level reset
puts configuration space at its reset values but for the subsystem ids, with PF1's queues and punt FIFOs empty, and
raises its event; a conventional reset does so for both, and takes the link down where it is lost. A link that
comes up shows its parameters. A configuration write stores what the doubleword takes and clears what a 1 clears;
during retry status it changes nothing; its control bits freeze, release and reset. An unsupported read, and an
atomic operation, are answered UR and counted; an unsupported write is logged. (Configuration fields that the spec
does not list: log 4.) (R627, R631, R633, R637, R662, R663, R664, R665, R668, R670, R675, R850) -/
def Obligations.FunctionsFreezeResetAndAnswerRequests : Prop :=
  (∀ (fn : Nat) (s : State), s.awake = true → fn < 2 →
    Answers (.freezeNow fn) s (fun t => t.frozen fn = true ∧ t.cfgBits fn 0x20C 2 8 = 0xFF ∧
      (s.frozen fn = false → t.cfgBits fn 0x20C 24 8 = min 255 (s.cfgBits fn 0x20C 24 8 + 1) ∧
        t.flag (if fn = 0 then F.TF_HOST_EVT_freeze0 else F.TF_HOST_EVT_freeze1) = true ∧
        (fn = 1 → (∀ q < 168, t.qRuns q = false ∧ (s.qRuns q = true → t.get F.TF_QCTX_ERR_err q = 5)) ∧
          t.eng.batchQ = none)))) ∧
  (∀ (fn bit : Nat) (s : State), s.awake = true → fn < 2 → bit < 32 → bit ≠ 4 → bit ≠ 5 →
    Answers (.functionFreeze fn bit) s (fun t => t.cfgBits fn 0x104 bit 1 = 1 ∧
      (s.cfgBits fn 0x210 bit 1 = 1 → t.frozen fn = true ∧ t.cfgBits fn 0x20C 2 8 = bit) ∧
      (s.cfgBits fn 0x210 bit 1 = 0 → (∀ k, t.frozen k = s.frozen k) ∧ RegsBut [] s t))) ∧
  (∀ (fn : Nat) (s : State), s.awake = true → fn < 2 → s.frozen fn = true →
    Answers (.unfreeze fn) s (fun t => (s.outstanding fn = 0 → t.frozen fn = false ∧ t.cfgBits fn 0x20C 1 1 = 0) ∧
      (s.outstanding fn ≠ 0 → t.frozen fn = true ∧ t.cfgBits fn 0x20C 1 1 = 1) ∧ RegsBut [] s t)) ∧
  (∀ (fn : Nat) (s : State), s.awake = true → fn < 2 → s.frozen fn = true → s.cfgBits fn 0x20C 1 1 = 1 →
    s.outstanding fn = 0 →
    Answers (.unfreezeRelease fn) s (fun t => t.frozen fn = false ∧ t.cfgBits fn 0x20C 1 1 = 0 ∧ RegsBut [] s t)) ∧
  (∀ (fn : Nat) (s : State), s.awake = true → fn < 2 →
    Answers (.flr fn) s (fun t => t.flag F.TF_HOST_EVT_flr = true ∧ s.outstanding fn ≥ t.outstanding fn ∧
      t.outstanding fn = 0 ∧ (∀ off < 4096, off ≠ 0x2C → t.cfg fn off = cfgReset fn off) ∧
      t.cfg fn 0x2C = s.cfg fn 0x2C ∧
      (fn = 1 → t.host.fifos = [] ∧ t.eng.batchQ = none ∧ ∀ a, 0x100000000 ≤ a → tget? t.regs a = none))) ∧
  (∀ (down : Bool) (s : State), s.awake = true →
    Answers (.conventionalReset down) s (fun t => t.flag F.TF_HOST_EVT_flr = true ∧ t.host.reqs.all (fun r =>
        decide (2 ≤ r.fn)) = true ∧ t.host.fifos = [] ∧
      (∀ fn < 2, ∀ off < 4096, off ≠ 0x2C → t.cfg fn off = cfgReset fn off) ∧
      (down = true → s.flag F.TF_HOST_STAT_link_up = true → t.flag F.TF_HOST_STAT_link_up = false ∧
        t.flag F.TF_HOST_EVT_link_down = true) ∧
      (down = false → t.rd R.TF_HOST_STAT = s.rd R.TF_HOST_STAT))) ∧
  (∀ (width speed : Nat) (flit : Bool) (s : State), s.awake = true → width ∈ [1, 2, 4, 8] → 1 ≤ speed → speed ≤ 6 →
    Answers (.pcieLinkUp width speed flit) s (fun t => t.flag F.TF_HOST_STAT_link_up = true ∧
      t.get F.TF_HOST_STAT_speed = speed ∧ t.get F.TF_HOST_STAT_width = width ∧
      t.flag F.TF_HOST_STAT_flit = (flit || speed == 6) ∧ t.flag F.TF_HOST_EVT_link_up = true ∧
      OnlyRegs [regAddr R.TF_HOST_STAT 0 0, regAddr R.TF_HOST_EVT 0 0] s t)) ∧
  (∀ (fn off : Nat) (v be : BitVec 32) (s : State), s.awake = true → fn < 2 → off < 4096 → off % 4 = 0 →
    Answers (.configWrite fn off v be) s (fun t => (s.boot.rrs = true → OnlyRegs [] s t) ∧
      (s.boot.rrs = false → off ≠ 0x208 → off ≠ 0x44 → (off = 0x78 → (v &&& be).getLsbD 15 = false) →
        t.cfg fn off = ((s.cfg fn off &&& ~~~(cfgRw fn off &&& be)) ||| (v &&& (cfgRw fn off &&& be))) &&&
          ~~~(v &&& be &&& cfgW1c off) ∧
        (∀ f o, f * 4096 + o ≠ fn * 4096 + off → t.cfg f o = s.cfg f o) ∧ RegsBut [] s t) ∧
      (s.boot.rrs = false → off = 0x208 → (v &&& be).getLsbD 1 = true → t.frozen fn = true) ∧
      (s.boot.rrs = false → off = 0x208 → (v &&& be).getLsbD 1 = false → (v &&& be).getLsbD 0 = true →
        s.outstanding fn = 0 → t.frozen fn = false) ∧
      (s.boot.rrs = false → off = 0x78 → (v &&& be).getLsbD 15 = true → t.flag F.TF_HOST_EVT_flr = true ∧
        t.outstanding fn = 0 ∧ t.cfg fn 0x04 = cfgReset fn 0x04) ∧
      (s.boot.rrs = false → off = 0x44 → bits be.toNat 0 2 = 3 → (bits v.toNat 0 2 = 0 ∨ bits v.toNat 0 2 = 3) →
        t.cfgBits fn 0x44 0 2 = bits v.toNat 0 2))) ∧
  (∀ (fn addr : Nat) (read : Bool) (s : State), s.awake = true → fn < 2 →
    Answers (.memRequestUnsupported fn read addr) s (fun t =>
      ((s.memEnabled fn && s.matchesWindow fn addr) = true → s.frozen fn = false → OnlyRegs [] s t) ∧
      (((s.memEnabled fn && s.matchesWindow fn addr) = false ∨ s.frozen fn = true) → read = true →
        .cplUR fn ∈ t.out ∧ t.rd R.TF_HOST_CNT 10 = cntAdd (s.rd R.TF_HOST_CNT 10) 1) ∧
      ((s.memEnabled fn && s.matchesWindow fn addr) = false → read = false → t.cfgBits fn 0x104 20 1 = 1))) ∧
  (∀ (addr : Nat) (s : State), s.awake = true →
    Answers (.atomicopRequest addr) s (fun t => .cplUR 0 ∈ t.out ∧
      t.rd R.TF_HOST_CNT 10 = cntAdd (s.rd R.TF_HOST_CNT 10) 1 ∧ t.host.cfg = s.host.cfg))

/-- A doorbell with an index that the ring allows moves the host index, and the device reads the entry posted; one
that it does not allow stops the queue with error 1. Disabling a queue clears its context. Unmasking a vector sends
what is pending; the coalescing limit raises the queue's vector. A punted frame goes into the posted buffer, cut to
it, in one write where one may carry it, and the index advances. A read that times out holds its tag, is counted,
and stops its queue with error 2; a poisoned one stops it with 3, one that failed with 4; while its function is
frozen it is counted and dropped; a completion of no request is late, counted and reported. A held tag is free
again after its time. (R639, R642, R643, R645, R647, R648, R650, R661, R662, R671, R672, R673) -/
def Obligations.HostQueuesMessagesAndReads : Prop :=
  (∀ (q new : Nat) (v : Word) (s : State), s.pf1Open = true → q < 168 → s.flag F.TF_QCTX_CFG_enable q = true →
    new = bits v.toNat 0 32 →
    Answers (.doorbellWrite q v) s (fun t =>
      (s.hostIdxOk q new = true → (qKind q = 2 → s.cplIdxOk q (bits v.toNat 32 32) = true) →
        t.get F.TF_QCTX_STAT_host_idx q = new ∧ t.get F.TF_QCTX_STAT_dev_idx q = s.get F.TF_QCTX_STAT_dev_idx q ∧
        (qKind q = 2 → t.cplIdx q = ((s.cplIdx q).1, bits v.toNat 32 32)) ∧
        (∀ tag, qKind q ≠ 3 → s.qRuns q = true → s.mayIssue 1 = true → s.get F.TF_QCTX_STAT_host_idx q ≠ new →
          freeTag (s.host.reqs.map (fun r => r.tag) ++ s.host.held) s.tagRange.1 s.tagRange.2 = some tag →
          .dmaRead 1 tag (s.slotAddr q (s.get F.TF_QCTX_STAT_host_idx q)) (qSlot q) ∈ t.out ∧
          t.host.reqs = s.host.reqs ++ [⟨1, tag, some q, s.get F.TF_QCTX_STAT_host_idx q, s.up⟩])) ∧
      ((s.hostIdxOk q new = false ∨ (qKind q = 2 ∧ s.cplIdxOk q (bits v.toNat 32 32) = false)) →
        s.qRuns q = true → t.flag F.TF_QCTX_ERR_stopped q = true ∧ t.get F.TF_QCTX_ERR_err q = 1 ∧
        t.flag F.TF_HOST_EVT_queue_err = true ∧ t.rd R.TF_QCTX_STAT q = s.rd R.TF_QCTX_STAT q))) ∧
  (∀ (q : Nat) (en : Bool) (s : State), s.pf1Open = true → q < 168 →
    Answers (.queueEnableWrite q en) s (fun t => t.flag F.TF_QCTX_CFG_enable q = en ∧
      t.get F.TF_QCTX_CFG_size_log2 q = s.get F.TF_QCTX_CFG_size_log2 q ∧
      (en = true → OnlyRegs [regAddr R.TF_QCTX_CFG q 0] s t) ∧
      (en = false → t.rd R.TF_QCTX_STAT q = 0 ∧ t.rd R.TF_QCTX_ERR q = 0 ∧ t.cplIdx q = (0, 0) ∧
        tget t.host.adv q 0 = 0))) ∧
  (∀ (v : Nat) (s : State), s.pf1Open = true → v < 2048 →
    Answers (.msixVectorUnmask v) s (fun t => bits (t.msixDw (4 * v + 3)).toNat 0 1 = 0 ∧
      (tget s.host.pba v false = true → s.cfgBits 1 0xB0 31 1 = 1 → s.cfgBits 1 0xB0 30 1 = 0 → s.mayIssue 1 = true →
        .msix v ((s.msixDw (4 * v + 1)).toNat * 2 ^ 32 + (s.msixDw (4 * v)).toNat) (s.msixDw (4 * v + 2)).toNat ∈
          t.out ∧ tget t.host.pba v false = false) ∧ RegsBut [] s t)) ∧
  (∀ (q : Nat) (s : State), q < 168 → s.flag F.TF_QCTX_CFG_irq_en q = true → s.get F.TF_QCTX_CFG_coal_us q ≠ 0 →
    tget s.host.adv q 0 ≠ 0 → tget s.host.advAt q 0 + s.get F.TF_QCTX_CFG_coal_us q * 1000 ≤ s.up →
    Answers (.irqCoalesceTimeout q) s (fun t => tget t.host.adv q 0 = 0 ∧ RegsBut [] s t ∧
      (s.msixReady (s.get F.TF_QCTX_CFG_vector q) = false → s.cfgBits 1 0xB0 31 1 = 1 →
        tget t.host.pba (s.get F.TF_QCTX_CFG_vector q) false = true) ∧
      (s.msixReady (s.get F.TF_QCTX_CFG_vector q) = true → ∃ a d,
        .msix (s.get F.TF_QCTX_CFG_vector q) a d ∈ t.out))) ∧
  (∀ (q addr len : Nat) (f : PuntFrame) (r : List PuntFrame) (s : State), q < 64 → s.qRuns q = true →
    s.mayIssue 1 = true → s.get F.TF_QCTX_STAT_host_idx q ≠ s.get F.TF_QCTX_STAT_dev_idx q →
    tget s.host.fifos q [] = f :: r →
    Answers (.puntDeliver q addr len) s (fun t =>
      (∀ o ∈ s.frameWrites f.bytes.length addr (f.bytes.take len), o ∈ t.out) ∧
      (f.bytes.take len ≠ [] → (f.bytes.take len).length ≤ s.maxPayload → addr % 4096 + (f.bytes.take len).length ≤ 4096 →
        .dmaBytes 1 addr (f.bytes.take len) ∈ t.out) ∧
      .dmaWrite 1 (s.slotAddr q (s.get F.TF_QCTX_STAT_dev_idx q) + 16) (puntWords f len) ∈ t.out ∧
      tget t.host.fifos q [] = r ∧
      t.get F.TF_QCTX_STAT_dev_idx q = (s.get F.TF_QCTX_STAT_dev_idx q + 1) % 2 ^ 32 ∧
      t.rd R.TF_HOST_CNT 0 = cntAdd (s.rd R.TF_HOST_CNT 0) 1)) ∧
  (∀ (tag q : Nat) (r : DmaReq) (s : State), s.reqOf tag = some r → r.q = some q → q < 168 →
    s.cfgBits r.fn 0x98 4 1 = 0 → r.at' + cplTimeoutNs (s.cfgBits r.fn 0x98 0 4) ≤ s.up →
    Answers (.completionTimeout tag) s (fun t => tag ∈ t.host.held ∧
      t.host.reqs = s.host.reqs.filter (fun x => decide (x.tag ≠ tag)) ∧
      t.rd R.TF_HOST_CNT 9 = cntAdd (s.rd R.TF_HOST_CNT 9) 1 ∧
      (s.qRuns q = true → t.flag F.TF_QCTX_ERR_stopped q = true ∧ t.get F.TF_QCTX_ERR_err q = 2 ∧
        t.get F.TF_QCTX_ERR_err_idx q = r.idx % 2 ^ 32))) ∧
  (∀ (tag status : Nat) (poisoned : Bool) (r : DmaReq) (s : State), s.awake = true → s.reqOf tag = some r →
    Answers (.dmaCompletion tag status poisoned) s (fun t =>
      t.host.reqs = s.host.reqs.filter (fun x => decide (x.tag ≠ tag)) ∧
      (s.frozen r.fn = true → t.rd R.TF_HOST_CNT 11 = cntAdd (s.rd R.TF_HOST_CNT 11) 1) ∧
      (s.frozen r.fn = false → poisoned = false → status = 0 → RegsBut [] s t) ∧
      (∀ q, r.q = some q → q < 168 → s.qRuns q = true → s.frozen r.fn = false → (poisoned = true ∨ status ≠ 0) →
        t.flag F.TF_QCTX_ERR_stopped q = true ∧ t.get F.TF_QCTX_ERR_err q = (if poisoned then 3 else 4)))) ∧
  (∀ (tag status : Nat) (poisoned : Bool) (s : State), s.awake = true → s.reqOf tag = none →
    Answers (.dmaCompletion tag status poisoned) s (fun t => t.flag F.TF_HOST_EVT_late_cpl = true ∧
      t.rd R.TF_HOST_CNT 8 = cntAdd (s.rd R.TF_HOST_CNT 8) 1) ∧
    Answers (.lateCompletion tag) s (fun t => t.flag F.TF_HOST_EVT_late_cpl = true ∧
      t.rd R.TF_HOST_CNT 8 = cntAdd (s.rd R.TF_HOST_CNT 8) 1 ∧ t.host.reqs = s.host.reqs)) ∧
  (∀ (tag : Nat) (s : State), (tag ∈ s.host.held → tget s.host.heldAt tag 0 + s.tagHoldNs ≤ s.up) →
    Answers (.tagHoldExpiry tag) s (fun t => tag ∉ t.host.held ∧
    (∀ k, k ≠ tag → (k ∈ t.host.held ↔ k ∈ s.host.held)) ∧ t.host.reqs = s.host.reqs ∧ RegsBut [] s t))

/-- A whole word written by PF0 or a controller stores the RW fields of its register and nothing else, as a backup
register and DT_ADM_LOOP show. A write to an address without register is logged as UNMAPPED, one to an island that
is not ON as ISOLATED, and one of part of a word as WIDTH, with source and offset, and changes nothing else. The
retained SRAM takes words of a controller alone. A sideband transaction whose PEC fails, or whose form is wrong,
sets the status of the next answer; a write stores a backup register and is else denied and logged. A read latches
what the register shows; its answer gives the pending status once, else what was read, else that no read was
started. (R9, R12, R841, R843, R846, R853, R854, R855, R856, R858) -/
def Obligations.RegisterAndSidebandAccesses : Prop :=
  (∀ (src i : Nat) (bytes part : List Byte) (s : State), s.srcOpen src = true → src ≠ 1 → i < 8 → bytes.length = 8 →
    Answers (.registerWrite src (regAddr R.KV_BACKUP i 0) ⟨bytes, part⟩) s (fun t =>
      t.rd R.KV_BACKUP i = BitVec.ofNat 64 (leNat bytes) ∧ OnlyRegs [regAddr R.KV_BACKUP i 0] s t)) ∧
  (∀ (src : Nat) (bytes part : List Byte) (s : State), s.srcOpen src = true → src ≠ 1 → bytes.length = 8 →
    s.isOn 41 = true →
    Answers (.registerWrite src (regAddr R.DT_ADM_LOOP 0 0) ⟨bytes, part⟩) s (fun t =>
      t.get F.DT_ADM_LOOP_u_high = bits (leNat bytes) 0 7 ∧ t.get F.DT_ADM_LOOP_u_low = bits (leNat bytes) 8 7 ∧
      t.get F.DT_ADM_LOOP_loop_us = bits (leNat bytes) 16 16 ∧
      bits (t.rd R.DT_ADM_LOOP).toNat 32 32 = bits (s.rd R.DT_ADM_LOOP).toNat 32 32 ∧
      OnlyRegs [regAddr R.DT_ADM_LOOP 0 0] s t)) ∧
  (∀ (src addr cause n : Nat) (bytes part : List Byte) (s : State), s.srcOpen src = true → src ≠ 1 → addr % 8 = 0 →
    bytes ≠ [] → bytes.length ≤ 8 → addr + 8 ≤ 0x4000000 → inPages addr = false → inSram addr = false →
    n = s.get F.KV_ACC_ERR_STAT_next →
    ((findReg addr = none ∧ cause = 4) ∨
      (∃ r ij, findReg addr = some r ∧ regIdx r addr = some ij ∧ s.reachable r ij.1 = false ∧ cause = 2) ∨
      (∃ r ij, findReg addr = some r ∧ regIdx r addr = some ij ∧ s.reachable r ij.1 = true ∧ bytes.length < 8 ∧
        cause = 3)) →
    Answers (.registerWrite src addr ⟨bytes, part⟩) s (fun t => t.get F.KV_ACC_ERR_LOG_cause n = cause ∧
      t.get F.KV_ACC_ERR_LOG_offset n = addr ∧ t.get F.KV_ACC_ERR_LOG_write n = 1 ∧
      t.get F.KV_ACC_ERR_LOG_source n = src ∧ t.get F.KV_ACC_ERR_STAT_next = (n + 1) % 8 ∧
      t.get F.KV_ACC_ERR_STAT_count = min 65535 (s.get F.KV_ACC_ERR_STAT_count + 1) ∧
      OnlyRegs [regAddr R.KV_ACC_ERR_LOG n 0, regAddr R.KV_ACC_ERR_STAT 0 0] s t)) ∧
  (∀ (src off : Nat) (bytes part : List Byte) (s : State), s.srcOpen src = true → src ≠ 1 → off % 8 = 0 → 0x100 ≤ off →
    off < 0x10000 → bytes.length = 8 →
    Answers (.registerWrite src (0x40000 + off) ⟨bytes, part⟩) s (fun t =>
      (src = 2 → t.sramGet off = BitVec.ofNat 64 (leNat bytes) ∧
        (∀ a, a < off ∨ off + 8 ≤ a → tget t.sram a 0 = tget s.sram a 0)) ∧
      (src = 0 → t.sram = s.sram) ∧ RegsBut [] s t)) ∧
  (∀ (bytes : List Byte) (pecOk : Bool) (s : State), s.mode ≠ OFF →
    Answers (.smbWrite bytes pecOk) s (fun t => (pecOk = false → t.smbNext = some 4 ∧ OnlyRegs [] { s with smbNext := some 4 } t) ∧
      (pecOk = true → (bytes.length ≠ 12 ∨ leNat (bytes.take 4) % 8 ≠ 0) → t.smbNext = some 2 ∧
        OnlyRegs [] { s with smbNext := some 2 } t) ∧
      (∀ i < 8, pecOk = true → bytes.length = 12 → s.inEpisode = false →
        leNat (bytes.take 4) = regAddr R.KV_BACKUP i 0 →
        t.rd R.KV_BACKUP i = BitVec.ofNat 64 (leNat (bytes.drop 4)) ∧ t.smbNext = s.smbNext) ∧
      (pecOk = true → bytes.length = 12 → leNat (bytes.take 4) = regAddr R.DT_ADM_LOOP 0 0 →
        t.smbNext = some 3 ∧ t.rd R.DT_ADM_LOOP = s.rd R.DT_ADM_LOOP ∧
        t.get F.KV_ACC_ERR_LOG_cause (s.get F.KV_ACC_ERR_STAT_next) = 5))) ∧
  (∀ (bytes : List Byte) (pecOk : Bool) (off : Nat) (r : RegD) (ij : Nat × Nat) (s : State), s.mode ≠ OFF →
    bytes.length = 4 → off = leNat bytes → off % 8 = 0 → off < 0x4000000 → inPages off = false → inSram off = false →
    findReg off = some r → regIdx r off = some ij → s.inEpisode = false → s.reachable r ij.1 = true →
    Answers (.smbReadStart bytes pecOk) s (fun t =>
      (pecOk = true → t.smb = some (s.shown r ij.1 ij.2, 0) ∧ t.smbNext = s.smbNext) ∧
      (pecOk = false → t.smb = s.smb ∧ t.smbNext = some 4) ∧ RegsBut [] s t)) ∧
  (∀ s : State, s.mode ≠ OFF →
    Answers .smbReadResult s (fun t => t.smbNext = none ∧ t.smb = s.smb ∧ RegsBut [] s t ∧
      (∀ st, s.smbNext = some st → .readData 1 0 0 st ∈ t.out) ∧
      (∀ x, s.smbNext = none → s.smb = some x → .readData 1 0 x.1 x.2 ∈ t.out) ∧
      (s.smbNext = none → s.smb = none → .readData 1 0 0 5 ∈ t.out)))
end

