-- ==== Sys2Proof/Laws/Tab.lean ====
section
/-! SUPPORT. Laws of the sparse tables and of bit fields: a read after a write, and the canonical form. -/

namespace Sys2Proof.Machine

/-! ### Reads after writes -/

@[simp] theorem tget?_nil {α : Type} (k : Nat) : tget? ([] : Tab α) k = none := rfl

@[simp] theorem tget?_tset_self {α : Type} (t : Tab α) (k : Nat) (v : α) : tget? (tset t k v) k = some v := by
  induction t with
  | nil => simp [tset, tget?]
  | cons e r ih =>
    obtain ⟨a, w⟩ := e
    by_cases h : a = k
    · simp [tset, h, tget?]
    · by_cases h2 : k < a
      · simp [tset, h, h2, tget?]
      · simp [tset, h, h2, tget?, ih]

theorem tget?_tset_ne {α : Type} (t : Tab α) {k j : Nat} (v : α) (hj : j ≠ k) :
    tget? (tset t k v) j = tget? t j := by
  induction t with
  | nil => simp [tset, tget?, hj.symm]
  | cons e r ih =>
    obtain ⟨a, w⟩ := e
    by_cases h : a = k
    · subst h; simp [tset, tget?, hj.symm]
    · by_cases h2 : k < a
      · simp [tset, h, h2, tget?, hj.symm]
      · simp [tset, h, h2, tget?, ih]

@[simp] theorem tget?_tdel_self {α : Type} (t : Tab α) (k : Nat) : tget? (tdel t k) k = none := by
  induction t with
  | nil => rfl
  | cons e r ih =>
    obtain ⟨a, w⟩ := e
    by_cases h : a = k <;> simp [tdel, h, tget?, ih]

theorem tget?_tdel_ne {α : Type} (t : Tab α) {k j : Nat} (hj : j ≠ k) : tget? (tdel t k) j = tget? t j := by
  induction t with
  | nil => rfl
  | cons e r ih =>
    obtain ⟨a, w⟩ := e
    by_cases h : a = k
    · subst h; simp [tdel, tget?, ih, hj.symm]
    · simp only [tdel, h, if_false, tget?, ih]

@[simp] theorem tget_tput_self {α : Type} [DecidableEq α] (t : Tab α) (k : Nat) (v d : α) :
    tget (tput t k v d) k d = v := by
  unfold tput tget
  by_cases h : v = d <;> simp [h]

theorem tget_tput_ne {α : Type} [DecidableEq α] (t : Tab α) {k j : Nat} (v d d' : α) (hj : j ≠ k) :
    tget (tput t k v d) j d' = tget t j d' := by
  unfold tput tget
  by_cases h : v = d
  · simp [h, tget?_tdel_ne t hj]
  · simp [h, tget?_tset_ne t v hj]

@[simp] theorem tget_tset_self {α : Type} (t : Tab α) (k : Nat) (v d : α) : tget (tset t k v) k d = v := by
  simp [tget]

theorem tget_tset_ne {α : Type} (t : Tab α) {k j : Nat} (v d : α) (hj : j ≠ k) :
    tget (tset t k v) j d = tget t j d := by
  simp [tget, tget?_tset_ne t v hj]

/-! ### The canonical form -/

/-- Every key of a table lies above a bound and the keys rise: the form that induction on a table needs. -/
def tabove {α : Type} : Tab α → Nat → Prop
  | [], _ => True
  | (a, _) :: r, b => b ≤ a ∧ tabove r (a + 1)

theorem trising_cons_iff {α : Type} (a : Nat) (w : α) (r : Tab α) :
    trising ((a, w) :: r) = true ↔ tabove r (a + 1) := by
  induction r generalizing a w with
  | nil => simp [trising, tabove]
  | cons e r ih =>
    obtain ⟨b, x⟩ := e
    simp only [trising, tabove, Bool.and_eq_true, decide_eq_true_eq, ih]
    constructor <;> intro h <;> exact ⟨by omega, h.2⟩

theorem trising_iff {α : Type} (t : Tab α) : trising t = true ↔ tabove t 0 := by
  cases t with
  | nil => simp [trising, tabove]
  | cons e r => obtain ⟨a, w⟩ := e; simp [trising_cons_iff, tabove]

theorem tabove_mono {α : Type} {t : Tab α} {b c : Nat} (h : tabove t b) (hc : c ≤ b) : tabove t c := by
  cases t with
  | nil => trivial
  | cons e r => exact ⟨le_trans hc h.1, h.2⟩

theorem tabove_tset {α : Type} {t : Tab α} {b k : Nat} (v : α) (h : tabove t b) (hk : b ≤ k) :
    tabove (tset t k v) b := by
  induction t generalizing b with
  | nil => exact ⟨hk, trivial⟩
  | cons e r ih =>
    obtain ⟨a, w⟩ := e
    obtain ⟨h1, h2⟩ := h
    simp only [tset]
    split
    · next e => subst e; exact ⟨h1, h2⟩
    · split
      · exact ⟨hk, by omega, h2⟩
      · exact ⟨h1, ih h2 (by omega)⟩

theorem tabove_tdel {α : Type} {t : Tab α} {b : Nat} (k : Nat) (h : tabove t b) : tabove (tdel t k) b := by
  induction t generalizing b with
  | nil => trivial
  | cons e r ih =>
    obtain ⟨a, w⟩ := e
    obtain ⟨h1, h2⟩ := h
    simp only [tdel]
    split
    · exact tabove_mono (ih h2) (by omega)
    · exact ⟨h1, ih h2⟩

/-- A write keeps the keys rising. -/
theorem trising_tset {α : Type} {t : Tab α} (k : Nat) (v : α) (h : trising t = true) :
    trising (tset t k v) = true :=
  (trising_iff _).2 (tabove_tset v ((trising_iff t).1 h) (Nat.zero_le k))

/-- A removal keeps the keys rising. -/
theorem trising_tdel {α : Type} {t : Tab α} (k : Nat) (h : trising t = true) : trising (tdel t k) = true :=
  (trising_iff _).2 (tabove_tdel k ((trising_iff t).1 h))

theorem mem_tdel {α : Type} {t : Tab α} {k : Nat} {e : Nat × α} (h : e ∈ tdel t k) : e ∈ t := by
  induction t with
  | nil => exact h
  | cons x r ih =>
    obtain ⟨a, w⟩ := x
    simp only [tdel] at h
    split at h
    · exact List.mem_cons_of_mem _ (ih h)
    · rcases List.mem_cons.1 h with h | h
      · exact h ▸ List.mem_cons_self
      · exact List.mem_cons_of_mem _ (ih h)

theorem mem_tset {α : Type} {t : Tab α} {k : Nat} {v : α} {e : Nat × α} (h : e ∈ tset t k v) :
    e = (k, v) ∨ e ∈ t := by
  induction t with
  | nil => exact .inl (List.mem_singleton.1 h)
  | cons x r ih =>
    obtain ⟨a, w⟩ := x
    simp only [tset] at h
    split at h
    · rcases List.mem_cons.1 h with h | h
      · exact .inl h
      · exact .inr (List.mem_cons_of_mem _ h)
    · split at h
      · rcases List.mem_cons.1 h with h | h
        · exact .inl h
        · exact .inr h
      · rcases List.mem_cons.1 h with h | h
        · exact .inr (h ▸ List.mem_cons_self)
        · rcases ih h with h | h
          · exact .inl h
          · exact .inr (List.mem_cons_of_mem _ h)

/-- A write in the canonical form keeps it: rising keys, and no entry with the value of an unlisted key. -/
theorem tput_canonical {α : Type} [DecidableEq α] {t : Tab α} (k : Nat) (v d : α)
    (h : trising t = true) (hd : ∀ e ∈ t, e.2 ≠ d) :
    trising (tput t k v d) = true ∧ ∀ e ∈ tput t k v d, e.2 ≠ d := by
  unfold tput
  split
  · exact ⟨trising_tdel k h, fun e he => hd e (mem_tdel he)⟩
  · next hv =>
    refine ⟨trising_tset k v h, fun e he => ?_⟩
    rcases mem_tset he with rfl | he
    · exact hv
    · exact hd e he

/-! ### Bit fields -/

theorem bits_lt (x lo w : Nat) : bits x lo w < 2 ^ w := Nat.mod_lt _ (Nat.two_pow_pos w)

/-- A number in three parts: below a field, the field, above it. -/
theorem bits_split (x lo w : Nat) :
    x = x % 2 ^ lo + bits x lo w * 2 ^ lo + x / 2 ^ (lo + w) * 2 ^ (lo + w) := by
  have h1 := Nat.div_add_mod x (2 ^ lo)
  have h2 := Nat.div_add_mod (x / 2 ^ lo) (2 ^ w)
  have h3 : x / 2 ^ lo / 2 ^ w = x / 2 ^ (lo + w) := by rw [Nat.div_div_eq_div_mul, pow_add]
  rw [h3] at h2
  have h4 : x / 2 ^ (lo + w) * 2 ^ (lo + w) = 2 ^ lo * (2 ^ w * (x / 2 ^ (lo + w))) := by
    rw [pow_add]; ring
  unfold bits
  rw [h4]
  have h5 : x / 2 ^ lo % 2 ^ w * 2 ^ lo + 2 ^ lo * (2 ^ w * (x / 2 ^ (lo + w))) = 2 ^ lo * (x / 2 ^ lo) := by
    rw [Nat.mul_comm _ (2 ^ lo), ← Nat.mul_add, Nat.add_comm, h2]
  omega

theorem setBits_eq (x lo w v : Nat) :
    setBits x lo w v = x % 2 ^ lo + v % 2 ^ w * 2 ^ lo + x / 2 ^ (lo + w) * 2 ^ (lo + w) := by
  have h := bits_split x lo w
  unfold setBits
  have h2 : bits x lo w * 2 ^ lo ≤ x := by omega
  omega

theorem setBits_lt {x lo w v n : Nat} (hx : x < 2 ^ n) (hw : lo + w ≤ n) : setBits x lo w v < 2 ^ n := by
  rw [setBits_eq]
  have h1 : x % 2 ^ lo < 2 ^ lo := Nat.mod_lt _ (Nat.two_pow_pos lo)
  have h2 : v % 2 ^ w < 2 ^ w := Nat.mod_lt _ (Nat.two_pow_pos w)
  have h3 : x % 2 ^ lo + v % 2 ^ w * 2 ^ lo < 2 ^ (lo + w) := by
    rw [pow_add]
    calc x % 2 ^ lo + v % 2 ^ w * 2 ^ lo < 2 ^ lo + v % 2 ^ w * 2 ^ lo := by omega
      _ = (v % 2 ^ w + 1) * 2 ^ lo := by ring
      _ ≤ 2 ^ w * 2 ^ lo := Nat.mul_le_mul_right _ h2
      _ = 2 ^ lo * 2 ^ w := Nat.mul_comm _ _
  have h4 : x / 2 ^ (lo + w) < 2 ^ (n - (lo + w)) := by
    rw [Nat.div_lt_iff_lt_mul (Nat.two_pow_pos _), ← pow_add]
    rwa [Nat.sub_add_cancel hw]
  calc _ < 2 ^ (lo + w) + x / 2 ^ (lo + w) * 2 ^ (lo + w) := by omega
    _ = (x / 2 ^ (lo + w) + 1) * 2 ^ (lo + w) := by ring
    _ ≤ 2 ^ (n - (lo + w)) * 2 ^ (lo + w) := Nat.mul_le_mul_right _ h4
    _ = 2 ^ n := by rw [← pow_add, Nat.sub_add_cancel hw]

theorem testBit_bits (x lo w k : Nat) : (bits x lo w).testBit k = (decide (k < w) && x.testBit (lo + k)) := by
  unfold bits
  rw [Nat.testBit_mod_two_pow, Nat.testBit_div_two_pow, Nat.add_comm]

theorem testBit_setBits (x lo w v k : Nat) :
    (setBits x lo w v).testBit k =
      if k < lo then x.testBit k else if k < lo + w then v.testBit (k - lo) else x.testBit k := by
  rw [setBits_eq]
  have h1 : x % 2 ^ lo < 2 ^ lo := Nat.mod_lt _ (Nat.two_pow_pos lo)
  have h2 : v % 2 ^ w < 2 ^ w := Nat.mod_lt _ (Nat.two_pow_pos w)
  have e : x % 2 ^ lo + v % 2 ^ w * 2 ^ lo + x / 2 ^ (lo + w) * 2 ^ (lo + w)
      = 2 ^ lo * (2 ^ w * (x / 2 ^ (lo + w)) + v % 2 ^ w) + x % 2 ^ lo := by
    rw [pow_add]; ring
  rw [e, Nat.testBit_two_pow_mul_add _ h1]
  by_cases hk : k < lo
  · simp [hk, Nat.testBit_mod_two_pow]
  · simp only [hk, if_false]
    rw [Nat.testBit_two_pow_mul_add _ h2]
    by_cases hk2 : k < lo + w
    · simp only [hk2, if_true, show k - lo < w by omega, Nat.testBit_mod_two_pow, decide_true, Bool.true_and]
    · simp only [hk2, if_false, show ¬ k - lo < w by omega, Nat.testBit_div_two_pow]
      congr 1; omega

/-- A field holds what was written to it, as far as it fits. -/
theorem bits_setBits_self (x lo w v : Nat) : bits (setBits x lo w v) lo w = v % 2 ^ w := by
  apply Nat.eq_of_testBit_eq
  intro k
  rw [testBit_bits, testBit_setBits, Nat.testBit_mod_two_pow]
  by_cases hk : k < w
  · simp [hk]
  · simp [hk]

/-- A write to a field leaves a field apart from it alone. -/
theorem bits_setBits_ne {x lo w v lo' w' : Nat} (h : lo + w ≤ lo' ∨ lo' + w' ≤ lo) :
    bits (setBits x lo w v) lo' w' = bits x lo' w' := by
  apply Nat.eq_of_testBit_eq
  intro k
  rw [testBit_bits, testBit_bits, testBit_setBits]
  by_cases hk : k < w'
  · simp only [hk, decide_true, Bool.true_and]
    split
    · rfl
    · split
      · omega
      · rfl
  · simp [hk]

end Sys2Proof.Machine
end

