-- ==== Sys2Proof/Laws/State.lean ====
section
/-! SUPPORT. Laws of the state and of the named operations: one lemma for each field of State and each operation that
leaves it alone, and the laws of reading a register or a field after a write. -/

namespace Sys2Proof.Machine

variable (s : State)

/-! ### `wr` -/

@[simp] theorem State.wr_pending (r : RegD) (w : Word) (i j : Nat) : (s.wr r w i j).pending = s.pending := rfl
@[simp] theorem State.wr_time (r : RegD) (w : Word) (i j : Nat) : (s.wr r w i j).time = s.time := rfl
@[simp] theorem State.wr_up (r : RegD) (w : Word) (i j : Nat) : (s.wr r w i j).up = s.up := rfl
@[simp] theorem State.wr_frac (r : RegD) (w : Word) (i j : Nat) : (s.wr r w i j).frac = s.frac := rfl
@[simp] theorem State.wr_fv (r : RegD) (w : Word) (i j : Nat) : (s.wr r w i j).fv = s.fv := rfl
@[simp] theorem State.wr_out (r : RegD) (w : Word) (i j : Nat) : (s.wr r w i j).out = s.out := rfl
@[simp] theorem State.wr_act (r : RegD) (w : Word) (i j : Nat) : (s.wr r w i j).act = s.act := rfl
@[simp] theorem State.wr_engV (r : RegD) (w : Word) (i j : Nat) : (s.wr r w i j).engV = s.engV := rfl
@[simp] theorem State.wr_inact (r : RegD) (w : Word) (i j : Nat) : (s.wr r w i j).inact = s.inact := rfl
@[simp] theorem State.wr_rst (r : RegD) (w : Word) (i j : Nat) : (s.wr r w i j).rst = s.rst := rfl
@[simp] theorem State.wr_boot (r : RegD) (w : Word) (i j : Nat) : (s.wr r w i j).boot = s.boot := rfl
@[simp] theorem State.wr_fw (r : RegD) (w : Word) (i j : Nat) : (s.wr r w i j).fw = s.fw := rfl
@[simp] theorem State.wr_mc (r : RegD) (w : Word) (i j : Nat) : (s.wr r w i j).mc = s.mc := rfl
@[simp] theorem State.wr_eng (r : RegD) (w : Word) (i j : Nat) : (s.wr r w i j).eng = s.eng := rfl
@[simp] theorem State.wr_host (r : RegD) (w : Word) (i j : Nat) : (s.wr r w i j).host = s.host := rfl
@[simp] theorem State.wr_pwr (r : RegD) (w : Word) (i j : Nat) : (s.wr r w i j).pwr = s.pwr := rfl
@[simp] theorem State.wr_tlm (r : RegD) (w : Word) (i j : Nat) : (s.wr r w i j).tlm = s.tlm := rfl
@[simp] theorem State.wr_port (r : RegD) (w : Word) (i j : Nat) : (s.wr r w i j).port = s.port := rfl
@[simp] theorem State.wr_tbl (r : RegD) (w : Word) (i j : Nat) : (s.wr r w i j).tbl = s.tbl := rfl
@[simp] theorem State.wr_idl (r : RegD) (w : Word) (i j : Nat) : (s.wr r w i j).idl = s.idl := rfl
@[simp] theorem State.wr_buf (r : RegD) (w : Word) (i j : Nat) : (s.wr r w i j).buf = s.buf := rfl
@[simp] theorem State.wr_sch (r : RegD) (w : Word) (i j : Nat) : (s.wr r w i j).sch = s.sch := rfl
@[simp] theorem State.wr_fab (r : RegD) (w : Word) (i j : Nat) : (s.wr r w i j).fab = s.fab := rfl
@[simp] theorem State.wr_mem (r : RegD) (w : Word) (i j : Nat) : (s.wr r w i j).mem = s.mem := rfl
@[simp] theorem State.wr_sram (r : RegD) (w : Word) (i j : Nat) : (s.wr r w i j).sram = s.sram := rfl
@[simp] theorem State.wr_sramBad (r : RegD) (w : Word) (i j : Nat) : (s.wr r w i j).sramBad = s.sramBad := rfl
@[simp] theorem State.wr_rec0 (r : RegD) (w : Word) (i j : Nat) : (s.wr r w i j).rec0 = s.rec0 := rfl
@[simp] theorem State.wr_smb (r : RegD) (w : Word) (i j : Nat) : (s.wr r w i j).smb = s.smb := rfl
@[simp] theorem State.wr_smbNext (r : RegD) (w : Word) (i j : Nat) : (s.wr r w i j).smbNext = s.smbNext := rfl

/-! ### `put` -/

@[simp] theorem State.put_pending (f : Fld) (v i j : Nat) : (s.put f v i j).pending = s.pending := rfl
@[simp] theorem State.put_time (f : Fld) (v i j : Nat) : (s.put f v i j).time = s.time := rfl
@[simp] theorem State.put_up (f : Fld) (v i j : Nat) : (s.put f v i j).up = s.up := rfl
@[simp] theorem State.put_frac (f : Fld) (v i j : Nat) : (s.put f v i j).frac = s.frac := rfl
@[simp] theorem State.put_fv (f : Fld) (v i j : Nat) : (s.put f v i j).fv = s.fv := rfl
@[simp] theorem State.put_out (f : Fld) (v i j : Nat) : (s.put f v i j).out = s.out := rfl
@[simp] theorem State.put_act (f : Fld) (v i j : Nat) : (s.put f v i j).act = s.act := rfl
@[simp] theorem State.put_engV (f : Fld) (v i j : Nat) : (s.put f v i j).engV = s.engV := rfl
@[simp] theorem State.put_inact (f : Fld) (v i j : Nat) : (s.put f v i j).inact = s.inact := rfl
@[simp] theorem State.put_rst (f : Fld) (v i j : Nat) : (s.put f v i j).rst = s.rst := rfl
@[simp] theorem State.put_boot (f : Fld) (v i j : Nat) : (s.put f v i j).boot = s.boot := rfl
@[simp] theorem State.put_fw (f : Fld) (v i j : Nat) : (s.put f v i j).fw = s.fw := rfl
@[simp] theorem State.put_mc (f : Fld) (v i j : Nat) : (s.put f v i j).mc = s.mc := rfl
@[simp] theorem State.put_eng (f : Fld) (v i j : Nat) : (s.put f v i j).eng = s.eng := rfl
@[simp] theorem State.put_host (f : Fld) (v i j : Nat) : (s.put f v i j).host = s.host := rfl
@[simp] theorem State.put_pwr (f : Fld) (v i j : Nat) : (s.put f v i j).pwr = s.pwr := rfl
@[simp] theorem State.put_tlm (f : Fld) (v i j : Nat) : (s.put f v i j).tlm = s.tlm := rfl
@[simp] theorem State.put_port (f : Fld) (v i j : Nat) : (s.put f v i j).port = s.port := rfl
@[simp] theorem State.put_tbl (f : Fld) (v i j : Nat) : (s.put f v i j).tbl = s.tbl := rfl
@[simp] theorem State.put_idl (f : Fld) (v i j : Nat) : (s.put f v i j).idl = s.idl := rfl
@[simp] theorem State.put_buf (f : Fld) (v i j : Nat) : (s.put f v i j).buf = s.buf := rfl
@[simp] theorem State.put_sch (f : Fld) (v i j : Nat) : (s.put f v i j).sch = s.sch := rfl
@[simp] theorem State.put_fab (f : Fld) (v i j : Nat) : (s.put f v i j).fab = s.fab := rfl
@[simp] theorem State.put_mem (f : Fld) (v i j : Nat) : (s.put f v i j).mem = s.mem := rfl
@[simp] theorem State.put_sram (f : Fld) (v i j : Nat) : (s.put f v i j).sram = s.sram := rfl
@[simp] theorem State.put_sramBad (f : Fld) (v i j : Nat) : (s.put f v i j).sramBad = s.sramBad := rfl
@[simp] theorem State.put_rec0 (f : Fld) (v i j : Nat) : (s.put f v i j).rec0 = s.rec0 := rfl
@[simp] theorem State.put_smb (f : Fld) (v i j : Nat) : (s.put f v i j).smb = s.smb := rfl
@[simp] theorem State.put_smbNext (f : Fld) (v i j : Nat) : (s.put f v i j).smbNext = s.smbNext := rfl

/-! ### `raise` -/

@[simp] theorem State.raise_pending (f : Fld) (i j : Nat) : (s.raise f i j).pending = s.pending := rfl
@[simp] theorem State.raise_time (f : Fld) (i j : Nat) : (s.raise f i j).time = s.time := rfl
@[simp] theorem State.raise_up (f : Fld) (i j : Nat) : (s.raise f i j).up = s.up := rfl
@[simp] theorem State.raise_frac (f : Fld) (i j : Nat) : (s.raise f i j).frac = s.frac := rfl
@[simp] theorem State.raise_fv (f : Fld) (i j : Nat) : (s.raise f i j).fv = s.fv := rfl
@[simp] theorem State.raise_out (f : Fld) (i j : Nat) : (s.raise f i j).out = s.out := rfl
@[simp] theorem State.raise_act (f : Fld) (i j : Nat) : (s.raise f i j).act = s.act := rfl
@[simp] theorem State.raise_engV (f : Fld) (i j : Nat) : (s.raise f i j).engV = s.engV := rfl
@[simp] theorem State.raise_inact (f : Fld) (i j : Nat) : (s.raise f i j).inact = s.inact := rfl
@[simp] theorem State.raise_rst (f : Fld) (i j : Nat) : (s.raise f i j).rst = s.rst := rfl
@[simp] theorem State.raise_boot (f : Fld) (i j : Nat) : (s.raise f i j).boot = s.boot := rfl
@[simp] theorem State.raise_fw (f : Fld) (i j : Nat) : (s.raise f i j).fw = s.fw := rfl
@[simp] theorem State.raise_mc (f : Fld) (i j : Nat) : (s.raise f i j).mc = s.mc := rfl
@[simp] theorem State.raise_eng (f : Fld) (i j : Nat) : (s.raise f i j).eng = s.eng := rfl
@[simp] theorem State.raise_host (f : Fld) (i j : Nat) : (s.raise f i j).host = s.host := rfl
@[simp] theorem State.raise_pwr (f : Fld) (i j : Nat) : (s.raise f i j).pwr = s.pwr := rfl
@[simp] theorem State.raise_tlm (f : Fld) (i j : Nat) : (s.raise f i j).tlm = s.tlm := rfl
@[simp] theorem State.raise_port (f : Fld) (i j : Nat) : (s.raise f i j).port = s.port := rfl
@[simp] theorem State.raise_tbl (f : Fld) (i j : Nat) : (s.raise f i j).tbl = s.tbl := rfl
@[simp] theorem State.raise_idl (f : Fld) (i j : Nat) : (s.raise f i j).idl = s.idl := rfl
@[simp] theorem State.raise_buf (f : Fld) (i j : Nat) : (s.raise f i j).buf = s.buf := rfl
@[simp] theorem State.raise_sch (f : Fld) (i j : Nat) : (s.raise f i j).sch = s.sch := rfl
@[simp] theorem State.raise_fab (f : Fld) (i j : Nat) : (s.raise f i j).fab = s.fab := rfl
@[simp] theorem State.raise_mem (f : Fld) (i j : Nat) : (s.raise f i j).mem = s.mem := rfl
@[simp] theorem State.raise_sram (f : Fld) (i j : Nat) : (s.raise f i j).sram = s.sram := rfl
@[simp] theorem State.raise_sramBad (f : Fld) (i j : Nat) : (s.raise f i j).sramBad = s.sramBad := rfl
@[simp] theorem State.raise_rec0 (f : Fld) (i j : Nat) : (s.raise f i j).rec0 = s.rec0 := rfl
@[simp] theorem State.raise_smb (f : Fld) (i j : Nat) : (s.raise f i j).smb = s.smb := rfl
@[simp] theorem State.raise_smbNext (f : Fld) (i j : Nat) : (s.raise f i j).smbNext = s.smbNext := rfl

/-! ### `zero` -/

@[simp] theorem State.zero_pending (f : Fld) (i j : Nat) : (s.zero f i j).pending = s.pending := rfl
@[simp] theorem State.zero_time (f : Fld) (i j : Nat) : (s.zero f i j).time = s.time := rfl
@[simp] theorem State.zero_up (f : Fld) (i j : Nat) : (s.zero f i j).up = s.up := rfl
@[simp] theorem State.zero_frac (f : Fld) (i j : Nat) : (s.zero f i j).frac = s.frac := rfl
@[simp] theorem State.zero_fv (f : Fld) (i j : Nat) : (s.zero f i j).fv = s.fv := rfl
@[simp] theorem State.zero_out (f : Fld) (i j : Nat) : (s.zero f i j).out = s.out := rfl
@[simp] theorem State.zero_act (f : Fld) (i j : Nat) : (s.zero f i j).act = s.act := rfl
@[simp] theorem State.zero_engV (f : Fld) (i j : Nat) : (s.zero f i j).engV = s.engV := rfl
@[simp] theorem State.zero_inact (f : Fld) (i j : Nat) : (s.zero f i j).inact = s.inact := rfl
@[simp] theorem State.zero_rst (f : Fld) (i j : Nat) : (s.zero f i j).rst = s.rst := rfl
@[simp] theorem State.zero_boot (f : Fld) (i j : Nat) : (s.zero f i j).boot = s.boot := rfl
@[simp] theorem State.zero_fw (f : Fld) (i j : Nat) : (s.zero f i j).fw = s.fw := rfl
@[simp] theorem State.zero_mc (f : Fld) (i j : Nat) : (s.zero f i j).mc = s.mc := rfl
@[simp] theorem State.zero_eng (f : Fld) (i j : Nat) : (s.zero f i j).eng = s.eng := rfl
@[simp] theorem State.zero_host (f : Fld) (i j : Nat) : (s.zero f i j).host = s.host := rfl
@[simp] theorem State.zero_pwr (f : Fld) (i j : Nat) : (s.zero f i j).pwr = s.pwr := rfl
@[simp] theorem State.zero_tlm (f : Fld) (i j : Nat) : (s.zero f i j).tlm = s.tlm := rfl
@[simp] theorem State.zero_port (f : Fld) (i j : Nat) : (s.zero f i j).port = s.port := rfl
@[simp] theorem State.zero_tbl (f : Fld) (i j : Nat) : (s.zero f i j).tbl = s.tbl := rfl
@[simp] theorem State.zero_idl (f : Fld) (i j : Nat) : (s.zero f i j).idl = s.idl := rfl
@[simp] theorem State.zero_buf (f : Fld) (i j : Nat) : (s.zero f i j).buf = s.buf := rfl
@[simp] theorem State.zero_sch (f : Fld) (i j : Nat) : (s.zero f i j).sch = s.sch := rfl
@[simp] theorem State.zero_fab (f : Fld) (i j : Nat) : (s.zero f i j).fab = s.fab := rfl
@[simp] theorem State.zero_mem (f : Fld) (i j : Nat) : (s.zero f i j).mem = s.mem := rfl
@[simp] theorem State.zero_sram (f : Fld) (i j : Nat) : (s.zero f i j).sram = s.sram := rfl
@[simp] theorem State.zero_sramBad (f : Fld) (i j : Nat) : (s.zero f i j).sramBad = s.sramBad := rfl
@[simp] theorem State.zero_rec0 (f : Fld) (i j : Nat) : (s.zero f i j).rec0 = s.rec0 := rfl
@[simp] theorem State.zero_smb (f : Fld) (i j : Nat) : (s.zero f i j).smb = s.smb := rfl
@[simp] theorem State.zero_smbNext (f : Fld) (i j : Nat) : (s.zero f i j).smbNext = s.smbNext := rfl

/-! ### `addSat` -/

@[simp] theorem State.addSat_pending (f : Fld) (v i j : Nat) : (s.addSat f v i j).pending = s.pending := rfl
@[simp] theorem State.addSat_time (f : Fld) (v i j : Nat) : (s.addSat f v i j).time = s.time := rfl
@[simp] theorem State.addSat_up (f : Fld) (v i j : Nat) : (s.addSat f v i j).up = s.up := rfl
@[simp] theorem State.addSat_frac (f : Fld) (v i j : Nat) : (s.addSat f v i j).frac = s.frac := rfl
@[simp] theorem State.addSat_fv (f : Fld) (v i j : Nat) : (s.addSat f v i j).fv = s.fv := rfl
@[simp] theorem State.addSat_out (f : Fld) (v i j : Nat) : (s.addSat f v i j).out = s.out := rfl
@[simp] theorem State.addSat_act (f : Fld) (v i j : Nat) : (s.addSat f v i j).act = s.act := rfl
@[simp] theorem State.addSat_engV (f : Fld) (v i j : Nat) : (s.addSat f v i j).engV = s.engV := rfl
@[simp] theorem State.addSat_inact (f : Fld) (v i j : Nat) : (s.addSat f v i j).inact = s.inact := rfl
@[simp] theorem State.addSat_rst (f : Fld) (v i j : Nat) : (s.addSat f v i j).rst = s.rst := rfl
@[simp] theorem State.addSat_boot (f : Fld) (v i j : Nat) : (s.addSat f v i j).boot = s.boot := rfl
@[simp] theorem State.addSat_fw (f : Fld) (v i j : Nat) : (s.addSat f v i j).fw = s.fw := rfl
@[simp] theorem State.addSat_mc (f : Fld) (v i j : Nat) : (s.addSat f v i j).mc = s.mc := rfl
@[simp] theorem State.addSat_eng (f : Fld) (v i j : Nat) : (s.addSat f v i j).eng = s.eng := rfl
@[simp] theorem State.addSat_host (f : Fld) (v i j : Nat) : (s.addSat f v i j).host = s.host := rfl
@[simp] theorem State.addSat_pwr (f : Fld) (v i j : Nat) : (s.addSat f v i j).pwr = s.pwr := rfl
@[simp] theorem State.addSat_tlm (f : Fld) (v i j : Nat) : (s.addSat f v i j).tlm = s.tlm := rfl
@[simp] theorem State.addSat_port (f : Fld) (v i j : Nat) : (s.addSat f v i j).port = s.port := rfl
@[simp] theorem State.addSat_tbl (f : Fld) (v i j : Nat) : (s.addSat f v i j).tbl = s.tbl := rfl
@[simp] theorem State.addSat_idl (f : Fld) (v i j : Nat) : (s.addSat f v i j).idl = s.idl := rfl
@[simp] theorem State.addSat_buf (f : Fld) (v i j : Nat) : (s.addSat f v i j).buf = s.buf := rfl
@[simp] theorem State.addSat_sch (f : Fld) (v i j : Nat) : (s.addSat f v i j).sch = s.sch := rfl
@[simp] theorem State.addSat_fab (f : Fld) (v i j : Nat) : (s.addSat f v i j).fab = s.fab := rfl
@[simp] theorem State.addSat_mem (f : Fld) (v i j : Nat) : (s.addSat f v i j).mem = s.mem := rfl
@[simp] theorem State.addSat_sram (f : Fld) (v i j : Nat) : (s.addSat f v i j).sram = s.sram := rfl
@[simp] theorem State.addSat_sramBad (f : Fld) (v i j : Nat) : (s.addSat f v i j).sramBad = s.sramBad := rfl
@[simp] theorem State.addSat_rec0 (f : Fld) (v i j : Nat) : (s.addSat f v i j).rec0 = s.rec0 := rfl
@[simp] theorem State.addSat_smb (f : Fld) (v i j : Nat) : (s.addSat f v i j).smb = s.smb := rfl
@[simp] theorem State.addSat_smbNext (f : Fld) (v i j : Nat) : (s.addSat f v i j).smbNext = s.smbNext := rfl

/-! ### `addWrap` -/

@[simp] theorem State.addWrap_pending (f : Fld) (v i j : Nat) : (s.addWrap f v i j).pending = s.pending := rfl
@[simp] theorem State.addWrap_time (f : Fld) (v i j : Nat) : (s.addWrap f v i j).time = s.time := rfl
@[simp] theorem State.addWrap_up (f : Fld) (v i j : Nat) : (s.addWrap f v i j).up = s.up := rfl
@[simp] theorem State.addWrap_frac (f : Fld) (v i j : Nat) : (s.addWrap f v i j).frac = s.frac := rfl
@[simp] theorem State.addWrap_fv (f : Fld) (v i j : Nat) : (s.addWrap f v i j).fv = s.fv := rfl
@[simp] theorem State.addWrap_out (f : Fld) (v i j : Nat) : (s.addWrap f v i j).out = s.out := rfl
@[simp] theorem State.addWrap_act (f : Fld) (v i j : Nat) : (s.addWrap f v i j).act = s.act := rfl
@[simp] theorem State.addWrap_engV (f : Fld) (v i j : Nat) : (s.addWrap f v i j).engV = s.engV := rfl
@[simp] theorem State.addWrap_inact (f : Fld) (v i j : Nat) : (s.addWrap f v i j).inact = s.inact := rfl
@[simp] theorem State.addWrap_rst (f : Fld) (v i j : Nat) : (s.addWrap f v i j).rst = s.rst := rfl
@[simp] theorem State.addWrap_boot (f : Fld) (v i j : Nat) : (s.addWrap f v i j).boot = s.boot := rfl
@[simp] theorem State.addWrap_fw (f : Fld) (v i j : Nat) : (s.addWrap f v i j).fw = s.fw := rfl
@[simp] theorem State.addWrap_mc (f : Fld) (v i j : Nat) : (s.addWrap f v i j).mc = s.mc := rfl
@[simp] theorem State.addWrap_eng (f : Fld) (v i j : Nat) : (s.addWrap f v i j).eng = s.eng := rfl
@[simp] theorem State.addWrap_host (f : Fld) (v i j : Nat) : (s.addWrap f v i j).host = s.host := rfl
@[simp] theorem State.addWrap_pwr (f : Fld) (v i j : Nat) : (s.addWrap f v i j).pwr = s.pwr := rfl
@[simp] theorem State.addWrap_tlm (f : Fld) (v i j : Nat) : (s.addWrap f v i j).tlm = s.tlm := rfl
@[simp] theorem State.addWrap_port (f : Fld) (v i j : Nat) : (s.addWrap f v i j).port = s.port := rfl
@[simp] theorem State.addWrap_tbl (f : Fld) (v i j : Nat) : (s.addWrap f v i j).tbl = s.tbl := rfl
@[simp] theorem State.addWrap_idl (f : Fld) (v i j : Nat) : (s.addWrap f v i j).idl = s.idl := rfl
@[simp] theorem State.addWrap_buf (f : Fld) (v i j : Nat) : (s.addWrap f v i j).buf = s.buf := rfl
@[simp] theorem State.addWrap_sch (f : Fld) (v i j : Nat) : (s.addWrap f v i j).sch = s.sch := rfl
@[simp] theorem State.addWrap_fab (f : Fld) (v i j : Nat) : (s.addWrap f v i j).fab = s.fab := rfl
@[simp] theorem State.addWrap_mem (f : Fld) (v i j : Nat) : (s.addWrap f v i j).mem = s.mem := rfl
@[simp] theorem State.addWrap_sram (f : Fld) (v i j : Nat) : (s.addWrap f v i j).sram = s.sram := rfl
@[simp] theorem State.addWrap_sramBad (f : Fld) (v i j : Nat) : (s.addWrap f v i j).sramBad = s.sramBad := rfl
@[simp] theorem State.addWrap_rec0 (f : Fld) (v i j : Nat) : (s.addWrap f v i j).rec0 = s.rec0 := rfl
@[simp] theorem State.addWrap_smb (f : Fld) (v i j : Nat) : (s.addWrap f v i j).smb = s.smb := rfl
@[simp] theorem State.addWrap_smbNext (f : Fld) (v i j : Nat) : (s.addWrap f v i j).smbNext = s.smbNext := rfl

/-! ### `emit` -/

@[simp] theorem State.emit_pending (o : Out) : (s.emit o).pending = s.pending := rfl
@[simp] theorem State.emit_regs (o : Out) : (s.emit o).regs = s.regs := rfl
@[simp] theorem State.emit_time (o : Out) : (s.emit o).time = s.time := rfl
@[simp] theorem State.emit_up (o : Out) : (s.emit o).up = s.up := rfl
@[simp] theorem State.emit_frac (o : Out) : (s.emit o).frac = s.frac := rfl
@[simp] theorem State.emit_fv (o : Out) : (s.emit o).fv = s.fv := rfl
@[simp] theorem State.emit_act (o : Out) : (s.emit o).act = s.act := rfl
@[simp] theorem State.emit_engV (o : Out) : (s.emit o).engV = s.engV := rfl
@[simp] theorem State.emit_inact (o : Out) : (s.emit o).inact = s.inact := rfl
@[simp] theorem State.emit_rst (o : Out) : (s.emit o).rst = s.rst := rfl
@[simp] theorem State.emit_boot (o : Out) : (s.emit o).boot = s.boot := rfl
@[simp] theorem State.emit_fw (o : Out) : (s.emit o).fw = s.fw := rfl
@[simp] theorem State.emit_mc (o : Out) : (s.emit o).mc = s.mc := rfl
@[simp] theorem State.emit_eng (o : Out) : (s.emit o).eng = s.eng := rfl
@[simp] theorem State.emit_host (o : Out) : (s.emit o).host = s.host := rfl
@[simp] theorem State.emit_pwr (o : Out) : (s.emit o).pwr = s.pwr := rfl
@[simp] theorem State.emit_tlm (o : Out) : (s.emit o).tlm = s.tlm := rfl
@[simp] theorem State.emit_port (o : Out) : (s.emit o).port = s.port := rfl
@[simp] theorem State.emit_tbl (o : Out) : (s.emit o).tbl = s.tbl := rfl
@[simp] theorem State.emit_idl (o : Out) : (s.emit o).idl = s.idl := rfl
@[simp] theorem State.emit_buf (o : Out) : (s.emit o).buf = s.buf := rfl
@[simp] theorem State.emit_sch (o : Out) : (s.emit o).sch = s.sch := rfl
@[simp] theorem State.emit_fab (o : Out) : (s.emit o).fab = s.fab := rfl
@[simp] theorem State.emit_mem (o : Out) : (s.emit o).mem = s.mem := rfl
@[simp] theorem State.emit_sram (o : Out) : (s.emit o).sram = s.sram := rfl
@[simp] theorem State.emit_sramBad (o : Out) : (s.emit o).sramBad = s.sramBad := rfl
@[simp] theorem State.emit_rec0 (o : Out) : (s.emit o).rec0 = s.rec0 := rfl
@[simp] theorem State.emit_smb (o : Out) : (s.emit o).smb = s.smb := rfl
@[simp] theorem State.emit_smbNext (o : Out) : (s.emit o).smbNext = s.smbNext := rfl

/-! ### `emits` -/

@[simp] theorem State.emits_pending (o : List Out) : (s.emits o).pending = s.pending := rfl
@[simp] theorem State.emits_regs (o : List Out) : (s.emits o).regs = s.regs := rfl
@[simp] theorem State.emits_time (o : List Out) : (s.emits o).time = s.time := rfl
@[simp] theorem State.emits_up (o : List Out) : (s.emits o).up = s.up := rfl
@[simp] theorem State.emits_frac (o : List Out) : (s.emits o).frac = s.frac := rfl
@[simp] theorem State.emits_fv (o : List Out) : (s.emits o).fv = s.fv := rfl
@[simp] theorem State.emits_act (o : List Out) : (s.emits o).act = s.act := rfl
@[simp] theorem State.emits_engV (o : List Out) : (s.emits o).engV = s.engV := rfl
@[simp] theorem State.emits_inact (o : List Out) : (s.emits o).inact = s.inact := rfl
@[simp] theorem State.emits_rst (o : List Out) : (s.emits o).rst = s.rst := rfl
@[simp] theorem State.emits_boot (o : List Out) : (s.emits o).boot = s.boot := rfl
@[simp] theorem State.emits_fw (o : List Out) : (s.emits o).fw = s.fw := rfl
@[simp] theorem State.emits_mc (o : List Out) : (s.emits o).mc = s.mc := rfl
@[simp] theorem State.emits_eng (o : List Out) : (s.emits o).eng = s.eng := rfl
@[simp] theorem State.emits_host (o : List Out) : (s.emits o).host = s.host := rfl
@[simp] theorem State.emits_pwr (o : List Out) : (s.emits o).pwr = s.pwr := rfl
@[simp] theorem State.emits_tlm (o : List Out) : (s.emits o).tlm = s.tlm := rfl
@[simp] theorem State.emits_port (o : List Out) : (s.emits o).port = s.port := rfl
@[simp] theorem State.emits_tbl (o : List Out) : (s.emits o).tbl = s.tbl := rfl
@[simp] theorem State.emits_idl (o : List Out) : (s.emits o).idl = s.idl := rfl
@[simp] theorem State.emits_buf (o : List Out) : (s.emits o).buf = s.buf := rfl
@[simp] theorem State.emits_sch (o : List Out) : (s.emits o).sch = s.sch := rfl
@[simp] theorem State.emits_fab (o : List Out) : (s.emits o).fab = s.fab := rfl
@[simp] theorem State.emits_mem (o : List Out) : (s.emits o).mem = s.mem := rfl
@[simp] theorem State.emits_sram (o : List Out) : (s.emits o).sram = s.sram := rfl
@[simp] theorem State.emits_sramBad (o : List Out) : (s.emits o).sramBad = s.sramBad := rfl
@[simp] theorem State.emits_rec0 (o : List Out) : (s.emits o).rec0 = s.rec0 := rfl
@[simp] theorem State.emits_smb (o : List Out) : (s.emits o).smb = s.smb := rfl
@[simp] theorem State.emits_smbNext (o : List Out) : (s.emits o).smbNext = s.smbNext := rfl

@[simp] theorem State.emit_out (o : Out) : (s.emit o).out = s.out ++ [o] := rfl
@[simp] theorem State.emits_out (o : List Out) : (s.emits o).out = s.out ++ o := rfl

/-! ### Registers -/

/-- A read looks at the register file alone. -/
theorem State.rd_congr {s t : State} (h : t.regs = s.regs) (r : RegD) (i j : Nat) : t.rd r i j = s.rd r i j := by
  simp [State.rd, h]

theorem State.get_congr {s t : State} (h : t.regs = s.regs) (f : Fld) (i j : Nat) : t.get f i j = s.get f i j := by
  simp [State.get, State.rd_congr h]

theorem State.flag_congr {s t : State} (h : t.regs = s.regs) (f : Fld) (i j : Nat) : t.flag f i j = s.flag f i j := by
  simp [State.flag, State.get_congr h]

@[simp] theorem State.emit_rd (o : Out) (r : RegD) (i j : Nat) : (s.emit o).rd r i j = s.rd r i j := rfl
@[simp] theorem State.emit_get (o : Out) (f : Fld) (i j : Nat) : (s.emit o).get f i j = s.get f i j := rfl
@[simp] theorem State.emit_flag (o : Out) (f : Fld) (i j : Nat) : (s.emit o).flag f i j = s.flag f i j := rfl
@[simp] theorem State.emit_mode (o : Out) : (s.emit o).mode = s.mode := rfl

/-- A register holds what was written to it. -/
@[simp] theorem State.rd_wr_self (r : RegD) (w : Word) (i j : Nat) : (s.wr r w i j).rd r i j = w := by
  simp [State.rd, State.wr]

/-- A write to a register leaves a register at another address alone. -/
theorem State.rd_wr_ne {r r' : RegD} {i j i' j' : Nat} (w : Word) (h : regAddr r' i' j' ≠ regAddr r i j) :
    (s.wr r w i j).rd r' i' j' = s.rd r' i' j' := by
  simp only [State.rd, State.wr]
  exact tget_tput_ne _ _ _ _ h

/-- A field holds what was written to it, as far as it fits. -/
theorem State.get_put_self (f : Fld) (v i j : Nat) (hf : f.lo + f.w ≤ 64) :
    (s.put f v i j).get f i j = v % 2 ^ f.w := by
  simp only [State.get, State.put, State.rd_wr_self, BitVec.toNat_ofNat]
  rw [Nat.mod_eq_of_lt (setBits_lt (BitVec.isLt _) hf), bits_setBits_self]

/-- A write to a field of a register leaves a field of a register at another address alone. -/
theorem State.get_put_reg {f g : Fld} {i j i' j' : Nat} (v : Nat)
    (h : regAddr g.reg i' j' ≠ regAddr f.reg i j) : (s.put f v i j).get g i' j' = s.get g i' j' := by
  simp only [State.get, State.put, State.rd_wr_ne _ _ h]

/-- A write to a field leaves another field of the same register alone. -/
theorem State.get_put_fld {f g : Fld} {i j : Nat} (v : Nat) (hr : g.reg = f.reg) (hf : f.lo + f.w ≤ 64)
    (h : f.lo + f.w ≤ g.lo ∨ g.lo + g.w ≤ f.lo) : (s.put f v i j).get g i j = s.get g i j := by
  simp only [State.get, State.put, hr, State.rd_wr_self, BitVec.toNat_ofNat]
  rw [Nat.mod_eq_of_lt (setBits_lt (BitVec.isLt _) hf), bits_setBits_ne h]

/-- A write to a field leaves registers at other addresses alone. -/
theorem State.rd_put_ne {f : Fld} {r : RegD} {i j i' j' : Nat} (v : Nat)
    (h : regAddr r i' j' ≠ regAddr f.reg i j) : (s.put f v i j).rd r i' j' = s.rd r i' j' :=
  State.rd_wr_ne _ _ h

theorem State.get_lt (f : Fld) (i j : Nat) : s.get f i j < 2 ^ f.w := bits_lt _ _ _

/-- A one-bit field is set after `raise`. -/
theorem State.get_raise_self (f : Fld) (i j : Nat) (hf : f.lo + f.w ≤ 64) (hw : 0 < f.w) :
    (s.raise f i j).get f i j = 1 := by
  rw [State.raise, State.get_put_self _ _ _ _ _ hf]
  exact Nat.mod_eq_of_lt (Nat.one_lt_two_pow (by omega))

theorem State.get_raise_reg {f g : Fld} {i j i' j' : Nat} (h : regAddr g.reg i' j' ≠ regAddr f.reg i j) :
    (s.raise f i j).get g i' j' = s.get g i' j' := State.get_put_reg _ _ h

theorem State.get_raise_fld {f g : Fld} {i j : Nat} (hr : g.reg = f.reg) (hf : f.lo + f.w ≤ 64)
    (h : f.lo + f.w ≤ g.lo ∨ g.lo + g.w ≤ f.lo) : (s.raise f i j).get g i j = s.get g i j :=
  State.get_put_fld _ _ hr hf h

theorem State.get_zero_self (f : Fld) (i j : Nat) (hf : f.lo + f.w ≤ 64) : (s.zero f i j).get f i j = 0 := by
  rw [State.zero, State.get_put_self _ _ _ _ _ hf]
  exact Nat.zero_mod _

theorem State.get_zero_reg {f g : Fld} {i j i' j' : Nat} (h : regAddr g.reg i' j' ≠ regAddr f.reg i j) :
    (s.zero f i j).get g i' j' = s.get g i' j' := State.get_put_reg _ _ h

theorem State.get_zero_fld {f g : Fld} {i j : Nat} (hr : g.reg = f.reg) (hf : f.lo + f.w ≤ 64)
    (h : f.lo + f.w ≤ g.lo ∨ g.lo + g.w ≤ f.lo) : (s.zero f i j).get g i j = s.get g i j :=
  State.get_put_fld _ _ hr hf h

/-- The register file keeps its canonical order of keys under every write of a register. -/
theorem State.wr_rising (r : RegD) (w : Word) (i j : Nat) (h : trising s.regs = true) :
    trising (s.wr r w i j).regs = true := by
  simp only [State.wr, tput]
  split
  · exact trising_tdel _ h
  · exact trising_tset _ _ h

/-! ### Counters -/

/-- Counting in the live set changes the telemetry's state alone. -/
theorem State.liveCount_keeps (key n : Nat) : ∃ tlm, s.liveCount key n = { s with tlm := tlm } := by
  unfold State.liveCount
  split <;> exact ⟨_, rfl⟩

/-- Counting changes the counter's register and the telemetry windows, and nothing else. -/
theorem State.windowCount_keeps (g flat n t : Nat) :
    ∃ regs tlm, s.windowCount g flat n t = { s with regs := regs, tlm := tlm } := by
  obtain ⟨a, h⟩ := State.liveCount_keeps s (cntKey g flat) n
  unfold State.windowCount
  split
  · exact ⟨s.regs, s.tlm, rfl⟩
  · simp only [h]
    split
    · split <;> exact ⟨_, _, rfl⟩
    · split
      · unfold State.tlmCount
        rw [(State.liveCount_keeps _ _ _).choose_spec]
        exact ⟨_, _, rfl⟩
      · exact ⟨_, _, rfl⟩

theorem State.countAt_keeps (g : CntGroup) (i k n t : Nat) :
    ∃ regs tlm, s.countAt g i k n t = { s with regs := regs, tlm := tlm } := by
  unfold State.countAt
  obtain ⟨a, b, h⟩ := State.windowCount_keeps
    (s.wr g.reg (cntAdd (s.rd g.reg (if g.reg.n2 = 0 then (k, 0) else (i, k)).1
      (if g.reg.n2 = 0 then (k, 0) else (i, k)).2) n) (if g.reg.n2 = 0 then (k, 0) else (i, k)).1
      (if g.reg.n2 = 0 then (k, 0) else (i, k)).2) g.grp (i * g.per + k) n t
  exact ⟨a, b, by simpa [State.wr] using h⟩

theorem State.count_keeps (g : CntGroup) (k i n : Nat) :
    ∃ regs tlm, s.count g k i n = { s with regs := regs, tlm := tlm } := State.countAt_keeps ..

@[simp] theorem State.countAt_pending (g : CntGroup) (i k n t : Nat) : (s.countAt g i k n t).pending = s.pending := by
  obtain ⟨_, _, h⟩ := State.countAt_keeps s g i k n t; rw [h]
@[simp] theorem State.countAt_time (g : CntGroup) (i k n t : Nat) : (s.countAt g i k n t).time = s.time := by
  obtain ⟨_, _, h⟩ := State.countAt_keeps s g i k n t; rw [h]
@[simp] theorem State.countAt_up (g : CntGroup) (i k n t : Nat) : (s.countAt g i k n t).up = s.up := by
  obtain ⟨_, _, h⟩ := State.countAt_keeps s g i k n t; rw [h]
@[simp] theorem State.countAt_frac (g : CntGroup) (i k n t : Nat) : (s.countAt g i k n t).frac = s.frac := by
  obtain ⟨_, _, h⟩ := State.countAt_keeps s g i k n t; rw [h]
@[simp] theorem State.countAt_fv (g : CntGroup) (i k n t : Nat) : (s.countAt g i k n t).fv = s.fv := by
  obtain ⟨_, _, h⟩ := State.countAt_keeps s g i k n t; rw [h]
@[simp] theorem State.countAt_out (g : CntGroup) (i k n t : Nat) : (s.countAt g i k n t).out = s.out := by
  obtain ⟨_, _, h⟩ := State.countAt_keeps s g i k n t; rw [h]
@[simp] theorem State.countAt_act (g : CntGroup) (i k n t : Nat) : (s.countAt g i k n t).act = s.act := by
  obtain ⟨_, _, h⟩ := State.countAt_keeps s g i k n t; rw [h]
@[simp] theorem State.countAt_engV (g : CntGroup) (i k n t : Nat) : (s.countAt g i k n t).engV = s.engV := by
  obtain ⟨_, _, h⟩ := State.countAt_keeps s g i k n t; rw [h]
@[simp] theorem State.countAt_inact (g : CntGroup) (i k n t : Nat) : (s.countAt g i k n t).inact = s.inact := by
  obtain ⟨_, _, h⟩ := State.countAt_keeps s g i k n t; rw [h]
@[simp] theorem State.countAt_rst (g : CntGroup) (i k n t : Nat) : (s.countAt g i k n t).rst = s.rst := by
  obtain ⟨_, _, h⟩ := State.countAt_keeps s g i k n t; rw [h]
@[simp] theorem State.countAt_boot (g : CntGroup) (i k n t : Nat) : (s.countAt g i k n t).boot = s.boot := by
  obtain ⟨_, _, h⟩ := State.countAt_keeps s g i k n t; rw [h]
@[simp] theorem State.countAt_fw (g : CntGroup) (i k n t : Nat) : (s.countAt g i k n t).fw = s.fw := by
  obtain ⟨_, _, h⟩ := State.countAt_keeps s g i k n t; rw [h]
@[simp] theorem State.countAt_mc (g : CntGroup) (i k n t : Nat) : (s.countAt g i k n t).mc = s.mc := by
  obtain ⟨_, _, h⟩ := State.countAt_keeps s g i k n t; rw [h]
@[simp] theorem State.countAt_eng (g : CntGroup) (i k n t : Nat) : (s.countAt g i k n t).eng = s.eng := by
  obtain ⟨_, _, h⟩ := State.countAt_keeps s g i k n t; rw [h]
@[simp] theorem State.countAt_host (g : CntGroup) (i k n t : Nat) : (s.countAt g i k n t).host = s.host := by
  obtain ⟨_, _, h⟩ := State.countAt_keeps s g i k n t; rw [h]
@[simp] theorem State.countAt_pwr (g : CntGroup) (i k n t : Nat) : (s.countAt g i k n t).pwr = s.pwr := by
  obtain ⟨_, _, h⟩ := State.countAt_keeps s g i k n t; rw [h]
@[simp] theorem State.countAt_port (g : CntGroup) (i k n t : Nat) : (s.countAt g i k n t).port = s.port := by
  obtain ⟨_, _, h⟩ := State.countAt_keeps s g i k n t; rw [h]
@[simp] theorem State.countAt_tbl (g : CntGroup) (i k n t : Nat) : (s.countAt g i k n t).tbl = s.tbl := by
  obtain ⟨_, _, h⟩ := State.countAt_keeps s g i k n t; rw [h]
@[simp] theorem State.countAt_idl (g : CntGroup) (i k n t : Nat) : (s.countAt g i k n t).idl = s.idl := by
  obtain ⟨_, _, h⟩ := State.countAt_keeps s g i k n t; rw [h]
@[simp] theorem State.countAt_buf (g : CntGroup) (i k n t : Nat) : (s.countAt g i k n t).buf = s.buf := by
  obtain ⟨_, _, h⟩ := State.countAt_keeps s g i k n t; rw [h]
@[simp] theorem State.countAt_sch (g : CntGroup) (i k n t : Nat) : (s.countAt g i k n t).sch = s.sch := by
  obtain ⟨_, _, h⟩ := State.countAt_keeps s g i k n t; rw [h]
@[simp] theorem State.countAt_fab (g : CntGroup) (i k n t : Nat) : (s.countAt g i k n t).fab = s.fab := by
  obtain ⟨_, _, h⟩ := State.countAt_keeps s g i k n t; rw [h]
@[simp] theorem State.countAt_mem (g : CntGroup) (i k n t : Nat) : (s.countAt g i k n t).mem = s.mem := by
  obtain ⟨_, _, h⟩ := State.countAt_keeps s g i k n t; rw [h]
@[simp] theorem State.countAt_sram (g : CntGroup) (i k n t : Nat) : (s.countAt g i k n t).sram = s.sram := by
  obtain ⟨_, _, h⟩ := State.countAt_keeps s g i k n t; rw [h]
@[simp] theorem State.countAt_sramBad (g : CntGroup) (i k n t : Nat) : (s.countAt g i k n t).sramBad = s.sramBad := by
  obtain ⟨_, _, h⟩ := State.countAt_keeps s g i k n t; rw [h]
@[simp] theorem State.countAt_rec0 (g : CntGroup) (i k n t : Nat) : (s.countAt g i k n t).rec0 = s.rec0 := by
  obtain ⟨_, _, h⟩ := State.countAt_keeps s g i k n t; rw [h]
@[simp] theorem State.countAt_smb (g : CntGroup) (i k n t : Nat) : (s.countAt g i k n t).smb = s.smb := by
  obtain ⟨_, _, h⟩ := State.countAt_keeps s g i k n t; rw [h]
@[simp] theorem State.countAt_smbNext (g : CntGroup) (i k n t : Nat) : (s.countAt g i k n t).smbNext = s.smbNext := by
  obtain ⟨_, _, h⟩ := State.countAt_keeps s g i k n t; rw [h]

@[simp] theorem State.count_pending (g : CntGroup) (k i n : Nat) : (s.count g k i n).pending = s.pending := by
  obtain ⟨_, _, h⟩ := State.count_keeps s g k i n; rw [h]
@[simp] theorem State.count_time (g : CntGroup) (k i n : Nat) : (s.count g k i n).time = s.time := by
  obtain ⟨_, _, h⟩ := State.count_keeps s g k i n; rw [h]
@[simp] theorem State.count_up (g : CntGroup) (k i n : Nat) : (s.count g k i n).up = s.up := by
  obtain ⟨_, _, h⟩ := State.count_keeps s g k i n; rw [h]
@[simp] theorem State.count_frac (g : CntGroup) (k i n : Nat) : (s.count g k i n).frac = s.frac := by
  obtain ⟨_, _, h⟩ := State.count_keeps s g k i n; rw [h]
@[simp] theorem State.count_fv (g : CntGroup) (k i n : Nat) : (s.count g k i n).fv = s.fv := by
  obtain ⟨_, _, h⟩ := State.count_keeps s g k i n; rw [h]
@[simp] theorem State.count_out (g : CntGroup) (k i n : Nat) : (s.count g k i n).out = s.out := by
  obtain ⟨_, _, h⟩ := State.count_keeps s g k i n; rw [h]
@[simp] theorem State.count_act (g : CntGroup) (k i n : Nat) : (s.count g k i n).act = s.act := by
  obtain ⟨_, _, h⟩ := State.count_keeps s g k i n; rw [h]
@[simp] theorem State.count_engV (g : CntGroup) (k i n : Nat) : (s.count g k i n).engV = s.engV := by
  obtain ⟨_, _, h⟩ := State.count_keeps s g k i n; rw [h]
@[simp] theorem State.count_inact (g : CntGroup) (k i n : Nat) : (s.count g k i n).inact = s.inact := by
  obtain ⟨_, _, h⟩ := State.count_keeps s g k i n; rw [h]
@[simp] theorem State.count_rst (g : CntGroup) (k i n : Nat) : (s.count g k i n).rst = s.rst := by
  obtain ⟨_, _, h⟩ := State.count_keeps s g k i n; rw [h]
@[simp] theorem State.count_boot (g : CntGroup) (k i n : Nat) : (s.count g k i n).boot = s.boot := by
  obtain ⟨_, _, h⟩ := State.count_keeps s g k i n; rw [h]
@[simp] theorem State.count_fw (g : CntGroup) (k i n : Nat) : (s.count g k i n).fw = s.fw := by
  obtain ⟨_, _, h⟩ := State.count_keeps s g k i n; rw [h]
@[simp] theorem State.count_mc (g : CntGroup) (k i n : Nat) : (s.count g k i n).mc = s.mc := by
  obtain ⟨_, _, h⟩ := State.count_keeps s g k i n; rw [h]
@[simp] theorem State.count_eng (g : CntGroup) (k i n : Nat) : (s.count g k i n).eng = s.eng := by
  obtain ⟨_, _, h⟩ := State.count_keeps s g k i n; rw [h]
@[simp] theorem State.count_host (g : CntGroup) (k i n : Nat) : (s.count g k i n).host = s.host := by
  obtain ⟨_, _, h⟩ := State.count_keeps s g k i n; rw [h]
@[simp] theorem State.count_pwr (g : CntGroup) (k i n : Nat) : (s.count g k i n).pwr = s.pwr := by
  obtain ⟨_, _, h⟩ := State.count_keeps s g k i n; rw [h]
@[simp] theorem State.count_port (g : CntGroup) (k i n : Nat) : (s.count g k i n).port = s.port := by
  obtain ⟨_, _, h⟩ := State.count_keeps s g k i n; rw [h]
@[simp] theorem State.count_tbl (g : CntGroup) (k i n : Nat) : (s.count g k i n).tbl = s.tbl := by
  obtain ⟨_, _, h⟩ := State.count_keeps s g k i n; rw [h]
@[simp] theorem State.count_idl (g : CntGroup) (k i n : Nat) : (s.count g k i n).idl = s.idl := by
  obtain ⟨_, _, h⟩ := State.count_keeps s g k i n; rw [h]
@[simp] theorem State.count_buf (g : CntGroup) (k i n : Nat) : (s.count g k i n).buf = s.buf := by
  obtain ⟨_, _, h⟩ := State.count_keeps s g k i n; rw [h]
@[simp] theorem State.count_sch (g : CntGroup) (k i n : Nat) : (s.count g k i n).sch = s.sch := by
  obtain ⟨_, _, h⟩ := State.count_keeps s g k i n; rw [h]
@[simp] theorem State.count_fab (g : CntGroup) (k i n : Nat) : (s.count g k i n).fab = s.fab := by
  obtain ⟨_, _, h⟩ := State.count_keeps s g k i n; rw [h]
@[simp] theorem State.count_mem (g : CntGroup) (k i n : Nat) : (s.count g k i n).mem = s.mem := by
  obtain ⟨_, _, h⟩ := State.count_keeps s g k i n; rw [h]
@[simp] theorem State.count_sram (g : CntGroup) (k i n : Nat) : (s.count g k i n).sram = s.sram := by
  obtain ⟨_, _, h⟩ := State.count_keeps s g k i n; rw [h]
@[simp] theorem State.count_sramBad (g : CntGroup) (k i n : Nat) : (s.count g k i n).sramBad = s.sramBad := by
  obtain ⟨_, _, h⟩ := State.count_keeps s g k i n; rw [h]
@[simp] theorem State.count_rec0 (g : CntGroup) (k i n : Nat) : (s.count g k i n).rec0 = s.rec0 := by
  obtain ⟨_, _, h⟩ := State.count_keeps s g k i n; rw [h]
@[simp] theorem State.count_smb (g : CntGroup) (k i n : Nat) : (s.count g k i n).smb = s.smb := by
  obtain ⟨_, _, h⟩ := State.count_keeps s g k i n; rw [h]
@[simp] theorem State.count_smbNext (g : CntGroup) (k i n : Nat) : (s.count g k i n).smbNext = s.smbNext := by
  obtain ⟨_, _, h⟩ := State.count_keeps s g k i n; rw [h]

end Sys2Proof.Machine
end

