-- ==== Sys2Proof/Laws/Settle.lean ====
section
/-! SUPPORT. Laws of what follows every command (`settle`): it changes four registers' words (`KV_MODE`, `KV_EVT`,
`KV_EVT_ARM`), the messages sent, the pending messages and INTA, and the failure count; and it leaves the mode level
with the units, and no armed source pending. -/

namespace Sys2Proof.Machine

/-- A property of both arms of a choice of state is one of the choice. -/
theorem State.ite_ind {P : State → Prop} {c : Prop} [Decidable c] {a b : State} (ha : c → P a) (hb : ¬c → P b) :
    P (if c then a else b) := by
  by_cases h : c
  · rw [if_pos h]; exact ha h
  · rw [if_neg h]; exact hb h

/-! ### What it leaves alone -/

/-- A write of a field changes the register file alone. -/
theorem State.put_keeps (s : State) (f : Fld) (v i j : Nat) : ∃ regs, s.put f v i j = { s with regs := regs } :=
  ⟨_, rfl⟩

theorem State.raise_keeps (s : State) (f : Fld) (i j : Nat) : ∃ regs, s.raise f i j = { s with regs := regs } :=
  ⟨_, rfl⟩

theorem State.addWrap_keeps (s : State) (f : Fld) (v i j : Nat) :
    ∃ regs, s.addWrap f v i j = { s with regs := regs } := ⟨_, rfl⟩

/-- The registers' writes of a change of mode. -/
def State.modeRegs (s : State) (m0 m : Nat) : State :=
  (((s.put F.KV_MODE_prev_mode m0).addWrap F.KV_MODE_mode_changes 1).put F.KV_MODE_mode m).raise F.KV_EVT_mode_change

theorem State.modeRegs_keeps (s : State) (m0 m : Nat) : ∃ regs, s.modeRegs m0 m = { s with regs := regs } := by
  obtain ⟨r3, h3⟩ := State.put_keeps s F.KV_MODE_prev_mode m0 0 0
  obtain ⟨r2, h2⟩ := State.addWrap_keeps (s.put F.KV_MODE_prev_mode m0) F.KV_MODE_mode_changes 1 0 0
  obtain ⟨r1, h1⟩ := State.put_keeps ((s.put F.KV_MODE_prev_mode m0).addWrap F.KV_MODE_mode_changes 1)
    F.KV_MODE_mode m 0 0
  obtain ⟨r, hr⟩ := State.raise_keeps ((((s.put F.KV_MODE_prev_mode m0).addWrap F.KV_MODE_mode_changes 1).put
    F.KV_MODE_mode m)) F.KV_EVT_mode_change 0 0
  exact ⟨r, by rw [State.modeRegs, hr, h1, h2, h3]⟩

theorem State.enterMode_eq (s : State) (m : Nat) : s.enterMode m = if s.mode = m then s else
    if m = RUN ∨ m = DEGRADED then
      { s.modeRegs s.mode m with rec0 := { (s.modeRegs s.mode m).rec0 with fails := 0 } }
    else s.modeRegs s.mode m := rfl

/-- Everything but registers, the boot record's failure count, and what messages touch. -/
theorem State.enterMode_keeps (s : State) (m : Nat) :
    ∃ regs fails, s.enterMode m = { s with regs := regs, rec0 := { s.rec0 with fails := fails } } := by
  obtain ⟨r, hr⟩ := State.modeRegs_keeps s s.mode m
  rw [State.enterMode_eq, hr]
  exact State.ite_ind (P := fun t => ∃ regs fails, t = { s with regs := regs, rec0 := { s.rec0 with fails := fails } })
    (fun _ => ⟨s.regs, s.rec0.fails, rfl⟩)
    (fun _ => State.ite_ind (P := fun t => ∃ regs fails, t = { s with regs := regs, rec0 := { s.rec0 with fails := fails } })
      (fun _ => ⟨r, 0, rfl⟩) (fun _ => ⟨r, s.rec0.fails, rfl⟩))

theorem State.level_keeps (s : State) :
    ∃ regs fails, s.level = { s with regs := regs, rec0 := { s.rec0 with fails := fails } } := by
  unfold State.level
  dsimp only
  have key : ∀ t : State, (∃ regs fails, t = { s with regs := regs, rec0 := { s.rec0 with fails := fails } }) →
      ∀ m, ∃ regs fails, t.enterMode m = { s with regs := regs, rec0 := { s.rec0 with fails := fails } } := by
    rintro t ⟨r, f, rfl⟩ m
    obtain ⟨r', f', h⟩ := State.enterMode_keeps { s with regs := r, rec0 := { s.rec0 with fails := f } } m
    exact ⟨r', f', h⟩
  have h1 : ∃ regs fails, (if s.get F.KV_MODE_degraded = b2n s.degradedNow then s
      else (s.put F.KV_MODE_degraded (b2n s.degradedNow)).raise F.KV_EVT_degraded_change) =
      { s with regs := regs, rec0 := { s.rec0 with fails := fails } } := by
    split <;> exact ⟨_, _, rfl⟩
  split
  · exact key _ h1 _
  · split
    · exact key _ h1 _
    · exact h1

/-- A message changes the arm bits, the messages sent and those pending. -/
theorem State.srcMessage_keeps (s : State) (n : Nat) :
    ∃ regs out p, s.srcMessage n = { s with regs := regs, out := out, host := { s.host with msiPend := p } } := by
  unfold State.srcMessage State.msiSend
  split <;> exact ⟨_, _, _, rfl⟩

theorem State.srcMessages_keep (l : List Nat) (s : State) :
    ∃ regs out p, l.foldl State.srcMessage s =
      { s with regs := regs, out := out, host := { s.host with msiPend := p } } := by
  induction l generalizing s with
  | nil => exact ⟨s.regs, s.out, s.host.msiPend, rfl⟩
  | cons n l ih =>
    obtain ⟨a, b, c, h⟩ := State.srcMessage_keeps s n
    obtain ⟨a', b', c', h'⟩ := ih (s.srcMessage n)
    refine ⟨a', b', c', ?_⟩
    rw [List.foldl_cons, h', h]

theorem State.signal_keeps (s : State) :
    ∃ regs out p a, s.signal = { s with regs := regs, out := out, host := { s.host with msiPend := p, inta := a } } := by
  unfold State.signal
  split
  · obtain ⟨a, b, c, h⟩ := State.srcMessages_keep
      ((List.range 16).filter (fun n => s.srcPending n && bitOf (s.get F.KV_EVT_ARM_arm) n)) s
    exact ⟨a, b, c, s.host.inta, by rw [h]⟩
  · dsimp only
    split
    · exact ⟨s.regs, s.out, s.host.msiPend, s.host.inta, rfl⟩
    · exact ⟨_, _, s.host.msiPend, _, rfl⟩

theorem State.settle_keeps (s : State) :
    ∃ regs out p a fails, s.settle = { s with
      regs := regs, out := out, host := { s.host with msiPend := p, inta := a },
      rec0 := { s.rec0 with fails := fails } } := by
  obtain ⟨a, b, h⟩ := State.level_keeps s
  obtain ⟨c, d, e, f, h'⟩ := State.signal_keeps s.level
  refine ⟨c, d, e, f, b, ?_⟩
  rw [State.settle, h', h]

@[simp] theorem State.settle_pending (s : State) : s.settle.pending = s.pending := by
  obtain ⟨_, _, _, _, _, h⟩ := State.settle_keeps s; rw [h]
@[simp] theorem State.settle_time (s : State) : s.settle.time = s.time := by
  obtain ⟨_, _, _, _, _, h⟩ := State.settle_keeps s; rw [h]
@[simp] theorem State.settle_up (s : State) : s.settle.up = s.up := by
  obtain ⟨_, _, _, _, _, h⟩ := State.settle_keeps s; rw [h]
@[simp] theorem State.settle_frac (s : State) : s.settle.frac = s.frac := by
  obtain ⟨_, _, _, _, _, h⟩ := State.settle_keeps s; rw [h]
@[simp] theorem State.settle_fv (s : State) : s.settle.fv = s.fv := by
  obtain ⟨_, _, _, _, _, h⟩ := State.settle_keeps s; rw [h]
@[simp] theorem State.settle_act (s : State) : s.settle.act = s.act := by
  obtain ⟨_, _, _, _, _, h⟩ := State.settle_keeps s; rw [h]
@[simp] theorem State.settle_engV (s : State) : s.settle.engV = s.engV := by
  obtain ⟨_, _, _, _, _, h⟩ := State.settle_keeps s; rw [h]
@[simp] theorem State.settle_inact (s : State) : s.settle.inact = s.inact := by
  obtain ⟨_, _, _, _, _, h⟩ := State.settle_keeps s; rw [h]
@[simp] theorem State.settle_rst (s : State) : s.settle.rst = s.rst := by
  obtain ⟨_, _, _, _, _, h⟩ := State.settle_keeps s; rw [h]
@[simp] theorem State.settle_boot (s : State) : s.settle.boot = s.boot := by
  obtain ⟨_, _, _, _, _, h⟩ := State.settle_keeps s; rw [h]
@[simp] theorem State.settle_fw (s : State) : s.settle.fw = s.fw := by
  obtain ⟨_, _, _, _, _, h⟩ := State.settle_keeps s; rw [h]
@[simp] theorem State.settle_mc (s : State) : s.settle.mc = s.mc := by
  obtain ⟨_, _, _, _, _, h⟩ := State.settle_keeps s; rw [h]
@[simp] theorem State.settle_eng (s : State) : s.settle.eng = s.eng := by
  obtain ⟨_, _, _, _, _, h⟩ := State.settle_keeps s; rw [h]
@[simp] theorem State.settle_pwr (s : State) : s.settle.pwr = s.pwr := by
  obtain ⟨_, _, _, _, _, h⟩ := State.settle_keeps s; rw [h]
@[simp] theorem State.settle_tlm (s : State) : s.settle.tlm = s.tlm := by
  obtain ⟨_, _, _, _, _, h⟩ := State.settle_keeps s; rw [h]
@[simp] theorem State.settle_port (s : State) : s.settle.port = s.port := by
  obtain ⟨_, _, _, _, _, h⟩ := State.settle_keeps s; rw [h]
@[simp] theorem State.settle_tbl (s : State) : s.settle.tbl = s.tbl := by
  obtain ⟨_, _, _, _, _, h⟩ := State.settle_keeps s; rw [h]
@[simp] theorem State.settle_idl (s : State) : s.settle.idl = s.idl := by
  obtain ⟨_, _, _, _, _, h⟩ := State.settle_keeps s; rw [h]
@[simp] theorem State.settle_buf (s : State) : s.settle.buf = s.buf := by
  obtain ⟨_, _, _, _, _, h⟩ := State.settle_keeps s; rw [h]
@[simp] theorem State.settle_sch (s : State) : s.settle.sch = s.sch := by
  obtain ⟨_, _, _, _, _, h⟩ := State.settle_keeps s; rw [h]
@[simp] theorem State.settle_fab (s : State) : s.settle.fab = s.fab := by
  obtain ⟨_, _, _, _, _, h⟩ := State.settle_keeps s; rw [h]
@[simp] theorem State.settle_mem (s : State) : s.settle.mem = s.mem := by
  obtain ⟨_, _, _, _, _, h⟩ := State.settle_keeps s; rw [h]
@[simp] theorem State.settle_sram (s : State) : s.settle.sram = s.sram := by
  obtain ⟨_, _, _, _, _, h⟩ := State.settle_keeps s; rw [h]
@[simp] theorem State.settle_sramBad (s : State) : s.settle.sramBad = s.sramBad := by
  obtain ⟨_, _, _, _, _, h⟩ := State.settle_keeps s; rw [h]
@[simp] theorem State.settle_smb (s : State) : s.settle.smb = s.smb := by
  obtain ⟨_, _, _, _, _, h⟩ := State.settle_keeps s; rw [h]
@[simp] theorem State.settle_smbNext (s : State) : s.settle.smbNext = s.smbNext := by
  obtain ⟨_, _, _, _, _, h⟩ := State.settle_keeps s; rw [h]

/-! ### The registers it leaves alone -/

theorem State.rd_put_other (s : State) {f : Fld} {r : RegD} {i j a b : Nat} (v : Nat)
    (h : regAddr r i j ≠ regAddr f.reg a b) : (s.put f v a b).rd r i j = s.rd r i j := State.rd_put_ne s v h

theorem State.rd_modeRegs (s : State) (m0 m : Nat) {r : RegD} {i j : Nat} (h0 : regAddr r i j ≠ regAddr R.KV_MODE 0 0)
    (h1 : regAddr r i j ≠ regAddr R.KV_EVT 0 0) : (s.modeRegs m0 m).rd r i j = s.rd r i j := by
  unfold State.modeRegs State.raise State.addWrap
  rw [State.rd_put_ne _ _ h1, State.rd_put_ne _ _ h0, State.rd_put_ne _ _ h0, State.rd_put_ne _ _ h0]

theorem State.mode_modeRegs (s : State) (m0 : Nat) {m : Nat} (hm : m < 16) : (s.modeRegs m0 m).mode = m := by
  unfold State.modeRegs State.mode
  rw [State.get_raise_reg _ (by decide), State.get_put_self _ _ _ _ _ (by decide)]
  exact Nat.mod_eq_of_lt hm

theorem State.rd_noFails {s s1 : State} {r : RegD} {i j : Nat} (e : s1.rd r i j = s.rd r i j) (m : Nat) :
    (if m = RUN ∨ m = DEGRADED then { s1 with rec0 := { s1.rec0 with fails := 0 } } else s1).rd r i j = s.rd r i j := by
  split <;> exact e

theorem State.mode_noFails {s1 : State} {k : Nat} (e : s1.mode = k) (m : Nat) :
    (if m = RUN ∨ m = DEGRADED then { s1 with rec0 := { s1.rec0 with fails := 0 } } else s1).mode = k := by
  split <;> exact e

theorem State.rd_enterMode (s : State) (m : Nat) {r : RegD} {i j : Nat} (h0 : regAddr r i j ≠ regAddr R.KV_MODE 0 0)
    (h1 : regAddr r i j ≠ regAddr R.KV_EVT 0 0) : (s.enterMode m).rd r i j = s.rd r i j := by
  rw [State.enterMode_eq]
  exact State.ite_ind (P := fun t => t.rd r i j = s.rd r i j) (fun _ => rfl)
    (fun _ => State.rd_noFails (State.rd_modeRegs s s.mode m h0 h1) m)

theorem State.rd_level (s : State) {r : RegD} {i j : Nat} (h0 : regAddr r i j ≠ regAddr R.KV_MODE 0 0)
    (h1 : regAddr r i j ≠ regAddr R.KV_EVT 0 0) : s.level.rd r i j = s.rd r i j := by
  unfold State.level
  dsimp only
  have e : (if s.get F.KV_MODE_degraded = b2n s.degradedNow then s
      else (s.put F.KV_MODE_degraded (b2n s.degradedNow)).raise F.KV_EVT_degraded_change).rd r i j = s.rd r i j := by
    split
    · rfl
    · unfold State.raise
      rw [State.rd_put_ne _ _ h1, State.rd_put_ne _ _ h0]
  split
  · rw [State.rd_enterMode _ _ h0 h1, e]
  · split
    · rw [State.rd_enterMode _ _ h0 h1, e]
    · exact e

theorem State.rd_msiSend (s : State) (v : Nat) (r : RegD) (i j : Nat) : (s.msiSend v).rd r i j = s.rd r i j := by
  unfold State.msiSend
  split <;> rfl

theorem State.rd_srcMessages (l : List Nat) (s : State) {r : RegD} {i j : Nat} (h : regAddr r i j ≠ regAddr R.KV_EVT_ARM 0 0) :
    (l.foldl State.srcMessage s).rd r i j = s.rd r i j := by
  induction l generalizing s with
  | nil => rfl
  | cons n l ih =>
    rw [List.foldl_cons, ih, State.srcMessage, State.rd_msiSend, State.rd_put_ne _ _ h]

theorem State.rd_signal (s : State) {r : RegD} {i j : Nat} (h : regAddr r i j ≠ regAddr R.KV_EVT_ARM 0 0) :
    s.signal.rd r i j = s.rd r i j := by
  unfold State.signal
  split
  · exact State.rd_srcMessages _ _ h
  · dsimp only
    split <;> rfl

/-- A register other than `KV_MODE`, `KV_EVT` and `KV_EVT_ARM` reads as before. -/
theorem State.rd_settle (s : State) {r : RegD} {i j : Nat} (h0 : regAddr r i j ≠ regAddr R.KV_MODE 0 0)
    (h1 : regAddr r i j ≠ regAddr R.KV_EVT 0 0) (h2 : regAddr r i j ≠ regAddr R.KV_EVT_ARM 0 0) : s.settle.rd r i j = s.rd r i j := by
  rw [State.settle, State.rd_signal _ h2, State.rd_level _ h0 h1]

/-- A field of a register other than `KV_MODE`, `KV_EVT` and `KV_EVT_ARM` reads as before. -/
theorem State.get_settle (s : State) {f : Fld} {i j : Nat} (h0 : regAddr f.reg i j ≠ regAddr R.KV_MODE 0 0)
    (h1 : regAddr f.reg i j ≠ regAddr R.KV_EVT 0 0) (h2 : regAddr f.reg i j ≠ regAddr R.KV_EVT_ARM 0 0) : s.settle.get f i j = s.get f i j := by
  simp only [State.get, State.rd_settle s h0 h1 h2]

/-! ### The mode -/

theorem State.mode_enterMode (s : State) {m : Nat} (hm : m < 16) : (s.enterMode m).mode = m := by
  rw [State.enterMode_eq]
  exact State.ite_ind (P := fun t => t.mode = m) (fun h => h)
    (fun _ => State.mode_noFails (State.mode_modeRegs s s.mode hm) m)

/-- The mode bits after `degraded` has been brought level. -/
theorem State.mode_degraded (s : State) (v : Nat) :
    ((s.put F.KV_MODE_degraded v).raise F.KV_EVT_degraded_change).mode = s.mode := by
  unfold State.mode
  rw [State.get_raise_reg _ (by decide), State.get_put_fld (f := F.KV_MODE_degraded) (g := F.KV_MODE_mode) _ _ rfl (by decide) (by decide)]

/-- The mode after a command's end: RUN and DEGRADED follow the units (R35, R39), and no other mode changes. -/
theorem State.mode_level (s : State) :
    s.level.mode = if s.mode = RUN ∧ s.capacityDown = true then DEGRADED
      else if s.mode = DEGRADED ∧ s.degradedNow = false then RUN else s.mode := by
  unfold State.level
  dsimp only
  split
  · exact State.mode_enterMode _ (by decide)
  · split
    · exact State.mode_enterMode _ (by decide)
    · split
      · rfl
      · exact State.mode_degraded _ _

theorem State.mode_signal (s : State) : s.signal.mode = s.mode := by
  unfold State.mode State.get
  rw [State.rd_signal _ (by decide)]

theorem State.mode_settle (s : State) :
    s.settle.mode = if s.mode = RUN ∧ s.capacityDown = true then DEGRADED
      else if s.mode = DEGRADED ∧ s.degradedNow = false then RUN else s.mode := by
  rw [State.settle, State.mode_signal, State.mode_level]

/-- A mode other than RUN and DEGRADED stays. -/
theorem State.mode_settle_of_ne (s : State) (h1 : s.mode ≠ RUN) (h2 : s.mode ≠ DEGRADED) :
    s.settle.mode = s.mode := by
  rw [State.mode_settle]; simp [h1, h2]

/-! ### What the device sends -/

theorem State.out_srcMessages (l : List Nat) (s : State) : s.out <+: (l.foldl State.srcMessage s).out := by
  induction l generalizing s with
  | nil => exact List.prefix_refl _
  | cons n l ih =>
    refine List.IsPrefix.trans ?_ (ih _)
    unfold State.srcMessage State.msiSend
    split
    · exact List.prefix_append _ _
    · exact List.prefix_refl _

/-- What was sent stays sent; messages follow it. -/
theorem State.out_settle (s : State) : s.out <+: s.settle.out := by
  have h : s.level.out = s.out := by obtain ⟨_, _, h⟩ := State.level_keeps s; rw [h]
  rw [State.settle, ← h]
  unfold State.signal
  split
  · exact State.out_srcMessages _ _
  · dsimp only
    split
    · exact List.prefix_refl _
    · exact List.prefix_append _ _

theorem State.mem_out_settle {s : State} {o : Out} (h : o ∈ s.out) : o ∈ s.settle.out :=
  (State.out_settle s).subset h

/-! ### How a meaning ends -/

@[simp] theorem ok_eq (s : State) : ok s = .next s.settle := rfl

@[simp] theorem okIf_true (s t : State) : okIf true s t = .next t.settle := rfl

@[simp] theorem okIf_false (s t : State) : okIf false s t = .next s.settle := rfl

/-- A command whose conditions hold has its effect. -/
theorem okIf_of {c : Bool} (h : c = true) (s t : State) : okIf c s t = .next t.settle := by subst h; rfl

end Sys2Proof.Machine
end

