-- ==== Sys2Proof/Laws/Events.lean ====
section
/-! SUPPORT. Laws of the summary over register arrays, on which the event tree and the `degraded` bit rest. -/

namespace Sys2Proof.Machine

/-- Removing an entry that a property does not name changes no answer. -/
theorem any_tdel {α : Type} (t : Tab α) (k : Nat) (p : Nat × α → Bool) (h : ∀ v, p (k, v) = false) :
    (tdel t k).any p = t.any p := by
  induction t with
  | nil => rfl
  | cons e r ih =>
    obtain ⟨a, w⟩ := e
    by_cases ha : a = k
    · subst ha; simp [tdel, ih, h]
    · simp [tdel, ha, ih]

theorem any_tset {α : Type} (t : Tab α) (k : Nat) (v : α) (p : Nat × α → Bool) (h : ∀ v, p (k, v) = false) :
    (tset t k v).any p = t.any p := by
  induction t with
  | nil => simp [tset, h]
  | cons e r ih =>
    obtain ⟨a, w⟩ := e
    by_cases ha : a = k
    · subst ha; simp [tset, h]
    · by_cases hk : k < a
      · simp [tset, ha, hk, h]
      · simp [tset, ha, hk, ih]

/-- A write to a register outside an array leaves a summary over the array alone. -/
theorem State.anyReg_wr_ne (s : State) {q r : RegD} {i j : Nat} (w : Word) (p : Word → Bool)
    (h : (regIdx q (regAddr r i j)).isSome = false) : (s.wr r w i j).anyReg q p = s.anyReg q p := by
  simp only [State.anyReg, State.wr, tput]
  split
  · exact any_tdel _ _ _ (fun v => by simp [h])
  · exact any_tset _ _ _ _ (fun v => by simp [h])

theorem State.anyReg_put_ne (s : State) {q : RegD} {f : Fld} {i j : Nat} (v : Nat) (p : Word → Bool)
    (h : (regIdx q (regAddr f.reg i j)).isSome = false) : (s.put f v i j).anyReg q p = s.anyReg q p :=
  State.anyReg_wr_ne s _ p h

theorem State.anyReg_raise_ne (s : State) {q : RegD} {f : Fld} {i j : Nat} (p : Word → Bool)
    (h : (regIdx q (regAddr f.reg i j)).isSome = false) : (s.raise f i j).anyReg q p = s.anyReg q p :=
  State.anyReg_wr_ne s _ p h

theorem State.anyReg_congr {s t : State} (h : t.regs = s.regs) (q : RegD) (p : Word → Bool) :
    t.anyReg q p = s.anyReg q p := by
  simp [State.anyReg, h]

/-- Messages leave a summary over an array without `KV_EVT_ARM` alone. -/
theorem State.anyReg_srcMessages (l : List Nat) (s : State) (q : RegD) (p : Word → Bool)
    (h : (regIdx q (regAddr R.KV_EVT_ARM 0 0)).isSome = false) :
    (l.foldl State.srcMessage s).anyReg q p = s.anyReg q p := by
  induction l generalizing s with
  | nil => rfl
  | cons n l ih =>
    rw [List.foldl_cons, ih]
    have e : ∀ t : State, ∀ v, (t.msiSend v).anyReg q p = t.anyReg q p := by
      intro t v
      unfold State.msiSend
      split <;> rfl
    rw [State.srcMessage, e]
    exact State.anyReg_put_ne s _ p h

theorem State.anyReg_signal (s : State) (q : RegD) (p : Word → Bool)
    (h : (regIdx q (regAddr R.KV_EVT_ARM 0 0)).isSome = false) : s.signal.anyReg q p = s.anyReg q p := by
  unfold State.signal
  split
  · exact State.anyReg_srcMessages _ _ _ _ h
  · dsimp only
    split <;> rfl

end Sys2Proof.Machine
end

