-- ==== Sys2Proof/Laws/Frame.lean ====
section
/-! SUPPORT. Laws of frames: what a write of a register and what `settle` leave of the register file, by address, and how an
answer is shown. -/

namespace Sys2Proof.Machine

/-! ### Registers by address -/

/-- A state keeps its own registers. -/
theorem regsBut_refl (l) (s : State) : RegsBut l s s := fun _ _ _ _ _ => rfl

/-- Frames over one list of addresses compose. -/
theorem regsBut_trans {l s t u} (h : RegsBut l s t) (h' : RegsBut l t u) : RegsBut l s u :=
  fun a h1 h2 h3 h4 => (h' a h1 h2 h3 h4).trans (h a h1 h2 h3 h4)

/-- A write in the canonical form leaves every other key alone. -/
theorem tget?_tput_ne {α} [DecidableEq α] (t : Tab α) {k j} (v d : α) (h : j ≠ k) :
    tget? (tput t k v d) j = tget? t j := by
  unfold tput; split
  · exact tget?_tdel_ne t h
  · exact tget?_tset_ne t v h

/-- A write of a register, or of a field, leaves every other address of the register file alone. -/
theorem wr_tget (s : State) (r w i j) {a} (h : a ≠ regAddr r i j) : tget? (s.wr r w i j).regs a = tget? s.regs a :=
  tget?_tput_ne _ _ _ h

theorem put_tget (s : State) (f v i j) {a} (h : a ≠ regAddr f.reg i j) :
    tget? (s.put f v i j).regs a = tget? s.regs a := tget?_tput_ne _ _ _ h

theorem raise_tget (s : State) (f i j) {a} (h : a ≠ regAddr f.reg i j) :
    tget? (s.raise f i j).regs a = tget? s.regs a := tget?_tput_ne _ _ _ h

/-- Messages of sources touch `KV_EVT_ARM` alone. -/
theorem srcMsgs_tget (l : List Nat) (s : State) {a} (h : a ≠ regAddr R.KV_EVT_ARM 0 0) :
    tget? (l.foldl State.srcMessage s).regs a = tget? s.regs a := by
  induction l generalizing s with
  | nil => rfl
  | cons n l ih =>
    rw [List.foldl_cons, ih]
    have : (s.srcMessage n).regs = (s.put F.KV_EVT_ARM_arm (setBits (s.get F.KV_EVT_ARM_arm) n 1 0)).regs := by
      unfold State.srcMessage State.msiSend; split <;> rfl
    rw [this, put_tget _ _ _ _ _ h]

/-- What follows every command touches `KV_MODE`, `KV_EVT` and `KV_EVT_ARM` alone. -/
theorem settle_tget (s : State) {a} (h0 : a ≠ regAddr R.KV_MODE 0 0) (h1 : a ≠ regAddr R.KV_EVT 0 0)
    (h2 : a ≠ regAddr R.KV_EVT_ARM 0 0) :
    tget? s.settle.regs a = tget? s.regs a := by
  have hm : ∀ (t : State) m, tget? (t.enterMode m).regs a = tget? t.regs a := by
    intro t m
    rw [State.enterMode_eq]
    have e : tget? (t.modeRegs t.mode m).regs a = tget? t.regs a := by
      unfold State.modeRegs State.addWrap
      rw [raise_tget _ _ _ _ h1, put_tget _ _ _ _ _ h0, put_tget _ _ _ _ _ h0, put_tget _ _ _ _ _ h0]
    exact State.ite_ind (P := fun u => tget? u.regs a = tget? t.regs a) (fun _ => rfl)
      (fun _ => State.ite_ind (P := fun u => tget? u.regs a = tget? t.regs a) (fun _ => e) (fun _ => e))
  have hl : tget? s.level.regs a = tget? s.regs a := by
    unfold State.level
    dsimp only
    have e : tget? (if s.get F.KV_MODE_degraded = b2n s.degradedNow then s
      else (s.put F.KV_MODE_degraded (b2n s.degradedNow)).raise F.KV_EVT_degraded_change).regs a = tget? s.regs a := by
      split
      · rfl
      · rw [raise_tget _ _ _ _ h1, put_tget _ _ _ _ _ h0]
    split
    · rw [hm, e]
    · split
      · rw [hm, e]
      · exact e
  rw [State.settle, ← hl]
  unfold State.signal
  split
  · exact srcMsgs_tget _ _ h2
  · dsimp only; split <;> rfl

/-- `settle` is in every frame, and changes what `settled` names alone. -/
theorem regsBut_settle (l) (s : State) : RegsBut l s s.settle := fun _ _ h0 h1 h2 => settle_tget s h0 h1 h2

theorem settled_settle (s : State) : s.settle = s.settled s.settle := by
  obtain ⟨a, b, c, d, e, h⟩ := State.settle_keeps s
  rw [h]; rfl

theorem regsBut_settle_of {l} {s t : State} (h : RegsBut l s t) : RegsBut l s t.settle :=
  regsBut_trans h (regsBut_settle l t)

/-- A write at a listed address stays in the frame. -/
theorem regsBut_put {l} {s t : State} {f v i j} (h : RegsBut l s t) (hm : regAddr f.reg i j ∈ l) :
    RegsBut l s (t.put f v i j) :=
  fun a h1 h2 h3 h4 => (put_tget t f v i j (fun e => h1 (by rw [e]; exact hm))).trans (h a h1 h2 h3 h4)

theorem regsBut_raise {l} {s t : State} {f i j} (h : RegsBut l s t) (hm : regAddr f.reg i j ∈ l) :
    RegsBut l s (t.raise f i j) :=
  regsBut_put h hm

/-! ### Answers -/

/-- A command whose condition holds answers its effect, settled. -/
theorem answers_okIf {c : Instr} {s t : State} {b : Bool} {P : State → Prop} (he : exec c s = okIf b s t)
    (hb : b = true) (h : P t.settle) : Answers c s P :=
  ⟨_, he.trans (okIf_of hb s t), h⟩

/-- A command without a condition answers its effect, settled. -/
theorem answers_ok {c : Instr} {s t : State} {P : State → Prop} (he : exec c s = ok t) (h : P t.settle) :
    Answers c s P := ⟨_, he, h⟩

end Sys2Proof.Machine
end

