-- ==== Sys2Proof/Laws/Memory.lean ====
section
/-! SUPPORT. Laws of the retained SRAM (its canonical form, reads after writes), and of the shared operations: what each
of them can touch. -/

namespace Sys2Proof.Machine

/-! ### Bytes of the retained SRAM -/

/-- Eight bytes written one after the other. -/
def sramBytes (off : Nat) (w : Word) (l : List Nat) (m : List Host.Cell) : List Host.Cell :=
  l.foldl (fun (m : List Host.Cell) i => tput m (off + i) (BitVec.ofNat 8 (w.toNat / 2 ^ (8 * i))) 0) m

theorem State.sramPut_sram (s : State) (off : Nat) (w : Word) :
    (s.sramPut off w).sram = sramBytes off w (List.range 8) s.sram := rfl

/-- Writing bytes keeps the canonical form. -/
theorem sramBytes_wf (off : Nat) (w : Word) (l : List Nat) (m : List Host.Cell) (h : Memory.wf m = true) :
    Memory.wf (sramBytes off w l m) = true := by
  induction l generalizing m with
  | nil => exact h
  | cons i l ih =>
    refine ih _ ?_
    simp only [Memory.wf, Bool.and_eq_true, List.all_eq_true, decide_eq_true_eq] at h ⊢
    exact tput_canonical _ _ _ h.1 h.2

/-- A word written keeps the canonical form: the one operation of the memory that a command has. -/
theorem State.sramPut_wf (s : State) (off : Nat) (w : Word) (h : Memory.wf s.sram = true) :
    Memory.wf (s.sramPut off w).sram = true := sramBytes_wf _ _ _ _ h

/-- A byte outside those written stays. -/
theorem sramBytes_ne (off : Nat) (w : Word) (l : List Nat) (m : List Host.Cell) {a : Nat}
    (h : ∀ i ∈ l, a ≠ off + i) : tget (sramBytes off w l m) a 0 = tget m a 0 := by
  induction l generalizing m with
  | nil => rfl
  | cons i l ih =>
    refine (ih _ (fun k hk => h k (List.mem_cons_of_mem _ hk))).trans ?_
    exact tget_tput_ne _ _ _ _ (h i List.mem_cons_self)

theorem State.sramPut_ne (s : State) (off : Nat) (w : Word) {a : Nat} (h : a < off ∨ off + 8 ≤ a) :
    tget (s.sramPut off w).sram a 0 = tget s.sram a 0 :=
  sramBytes_ne _ _ _ _ (fun i hi => by have := List.mem_range.1 hi; omega)

/-- A byte written reads back. -/
theorem sramBytes_self (off : Nat) (w : Word) (l : List Nat) (m : List Host.Cell) (hn : l.Nodup) {i : Nat}
    (hi : i ∈ l) : tget (sramBytes off w l m) (off + i) 0 = BitVec.ofNat 8 (w.toNat / 2 ^ (8 * i)) := by
  induction l generalizing m with
  | nil => cases hi
  | cons k l ih =>
    rw [List.nodup_cons] at hn
    rcases List.mem_cons.1 hi with rfl | hi
    · refine (sramBytes_ne off w l _ (a := off + i) (fun j hj e => ?_)).trans (tget_tput_self _ _ _ _)
      have : i = j := by omega
      exact hn.1 (this ▸ hj)
    · exact ih _ hn.2 hi

theorem State.sramPut_byte (s : State) (off : Nat) (w : Word) {i : Nat} (hi : i < 8) :
    tget (s.sramPut off w).sram (off + i) 0 = BitVec.ofNat 8 (w.toNat / 2 ^ (8 * i)) :=
  sramBytes_self _ _ _ _ List.nodup_range (List.mem_range.2 hi)

/-- The low bytes of a number spell it, as far as they go. -/
theorem sum_bytes (n k : Nat) :
    ((List.range k).map (fun i => n / 2 ^ (8 * i) % 256 * 2 ^ (8 * i))).sum = n % 2 ^ (8 * k) := by
  induction k with
  | zero => simp [Nat.mod_one]
  | succ k ih =>
    have e : 2 ^ (8 * (k + 1)) = 2 ^ (8 * k) * 256 := by rw [Nat.mul_succ, pow_add]; rfl
    rw [List.range_succ, List.map_append, List.sum_append, ih, e, Nat.mod_mul]
    simp [Nat.mul_comm]

/-- A word read after it was written. -/
theorem State.sramGet_sramPut (s : State) (off : Nat) (w : Word) : (s.sramPut off w).sramGet off = w := by
  have h : ((List.range 8).map (fun i => (tget (s.sramPut off w).sram (off + i) (0 : Byte)).toNat * 2 ^ (8 * i)))
      = (List.range 8).map (fun i => w.toNat / 2 ^ (8 * i) % 256 * 2 ^ (8 * i)) :=
    List.map_congr_left (fun i hi => by rw [s.sramPut_byte off w (List.mem_range.1 hi), BitVec.toNat_ofNat])
  unfold State.sramGet
  rw [h, sum_bytes, Nat.mod_eq_of_lt w.isLt, BitVec.ofNat_toNat, BitVec.setWidth_eq]

/-- A word apart from the one written reads as before. -/
theorem State.sramGet_sramPut_ne (s : State) {off a : Nat} (w : Word) (h : a + 8 ≤ off ∨ off + 8 ≤ a) :
    (s.sramPut off w).sramGet a = s.sramGet a := by
  unfold State.sramGet
  congr 2
  refine List.map_congr_left (fun i hi => ?_)
  have := List.mem_range.1 hi
  rw [s.sramPut_ne off w (by omega)]

/-- A word written touches nothing else of the state but the list of words that failed their check. -/
theorem State.sramPut_keeps (s : State) (off : Nat) (w : Word) :
    ∃ m b, s.sramPut off w = { s with sram := m, sramBad := b } := ⟨_, _, rfl⟩

/-! ### Shared operations -/

/-- Two writes of fields, one after the other, still touch the register file alone. -/
theorem State.keeps_put {s t : State} (h : ∃ regs, t = { s with regs := regs }) (f : Fld) (v i j : Nat) :
    ∃ regs, t.put f v i j = { s with regs := regs } := by
  obtain ⟨r, rfl⟩ := h
  exact ⟨_, rfl⟩

/-- A unit fault touches `DT_GUAR_EVT` alone (R61 to R64). -/
theorem State.unitFault_keeps (s : State) (kind idx : Nat) (a b : Bool) :
    ∃ regs, s.unitFault kind idx a b = { s with regs := regs } := by
  have h0 : ∃ regs, s = { s with regs := regs } := ⟨s.regs, rfl⟩
  have h1 := State.keeps_put (State.keeps_put (State.keeps_put h0 F.DT_GUAR_EVT_unit_kind kind 0 0)
    F.DT_GUAR_EVT_unit_index idx 0 0) F.DT_GUAR_EVT_unit_faults
    (satAdd (2 ^ 32 - 1) (((s.put F.DT_GUAR_EVT_unit_kind kind).put F.DT_GUAR_EVT_unit_index idx).get
      F.DT_GUAR_EVT_unit_faults) 1) 0 0
  have h2 := State.keeps_put h1 F.DT_GUAR_EVT_double_fault 1 0 0
  cases a <;> cases b
  · exact State.keeps_put h2 F.DT_GUAR_EVT_cover_lost 1 0 0
  · exact h2
  · exact State.keeps_put h1 F.DT_GUAR_EVT_cover_lost 1 0 0
  · exact h1

/-- A vector of PF1 touches what is sent and the pending bits alone (R642 to R644). -/
theorem State.msixEvent_keeps (s : State) (v : Nat) :
    ∃ out pba, s.msixEvent v = { s with out := out, host := { s.host with pba := pba } } := by
  unfold State.msixEvent
  split
  · exact ⟨_, _, rfl⟩
  · split
    · exact ⟨s.out, _, rfl⟩
    · exact ⟨s.out, s.host.pba, rfl⟩

/-- A stop of a queue touches the register file alone (R662). -/
theorem State.qStop_keeps (s : State) (q err idx : Nat) : ∃ regs, s.qStop q err idx = { s with regs := regs } :=
  have h0 : ∃ regs, s = { s with regs := regs } := ⟨s.regs, rfl⟩
  State.ite_ind (P := fun t => ∃ regs, t = { s with regs := regs })
    (fun _ => State.keeps_put (State.keeps_put (State.keeps_put (State.keeps_put h0 _ _ _ _) _ _ _ _) _ _ _ _) _ _ _ _)
    (fun _ => h0)

/-- A journal entry touches the retained SRAM and the journal's head alone (R589, R590). -/
theorem State.journal_keeps (s : State) (type q op status count epoch cidx : Nat) :
    ∃ m b eng, s.journal type q op status count epoch cidx = { s with sram := m, sramBad := b, eng := eng } := by
  unfold State.journal
  split
  · exact ⟨s.sram, s.sramBad, s.eng, rfl⟩
  · exact ⟨_, _, _, rfl⟩

/-- A journal entry keeps the canonical form of the retained SRAM. -/
theorem State.journal_wf (s : State) (type q op status count epoch cidx : Nat) (h : Memory.wf s.sram = true) :
    Memory.wf (s.journal type q op status count epoch cidx).sram = true := by
  unfold State.journal
  split
  · exact h
  · exact State.sramPut_wf _ _ _ (State.sramPut_wf _ _ _ h)

end Sys2Proof.Machine
end

