-- ==== Sys2Proof/Machine/Pins.lean ====
section
/-! DEFINITION. What the pins show (R698, R703, R803, R811): a view of the state, of which no command takes more than
the events on pins that are commands of their own. -/

namespace Sys2Proof.Machine

/-- The groups of pins of R703, one per row of its table. -/
inductive PinGroup where
  | resets
  | straps
  | flash
  | sideband
  | thermtripN
  | alertN
  | gpioAndTimeOut
  | timeIn
  | jtag
  | lineSerdes
  | hostSerdes
  deriving DecidableEq, Repr

/-- What a group shows. -/
inductive PinLevel where
  /-- Undriven, in OFF. -/
  | undriven
  /-- An input, with its pull-up until the configuration sets it where R703 says so. -/
  | input (pullUp : Bool)
  /-- High-impedance with the weak pull-up; the chip selects of a flash port read high. -/
  | highZ
  /-- Open-drain: is it pulled low? -/
  | openDrain (low : Bool)
  /-- The two-wire bus of the sideband, which is served. -/
  | served
  /-- Driven: by the loader, by firmware, or as configured. -/
  | driven
  /-- IEEE 1149.1, which no system reset touches. -/
  | boundaryScan
  /-- Transmitters electrically idle. -/
  | idle
  /-- Transmitters active. -/
  | active
  deriving DecidableEq, Repr

/-- Is `THERMTRIP_N` low: from the trip until the ripcord source releases (R703, R747)? -/
def State.thermtripLow (s : State) : Bool := s.rst.asserted.contains .ripcord || s.rst.serves.contains .ripcord

/-- Has the loaded configuration set the pins: LOAD has ended (R703, R715)? -/
def State.configured (s : State) : Bool := decide (TRAIN ≤ s.mode)

/-- R703: the state of a group of pins in each mode. -/
def State.pin (s : State) (g : PinGroup) : PinLevel :=
  if s.mode = OFF then .undriven
  else
    match g with
    | .resets => .input true
    | .straps => .input true
    | .flash => if s.mode = HELD then .highZ else .driven
    | .sideband => .served
    | .thermtripN => .openDrain s.thermtripLow
    | .alertN => if s.configured then .openDrain s.alert else .highZ
    | .gpioAndTimeOut => if s.configured then .driven else .highZ
    | .timeIn => .input (!s.configured)
    | .jtag => .boundaryScan
    | .lineSerdes => if s.configured then .active else .idle
    | .hostSerdes => if s.mode = HELD then .idle else .active

/-- The sideband address (R811): 0x4B at the head of a reel, else 0x4C. Until the straps are sampled the live level counts,
which is an input. -/
def State.sidebandAddr (s : State) : Nat := if s.flag F.KV_STRAP_reel_head then 0x4B else 0x4C

/-- Is `PPS_OUT` high: for 100 µs from its edge (R120)? -/
def State.ppsOutHigh (s : State) : Bool := decide (s.up < s.port.ppsHigh)

/-- What a logical port transmits (R96, R134). -/
inductive LineTx where
  /-- Nothing: electrically idle. -/
  | electricalIdle
  /-- Auto-negotiation pages. -/
  | autoneg
  /-- Training frames. -/
  | training
  /-- Idles. -/
  | idles
  /-- Frames, with idles between them. -/
  | frames
  /-- Remote fault. -/
  | remoteFault
  deriving DecidableEq, Repr

/-- R96: what a logical port transmits in each link state; a framed port carries it in its OTUC frames (R164). -/
def State.lineTx (s : State) (l : Nat) : LineTx :=
  if s.present l = false ∨ s.configured = false then .electricalIdle
  else
    match s.link l with
    | 1 => .autoneg
    | 2 => .training
    | 3 => .idles
    | 4 => .frames
    | 5 => if s.flag F.TF_LPORT_STAT_local_fault l then .remoteFault else .idles
    | _ => .electricalIdle

end Sys2Proof.Machine
end

