-- ==== Sys2Proof/Tests/Base.lean ====
section
/-! SUPPORT. Small states that the tests start from. -/

namespace Sys2Proof.Tests

set_option Elab.async false

open Sys2Proof Sys2Proof.Machine

/-- The module in a mode, with no reset episode. -/
def inMode (m : Nat) : State :=
  { State.reset.put F.KV_MODE_mode m with rst := { State.reset.rst with reach := 0, asserted := [] } }

/-- Islands in service. -/
def onIsl (s : State) (l : List Nat) : State := l.foldl (fun t i => t.put F.KV_BLK_STAT_state 0 i) s

/-- Fields of first instances set, one after the other. -/
def sets (s : State) (l : List (Fld × Nat)) : State := l.foldl (fun t e => t.put e.1 e.2) s

/-- Fields of numbered instances set. -/
def setsAt (s : State) (l : List (Fld × Nat × Nat)) : State := l.foldl (fun t e => t.put e.1 e.2.1 e.2.2) s

/-- An episode of reset with its reach, its sources and the next step of the exit sequence. -/
def inEp (s : State) (reach : Nat) (src : List RSrc) (exit : Option Nat) : State :=
  { s with rst := { s.rst with reach := reach, asserted := src, exit := exit } }

/-- Bus mastering on for both functions, with the link up. -/
def busMaster (s : State) : State :=
  ((s.setCfgBits 0 0x04 1 2 3).setCfgBits 1 0x04 1 2 3).put F.TF_HOST_STAT_link_up 1

/-- The image of a small header: every section once, in order. -/
def header (generation : Nat) : ImgHdr :=
  ⟨true, 0x9420, 0x10, 0x100000, 7, 0, generation, Config.minSecurity, 0, 60, 0,
    [(1, 0x40000, 4096), (2, 0x41000, 4096), (3, 0x42000, 4096), (4, 0x43000, 4096), (5, 0x44000, 4096),
      (6, 0x45000, 4096), (7, 0x46000, 4096)], true, false, true⟩

/-- Contents that pass every check. -/
def content : ImgContent :=
  ⟨true, true, true, 0, 3, none, [], 0, 0, 0, 0, 0, [64, 64, 64, 64], [[], [], [], [], [], []], List.replicate 120 [], [], []⟩

/-- The image of both. -/
def image : Image := ⟨header 9, content⟩

/-- The bodies' check passes, for the header of RUN as well. -/
theorem body_passes : bodyCheck (header 9) content = 0 ∧ bodyCheck { header 9 with bodyCrc := crc32 [] } content = 0 := by
  constructor <;> decide +kernel

/-- The image passes, whatever the least security version is. -/
theorem image_passes : imageCheck allTypes false (some image) = 0 := by
  have h : imageCheck allTypes false (some image) =
      if Config.minSecurity < Config.minSecurity then 5 else bodyCheck (header 9) content := rfl
  rw [h, if_neg (Nat.lt_irrefl _), body_passes.1]

/-- A controller ACTIVE and the other absent. -/
def withMc (s : State) : State :=
  setsAt (sets s [(F.KV_MC_STAT_role0, 0), (F.KV_MC_STAT_role1, 3)]) [(F.KV_BLK_STAT_state, 0, 28)]

/-- In LOAD with flash A first, bank A COMMITTED. -/
def loading : State :=
  { sets (inMode LOAD) [(F.KV_STRAP_boot_src, 3)] with
    boot := { State.reset.boot with bankA := ⟨0x1F, some image⟩ } }

/-- A transfer in a step, with its header. -/
def xfer (step : XferStep) : State :=
  { sets (inMode RUN) [(F.KV_FW_XFER_xfer_id, 0x1234)] with
    fw := { State.reset.fw with
      linkUp := true, step := step, hdr := some { header 9 with bodyCrc := crc32 [] }, nextSeq := 1, erased := true } }

/-- In RUN with a STAGED image in bank B. -/
def staged : State := { inMode RUN with boot := { State.reset.boot with bankB := ⟨0x7F, some image⟩ } }

/-- The image in the inactive bank is the one staged. -/
theorem staged_image : (staged.bank staged.inactiveBank).image = some image := rfl

/-- A crossing from island 1 to island 2 in a state. -/
def crossing (data : Bool) (c : Crossing) : State := (onIsl (inMode RUN) [1, 2]).setXing (xingNo data 1 2) c

/-- A received frame. -/
def rxf (l seq : Nat) (bytes : List Byte) : RxFrame := ⟨l, seq, 0, bytes, false⟩

/-- The table engine may fetch from command queue 3: a controller is ACTIVE, and the host has posted 100 words. -/
def engineReady : State :=
  setsAt (busMaster (withMc (onIsl (inMode RUN) [25]))) [(F.TF_QCTX_CFG_enable, 1, 131), (F.TF_QCTX_STAT_host_idx, 100, 131)]

/-- A command of that queue. -/
def cmd (ws : List Word) : TCmd := ⟨3, 7, false, ws⟩

/-- The engine with an open batch of the queue. -/
def batchOpen : State := { engineReady with eng := { eng0 with batchQ := some 3, owed := [(3, 1, none)] } }

/-- What an option holds has a property. -/
theorem all_some {α : Type} {P : α → Prop} [DecidablePred P] {o : Option α}
    (h : o.all (fun x => decide (P x)) = true) : ∀ x, o = some x → P x := by
  rintro x rfl
  simpa using h

/-- Tables with FWD entries 5 and 8, a quarantined one 6, RW entry 7, an ECMP group 3 and a LAG group 4, a tree, a rule
of it, port 0 enabled, and two lists. -/
def tables : View :=
  { view0 with
    nh := [(5, ⟨4, 0, false⟩), (6, ⟨4, 0, true⟩), (7, ⟨5, 1500, false⟩), (8, ⟨4, 0, false⟩)]
    groups := [(3, gSet false false 5 [⟨5, 1, true⟩]), (4, gSet true false 5 [⟨2, 1, true⟩, ⟨3, 1, true⟩])]
    trees := [(1, ⟨false, 7, false, 0⟩)]
    rules := [(9, ⟨1, 2, [], 0, 4⟩)]
    nodes := [(0, (0x200000400000000, 0, 0))]
    mcLists := [(2, [1, 2])]
    egHdrs := [(3, (0x400000007, 0))] }

/-- The engine ready, with those tables in every view. -/
def tabled : State := { engineReady with act := tables, engV := tables, inact := tables }

/-- The same with the tables changed. -/
def tabledBy (f : View → View) : State := { engineReady with act := f tables, engV := f tables, inact := f tables }

end Sys2Proof.Tests
end

