-- ==== Sys2Proof/Tests/Slice0.lean ====
section
/-! SUPPORT. The smoke test of the well-formedness checks, each with an ill-formed term that it refuses, and small tests of
the step, the queue, the pins and the decoder. -/

namespace Sys2Proof.Tests

set_option Elab.async false

open Sys2Proof Sys2Proof.Machine

/-! ### Ill-formed commands, one for each bound -/

def c0 : TCmd := ⟨31, 2 ^ 32 - 1, true, []⟩
def badQ : TCmd := ⟨32, 0, false, []⟩
def badTag : TCmd := ⟨0, 2 ^ 32, false, []⟩
def badWords : TCmd := ⟨0, 0, false, List.replicate 1024 0⟩

theorem test_wf_refuses_1 :
    [Instr.registerWrite 3 0 ⟨[], []⟩,
    Instr.resetSourceRelease ⟨.sysrstPin, 32⟩,
    Instr.exitSequenceStep (2 ^ 34) 0,
    Instr.exitSequenceStep 0 (2 ^ 34),
    Instr.islandLockTimeout 68,
    Instr.loadImageDone 4,
    Instr.hostloadGo (2 ^ 32) none,
    Instr.fwConfirm 3,
    Instr.fwSendGo (2 ^ 32) image [],
    Instr.chainHdr 65536 false (header 0),
    Instr.chainData 65536 0 false [],
    Instr.chainEnd 65536 0 false 0 0 content,
    Instr.chainEnd 0 0 false 0 (2 ^ 32) content,
    Instr.chainAbort 65536 0,
    Instr.chainAbort 0 256,
    Instr.chainStatus 65536 0 false 0 0].all (fun c => !Instr.wf c) = true := by
  decide +kernel

theorem test_wf_refuses_2 :
    [Instr.chainStatus 0 256 false 0 0,
    Instr.chainStatus 0 0 false 256 0,
    Instr.chainStatus 0 0 false 0 (2 ^ 32),
    Instr.chainCredit 256,
    Instr.chainCoreReset 256 0,
    Instr.chainCoreReset 0 (2 ^ 32),
    Instr.chainSysReset 256 0,
    Instr.chainSysReset 0 (2 ^ 32),
    Instr.chainActivate 256 0,
    Instr.chainActivate 0 (2 ^ 32),
    Instr.chainLinkUp 256,
    Instr.idlLaneFault 2 0 0,
    Instr.idlLaneFault 0 36 0,
    Instr.idlLaneFault 0 0 18,
    Instr.idlLinkRetry 2 0,
    Instr.idlLinkRetry 0 36].all (fun c => !Instr.wf c) = true := by
  decide +kernel

theorem test_wf_refuses_3 :
    [Instr.frameReceive 256 [] false false 0 0,
    Instr.pauseFrameRx 256 false 0 [],
    Instr.pauseFrameRx 0 false 256 [],
    Instr.pauseTimerExpiry 256 0,
    Instr.pauseTimerExpiry 0 8,
    Instr.pfcTxRequest 256 0 false,
    Instr.pfcTxRequest 0 8 false,
    Instr.xoffRefresh 256 0,
    Instr.xoffRefresh 0 8,
    Instr.adminUpWrite 256 false [],
    Instr.anResolved 256 0 0,
    Instr.anResolved 0 0 16,
    Instr.anTimeout 256,
    Instr.linkTrainingDone 256 [],
    Instr.trainingTimeout 256 0,
    Instr.trainingTimeout 0 256].all (fun c => !Instr.wf c) = true := by
  decide +kernel

theorem test_wf_refuses_4 :
    [Instr.linkUp 256,
    Instr.waitLockTimeout 256,
    Instr.laneSignalLoss 256 false,
    Instr.linkFault 256 0 [],
    Instr.linkFault 0 4 [],
    Instr.laneSignalRestore 256,
    Instr.faultTimeout 256,
    Instr.signalDegrade 256 0 [],
    Instr.signalDegrade 0 256 [],
    Instr.sdClear 256 0,
    Instr.sdClear 0 256,
    Instr.adaptStep 256 [],
    Instr.adaptLimit 256,
    Instr.lossMeasure 256 0,
    Instr.lossMeasure 0 256,
    Instr.ptpTxtsPop 256].all (fun c => !Instr.wf c) = true := by
  decide +kernel

theorem test_wf_refuses_5 :
    [Instr.instanceLockLoss 256 0,
    Instr.instanceLockLoss 0 16,
    Instr.dlolClear 256,
    Instr.deskewRetry 256 0,
    Instr.fasMatch 256 0 0,
    Instr.fasMatch 0 122368 0,
    Instr.fasMatch 0 0 256,
    Instr.otucFrame 256 ⟨0, [], 0, [], 0, 0, [], 0, false, 0, 0⟩,
    Instr.defectFilterExpiry ⟨256, false⟩,
    Instr.ingressProcess 32 false none none,
    Instr.progressUnit 32 false,
    Instr.parseState badQ,
    Instr.parseState badTag,
    Instr.parseTrans badQ,
    Instr.keyTemplate badQ,
    Instr.hashProfWrite 16 0].all (fun c => !Instr.wf c) = true := by
  decide +kernel

theorem test_wf_refuses_6 :
    [Instr.groupSet badQ,
    Instr.groupDelete badQ,
    Instr.groupMember badQ,
    Instr.lagMemberRewrite 256,
    Instr.routeAdd badQ,
    Instr.routeAdd badWords,
    Instr.routeDelete badQ,
    Instr.vrfSet badQ,
    Instr.nhSet badQ,
    Instr.nhDelete badQ,
    Instr.nhQuarantineExpiry (2 ^ 22),
    Instr.emAdd badQ,
    Instr.emDelete badQ,
    Instr.emFlush badQ,
    Instr.emRead badQ,
    Instr.tableScrub 1024 none].all (fun c => !Instr.wf c) = true := by
  decide +kernel

theorem test_wf_refuses_7 :
    [Instr.classTreeSet badQ,
    Instr.classTreeDelete badQ,
    Instr.classRuleAdd badQ,
    Instr.classRuleDelete badQ,
    Instr.classRuleRead badQ,
    Instr.classTreeRebuild badQ,
    Instr.assocAdd badQ,
    Instr.assocSet badQ,
    Instr.assocDelete badQ,
    Instr.assocRead badQ,
    Instr.assocShiftStep 64,
    Instr.assocEntryRewrite 524288,
    Instr.idlUnitReceive 32 0 0,
    Instr.idlUnitReceive 0 (2 ^ 256) 0,
    Instr.pipeStall 32 false,
    Instr.idlCreditReturn 32 false].all (fun c => !Instr.wf c) = true := by
  decide +kernel

theorem test_wf_refuses_8 :
    [Instr.tailRowWrite (2 ^ 19),
    Instr.tailRowTimeout (2 ^ 19),
    Instr.tailReadback (2 ^ 19),
    Instr.holdExpiry 256 0,
    Instr.holdExpiry 0 256,
    Instr.ctHoldoffExpiry 256 0,
    Instr.ctHoldoffExpiry 0 8,
    Instr.schedDecision 32,
    Instr.creditReqReceive 256 0,
    Instr.creditGrantIssue 256 0,
    Instr.creditGrantIssue 0 8,
    Instr.creditGrantReceive 256 0,
    Instr.nodeSet badQ,
    Instr.nodeRead badQ,
    Instr.eqMapSet badQ,
    Instr.policerSet badQ].all (fun c => !Instr.wf c) = true := by
  decide +kernel

theorem test_wf_refuses_9 :
    [Instr.policerRead badQ,
    Instr.defSubWrite 256 0,
    Instr.fabLaneSignalDetect 320,
    Instr.fabLaneTrained 320,
    Instr.fabLaneTrainTimeout 320,
    Instr.fabLaneTrialPass 320,
    Instr.fabLaneFail 320 false,
    Instr.linkFrameReceive 320 0 0 .cell none false,
    Instr.linkFrameReceive 0 4096 0 .cell none false,
    Instr.linkFrameReceive 0 0 4096 .cell none false,
    Instr.linkIdleFrame 320,
    Instr.cellSend 256 0,
    Instr.cellSend 0 9,
    Instr.ackSend 256,
    Instr.ackReceive 256 0,
    Instr.retxTimeout 256 0].all (fun c => !Instr.wf c) = true := by
  decide +kernel

theorem test_wf_refuses_10 :
    [Instr.retxTimeout 0 9,
    Instr.creditCellSend 256 false,
    Instr.heartbeatReceive 8 ⟨0, 0, 0, 0, []⟩,
    Instr.heartbeatTimeout 256 0,
    Instr.heartbeatTimeout 0 8,
    Instr.streamAbandon 256,
    Instr.gapOldTimer 256 0,
    Instr.gapOldTimer 0 9,
    Instr.portStateMessage 256 0,
    Instr.egressProcess 32 false none,
    Instr.txUnitStart 32,
    Instr.frameDelivered 256,
    Instr.portDownAbort 256,
    Instr.runReportFlush 32,
    Instr.mcListSet badQ,
    Instr.mcListDelete badQ].all (fun c => !Instr.wf c) = true := by
  decide +kernel

theorem test_wf_refuses_11 :
    [Instr.egListSet badQ,
    Instr.egListDelete badQ,
    Instr.encapAddrSet badQ,
    Instr.memTransactionComplete 120 ⟨1, 0⟩ false [] false,
    Instr.memTransactionComplete 0 ⟨1, 2 ^ 31⟩ false [] false,
    Instr.channelTrainDone 120 false 0 [],
    Instr.driftTrack 120 [],
    Instr.retrainDone 120 [],
    Instr.retrainTimeout 120,
    Instr.catchupDone 120,
    Instr.channelFail 120 0,
    Instr.channelFail 0 2,
    Instr.memScrub 120 0 [] false false 0,
    Instr.memScrub 0 (2 ^ 31) [] false false 0,
    Instr.memScrub 0 0 [] false false 101,
    Instr.memRefresh 120].all (fun c => !Instr.wf c) = true := by
  decide +kernel

theorem test_wf_refuses_12 :
    [Instr.mcBeat 2 false false,
    Instr.mcFaultDeclare 2 false,
    Instr.mcTakeoverComplete 2,
    Instr.selftestPassEnd 2 0,
    Instr.selftestPassEnd 0 16,
    Instr.pipeFaultDetect 16 false 0,
    Instr.pipeFaultDetect 0 false 5,
    Instr.sparePowerDone 16 false,
    Instr.spareLoadDone 16 false,
    Instr.spareCheckDone 16 false false,
    Instr.spareReleaseDone 16 false,
    Instr.doorbellWrite 168 0,
    Instr.commit badQ,
    Instr.batchAbort badQ,
    Instr.mboxUnknownOp 256,
    Instr.configWrite 2 0 0 0].all (fun c => !Instr.wf c) = true := by
  decide +kernel

theorem test_wf_refuses_13 :
    [Instr.configWrite 0 4096 0 0,
    Instr.memRequestUnsupported 2 false 0,
    Instr.pcieLinkUp 0 7 false,
    Instr.msixVectorUnmask 2048,
    Instr.irqCoalesceTimeout 168,
    Instr.puntDeliver 64 0 0,
    Instr.injectDescriptor 128 0 0 [],
    Instr.queueEnableWrite 168 false,
    Instr.functionFreeze 2 0,
    Instr.functionFreeze 0 32,
    Instr.freezeNow 2,
    Instr.unfreeze 2,
    Instr.unfreezeRelease 2,
    Instr.flr 2,
    Instr.completionTimeout 16384,
    Instr.dmaCompletion 16384 0 false].all (fun c => !Instr.wf c) = true := by
  decide +kernel

theorem test_wf_refuses_14 :
    [Instr.dmaCompletion 0 3 false,
    Instr.lateCompletion 16384,
    Instr.tagHoldExpiry 16384,
    Instr.blockResetReq 68,
    Instr.blockEnableWrite 68 false,
    Instr.blockStopDone 68 0,
    Instr.blockStartDone 68,
    Instr.blockLockTimeout 68,
    Instr.quiesceTimeout 68,
    Instr.xingTimeout false 68 1 0,
    Instr.xingTimeout false 0 68 0,
    Instr.xingTimeout false 0 1 (2 ^ 32),
    Instr.avfsStep 68 0,
    Instr.droopDetect 68,
    Instr.avsComplete 32 0,
    Instr.updraftEnter 16 0].all (fun c => !Instr.wf c) = true := by
  decide +kernel

theorem test_wf_refuses_15 :
    [Instr.updraftExit 16,
    Instr.bufferMacroFault 544,
    Instr.fecPcsLock 256,
    Instr.alignmentMarkerLock 256 ⟨0, 0⟩,
    Instr.pauseHoldExpiry 256 0,
    Instr.pauseHoldExpiry 0 8,
    Instr.txHoldTimeout 32,
    Instr.tableUnknownOpcode 0 badQ,
    Instr.tableUnknownOpcode 256 c0,
    Instr.xingAcknowledge false 68 1 ⟨0, false⟩,
    Instr.xingAcknowledge false 0 68 ⟨0, false⟩,
    Instr.xingAcknowledge false 0 1 ⟨2 ^ 32, false⟩,
    Instr.xingResync false 68 1 0,
    Instr.xingResync false 0 68 0,
    Instr.xingResync false 0 1 (2 ^ 32),
    Instr.registerWrite 0 0x100FFFFFF ⟨[0, 0], []⟩].all (fun c => !Instr.wf c) = true := by
  decide +kernel

theorem test_wf_refuses_16 :
    [Instr.chainData 0 0 false (List.replicate 4097 0),
    Instr.pauseFrameRx 0 false 0 (List.replicate 9 0),
    Instr.bankLoadWindow ⟨List.replicate 1025 ⟨0, []⟩, 0, 0⟩,
    Instr.configWrite 0 2 0 0,
    Instr.injectDescriptor 63 0 0 [],
    Instr.xingTimeout false 5 5 0,
    Instr.xingAcknowledge false 5 5 ⟨0, false⟩,
    Instr.xingResync false 5 5 0,
    Instr.pcieLinkUp 3 1 false,
    Instr.pcieLinkUp 1 0 false,
    Instr.pcieLinkUp 1 7 false,
    Instr.sensorRead [0] [],
    Instr.todMessageRx [0, 0, 0] [] [0],
    Instr.alignmentMarkerLock 0 ⟨65536, 0⟩,
    Instr.memTransactionComplete 0 ⟨0, 0⟩ false [] false,
    Instr.memTransactionComplete 0 ⟨6, 0⟩ false [] false].all (fun c => !Instr.wf c) = true := by
  decide +kernel

theorem test_wf_refuses_17 :
    [Instr.bankLoadWindow ⟨[⟨256, []⟩], 0, 0⟩].all (fun c => !Instr.wf c) = true := by
  decide +kernel

/-- And each bound admits the value below it. -/
theorem test_wf_admits :
    [Instr.registerWrite 2 0x100FFFFFF ⟨[0], []⟩, .islandLockTimeout 67, .frameReceive 255 [] true false 0 0, .laneSignalLoss 255 true,
      .parseState c0, .fabLaneTrained 319, .memRefresh 119, .doorbellWrite 167 0, .configWrite 1 4092 0 0,
      .pcieLinkUp 8 6 true, .bufferMacroFault 543, .cellSend 255 8, .tableUnknownOpcode 255 c0].all Instr.wf = true := by
  decide +kernel

/-! ### The step, the queue and the decoder -/

/-- Queued commands run first in, first out: of the two requests, the first step takes the first. -/
theorem test_step_takes_the_front :
    step { inMode RUN with pending := [.timeStep, .ppsOut] } = exec .timeStep { inMode RUN with pending := [.ppsOut] } := rfl

/-- With an empty queue one nanosecond passes. -/
theorem test_empty_queue_ticks : step (inMode RUN) = ok (inMode RUN).tick := rfl

/-- No row of the table has bits, so no word spells a command. -/
theorem test_no_word : decodeTableWord 64 5 = none ∧ State.reset.withFetchWord 64 5 = State.reset := ⟨rfl, rfl⟩

/-- A step answers a next state: the premise of the statements about every step. -/
theorem witness_every_step : ∃ s t : State, s.pending ≠ [] ∧ step s = .next t :=
  ⟨{ inMode RUN with pending := [.timeStep] }, _, by decide, rfl⟩

/-- Such a step with MSI disabled, and one with MSI enabled. -/
theorem witness_intaLevel : ∃ s t : State, step s = .next t ∧ t.msiOn = false :=
  ⟨{ inMode LOAD with pending := [.ppsOut] }, _, rfl, by decide +kernel⟩
theorem witness_signalled : ∃ s t : State, step s = .next t ∧ t.msiOn = true :=
  ⟨{ (inMode LOAD).setCfgBits 0 0x50 16 1 1 with pending := [.ppsOut] }, _, rfl, by decide +kernel⟩

/-! ### The pins (R703) -/

theorem test_pins_in_off : (inMode OFF).pin .sideband = .undriven := by decide
theorem test_flash_chip_selects_high_in_held : (inMode HELD).pin .flash = .highZ ∧ (inMode LOAD).pin .flash = .driven := by decide

end Sys2Proof.Tests
end

