-- ==== Sys2Proof/Tests/Witness1.lean ====
section
/-! SUPPORT. Witnesses: for each clause of a statement that has hypotheses, a state and operands that meet them all. -/

namespace Sys2Proof.Tests

set_option Elab.async false

open Sys2Proof Sys2Proof.Machine

/-- A step answers a next state: the premise of the three invariants of every step. -/
theorem witness_ModeAndDegradedBitFollowTheUnits : ∃ s t : State, s.pending ≠ [] ∧ step s = .next t :=
  ⟨{ inMode RUN with pending := [.wdogPet] }, _, by decide, rfl⟩

theorem witness_IntaFollowsThePendingSources : ∃ s t : State, s.msiOn = false ∧ step s = .next t :=
  ⟨inMode RUN, _, by decide, rfl⟩

theorem witness_NoArmedSourceStaysPendingWithMsi : ∃ s t : State, s.msiOn = true ∧ step s = .next t :=
  ⟨(inMode RUN).setCfgBits 0 0x50 16 1 1, _, by decide, rfl⟩

theorem witness_AnEmptyQueueLetsOneNanosecondPass_0 :
    ∃ (s : State),
      s.pending = [] :=
  ⟨inMode RUN, by decide⟩

theorem witness_AnEmptyQueueLetsOneNanosecondPass_0b :
    ∃ (s : State),
      s.pending = [] ∧ (inMode OFF).mode = OFF :=
  ⟨inMode OFF, by decide⟩

theorem witness_AnEmptyQueueLetsOneNanosecondPass_0c :
    ∃ (s : State),
      s.pending = [] ∧ (s.mode ≠ OFF ∧ s.timeRuns = true ∧ s.get F.TF_TIME_ADJ_freq_adj = 0) :=
  ⟨sets (inMode RUN) [(F.TF_TIME_ADJ_freq_adj, 0)], by decide⟩

theorem witness_ResetSourcesAssert_0 :
    ∃ (s : State),
      s.mode ≠ OFF :=
  ⟨inMode RUN, by decide⟩

theorem witness_ResetSourcesAssert_0b :
    ∃ (s : State),
      s.mode ≠ OFF :=
  ⟨inEp (inMode HELD) 2 [.swSys] none, by decide⟩

theorem witness_ResetSourcesAssert_1 :
    ∃ (s : State),
      s.mode ≠ OFF :=
  ⟨inMode RUN, by decide⟩

theorem witness_ResetSourcesAssert_2 :
    ∃ (s : State),
      s.awake = true :=
  ⟨inMode RUN, by decide⟩

theorem witness_ResetSourcesAssert_3 :
    ∃ (s : State),
      s.mode = TRAIN ∧ s.boot.trainAt + 5000000000 ≤ s.up :=
  ⟨{ inMode TRAIN with up := 5000000000 }, by decide⟩

theorem witness_ResetSourcesAssert_4 :
    ∃ (s : State),
      s.flashLoad = true ∧ s.boot.loadAt + 1000000000 ≤ s.up :=
  ⟨sets { inMode LOAD with up := 1000000000 } [(F.KV_STRAP_boot_src, 2)], by decide⟩

theorem witness_ResetSourcesAssert_5 :
    ∃ (s : State),
      s.wdogCounts = true ∧ s.wdogOver = true ∧ s.flag F.KV_WDOG_CTL_wd_reach = true :=
  ⟨sets { withMc (inMode RUN) with up := 5000000000 } [(F.KV_WDOG_CTL_enable, 1), (F.KV_WDOG_CTL_wd_reach, 1)], by decide⟩

theorem witness_ResetSourcesAssert_6 :
    ∃ (s : State),
      s.wdogCounts = true ∧ s.wdogOver = true ∧ s.flag F.KV_WDOG_CTL_wd_reach = false ∧ s.probRuns = false :=
  ⟨sets { withMc (inMode RUN) with up := 5000000000 } [(F.KV_WDOG_CTL_enable, 1)], by decide⟩

theorem witness_ResetSourcesAssert_7 :
    ∃ (p : ProbRec) (s : State),
      s.probRuns = true ∧ s.rec0.prob = some p ∧ p.left = 0 ∧ s.live = true ∧ s.mode ≠ SAFE :=
  ⟨⟨0, 0, 0⟩, { inMode RUN with boot := { State.reset.boot with resume := true }, rec0 := ⟨0, some ⟨0, 0, 0⟩, 0, false⟩ }, by decide⟩

theorem witness_TheDetectorHoldsOffAndHeld_1 :
    ∃ (s : State),
      s.rst.reach < 3 :=
  ⟨inMode RUN, by decide⟩

theorem witness_TheDetectorHoldsOffAndHeld_2 :
    ∃ (s : State),
      s.mode = OFF :=
  ⟨inEp (inMode OFF) 3 [.por] none, by decide⟩

theorem witness_TheExitSequenceFollowsTheLastRelease_0 :
    ∃ (x : RSrc) (s : State),
      s.mode ≠ OFF ∧ x ∈ s.rst.asserted ∧ ((∀ y ∈ s.rst.asserted, y = x)) :=
  ⟨.sysrstPin, inEp (inMode HELD) 2 [.sysrstPin] none, by decide⟩

theorem witness_TheExitSequenceFollowsTheLastRelease_1 :
    ∃ (x : RSrc) (y : RSrc) (s : State),
      s.mode ≠ OFF ∧ x ∈ s.rst.asserted ∧ y ∈ s.rst.asserted ∧ y ≠ x :=
  ⟨.sysrstPin, .por, inEp (inMode HELD) 3 [.sysrstPin, .por] none, by decide⟩

theorem witness_TheExitSequenceFollowsTheLastRelease_2 :
    ∃ (s : State),
      .ripcord ∈ s.rst.asserted :=
  ⟨inEp (inMode HELD) 2 [.ripcord] none, by decide⟩

theorem witness_TheExitSequenceFollowsTheLastRelease_3 :
    ∃ (s : State),
      2 ≤ s.rst.reach ∧ s.rst.exit = some 0 :=
  ⟨inEp (inMode HELD) 2 [] (some 0), by decide⟩

theorem witness_TheExitSequenceFollowsTheLastRelease_3b :
    ∃ (s : State),
      2 ≤ s.rst.reach ∧ s.rst.exit = some 0 ∧ s.rst.incDone = true :=
  ⟨inEp { inMode HELD with rst := { State.reset.rst with incDone := true } } 3 [] (some 0), by decide⟩

theorem witness_TheExitSequenceFollowsTheLastRelease_4 :
    ∃ (s : State),
      2 ≤ s.rst.reach ∧ s.rst.exit = some 1 :=
  ⟨inEp { inMode HELD with sram := [(0x100, 7)] } 3 [] (some 1), by decide⟩

theorem witness_TheExitSequenceFollowsTheLastRelease_5 :
    ∃ (s : State),
      2 ≤ s.rst.reach ∧ s.rst.exit = some 3 :=
  ⟨inEp (inMode HELD) 2 [] (some 3), by decide⟩

theorem witness_TheExitSequenceFollowsTheLastRelease_6 :
    ∃ (k : Nat) (s : State),
      s.rst.reach = 1 ∧ s.rst.exit = some k :=
  ⟨3, inEp (inMode RUN) 1 [] (some 3), by decide⟩

theorem witness_WatchdogAndFailureCountControls_0 :
    ∃ (s : State),
      s.awake = true :=
  ⟨inMode RUN, by decide⟩

theorem witness_WatchdogAndFailureCountControls_1 :
    ∃ (v : Word) (s : State),
      s.awake = true ∧ bitOf v.toNat 2 = true :=
  ⟨0x12340007, inMode RUN, by decide⟩

theorem witness_WatchdogAndFailureCountControls_2 :
    ∃ (s : State),
      s.awake = true :=
  ⟨inMode RUN, by decide⟩

theorem witness_WatchdogAndFailureCountControls_3 :
    ∃ (n : Nat) (s : State),
      n < 68 ∧ s.blk n = 2 ∧ s.flag F.KV_BLK_STAT_clk_lock n = false ∧ s.rst.exitAt + 1000000 ≤ s.up :=
  ⟨67, setsAt { inMode RAISE with up := 1000000 } [(F.KV_BLK_STAT_state, 2, 67)], by decide⟩

end Sys2Proof.Tests
end

