-- ==== Sys2Proof/Tests/Witness2.lean ====
section
/-! SUPPORT. Witnesses: for each clause of a statement that has hypotheses, a state and operands that meet them all. -/

namespace Sys2Proof.Tests

set_option Elab.async false

open Sys2Proof Sys2Proof.Machine

theorem witness_ResumeLeadsToRunDegradedOrProbation_0 :
    ∃ (s : State),
      s.mode = QUIESCED :=
  ⟨inMode QUIESCED, by decide⟩

theorem witness_ResumeLeadsToRunDegradedOrProbation_0b :
    ∃ (s : State),
      s.mode = QUIESCED ∧ s.probRuns = true :=
  ⟨{ inMode QUIESCED with boot := { State.reset.boot with resume := true }, rec0 := ⟨0, some ⟨0, 60, 0⟩, 0, false⟩ }, by decide⟩

theorem witness_ResumeLeadsToRunDegradedOrProbation_0c :
    ∃ (s : State),
      s.mode = QUIESCED :=
  ⟨setsAt (inMode QUIESCED) [(F.TF_SPARE_STAT_in_failed, 1, 15)], by decide⟩

theorem witness_ModeRequestsMoveTheModeOrAreRefused_0 :
    ∃ (s : State),
      s.forwarding = true :=
  ⟨inMode PROBATION, by decide⟩

theorem witness_ModeRequestsMoveTheModeOrAreRefused_0b :
    ∃ (s : State),
      s.forwarding = true :=
  ⟨inMode SAFE, by decide⟩

theorem witness_ModeRequestsMoveTheModeOrAreRefused_1 :
    ∃ (s : State),
      s.mode = DRAIN :=
  ⟨inMode DRAIN, by decide⟩

theorem witness_ModeRequestsMoveTheModeOrAreRefused_2 :
    ∃ (s : State),
      s.mode = QUIESCED :=
  ⟨inMode QUIESCED, by decide⟩

theorem witness_ModeRequestsMoveTheModeOrAreRefused_3 :
    ∃ (s : State),
      s.mode = MAINTENANCE :=
  ⟨inMode MAINTENANCE, by decide⟩

theorem witness_ModeRequestsMoveTheModeOrAreRefused_4 :
    ∃ (c : Instr) (f : Fld) (s : State),
      s.awake = true ∧ s.mode ≠ RUN ∧ s.mode ≠ DEGRADED ∧ (((c = .drainReq ∧ f = F.KV_MODE_REQ_drain_req ∧ s.forwarding = false ∧ s.mode ≠ DRAIN) ∨ (c = .resumeReq ∧ f = F.KV_MODE_REQ_resume_req ∧ s.mode ≠ QUIESCED) ∨ (c = .maintReq ∧ f = F.KV_MODE_REQ_maint_req ∧ s.mode ≠ QUIESCED) ∨ (c = .maintExit ∧ f = F.KV_MODE_REQ_maint_exit ∧ s.mode ≠ MAINTENANCE))) :=
  ⟨.drainReq, F.KV_MODE_REQ_drain_req, inMode LOAD, by decide⟩

theorem witness_ModeRequestsMoveTheModeOrAreRefused_4b :
    ∃ (c : Instr) (f : Fld) (s : State),
      s.awake = true ∧ s.mode ≠ RUN ∧ s.mode ≠ DEGRADED ∧ (((c = .drainReq ∧ f = F.KV_MODE_REQ_drain_req ∧ s.forwarding = false ∧ s.mode ≠ DRAIN) ∨ (c = .resumeReq ∧ f = F.KV_MODE_REQ_resume_req ∧ s.mode ≠ QUIESCED) ∨ (c = .maintReq ∧ f = F.KV_MODE_REQ_maint_req ∧ s.mode ≠ QUIESCED) ∨ (c = .maintExit ∧ f = F.KV_MODE_REQ_maint_exit ∧ s.mode ≠ MAINTENANCE))) :=
  ⟨.resumeReq, F.KV_MODE_REQ_resume_req, inMode DRAIN, by decide⟩

theorem witness_ModeRequestsMoveTheModeOrAreRefused_4c :
    ∃ (c : Instr) (f : Fld) (s : State),
      s.awake = true ∧ s.mode ≠ RUN ∧ s.mode ≠ DEGRADED ∧ (((c = .drainReq ∧ f = F.KV_MODE_REQ_drain_req ∧ s.forwarding = false ∧ s.mode ≠ DRAIN) ∨ (c = .resumeReq ∧ f = F.KV_MODE_REQ_resume_req ∧ s.mode ≠ QUIESCED) ∨ (c = .maintReq ∧ f = F.KV_MODE_REQ_maint_req ∧ s.mode ≠ QUIESCED) ∨ (c = .maintExit ∧ f = F.KV_MODE_REQ_maint_exit ∧ s.mode ≠ MAINTENANCE))) :=
  ⟨.maintReq, F.KV_MODE_REQ_maint_req, inMode SAFE, by decide⟩

theorem witness_ModeRequestsMoveTheModeOrAreRefused_4d :
    ∃ (c : Instr) (f : Fld) (s : State),
      s.awake = true ∧ s.mode ≠ RUN ∧ s.mode ≠ DEGRADED ∧ (((c = .drainReq ∧ f = F.KV_MODE_REQ_drain_req ∧ s.forwarding = false ∧ s.mode ≠ DRAIN) ∨ (c = .resumeReq ∧ f = F.KV_MODE_REQ_resume_req ∧ s.mode ≠ QUIESCED) ∨ (c = .maintReq ∧ f = F.KV_MODE_REQ_maint_req ∧ s.mode ≠ QUIESCED) ∨ (c = .maintExit ∧ f = F.KV_MODE_REQ_maint_exit ∧ s.mode ≠ MAINTENANCE))) :=
  ⟨.maintExit, F.KV_MODE_REQ_maint_exit, inMode QUIESCED, by decide⟩

theorem witness_DrainPhasesEndInQuiescedOrTheReset_0 :
    ∃ (s : State),
      s.mode = DRAIN ∧ s.phaseOver = true ∧ s.get F.DT_DRAIN_STAT_phase < 6 :=
  ⟨sets (inMode DRAIN) [(F.DT_DRAIN_STAT_phase, 2)], by decide⟩

theorem witness_DrainPhasesEndInQuiescedOrTheReset_0b :
    ∃ (s : State),
      s.mode = DRAIN ∧ s.phaseOver = true ∧ s.get F.DT_DRAIN_STAT_phase < 6 :=
  ⟨sets (inMode DRAIN) [(F.DT_DRAIN_STAT_phase, 5)], by decide⟩

theorem witness_DrainPhasesEndInQuiescedOrTheReset_1 :
    ∃ (s : State),
      s.mode = DRAIN ∧ s.phaseOver = true ∧ 6 ≤ s.get F.DT_DRAIN_STAT_phase ∧ s.rst.serves = [] ∧ s.rst.fromSafe = false :=
  ⟨sets (inMode DRAIN) [(F.DT_DRAIN_STAT_phase, 6)], by decide⟩

theorem witness_DrainPhasesEndInQuiescedOrTheReset_2 :
    ∃ (x : RSrc) (s : State),
      s.mode = DRAIN ∧ s.phaseOver = true ∧ 6 ≤ s.get F.DT_DRAIN_STAT_phase ∧ s.rst.serves = [x] :=
  ⟨.swSys, sets { inMode DRAIN with rst := { State.reset.rst with reach := 0, asserted := [], serves := [.swSys] } } [(F.DT_DRAIN_STAT_phase, 6)], by decide⟩

theorem witness_DrainPhasesEndInQuiescedOrTheReset_2b :
    ∃ (x : RSrc) (s : State),
      s.mode = DRAIN ∧ s.phaseOver = true ∧ 6 ≤ s.get F.DT_DRAIN_STAT_phase ∧ s.rst.serves = [x] :=
  ⟨.ripcord, sets { inMode DRAIN with rst := { State.reset.rst with reach := 0, asserted := [], serves := [.ripcord], fromSafe := true } } [(F.DT_DRAIN_STAT_phase, 7)], by decide⟩

theorem witness_DrainPhasesEndInQuiescedOrTheReset_3 :
    ∃ (s : State),
      s.mode = DRAIN ∧ .ripcord ∈ s.rst.serves ∧ s.rst.tripAt + 10000000 ≤ s.up :=
  ⟨{ inMode DRAIN with up := 10000000, rst := { State.reset.rst with reach := 0, asserted := [], serves := [.swSys, .ripcord] } }, by decide⟩

theorem witness_SourcesThatDrainFirstEnterDrain_0 :
    ∃ (s : State),
      s.forwarding = true :=
  ⟨inMode DEGRADED, by decide⟩

theorem witness_SourcesThatDrainFirstEnterDrain_1 :
    ∃ (s : State),
      s.mode = HELD :=
  ⟨inMode HELD, by decide⟩

theorem witness_SourcesThatDrainFirstEnterDrain_2 :
    ∃ (target : Nat) (s : State),
      s.forwarding = true ∧ s.cmdMine target = true :=
  ⟨0xFF, inMode RUN, by decide⟩

theorem witness_SourcesThatDrainFirstEnterDrain_2b :
    ∃ (target : Nat) (s : State),
      s.forwarding = true ∧ s.cmdMine target = true :=
  ⟨0, inMode RUN, by decide⟩

theorem witness_SourcesThatDrainFirstEnterDrain_3 :
    ∃ (s : State),
      s.forwarding = true ∧ s.get F.KV_THERM_STAT_state ≠ 5 :=
  ⟨inMode RUN, by decide⟩

theorem witness_TheLoaderBootsAnImageIntoTrain_0 :
    ∃ (readErr : Nat) (s : State),
      s.flashLoad = true ∧ s.rec0.fails < 3 ∧ s.rec0.prob = none ∧ s.sramBad = [] ∧ s.boot.bankA.state = 0x1F ∧ s.boot.bankB.state ≠ 0x1F ∧ bitOf readErr 0 = false ∧ imageCheck allTypes false s.boot.bankA.image = 0 :=
  ⟨0, loading, ⟨by decide, by decide, by decide, by decide, by decide, by decide, by decide, image_passes⟩⟩

theorem witness_TheLoaderBootsAnImageIntoTrain_1 :
    ∃ (s : State),
      s.flashLoad = true ∧ s.rec0.fails < 3 ∧ s.rec0.prob = none ∧ s.sramBad = [] ∧ s.boot.bankA.state ≠ 0x1F ∧ s.boot.bankB.state ≠ 0x1F :=
  ⟨sets (inMode LOAD) [(F.KV_STRAP_boot_src, 2)], by decide⟩

theorem witness_TheLoaderBootsAnImageIntoTrain_2 :
    ∃ (im : Image) (s : State),
      s.hostLoads = true ∧ s.mayIssue 0 = true ∧ imageCheck allTypes false (some im) = 0 :=
  ⟨image, busMaster (sets (inMode LOAD) [(F.KV_STRAP_boot_src, 0)]), ⟨by decide, by decide, image_passes⟩⟩

theorem witness_TheLoaderBootsAnImageIntoTrain_3 :
    ∃ (s : State),
      s.mode = LOAD ∧ s.boot.loadAt + 900000000 ≤ s.up :=
  ⟨{ inMode LOAD with up := 900000000 }, by decide⟩

theorem witness_BringUpPassesFromTrainToTheModesThatForward_0 :
    ∃ (s : State),
      s.mode = TRAIN :=
  ⟨inMode TRAIN, by decide⟩

theorem witness_BringUpPassesFromTrainToTheModesThatForward_1 :
    ∃ (s : State),
      s.mode = TRAIN ∧ 1 ≤ s.boot.bringup ∧ s.boot.bringup ≤ 72 ∧ s.standalone = false :=
  ⟨{ inMode TRAIN with boot := { State.reset.boot with bringup := 1 } }, by decide⟩

theorem witness_BringUpPassesFromTrainToTheModesThatForward_1b :
    ∃ (s : State),
      s.mode = TRAIN ∧ 1 ≤ s.boot.bringup ∧ s.boot.bringup ≤ 72 ∧ s.standalone = false :=
  ⟨{ inMode TRAIN with boot := { State.reset.boot with bringup := 72 } }, by decide⟩

theorem witness_BringUpPassesFromTrainToTheModesThatForward_2 :
    ∃ (s : State),
      s.mode = RAISE ∧ 100 ≤ s.boot.bringup ∧ s.boot.bringup ≤ 131 :=
  ⟨{ inMode RAISE with boot := { State.reset.boot with bringup := 100 } }, by decide⟩

theorem witness_BringUpPassesFromTrainToTheModesThatForward_2b :
    ∃ (s : State),
      s.mode = RAISE ∧ 100 ≤ s.boot.bringup ∧ s.boot.bringup ≤ 131 :=
  ⟨{ inMode RAISE with boot := { State.reset.boot with bringup := 131 } }, by decide⟩

theorem witness_BringUpPassesFromTrainToTheModesThatForward_3 :
    ∃ (s : State),
      s.mode = RAISE ∧ s.boot.bringup = 132 :=
  ⟨{ inMode RAISE with boot := { State.reset.boot with bringup := 132 } }, by decide⟩

theorem witness_BringUpPassesFromTrainToTheModesThatForward_3b :
    ∃ (s : State),
      s.mode = RAISE ∧ s.boot.bringup = 132 ∧ (s.boot.resume = true ∧ s.rec0.prob.isSome = true) :=
  ⟨{ inMode RAISE with boot := { State.reset.boot with bringup := 132, resume := true }, rec0 := ⟨0, some ⟨0, 60, 0⟩, 0, false⟩ }, by decide⟩

theorem witness_BringUpPassesFromTrainToTheModesThatForward_3c :
    ∃ (s : State),
      s.mode = RAISE ∧ s.boot.bringup = 132 ∧ (s.boot.resume = false ∧ s.flag F.KV_MODE_fallback = true) :=
  ⟨sets { inMode RAISE with boot := { State.reset.boot with bringup := 132 } } [(F.KV_MODE_fallback, 1)], by decide⟩

theorem witness_ATransferIsTakenFrameByFrame_0 :
    ∃ (h : ImgHdr) (s : State),
      s.awake = true ∧ s.fw.linkUp = true ∧ s.chainBusy = false ∧ s.hdrRefusal h = 0 :=
  ⟨header 9, { inMode RUN with fw := { State.reset.fw with linkUp := true } }, ⟨by decide, by decide, by decide, (show (if Config.minSecurity < Config.minSecurity then 4 else 0) = 0 from if_neg (Nat.lt_irrefl _))⟩⟩

theorem witness_ATransferIsTakenFrameByFrame_1 :
    ∃ (h : ImgHdr) (s : State),
      s.awake = true ∧ s.fw.linkUp = true ∧ s.chainBusy = false ∧ s.hdrRefusal h ≠ 0 :=
  ⟨{ header 9 with part := 0 }, { inMode RUN with fw := { State.reset.fw with linkUp := true } }, by decide⟩

theorem witness_ATransferIsTakenFrameByFrame_2 :
    ∃ (s : State),
      s.awake = true ∧ s.fw.linkUp = true ∧ s.chainBusy = true :=
  ⟨xfer .receiving, by decide⟩

theorem witness_ATransferIsTakenFrameByFrame_3 :
    ∃ (xfer : Nat) (s : State),
      s.xferIs xfer = true ∧ s.fw.step = .receiving :=
  ⟨0x1234, xfer .receiving, by decide⟩

theorem witness_ATransferIsTakenFrameByFrame_4 :
    ∃ (xfer : Nat) (h : ImgHdr) (c : ImgContent) (s : State),
      s.xferIs xfer = true ∧ s.fw.step = .receiving ∧ s.fw.hdr = some h ∧ h.bodyCrc = crc32 s.fw.staged ∧ bodyCheck h c = 0 ∧ s.chainBoot = false :=
  ⟨0x1234, { header 9 with bodyCrc := crc32 [] }, content, xfer .receiving, ⟨by decide, by decide, rfl, rfl, body_passes.2, by decide⟩⟩

theorem witness_ATransferIsTakenFrameByFrame_5 :
    ∃ (xfer : Nat) (s : State),
      s.xferIs xfer = true :=
  ⟨0x1234, xfer .programming, by decide⟩

theorem witness_FlashStepsAndTheChainLink_0 :
    ∃ (s : State),
      s.awake = true ∧ s.fw.step = .programming ∧ s.fw.erased = true :=
  ⟨xfer .programming, by decide⟩

theorem witness_FlashStepsAndTheChainLink_1 :
    ∃ (s : State),
      s.awake = true ∧ s.fw.step = .reading ∧ s.fw.erased = true :=
  ⟨xfer .reading, by decide⟩

theorem witness_FlashStepsAndTheChainLink_2 :
    ∃ (s : State),
      s.awake = true ∧ s.flashBusy = true :=
  ⟨xfer .ended, by decide⟩

theorem witness_FlashStepsAndTheChainLink_3 :
    ∃ (s : State),
      s.awake = true ∧ s.isHead = false :=
  ⟨inMode RUN, by decide⟩

theorem witness_FlashStepsAndTheChainLink_4 :
    ∃ (s : State),
      s.awake = true ∧ s.isHead = true :=
  ⟨sets (inMode RUN) [(F.KV_STRAP_reel_head, 1)], by decide⟩

theorem witness_FlashStepsAndTheChainLink_5 :
    ∃ (s : State),
      s.awake = true ∧ s.fw.relayQ = [] :=
  ⟨inMode RUN, by decide⟩

theorem witness_FlashStepsAndTheChainLink_6 :
    ∃ (target : Nat) (s : State),
      s.awake = true ∧ s.cmdMine target = true :=
  ⟨0xFF, inMode RUN, by decide⟩

theorem witness_FlashStepsAndTheChainLink_7 :
    ∃ (s : State),
      s.awake = true :=
  ⟨inMode RUN, by decide⟩

theorem witness_FlashStepsAndTheChainLink_8 :
    ∃ (s : State),
      s.awake = true :=
  ⟨xfer .receiving, by decide⟩

theorem witness_FlashStepsAndTheChainLink_9 :
    ∃ (s : State),
      s.awake = true ∧ s.isHead = true ∧ s.chainBusy = false :=
  ⟨sets (inMode RUN) [(F.KV_STRAP_reel_head, 1)], by decide⟩

theorem witness_ActivationConfirmationAndFallback_0 :
    ∃ (im : Image) (s : State),
      s.awake = true ∧ s.actRefusal = 0 ∧ (s.bank s.inactiveBank).image = some im :=
  ⟨image, staged, ⟨by decide, by decide, staged_image⟩⟩

theorem witness_ActivationConfirmationAndFallback_1 :
    ∃ (s : State),
      s.awake = true ∧ s.actRefusal ≠ 0 :=
  ⟨inMode SAFE, by decide⟩

theorem witness_ActivationConfirmationAndFallback_2 :
    ∃ (target : Nat) (im : Image) (s : State),
      s.awake = true ∧ s.cmdMine target = true ∧ s.actRefusal = 0 ∧ (s.bank s.inactiveBank).image = some im :=
  ⟨0, image, staged, ⟨by decide, by decide, by decide, staged_image⟩⟩

theorem witness_ActivationConfirmationAndFallback_3 :
    ∃ (p : ProbRec) (s : State),
      s.activeMc.isSome = true ∧ s.probRuns = true ∧ s.rec0.prob = some p ∧ s.live = true :=
  ⟨⟨1, 60, 1⟩, { withMc (inMode PROBATION) with boot := { State.reset.boot with resume := true }, rec0 := ⟨0, some ⟨1, 60, 1⟩, 0, false⟩ }, by decide⟩

theorem witness_ActivationConfirmationAndFallback_3b :
    ∃ (p : ProbRec) (s : State),
      s.activeMc.isSome = true ∧ s.probRuns = true ∧ s.rec0.prob = some p ∧ s.live = true :=
  ⟨⟨1, 60, 1⟩, { withMc (inMode DRAIN) with boot := { State.reset.boot with resume := true }, rec0 := ⟨0, some ⟨1, 60, 1⟩, 0, false⟩ }, by decide⟩

end Sys2Proof.Tests
end

