-- ==== Sys2Proof/Tests/Witness3.lean ====
section
/-! SUPPORT. Witnesses: for each clause of a statement that has hypotheses, a state and operands that meet them all. -/

namespace Sys2Proof.Tests

set_option Elab.async false

open Sys2Proof Sys2Proof.Machine

/-- A cluster with a frame waiting, and updraft allowed. -/
def crowdedBy (l : List Byte) : State :=
  let s := setsAt (onIsl (inMode RUN) [1]) [(F.KV_PWR_CTL_updraft_en, 1, 0), (F.KV_PWR_CTL_updraft_mask, 1, 0)]
  { s with port := { s.port with phys := [(0, { physPort0 with inbuf := [rxf 0 0 l] })] } }

/-- Its buffer's use is that of its one frame. -/
theorem crowded_bytes (l : List Byte) : (crowdedBy l).inbufBytes (2 * 0) = l.length + 4 := rfl

/-- They are not low while that frame has 16 KiB. -/
theorem crowded_notLow (l : List Byte) : (crowdedBy l).inbufLow 0 =
    (decide (l.length + 4 < 16384) && decide ((crowdedBy l).inbufBytes 1 < 16384) && !(thas (crowdedBy l).pwr.highAt 0 &&
      decide ((crowdedBy l).up < tget (crowdedBy l).pwr.highAt 0 0 + 10000))) := rfl

/-- A frame of more than 64 KiB. -/
def crowded : State := crowdedBy (List.replicate 70000 0)

theorem witness_CrossingsHandshakeMergeTimeOutAndResync_0 :
    ∃ (src : Nat) (dst : Nat) (n : Nat) (s : State),
      xingIs src dst = true ∧ ((s.xingOffer (xingNo false src dst) n).xing (xingNo false src dst)).st = .req :=
  ⟨1, 2, 0, crossing false { xing0 with st := .req }, by decide⟩

theorem witness_CrossingsHandshakeMergeTimeOutAndResync_0b :
    ∃ (src : Nat) (dst : Nat) (n : Nat) (s : State),
      xingIs src dst = true ∧ ((s.xingOffer (xingNo false src dst) n).xing (xingNo false src dst)).st = .req :=
  ⟨1, 2, 3, crossing false xing0, by decide⟩

theorem witness_CrossingsHandshakeMergeTimeOutAndResync_1 :
    ∃ (src : Nat) (dst : Nat) (s : State),
      xingIs src dst = true ∧ (s.xing (xingNo false src dst)).st = .ack :=
  ⟨1, 2, crossing false { xing0 with st := .ack }, by decide⟩

theorem witness_CrossingsHandshakeMergeTimeOutAndResync_1b :
    ∃ (src : Nat) (dst : Nat) (s : State),
      xingIs src dst = true ∧ (s.xing (xingNo false src dst)).st = .ack ∧ (s.xing (xingNo false src dst)).pend = true :=
  ⟨1, 2, crossing false { xing0 with st := .ack, pend := true, merge := 7 }, by decide⟩

theorem witness_CrossingsHandshakeMergeTimeOutAndResync_2 :
    ∃ (src : Nat) (dst : Nat) (n : Nat) (s : State),
      xingIs src dst = true ∧ (s.xing (xingNo false src dst)).st = .req ∧ (s.xing (xingNo false src dst)).pend = true ∧ s.flag F.KV_ISL_CTL_merge_cnt_en src = true ∧ 0 < n :=
  ⟨1, 2, 300, crossing false { xing0 with st := .req, pend := true, merge := 7 }, by decide⟩

theorem witness_CrossingsHandshakeMergeTimeOutAndResync_3 :
    ∃ (src : Nat) (dst : Nat) (n : Nat) (w : Nat) (s : State),
      xingIs src dst = true ∧ (s.xing (xingNo true src dst)).st = .idle ∧ w = (s.xing (xingNo true src dst)).wr + min n (Config.xingDepth (xingNo true src dst) - ((s.xing (xingNo true src dst)).wr - (s.xing (xingNo true src dst)).rd)) :=
  ⟨1, 2, 4, 0 + min 4 (Config.xingDepth (xingNo true 1 2) - (0 - 0)), crossing true xing0, ⟨by decide, by decide, rfl⟩⟩

theorem witness_CrossingsHandshakeMergeTimeOutAndResync_3b :
    ∃ (src : Nat) (dst : Nat) (n : Nat) (w : Nat) (s : State),
      xingIs src dst = true ∧ (s.xing (xingNo true src dst)).st = .idle ∧ w = (s.xing (xingNo true src dst)).wr + min n (Config.xingDepth (xingNo true src dst) - ((s.xing (xingNo true src dst)).wr - (s.xing (xingNo true src dst)).rd)) :=
  ⟨1, 2, 0, 5 + min 0 (Config.xingDepth (xingNo true 1 2) - (5 - 3)), crossing true { xing0 with wr := 5, rd := 3 }, ⟨by decide, by decide, rfl⟩⟩

theorem witness_CrossingsHandshakeMergeTimeOutAndResync_4 :
    ∃ (data : Bool) (src : Nat) (dst : Nat) (n : Nat) (s : State),
      xingIs src dst = true ∧ (s.xingArrive data (xingNo data src dst) n).xingStuck (xingNo data src dst) = true :=
  ⟨false, 1, 2, 0, { crossing false { xing0 with st := .req, pend := true, merge := 7 } with up := 100000 }, by decide⟩

theorem witness_CrossingsHandshakeMergeTimeOutAndResync_4b :
    ∃ (data : Bool) (src : Nat) (dst : Nat) (n : Nat) (s : State),
      xingIs src dst = true ∧ (s.xingArrive data (xingNo data src dst) n).xingStuck (xingNo data src dst) = true :=
  ⟨false, 1, 2, 3, { crossing false { xing0 with st := .ack } with up := 100000 }, by decide⟩

theorem witness_CrossingsHandshakeMergeTimeOutAndResync_4c :
    ∃ (data : Bool) (src : Nat) (dst : Nat) (n : Nat) (s : State),
      xingIs src dst = true ∧ (s.xingArrive data (xingNo data src dst) n).xingStuck (xingNo data src dst) = true ∧ (s.xing (xingNo data src dst)).rd < (s.xing (xingNo data src dst)).wr :=
  ⟨true, 1, 2, 0, { crossing true { xing0 with wr := 5, rd := 3 } with up := 100000 }, ⟨by decide, by rfl, by decide⟩⟩

theorem witness_CrossingsHandshakeMergeTimeOutAndResync_5 :
    ∃ (data : Bool) (src : Nat) (dst : Nat) (s : State),
      xingIs src dst = true ∧ (s.xing (xingNo data src dst)).st = .timeout :=
  ⟨true, 1, 2, crossing true { xing0 with st := .timeout }, by decide⟩

theorem witness_CrossingsHandshakeMergeTimeOutAndResync_5b :
    ∃ (data : Bool) (src : Nat) (dst : Nat) (s : State),
      xingIs src dst = true ∧ (s.xing (xingNo data src dst)).st = .timeout :=
  ⟨false, 1, 2, crossing false { xing0 with st := .timeout }, by decide⟩

theorem witness_AvfsStepsFollowTheSlack_0 :
    ∃ (i : Nat) (slack : Nat) (s : State),
      s.live = true ∧ i < 68 ∧ s.isOn i = true ∧ s.flag F.KV_ISL_CTL_avfs_en i = true ∧ slack < 15 ∧ s.islMv i < 800 :=
  ⟨67, 14, onIsl (inMode RUN) [67], by decide⟩

theorem witness_AvfsStepsFollowTheSlack_1 :
    ∃ (i : Nat) (slack : Nat) (s : State),
      s.live = true ∧ i < 68 ∧ s.isOn i = true ∧ s.flag F.KV_ISL_CTL_avfs_en i = true ∧ slack < 15 ∧ 800 ≤ s.islMv i ∧ lowestMHz i true + 25 ≤ s.get F.KV_ISL_STAT_f_mhz i :=
  ⟨1, 0, { setsAt (onIsl (inMode RUN) [1]) [(F.KV_ISL_STAT_f_mhz, 1250, 1)] with pwr := { pwr0 with setMv := [(1, 800)] } }, by decide⟩

theorem witness_AvfsStepsFollowTheSlack_2 :
    ∃ (i : Nat) (s : State),
      s.awake = true ∧ i < 68 ∧ s.isOn i = true ∧ s.flag F.KV_ISL_CTL_avfs_en i = true ∧ lowestMHz i false + 25 ≤ s.get F.KV_ISL_STAT_f_mhz i :=
  ⟨1, setsAt (onIsl (inMode RUN) [1]) [(F.KV_ISL_STAT_f_mhz, 1025, 1)], by decide⟩

theorem witness_AvfsStepsFollowTheSlack_3 :
    ∃ (rail : Nat) (s : State),
      thas s.pwr.avsDue rail = true :=
  ⟨0, { inMode RUN with pwr := { pwr0 with avsDue := [(0, 755)] } }, by decide⟩

theorem witness_AvfsStepsFollowTheSlack_3b :
    ∃ (rail : Nat) (s : State),
      thas s.pwr.avsDue rail = true :=
  ⟨1, { inMode RUN with pwr := { pwr0 with avsDue := [(1, 750)] } }, by decide⟩

theorem witness_TheEstimateAndUpdraftFollowTheCredit_0 :
    ∃ (s : State),
      s.awake = true :=
  ⟨inMode RAISE, by decide⟩

theorem witness_TheEstimateAndUpdraftFollowTheCredit_0b :
    ∃ (s : State),
      s.awake = true :=
  ⟨{ inMode RUN with pwr := { pwr0 with creditUs := 50000 } }, by decide⟩

theorem witness_TheEstimateAndUpdraftFollowTheCredit_0c :
    ∃ (s : State),
      s.awake = true :=
  ⟨{ setsAt (inMode RUN) [(F.KV_ISL_STAT_updraft, 1, 16)] with pwr := { pwr0 with creditUs := 20 } }, by decide⟩

theorem witness_TheEstimateAndUpdraftFollowTheCredit_1 :
    ∃ (cl : Nat) (est : Nat) (s : State),
      s.live = true ∧ cl < 16 ∧ s.isOn (cl + 1) = true ∧ s.inUpdraft (cl + 1) = false ∧ ((65536 < s.inbufBytes (2 * cl) ∨ 65536 < s.inbufBytes (2 * cl + 1))) ∧ s.updraftAllowed cl est = true :=
  ⟨0, 1500, crowded, ⟨by decide, by decide, by decide, by decide, .inl (by rw [crowded, crowded_bytes, List.length_replicate]; decide), by decide⟩⟩

theorem witness_TheEstimateAndUpdraftFollowTheCredit_2 :
    ∃ (cl : Nat) (s : State),
      cl < 16 ∧ s.inUpdraft (cl + 1) = true ∧ ((s.inbufLow cl = true ∨ s.updraftAllowed cl (s.get F.KV_PWR_STAT_power_w) = false)) :=
  ⟨15, setsAt (inMode RUN) [(F.KV_ISL_STAT_updraft, 1, 16), (F.KV_ISL_STAT_f_mhz, 1450, 16)], by decide⟩

theorem witness_TheEstimateAndUpdraftFollowTheCredit_3 :
    ∃ (cl : Nat) (s : State),
      s.inbufLow cl = false ∧ s.updraftAllowed cl (s.get F.KV_PWR_STAT_power_w) = true :=
  ⟨0, crowded, ⟨by rw [crowded, crowded_notLow, List.length_replicate]; decide, by decide⟩⟩

theorem witness_AgingIsSavedAndReadingsMoveTheThermalState_0 :
    ∃ (s : State),
      s.awake = true :=
  ⟨inMode RUN, by decide⟩

theorem witness_AgingIsSavedAndReadingsMoveTheThermalState_1 :
    ∃ (s : State),
      s.awake = true :=
  ⟨inMode RUN, by decide⟩

theorem witness_AgingIsSavedAndReadingsMoveTheThermalState_1b :
    ∃ (s : State),
      s.awake = true :=
  ⟨inMode RUN, by decide⟩

theorem witness_AgingIsSavedAndReadingsMoveTheThermalState_1c :
    ∃ (s : State),
      s.awake = true :=
  ⟨sets (inMode RUN) [(F.KV_THERM_STAT_state, 5)], by decide⟩

theorem witness_AgingIsSavedAndReadingsMoveTheThermalState_1d :
    ∃ (s : State),
      s.awake = true :=
  ⟨sets (inMode RUN) [(F.KV_THERM_STAT_state, 4)], by decide⟩

theorem witness_BlocksStopStartAndTimeOut_0 :
    ∃ (i : Nat) (s : State),
      s.awake = true ∧ i < 68 ∧ s.blockRuns i = true ∧ s.blockRefusal i = 0 :=
  ⟨49, onIsl (inMode RUN) [49], by decide⟩

theorem witness_BlocksStopStartAndTimeOut_0b :
    ∃ (i : Nat) (s : State),
      s.awake = true ∧ i < 68 ∧ s.blockRuns i = true ∧ s.blockRefusal i = 0 :=
  ⟨67, onIsl (inMode RUN) [67], by decide⟩

theorem witness_BlocksStopStartAndTimeOut_0c :
    ∃ (i : Nat) (s : State),
      s.awake = true ∧ i < 68 ∧ s.blockRuns i = true ∧ s.blockRefusal i = 0 :=
  ⟨35, onIsl (inMode QUIESCED) [35], by decide⟩

theorem witness_BlocksStopStartAndTimeOut_1 :
    ∃ (i : Nat) (s : State),
      s.awake = true ∧ i < 68 ∧ s.blockRuns i = true ∧ s.blockRefusal i ≠ 0 :=
  ⟨0, onIsl (inMode RUN) [0], by decide⟩

theorem witness_BlocksStopStartAndTimeOut_1b :
    ∃ (i : Nat) (s : State),
      s.awake = true ∧ i < 68 ∧ s.blockRuns i = true ∧ s.blockRefusal i ≠ 0 :=
  ⟨48, onIsl (inMode RUN) [48], by decide⟩

theorem witness_BlocksStopStartAndTimeOut_2 :
    ∃ (i : Nat) (s : State),
      s.awake = true ∧ i < 68 ∧ s.blk i = 4 :=
  ⟨67, setsAt (inMode RUN) [(F.KV_BLK_STAT_state, 4, 67)], by decide⟩

theorem witness_BlocksStopStartAndTimeOut_3 :
    ∃ (i : Nat) (s : State),
      s.awake = true ∧ i < 68 ∧ s.blk i = 2 :=
  ⟨67, setsAt (inMode RUN) [(F.KV_BLK_STAT_state, 2, 67)], by decide⟩

theorem witness_BlocksStopStartAndTimeOut_4 :
    ∃ (i : Nat) (s : State),
      s.awake = true ∧ i < 68 ∧ s.blk i = 1 ∧ s.planeNamed i = false :=
  ⟨67, setsAt (inMode RUN) [(F.KV_BLK_STAT_state, 1, 67), (F.KV_BLK_STAT_isolated, 1, 67)], by decide⟩

theorem witness_BlocksStopStartAndTimeOut_4b :
    ∃ (i : Nat) (s : State),
      s.awake = true ∧ i < 68 ∧ s.blk i = 1 ∧ s.planeNamed i = false :=
  ⟨5, setsAt (inMode RUN) [(F.KV_BLK_STAT_state, 1, 5), (F.KV_BLK_STAT_isolated, 1, 5), (F.KV_BLK_CTL_enable, 0, 5)], by decide⟩

theorem witness_BlocksStopStartAndTimeOut_4c :
    ∃ (i : Nat) (s : State),
      s.awake = true ∧ i < 68 ∧ s.blk i = 1 ∧ s.planeNamed i = false :=
  ⟨49, setsAt (inMode RUN) [(F.KV_BLK_STAT_state, 1, 49), (F.KV_BLK_STAT_isolated, 1, 49)], by decide⟩

theorem witness_BlocksStopStartAndTimeOut_5 :
    ∃ (i : Nat) (s : State),
      s.awake = true ∧ i < 68 ∧ s.blk i = 3 ∧ s.flag F.KV_BLK_CTL_enable i = true :=
  ⟨67, setsAt (inMode RUN) [(F.KV_BLK_STAT_state, 3, 67), (F.KV_BLK_CTL_enable, 1, 67)], by decide⟩

theorem witness_BlocksStopStartAndTimeOut_6 :
    ∃ (i : Nat) (s : State),
      s.awake = true ∧ i < 68 ∧ s.blk i = 3 ∧ s.blkFor i 1000000 = true :=
  ⟨67, setsAt { inMode RUN with up := 1000000 } [(F.KV_BLK_STAT_state, 3, 67)], by decide⟩

theorem witness_BlocksStopStartAndTimeOut_6b :
    ∃ (i : Nat) (s : State),
      s.awake = true ∧ i < 68 ∧ s.blk i = 3 ∧ s.blkFor i 1000000 = true :=
  ⟨67, setsAt { inMode RUN with up := 1000000 } [(F.KV_BLK_STAT_state, 3, 67), (F.KV_BLK_CTL_force_rel, 1, 67)], by decide⟩

theorem witness_BlocksStopStartAndTimeOut_7 :
    ∃ (i : Nat) (s : State),
      s.awake = true ∧ i < 68 ∧ s.blk i = 1 ∧ s.flag F.KV_BLK_CTL_quiesce i = true ∧ s.blkFor i (1000 * max 1 (s.get F.KV_BLK_CTL_quiesce_us i)) = true :=
  ⟨67, setsAt { inMode RUN with up := 255000 } [(F.KV_BLK_STAT_state, 1, 67), (F.KV_BLK_CTL_quiesce, 1, 67)], by decide⟩

end Sys2Proof.Tests
end

