-- ==== Sys2Proof/Tests/Witness4.lean ====
section
/-! SUPPORT. Witnesses: for each clause of a statement that has hypotheses, a state and operands that meet them all. -/

namespace Sys2Proof.Tests

set_option Elab.async false

open Sys2Proof Sys2Proof.Machine

/-- An open shadow set. -/
def shadow : Shadow := ⟨5, 0, 1000, 1000, false, [(3, 9)], [], none, 0⟩

/-- Telemetry with windows running. -/
def windows : State := { inMode RUN with tlm := { tlm0 with running := true, live := [(3, 9)] } }

/-- The mailbox with its arguments in word 0. -/
def mbox (a : Nat) : State := sets (withMc (inMode RUN)) [(⟨R.KV_MBOX_ARG, 0, 64⟩, a)]

/-- The engine in a commit step. -/
def inStep (n : Nat) : State := { batchOpen with eng := { batchOpen.eng with phase := n } }

theorem witness_FlushesWindowsAndArming_0 :
    ∃ (g : Nat) (flat : Nat) (s : State),
      s.live = true ∧ 0 < g ∧ flat < 2 ^ 24 :=
  ⟨1, 16777215, { inMode RUN with tlm := { tlm0 with accum := [(2 ^ 24 + 16777215, 4)] } }, by decide⟩

theorem witness_FlushesWindowsAndArming_1 :
    ∃ (s : State),
      s.awake = true ∧ s.tlm.running = true ∧ s.tlm.nextB ≤ s.time :=
  ⟨windows, by decide⟩

theorem witness_FlushesWindowsAndArming_1b :
    ∃ (s : State),
      s.awake = true ∧ s.tlm.running = true ∧ s.tlm.nextB ≤ s.time :=
  ⟨{ windows with tlm := { windows.tlm with shadow := some shadow } }, by decide⟩

theorem witness_FlushesWindowsAndArming_2 :
    ∃ (s : State),
      s.awake = true ∧ s.tlm.running = false ∧ s.flag F.KV_TLM_CTL_win_en = true ∧ s.tlm.nextB ≤ s.time :=
  ⟨sets (inMode RUN) [(F.KV_TLM_CTL_win_en, 1)], by decide⟩

theorem witness_FlushesWindowsAndArming_3 :
    ∃ (sh : Shadow) (s : State),
      s.tlm.shadow = some sh ∧ s.tlm.startUp + 1000000 ≤ s.up :=
  ⟨shadow, { windows with up := 1000000, tlm := { windows.tlm with shadow := some shadow } }, by decide⟩

theorem witness_FlushesWindowsAndArming_4 :
    ∃ (sh : Shadow) (n : Nat) (w : Word) (s : State),
      s.tlm.shadow = some sh ∧ sh.sel = [(n, w)] ∧ sh.bw = none ∧ 8 ≤ selRing w ∧ s.tlm.startUp + 1000000 ≤ s.up ∧ s.dumpsPaused = false :=
  ⟨{ shadow with sel := [(0, 0x800000000000)] }, 0, 0x800000000000, { windows with up := 1000000, tlm := { windows.tlm with shadow := some { shadow with sel := [(0, 0x800000000000)] } } }, by decide⟩

theorem witness_FlushesWindowsAndArming_5 :
    ∃ (s : State),
      s.awake = true :=
  ⟨inMode RUN, by decide⟩

theorem witness_FlushesWindowsAndArming_5b :
    ∃ (s : State),
      s.awake = true ∧ s.msiOn = true :=
  ⟨(inMode RUN).setCfgBits 0 0x50 16 1 1, by decide⟩

theorem witness_CheckpointsAndBeatsWriteTheRetainedSram_0 :
    ∃ (s : State),
      s.activeMc.isSome = true ∧ s.flag F.KV_MC_STAT_handover = false :=
  ⟨withMc (inMode RUN), by decide⟩

theorem witness_CheckpointsAndBeatsWriteTheRetainedSram_0b :
    ∃ (s : State),
      s.activeMc.isSome = true ∧ s.flag F.KV_MC_STAT_handover = false :=
  ⟨{ withMc (inMode RUN) with mc := { mcSt0 with ckptSeq := 1 } }, by decide⟩

theorem witness_CheckpointsAndBeatsWriteTheRetainedSram_1 :
    ∃ (m : Nat) (s : State),
      s.beats m = true :=
  ⟨0, { withMc (inMode RUN) with sram := [(0x100, 255), (0x110, 4)] }, by decide⟩

theorem witness_CheckpointsAndBeatsWriteTheRetainedSram_1b :
    ∃ (m : Nat) (s : State),
      s.beats m = true :=
  ⟨1, onIsl (sets (inMode RAISE) [(F.KV_MC_STAT_role1, 1)]) [29], by decide⟩

theorem witness_CheckpointsAndBeatsWriteTheRetainedSram_2 :
    ∃ (m : Nat) (s : State),
      s.beats m = true :=
  ⟨0, withMc (inMode RUN), by decide⟩

theorem witness_TheBridlePairTakesOverTestsAndHandsOver_0 :
    ∃ (m : Nat) (explicit : Bool) (s : State),
      s.beats m = true ∧ ((explicit = true ∨ 3 ≤ (s.mcOne m).missed)) :=
  ⟨0, true, withMc (inMode RUN), by decide⟩

theorem witness_TheBridlePairTakesOverTestsAndHandsOver_0b :
    ∃ (m : Nat) (explicit : Bool) (s : State),
      s.beats m = true ∧ ((explicit = true ∨ 3 ≤ (s.mcOne m).missed)) ∧ (s.mcActive m = true ∧ s.role (1 - m) = 1 ∧ s.mcReady (1 - m) = true ∧ s.isOn (28 + (1 - m)) = true) :=
  ⟨0, false, setsAt (onIsl { sets (inMode RUN) [(F.KV_MC_STAT_role1, 1)] with mc := { mcSt0 with mc0 := ⟨3, false, false⟩ } } [28, 29]) [(F.KV_MC_HEALTH_ready, 1, 1)], by decide⟩

theorem witness_TheBridlePairTakesOverTestsAndHandsOver_1 :
    ∃ (m : Nat) (s : State),
      m < 2 ∧ (s.mcOne m).loading = true ∧ s.activeMc = none ∧ s.role m = 1 ∧ s.isOn (28 + m) = true :=
  ⟨1, onIsl { sets (inMode RUN) [(F.KV_MC_STAT_role0, 3), (F.KV_MC_STAT_role1, 1)] with mc := { mcSt0 with mc1 := ⟨0, false, true⟩ } } [29], by decide⟩

theorem witness_TheBridlePairTakesOverTestsAndHandsOver_2 :
    ∃ (m : Nat) (s : State),
      m < 2 ∧ RAISE ≤ s.mode ∧ s.isOn (28 + m) = true ∧ s.role m = 1 :=
  ⟨1, onIsl (sets (inMode RUN) [(F.KV_MC_STAT_role1, 1)]) [28, 29], by decide⟩

theorem witness_TheBridlePairTakesOverTestsAndHandsOver_2b :
    ∃ (m : Nat) (s : State),
      m < 2 ∧ RAISE ≤ s.mode ∧ s.isOn (28 + m) = true ∧ s.role m = 1 :=
  ⟨1, onIsl (sets (inMode RUN) [(F.KV_MC_STAT_role1, 1)]) [28, 29], by decide⟩

theorem witness_TheBridlePairTakesOverTestsAndHandsOver_3 :
    ∃ (m : Nat) (s : State),
      m < 2 ∧ RAISE ≤ s.mode ∧ s.isOn (28 + m) = true ∧ s.role m = 2 :=
  ⟨1, onIsl (sets (inMode RAISE) [(F.KV_MC_STAT_role0, 2), (F.KV_MC_STAT_role1, 2)]) [28, 29], by decide⟩

theorem witness_TheBridlePairTakesOverTestsAndHandsOver_4 :
    ∃ (m : Nat) (s : State),
      m < 2 ∧ s.mc.handTo = some m ∧ s.flag F.KV_MC_STAT_handover = true :=
  ⟨1, { onIsl (sets (inMode RUN) [(F.KV_MC_STAT_role1, 1), (F.KV_MC_STAT_handover, 1)]) [28, 29] with mc := { mcSt0 with handTo := some 1 } }, by decide⟩

theorem witness_MailboxOperationsStartEndOrAreRefused_0 :
    ∃ (c : Instr) (s : State),
      s.awake = true ∧ ((s.flag F.KV_MBOX_STAT_busy = true ∨ s.activeMc = none)) ∧ ((c = .mcSwitch ∨ c = .epochQuery ∨ c = .queueReset ∨ c = .repartition ∨ c = .portReconfig ∨ c = .pipeRetest ∨ ∃ op, (op = 0 ∨ 6 < op) ∧ c = .mboxUnknownOp op)) :=
  ⟨.repartition, inMode RUN, ⟨by decide, by decide, .inr (.inr (.inr (.inl rfl)))⟩⟩

theorem witness_MailboxOperationsStartEndOrAreRefused_0b :
    ∃ (c : Instr) (s : State),
      s.awake = true ∧ ((s.flag F.KV_MBOX_STAT_busy = true ∨ s.activeMc = none)) ∧ ((c = .mcSwitch ∨ c = .epochQuery ∨ c = .queueReset ∨ c = .repartition ∨ c = .portReconfig ∨ c = .pipeRetest ∨ ∃ op, (op = 0 ∨ 6 < op) ∧ c = .mboxUnknownOp op)) :=
  ⟨.mboxUnknownOp 255, sets (withMc (inMode RUN)) [(F.KV_MBOX_STAT_busy, 1)], ⟨by decide, by decide, .inr (.inr (.inr (.inr (.inr (.inr ⟨255, by decide, rfl⟩)))))⟩⟩

theorem witness_MailboxOperationsStartEndOrAreRefused_1 :
    ∃ (c : Instr) (op : Nat) (s : State),
      s.awake = true ∧ s.flag F.KV_MBOX_STAT_busy = false ∧ s.activeMc.isSome = true ∧ (((c = .epochQuery ∧ op = 5) ∨ (c = .queueReset ∧ op = 6) ∨ (c = .mcSwitch ∧ op = 4 ∧ s.role (1 - s.activeMc.getD 0) = 1 ∧ s.mcReady (1 - s.activeMc.getD 0) = true) ∨ (c = .repartition ∧ op = 1 ∧ (argShares (s.rd R.KV_MBOX_ARG 0).toNat).sum ≤ 496 ∧ (s.withShares (argShares (s.rd R.KV_MBOX_ARG 0).toNat)).viewFits s.act = true ∧ (s.withShares (argShares (s.rd R.KV_MBOX_ARG 0).toNat)).viewFits s.inact = true) ∨ (c = .pipeRetest ∧ op = 3 ∧ bits (s.rd R.KV_MBOX_ARG 0).toNat 5 3 < 4 ∧ s.pipeFailed (bits (s.rd R.KV_MBOX_ARG 0).toNat 0 4) (bitOf (s.rd R.KV_MBOX_ARG 0).toNat 4) (bits (s.rd R.KV_MBOX_ARG 0).toNat 5 3) = true))) :=
  ⟨.epochQuery, 5, mbox 0, by decide⟩

theorem witness_MailboxOperationsStartEndOrAreRefused_1b :
    ∃ (c : Instr) (op : Nat) (s : State),
      s.awake = true ∧ s.flag F.KV_MBOX_STAT_busy = false ∧ s.activeMc.isSome = true ∧ (((c = .epochQuery ∧ op = 5) ∨ (c = .queueReset ∧ op = 6) ∨ (c = .mcSwitch ∧ op = 4 ∧ s.role (1 - s.activeMc.getD 0) = 1 ∧ s.mcReady (1 - s.activeMc.getD 0) = true) ∨ (c = .repartition ∧ op = 1 ∧ (argShares (s.rd R.KV_MBOX_ARG 0).toNat).sum ≤ 496 ∧ (s.withShares (argShares (s.rd R.KV_MBOX_ARG 0).toNat)).viewFits s.act = true ∧ (s.withShares (argShares (s.rd R.KV_MBOX_ARG 0).toNat)).viewFits s.inact = true) ∨ (c = .pipeRetest ∧ op = 3 ∧ bits (s.rd R.KV_MBOX_ARG 0).toNat 5 3 < 4 ∧ s.pipeFailed (bits (s.rd R.KV_MBOX_ARG 0).toNat 0 4) (bitOf (s.rd R.KV_MBOX_ARG 0).toNat 4) (bits (s.rd R.KV_MBOX_ARG 0).toNat 5 3) = true))) :=
  ⟨.queueReset, 6, mbox 0, by decide⟩

theorem witness_MailboxOperationsStartEndOrAreRefused_1c :
    ∃ (c : Instr) (op : Nat) (s : State),
      s.awake = true ∧ s.flag F.KV_MBOX_STAT_busy = false ∧ s.activeMc.isSome = true ∧ (((c = .epochQuery ∧ op = 5) ∨ (c = .queueReset ∧ op = 6) ∨ (c = .mcSwitch ∧ op = 4 ∧ s.role (1 - s.activeMc.getD 0) = 1 ∧ s.mcReady (1 - s.activeMc.getD 0) = true) ∨ (c = .repartition ∧ op = 1 ∧ (argShares (s.rd R.KV_MBOX_ARG 0).toNat).sum ≤ 496 ∧ (s.withShares (argShares (s.rd R.KV_MBOX_ARG 0).toNat)).viewFits s.act = true ∧ (s.withShares (argShares (s.rd R.KV_MBOX_ARG 0).toNat)).viewFits s.inact = true) ∨ (c = .pipeRetest ∧ op = 3 ∧ bits (s.rd R.KV_MBOX_ARG 0).toNat 5 3 < 4 ∧ s.pipeFailed (bits (s.rd R.KV_MBOX_ARG 0).toNat 0 4) (bitOf (s.rd R.KV_MBOX_ARG 0).toNat 4) (bits (s.rd R.KV_MBOX_ARG 0).toNat 5 3) = true))) :=
  ⟨.mcSwitch, 4, setsAt (onIsl (sets (inMode RUN) [(F.KV_MC_STAT_role1, 1)]) [28, 29]) [(F.KV_MC_HEALTH_ready, 1, 1)], by decide⟩

theorem witness_MailboxOperationsStartEndOrAreRefused_1d :
    ∃ (c : Instr) (op : Nat) (s : State),
      s.awake = true ∧ s.flag F.KV_MBOX_STAT_busy = false ∧ s.activeMc.isSome = true ∧ (((c = .epochQuery ∧ op = 5) ∨ (c = .queueReset ∧ op = 6) ∨ (c = .mcSwitch ∧ op = 4 ∧ s.role (1 - s.activeMc.getD 0) = 1 ∧ s.mcReady (1 - s.activeMc.getD 0) = true) ∨ (c = .repartition ∧ op = 1 ∧ (argShares (s.rd R.KV_MBOX_ARG 0).toNat).sum ≤ 496 ∧ (s.withShares (argShares (s.rd R.KV_MBOX_ARG 0).toNat)).viewFits s.act = true ∧ (s.withShares (argShares (s.rd R.KV_MBOX_ARG 0).toNat)).viewFits s.inact = true) ∨ (c = .pipeRetest ∧ op = 3 ∧ bits (s.rd R.KV_MBOX_ARG 0).toNat 5 3 < 4 ∧ s.pipeFailed (bits (s.rd R.KV_MBOX_ARG 0).toNat 0 4) (bitOf (s.rd R.KV_MBOX_ARG 0).toNat 4) (bits (s.rd R.KV_MBOX_ARG 0).toNat 5 3) = true))) :=
  ⟨.repartition, 1, mbox 0x40004000400040, by decide⟩

theorem witness_MailboxOperationsStartEndOrAreRefused_1e :
    ∃ (c : Instr) (op : Nat) (s : State),
      s.awake = true ∧ s.flag F.KV_MBOX_STAT_busy = false ∧ s.activeMc.isSome = true ∧ (((c = .epochQuery ∧ op = 5) ∨ (c = .queueReset ∧ op = 6) ∨ (c = .mcSwitch ∧ op = 4 ∧ s.role (1 - s.activeMc.getD 0) = 1 ∧ s.mcReady (1 - s.activeMc.getD 0) = true) ∨ (c = .repartition ∧ op = 1 ∧ (argShares (s.rd R.KV_MBOX_ARG 0).toNat).sum ≤ 496 ∧ (s.withShares (argShares (s.rd R.KV_MBOX_ARG 0).toNat)).viewFits s.act = true ∧ (s.withShares (argShares (s.rd R.KV_MBOX_ARG 0).toNat)).viewFits s.inact = true) ∨ (c = .pipeRetest ∧ op = 3 ∧ bits (s.rd R.KV_MBOX_ARG 0).toNat 5 3 < 4 ∧ s.pipeFailed (bits (s.rd R.KV_MBOX_ARG 0).toNat 0 4) (bitOf (s.rd R.KV_MBOX_ARG 0).toNat 4) (bits (s.rd R.KV_MBOX_ARG 0).toNat 5 3) = true))) :=
  ⟨.pipeRetest, 3, setsAt (mbox 0x7F) [(F.TF_SPARE_STAT_eg_failed, 8, 15)], by decide⟩

theorem witness_MailboxOperationsStartEndOrAreRefused_2 :
    ∃ (p : Nat) (code : Nat) (s : State),
      s.awake = true ∧ s.flag F.KV_MBOX_STAT_busy = false ∧ s.activeMc.isSome = true ∧ p = bits (s.rd R.KV_MBOX_ARG 0).toNat 0 5 ∧ code = bits (s.rd R.KV_MBOX_ARG 0).toNat 5 3 ∧ code < 5 ∧ ((bitOf (s.rd R.KV_MBOX_ARG 0).toNat 8 = true → code < 3)) ∧ ((∀ i < 8, s.present (8 * p + i) = true → s.flag F.TF_LPORT_CTL_admin_up (8 * p + i) = false ∧ s.holdsFor (8 * p + i) = false)) :=
  ⟨31, 4, mbox 0x9F, by decide⟩

theorem witness_MailboxOperationsStartEndOrAreRefused_3 :
    ∃ (op : Nat) (s : State),
      s.awake = true ∧ s.flag F.KV_MBOX_STAT_busy = false ∧ s.activeMc.isSome = true ∧ ((op = 0 ∨ 6 < op)) :=
  ⟨0, mbox 0, by decide⟩

theorem witness_MailboxOperationsStartEndOrAreRefused_3b :
    ∃ (op : Nat) (s : State),
      s.awake = true ∧ s.flag F.KV_MBOX_STAT_busy = false ∧ s.activeMc.isSome = true ∧ ((op = 0 ∨ 6 < op)) :=
  ⟨7, mbox 0, by decide⟩

theorem witness_MailboxOperationsStartEndOrAreRefused_4 :
    ∃ (s : State),
      s.flag F.KV_MBOX_STAT_busy = true ∧ s.activeMc.isSome = true :=
  ⟨sets (mbox 0) [(F.KV_MBOX_STAT_busy, 1), (F.KV_MBOX_STAT_cur_op, 5)], by decide⟩

theorem witness_MailboxOperationsStartEndOrAreRefused_4b :
    ∃ (s : State),
      s.flag F.KV_MBOX_STAT_busy = true ∧ s.activeMc.isSome = true ∧ s.get F.KV_MBOX_STAT_cur_op = 1 :=
  ⟨sets { mbox 0 with mc := { mcSt0 with args := [0x40004000400040, 0, 0, 0] } } [(F.KV_MBOX_STAT_busy, 1), (F.KV_MBOX_STAT_cur_op, 1)], by decide⟩

theorem witness_MailboxOperationsStartEndOrAreRefused_4c :
    ∃ (s : State),
      s.flag F.KV_MBOX_STAT_busy = true ∧ s.activeMc.isSome = true ∧ s.get F.KV_MBOX_STAT_cur_op = 3 :=
  ⟨sets { mbox 0 with mc := { mcSt0 with args := [0x7F, 0, 0, 0] } } [(F.KV_MBOX_STAT_busy, 1), (F.KV_MBOX_STAT_cur_op, 3)], by decide⟩

theorem witness_MailboxOperationsStartEndOrAreRefused_4d :
    ∃ (s : State),
      s.flag F.KV_MBOX_STAT_busy = true ∧ s.activeMc.isSome = true :=
  ⟨sets { mbox 0 with mc := { mcSt0 with args := [0x7F, 0, 0, 0] } } [(F.KV_MBOX_STAT_busy, 1), (F.KV_MBOX_STAT_cur_op, 3)], by decide⟩

theorem witness_BatchesOpenCommitAndAbort_0 :
    ∃ (c : TCmd) (q : Nat) (s : State),
      s.fetchable c 0 = true ∧ c.words = [] ∧ s.eng.batchQ = some q :=
  ⟨cmd [], 3, batchOpen, by decide⟩

theorem witness_BatchesOpenCommitAndAbort_1 :
    ∃ (c : TCmd) (s : State),
      s.fetchable c 0 = true ∧ c.words = [] ∧ s.eng.batchQ = none :=
  ⟨cmd [], engineReady, by decide⟩

theorem witness_BatchesOpenCommitAndAbort_2 :
    ∃ (c : TCmd) (s : State),
      s.fetchable c 0 = true ∧ c.words = [] :=
  ⟨cmd [], batchOpen, by decide⟩

theorem witness_BatchesOpenCommitAndAbort_2b :
    ∃ (c : TCmd) (s : State),
      s.fetchable c 0 = true ∧ c.words = [] :=
  ⟨cmd [], engineReady, by decide⟩

theorem witness_BatchesOpenCommitAndAbort_3 :
    ∃ (s : State),
      s.live = true ∧ s.eng.batchQ.isSome = true ∧ s.eng.ready = false ∧ s.eng.phase = 0 ∧ s.eng.waiting = none ∧ s.eng.fetchAt + max 1 (s.get F.TF_TBL_CTL_batch_idle_ms) * 1000000 ≤ s.up :=
  ⟨{ batchOpen with up := 100000000000 }, by decide⟩

theorem witness_BatchesOpenCommitAndAbort_4 :
    ∃ (s : State),
      s.mayCommit = true ∧ s.journalFull = false :=
  ⟨{ batchOpen with eng := { batchOpen.eng with ready := true, dirty := true } }, by decide⟩

theorem witness_BatchesOpenCommitAndAbort_5 :
    ∃ (s : State),
      s.live = true ∧ s.eng.phase = 1 :=
  ⟨inStep 1, by decide⟩

theorem witness_BatchesOpenCommitAndAbort_5b :
    ∃ (s : State),
      s.live = true ∧ s.eng.phase = 2 :=
  ⟨inStep 2, by decide⟩

theorem witness_BatchesOpenCommitAndAbort_5c :
    ∃ (s : State),
      s.live = true ∧ s.eng.phase = 3 :=
  ⟨inStep 3, by decide⟩

theorem witness_BatchesOpenCommitAndAbort_5d :
    ∃ (s : State),
      s.live = true ∧ s.eng.phase = 4 :=
  ⟨inStep 4, by decide⟩

theorem witness_BatchesOpenCommitAndAbort_5e :
    ∃ (s : State),
      s.live = true ∧ s.eng.phase = 5 :=
  ⟨inStep 5, by decide⟩

theorem witness_BatchesOpenCommitAndAbort_5f :
    ∃ (s : State),
      s.live = true ∧ s.eng.phase = 6 :=
  ⟨inStep 6, by decide⟩

theorem witness_BatchesOpenCommitAndAbort_6 :
    ∃ (s : State),
      s.live = true ∧ s.flag F.TF_EPOCH_old_live = true :=
  ⟨sets (inMode RUN) [(F.TF_EPOCH_old_live, 1)], by decide⟩

theorem witness_BatchesOpenCommitAndAbort_7 :
    ∃ (op : Nat) (c : TCmd) (s : State),
      s.fetchable c 0 = true ∧ s.batchIsFull = false ∧ knownOpcodes.contains op = false :=
  ⟨0xFF, cmd [1], engineReady, by decide⟩

end Sys2Proof.Tests
end

