-- ==== Sys2Proof/Tests/Witness5.lean ====
section
/-! SUPPORT. Witnesses: for each clause of a statement that has hypotheses, a state and operands that meet them all. -/

namespace Sys2Proof.Tests

set_option Elab.async false

open Sys2Proof Sys2Proof.Machine

/-- An exact-match entry. -/
def emEnt : EmEntry := ⟨0, 0, false, true, 0, 0, 0, 0⟩

/-- An associative entry with id 3 at priority 5. -/
def aEnt (prio : Nat) : AssocEntry := ⟨3, 0, 0, prio, 0, false, false, false, false, none⟩

/-- A bank of the array with an entry at position 0. -/
def array1 : State := { tabled with tbl := { tblSt0 with assoc := [(0, aEnt 5)] } }

/-- A shift of one move that makes room at position 0, with an insert waiting. -/
def shifting (left : Nat) : State :=
  { tabled with tbl := { tblSt0 with
      assoc := [(0, aEnt 5), (1, { aEnt 6 with id := 4 })]
      jobs := [(0, ⟨some ⟨true, left, left, 0, left⟩, [{ aEnt 3 with id := 9 }]⟩)] } }

/-- The key of a route payload of zeros, and of an exact-match one. -/
def zeroRoute : State := tabledBy (fun v => { v with routes := [(rpKey (cmd [0, 5, 0, 0]), 5)] })
def zeroEm : State := tabledBy (fun v => { v with em := ⟨[(0, emEnt)], []⟩ })

/-- A learned record of this module. -/
def rec1 : LearnRec := ⟨1, 0, 0, 4, 5, 77, 3, 0⟩
/-- Whatever a rule compiles into fits the tree space that holds nothing. -/
theorem copies_fit : copiesUsed (([] : Tab Rule)) + State.copiesOf { tabled with inact := { tables with rules := [] } }
    ≤ State.copyLimit { tabled with inact := { tables with rules := [] } } := by
  have h := Nat.mod_lt (Config.free 0) (show maxRules > 0 by decide)
  have e : State.copyLimit { tabled with inact := { tables with rules := [] } } = maxRules := by decide
  rw [e]
  show 0 + (1 + Config.free 0 % maxRules) ≤ maxRules
  omega

/-- The members of the group set below. -/
theorem gs_members : gsMembers (cmd [0x540009, 0x1000005]).words (gsCount (cmd [0x540009, 0x1000005])) =
    [⟨5, 1, true⟩] := by decide

theorem witness_ParserAndGroupCommandsChangeTheInactiveView_0 :
    ∃ (c : TCmd) (s : State),
      Taken c 3 0 s ∧ pw c 0 < 512 ∧ bits (pw c 1 + pw c 2 * 2 ^ 64) 125 3 = 0 :=
  ⟨cmd [511, 9, 1], tabled, by decide⟩

theorem witness_ParserAndGroupCommandsChangeTheInactiveView_1 :
    ∃ (c : TCmd) (s : State),
      Taken c 3 0 s ∧ 512 ≤ pw c 0 :=
  ⟨cmd [512, 9, 1], tabled, by decide⟩

theorem witness_ParserAndGroupCommandsChangeTheInactiveView_2 :
    ∃ (c : TCmd) (s : State),
      Taken c 3 0 s ∧ pw c 0 < 2048 ∧ bits (pw c 1 + pw c 2 * 2 ^ 64) 73 55 = 0 :=
  ⟨cmd [2047, 9, 0], tabled, by decide⟩

theorem witness_ParserAndGroupCommandsChangeTheInactiveView_3 :
    ∃ (c : TCmd) (x : BitVec 384) (s : State),
      Taken c 7 0 s ∧ pw c 0 < 16 ∧ x = BitVec.ofNat 384 (wordsNat (c.words.drop 1)) ∧ tmplOk x (s.flag F.TF_EM_TABLE_learn_en (bits (tmplWord x 0) 26 4)) = true :=
  ⟨cmd [15, 0, 0, 0, 0, 0, 0], 0, tabled, by decide⟩

theorem witness_ParserAndGroupCommandsChangeTheInactiveView_4 :
    ∃ (i : Nat) (s : State),
      s.awake = true ∧ i < 16 :=
  ⟨15, inMode LOAD, by decide⟩

theorem witness_ParserAndGroupCommandsChangeTheInactiveView_5 :
    ∃ (c : TCmd) (s : State),
      Taken c (1 + (gsCount c + 1) / 2) 0 s ∧ gsReservedOk c (gsCount c) (bitOf (pw c 0) 16) = true ∧ 5 ≤ bits (pw c 0) 18 4 ∧ bits (pw c 0) 18 4 ≤ 12 ∧ 1 ≤ gsCount c ∧ gsCount c ≤ 512 ∧ gsCount c ≤ 2 ^ bits (pw c 0) 18 4 ∧ ((bitOf (pw c 0) 16 = false → ∀ m ∈ gsMembers c.words (gsCount c), isFwd s.inact m.entry = true → ∀ e, tget? s.inact.nh m.entry = some e → fwKind e ≠ 1)) ∧ slotsUsed s.inact.groups + 2 ^ bits (pw c 0) 18 4 ≤ s.slotStore :=
  ⟨cmd [0x540009, 0x1000005], tabled, ⟨by decide, by decide, by decide, by decide, by decide, by decide, by decide, (by intro _ m hm _; have : m = ⟨5, 1, true⟩ := List.mem_singleton.1 (gs_members ▸ hm); subst this; exact all_some (by decide)), by decide⟩⟩

theorem witness_ParserAndGroupCommandsChangeTheInactiveView_6 :
    ∃ (c : TCmd) (s : State),
      Taken c 1 0 s ∧ pw c 0 < 65536 ∧ thas s.inact.groups (pw c 0) = true ∧ groupNamed s.inact (pw c 0) = false :=
  ⟨cmd [3], tabled, by decide⟩

theorem witness_ParserAndGroupCommandsChangeTheInactiveView_7 :
    ∃ (c : TCmd) (x : Group) (s : State),
      Taken c 1 0 s ∧ bits (pw c 0) 26 38 = 0 ∧ tget? s.inact.groups (bits (pw c 0) 0 16) = some x ∧ bits (pw c 0) 16 9 < x.members.length :=
  ⟨cmd [0x2000003], gSet false false 5 [⟨5, 1, true⟩], tabled, by decide⟩

theorem witness_ParserAndGroupCommandsChangeTheInactiveView_7b :
    ∃ (c : TCmd) (x : Group) (s : State),
      Taken c 1 0 s ∧ bits (pw c 0) 26 38 = 0 ∧ tget? s.inact.groups (bits (pw c 0) 0 16) = some x ∧ bits (pw c 0) 16 9 < x.members.length :=
  ⟨cmd [0x10004], gSet true false 5 [⟨2, 1, true⟩, ⟨3, 1, true⟩], tabled, by decide⟩

theorem witness_ParserAndGroupCommandsChangeTheInactiveView_8 :
    ∃ (l : Nat) (s : State),
      s.live = true ∧ 0 < lagRewrites s.myId l (s.portUp l) s.engV.groups :=
  ⟨2, tabled, by decide⟩

theorem witness_RouteAndNextHopCommandsChangeTheInactiveView_0 :
    ∃ (c : TCmd) (s : State),
      Taken c 4 0 s ∧ rpOk c true = true ∧ resultKeyOk (bits (pw c 1) 0 32) = true ∧ resultRefOk s.inact (bits (pw c 1) 0 32) = true ∧ s.routePoisoned (rpKey c) = false ∧ (thas s.inact.routes (rpKey c) = false ∧ routeCharge (tset s.inact.routes (rpKey c) (BitVec.ofNat 32 (bits (pw c 1) 0 32))) ≤ s.routeSLeft ∧ s.inact.routes.length < 16777216) :=
  ⟨cmd [0, 5, 0, 0], tabled, by decide +kernel⟩

theorem witness_RouteAndNextHopCommandsChangeTheInactiveView_0b :
    ∃ (c : TCmd) (s : State),
      Taken c 4 0 s ∧ rpOk c true = true ∧ resultKeyOk (bits (pw c 1) 0 32) = true ∧ resultRefOk s.inact (bits (pw c 1) 0 32) = true ∧ s.routePoisoned (rpKey c) = false ∧ thas s.inact.routes (rpKey c) = true :=
  ⟨cmd [0, 8, 0, 0], zeroRoute, by decide⟩

theorem witness_RouteAndNextHopCommandsChangeTheInactiveView_0c :
    ∃ (c : TCmd) (s : State),
      Taken c 4 0 s ∧ rpOk c true = true ∧ resultKeyOk (bits (pw c 1) 0 32) = true ∧ resultRefOk s.inact (bits (pw c 1) 0 32) = true ∧ s.routePoisoned (rpKey c) = false :=
  ⟨cmd [0x1010000, 0x400003, 0x20010DB800000000, 0x1], tabled, by decide⟩

theorem witness_RouteAndNextHopCommandsChangeTheInactiveView_1 :
    ∃ (c : TCmd) (s : State),
      Taken c 4 0 s ∧ rpOk c false = true ∧ s.routePoisoned (rpKey c) = false :=
  ⟨cmd [0, 0, 0, 0], tabled, by decide⟩

theorem witness_RouteAndNextHopCommandsChangeTheInactiveView_1b :
    ∃ (c : TCmd) (s : State),
      Taken c 4 0 s ∧ rpOk c false = true ∧ s.routePoisoned (rpKey c) = false ∧ thas s.inact.routes (rpKey c) = true :=
  ⟨cmd [0, 0, 0, 0], zeroRoute, by decide⟩

theorem witness_RouteAndNextHopCommandsChangeTheInactiveView_2 :
    ∃ (c : TCmd) (s : State),
      Taken c 1 0 s ∧ bits (pw c 0) 23 41 = 0 :=
  ⟨cmd [0x7FFFFF], tabled, by decide⟩

theorem witness_RouteAndNextHopCommandsChangeTheInactiveView_3 :
    ∃ (c : TCmd) (e : NhEntry) (s : State),
      Taken c 3 0 s ∧ pw c 0 < s.nhLimit ∧ e = ⟨BitVec.ofNat 64 (pw c 1), BitVec.ofNat 64 (pw c 2), false⟩ ∧ nhLayoutOk (pw c 1) (pw c 2) = true ∧ ((∀ o, tget? s.inact.nh (pw c 0) = some o → o.quar = false ∧ (nhValid o = true → nhType o = nhType e))) ∧ s.poisoned pkFwd (pw c 0) = false ∧ s.poisoned pkRw (pw c 0) = false ∧ ((nhType e = 1 → bitOf (pw c 2) 37 = true → nhIs s.inact.nh (bits (pw c 2) 15 22) 2 = true)) ∧ ((nhType e = 0 → fwKind e = 1 → groupIs s.inact (fwLag e) true = true ∧ ecmpMember s.inact (pw c 0) = false)) :=
  ⟨cmd [5, 4, 0], ⟨4, 0, false⟩, tabled, ⟨by decide, by decide, by decide, by decide, all_some (by decide), by decide, by decide, by decide, by decide⟩⟩

theorem witness_RouteAndNextHopCommandsChangeTheInactiveView_3b :
    ∃ (c : TCmd) (e : NhEntry) (s : State),
      Taken c 3 0 s ∧ pw c 0 < s.nhLimit ∧ e = ⟨BitVec.ofNat 64 (pw c 1), BitVec.ofNat 64 (pw c 2), false⟩ ∧ nhLayoutOk (pw c 1) (pw c 2) = true ∧ ((∀ o, tget? s.inact.nh (pw c 0) = some o → o.quar = false ∧ (nhValid o = true → nhType o = nhType e))) ∧ s.poisoned pkFwd (pw c 0) = false ∧ s.poisoned pkRw (pw c 0) = false ∧ ((nhType e = 1 → bitOf (pw c 2) 37 = true → nhIs s.inact.nh (bits (pw c 2) 15 22) 2 = true)) ∧ ((nhType e = 0 → fwKind e = 1 → groupIs s.inact (fwLag e) true = true ∧ ecmpMember s.inact (pw c 0) = false)) :=
  ⟨cmd [9, 5, 16000], ⟨5, 16000, false⟩, tabled, ⟨by decide, by decide, by decide, by decide, all_some (by decide), by decide, by decide, by decide, by decide⟩⟩

theorem witness_RouteAndNextHopCommandsChangeTheInactiveView_3c :
    ∃ (c : TCmd) (e : NhEntry) (s : State),
      Taken c 3 0 s ∧ pw c 0 < s.nhLimit ∧ e = ⟨BitVec.ofNat 64 (pw c 1), BitVec.ofNat 64 (pw c 2), false⟩ ∧ nhLayoutOk (pw c 1) (pw c 2) = true ∧ ((∀ o, tget? s.inact.nh (pw c 0) = some o → o.quar = false ∧ (nhValid o = true → nhType o = nhType e))) ∧ s.poisoned pkFwd (pw c 0) = false ∧ s.poisoned pkRw (pw c 0) = false ∧ ((nhType e = 1 → bitOf (pw c 2) 37 = true → nhIs s.inact.nh (bits (pw c 2) 15 22) 2 = true)) ∧ ((nhType e = 0 → fwKind e = 1 → groupIs s.inact (fwLag e) true = true ∧ ecmpMember s.inact (pw c 0) = false)) :=
  ⟨cmd [8, 0x80000C, 0], ⟨0x80000C, 0, false⟩, tabled, ⟨by decide, by decide, by decide, by decide, all_some (by decide), by decide, by decide, by decide, by decide⟩⟩

theorem witness_RouteAndNextHopCommandsChangeTheInactiveView_4 :
    ∃ (c : TCmd) (e : NhEntry) (s : State),
      Taken c 1 0 s ∧ pw c 0 < 2 ^ 22 ∧ tget? s.inact.nh (pw c 0) = some e ∧ e.quar = false ∧ nhValid e = true ∧ nhRouted s.inact (pw c 0) = false ∧ s.nhNamed s.inact (pw c 0) = false ∧ rwNames s.inact (pw c 0) = false ∧ egRuns s.inact (pw c 0) = false ∧ s.poisoned pkFwd (pw c 0) = false ∧ s.poisoned pkRw (pw c 0) = false :=
  ⟨cmd [8], ⟨4, 0, false⟩, tabled, by decide⟩

theorem witness_RouteAndNextHopCommandsChangeTheInactiveView_5 :
    ∃ (i : Nat) (e : NhEntry) (s : State),
      s.live = true ∧ tget? s.act.nh i = some e ∧ e.quar = true ∧ tget s.tbl.quarAt i 0 + max 1100 (s.get F.TF_ROUTE_CTL_nh_quarantine_ms) * 1000000 ≤ s.up :=
  ⟨6, ⟨4, 0, true⟩, { tabled with up := 100000000000 }, by decide⟩

theorem witness_ABankLoadWindowReportsAndRelieves_0 :
    ∃ (s : State),
      s.live = true :=
  ⟨{ inMode RUN with tbl := { tblSt0 with bankOver := [(0, 1), (3, 1)] } }, by decide⟩

theorem witness_ABankLoadWindowReportsAndRelieves_0b :
    ∃ (s : State),
      s.live = true :=
  ⟨inMode RUN, by decide⟩

theorem witness_ABankLoadWindowReportsAndRelieves_1 :
    ∃ (x : BankLoad) (y : BankLoad) (g : NodeGroup) (room : Nat) (s : State),
      s.live = true ∧ s.get F.KV_THERM_STAT_state < 3 ∧ s.flag F.TF_ROUTE_CTL_balance_en = true ∧ s.balHigh < x.pct ∧ y.pct ≤ s.balHigh ∧ x.groups = [g] ∧ 0 < room ∧ 1 ≤ tget s.tbl.bankOver 0 0 ∧ s.flag F.TF_BANK_STAT_retired 0 = false ∧ s.flag F.TF_BANK_STAT_retired 1 = false ∧ g.rate ≤ 1250 :=
  ⟨⟨100, [⟨800, 2, 4096⟩]⟩, ⟨20, []⟩, ⟨800, 2, 4096⟩, 1, { sets (inMode RUN) [(F.TF_ROUTE_CTL_balance_en, 1)] with tbl := { tblSt0 with bankOver := [(0, 1)] } }, by decide⟩

theorem witness_ABankLoadWindowReportsAndRelieves_1b :
    ∃ (x : BankLoad) (y : BankLoad) (g : NodeGroup) (room : Nat) (s : State),
      s.live = true ∧ s.get F.KV_THERM_STAT_state < 3 ∧ s.flag F.TF_ROUTE_CTL_balance_en = true ∧ s.balHigh < x.pct ∧ y.pct ≤ s.balHigh ∧ x.groups = [g] ∧ 0 < room ∧ 1 ≤ tget s.tbl.bankOver 0 0 ∧ s.flag F.TF_BANK_STAT_retired 0 = false ∧ s.flag F.TF_BANK_STAT_retired 1 = false ∧ 1250 < g.rate :=
  ⟨⟨100, [⟨2000, 3, 4096⟩]⟩, ⟨20, []⟩, ⟨2000, 3, 4096⟩, 1, { sets (inMode RUN) [(F.TF_ROUTE_CTL_balance_en, 1)] with tbl := { tblSt0 with bankOver := [(0, 1)] } }, by decide⟩

theorem witness_TableBanksAreRepairedScrubbedAndRetired_0 :
    ∃ (s : State),
      s.live = true ∧ s.eng.waiting = none :=
  ⟨{ inMode RUN with tbl := { tblSt0 with poison := [(1, 2), (3, 4)] } }, by decide⟩

theorem witness_TableBanksAreRepairedScrubbedAndRetired_0b :
    ∃ (s : State),
      s.live = true ∧ s.eng.waiting = none :=
  ⟨{ zeroEm with tbl := { tblSt0 with poison := [(pkEm, 0)] } }, by decide⟩

theorem witness_TableBanksAreRepairedScrubbedAndRetired_0c :
    ∃ (s : State),
      s.live = true ∧ s.eng.waiting = none :=
  ⟨inMode RUN, by decide⟩

theorem witness_TableBanksAreRepairedScrubbedAndRetired_1 :
    ∃ (p : Nat × Nat) (c : TCmd) (s : State),
      s.live = true ∧ s.tbl.poison = [p] ∧ p.1 = pkRoute ∧ s.eng.waiting = some (0x11, c) ∧ rpOk c false = true ∧ thas s.inact.routes (rpKey c) = true :=
  ⟨(pkRoute, 0), cmd [0, 0, 0, 0], { zeroRoute with tbl := { tblSt0 with poison := [(pkRoute, 0)] }, eng := { eng0 with waiting := some (0x11, cmd [0, 0, 0, 0]), batchQ := some 3 } }, by decide⟩

theorem witness_TableBanksAreRepairedScrubbedAndRetired_2 :
    ∃ (b : Nat) (s : State),
      s.live = true ∧ b < 1024 ∧ s.flag F.TF_BANK_STAT_retired b = false :=
  ⟨1023, inMode RUN, by decide⟩

theorem witness_TableBanksAreRepairedScrubbedAndRetired_2b :
    ∃ (b : Nat) (s : State),
      s.live = true ∧ b < 1024 ∧ s.flag F.TF_BANK_STAT_retired b = false :=
  ⟨0, { inMode RUN with tbl := { tblSt0 with bankFaults := [(0, [0, 0])] } }, by decide⟩

theorem witness_TableBanksAreRepairedScrubbedAndRetired_2c :
    ∃ (b : Nat) (s : State),
      s.live = true ∧ b < 1024 ∧ s.flag F.TF_BANK_STAT_retired b = false :=
  ⟨0, { inMode RUN with tbl := { tblSt0 with bankFaults := [(0, [0, 0])] } }, by decide⟩

theorem witness_TableBanksAreRepairedScrubbedAndRetired_3 :
    ∃ (b : Nat) (s : State),
      s.live = true ∧ b < 1024 ∧ s.flag F.TF_BANK_STAT_retired b = true :=
  ⟨1023, setsAt (inMode RUN) [(F.TF_BANK_STAT_retired, 1, 1023)], by decide⟩

theorem witness_ExactMatchCommandsChangeTheInactiveView_0 :
    ∃ (c : TCmd) (s : State),
      Taken c 4 0 s ∧ s.epOk c = true ∧ emResultKeyOk (pw c 3) = true ∧ ((bitOf (pw c 3) 32 = true → resultRefOk s.inact (pw c 3 % 2 ^ 32) = true)) ∧ s.emPoisoned s.inact (epKey c) = false :=
  ⟨cmd [0, 0, 0, 0], tabled, by decide⟩

theorem witness_ExactMatchCommandsChangeTheInactiveView_0b :
    ∃ (c : TCmd) (s : State),
      Taken c 4 0 s ∧ s.epOk c = true ∧ emResultKeyOk (pw c 3) = true ∧ ((bitOf (pw c 3) 32 = true → resultRefOk s.inact (pw c 3 % 2 ^ 32) = true)) ∧ s.emPoisoned s.inact (epKey c) = false :=
  ⟨cmd [0x100, 0, 0, 0x100000005], zeroEm, by decide⟩

theorem witness_ExactMatchCommandsChangeTheInactiveView_1 :
    ∃ (c : TCmd) (s : State),
      Taken c 4 0 s ∧ s.epOk c = true ∧ s.emPoisoned s.inact (epKey c) = false ∧ thas s.inact.em.ents (epKey c) = true :=
  ⟨cmd [0, 0, 0, 0], zeroEm, by decide⟩

theorem witness_ExactMatchCommandsChangeTheInactiveView_2 :
    ∃ (c : TCmd) (s : State),
      s.fetchable c 4 = true ∧ s.batchIsFull = false ∧ c.words.length = 3 ∧ s.epOk c = true :=
  ⟨cmd [0, 0, 0], zeroEm, by decide⟩

theorem witness_ExactMatchCommandsChangeTheInactiveView_2b :
    ∃ (c : TCmd) (s : State),
      s.fetchable c 4 = true ∧ s.batchIsFull = false ∧ c.words.length = 3 ∧ s.epOk c = true :=
  ⟨cmd [0, 0, 0], tabled, by decide⟩

theorem witness_ExactMatchCommandsChangeTheInactiveView_3 :
    ∃ (c : TCmd) (s : State),
      Taken c 1 0 s ∧ bits (pw c 0) 24 40 = 0 ∧ bitOf (pw c 0) 7 = false ∧ s.flushing (bits (pw c 0) 0 4) = false :=
  ⟨cmd [0x20], tabled, by decide⟩

theorem witness_ExactMatchCommandsChangeTheInactiveView_4 :
    ∃ (f : EmWalk) (rest : List EmWalk) (s : State),
      s.eng.flushes = f :: rest :=
  ⟨⟨3, 1, 0, 9, []⟩, [], { zeroEm with eng := { zeroEm.eng with flushes := [⟨3, 1, 0, 9, []⟩] } }, by decide⟩

theorem witness_LearningAgingAndCompareActOnEveryView_0 :
    ∃ (b : Nat) (s : State),
      s.live = true ∧ s.flag F.TF_EM_CTL_sweep_en = true ∧ s.poisoned pkEm b = false :=
  ⟨0, sets zeroEm [(F.TF_EM_CTL_sweep_en, 1)], by decide⟩

theorem witness_LearningAgingAndCompareActOnEveryView_0b :
    ∃ (b : Nat) (s : State),
      s.live = true ∧ s.flag F.TF_EM_CTL_sweep_en = true ∧ s.poisoned pkEm b = false :=
  ⟨0, { sets zeroEm [(F.TF_EM_CTL_sweep_en, 1), (F.TF_EM_TABLE_age_en, 1)] with up := 2 ^ 62 }, by decide⟩

theorem witness_LearningAgingAndCompareActOnEveryView_1 :
    ∃ (r : LearnRec) (rest : List LearnRec) (s : State),
      s.tbl.learnIn = r :: rest :=
  ⟨rec1, [], { inMode RUN with tbl := { tblSt0 with learnIn := [rec1] } }, by decide⟩

theorem witness_LearningAgingAndCompareActOnEveryView_1b :
    ∃ (r : LearnRec) (rest : List LearnRec) (s : State),
      s.tbl.learnIn = r :: rest :=
  ⟨{ rec1 with origin := 9 }, [rec1], { inMode RUN with tbl := { tblSt0 with learnIn := [{ rec1 with origin := 9 }, rec1] } }, by decide⟩

theorem witness_LearningAgingAndCompareActOnEveryView_2 :
    ∃ (r : LearnRec) (rest : List LearnRec) (s : State),
      s.live = true ∧ s.tbl.learnQ = r :: rest ∧ s.emPoisoned s.engV (recKey r) = false ∧ ((r.origin = s.myId ∨ s.flag F.TF_EM_TABLE_accept_remote r.table = true)) :=
  ⟨rec1, [], { inMode RUN with tbl := { tblSt0 with learnQ := [rec1] } }, by decide⟩

theorem witness_LearningAgingAndCompareActOnEveryView_2b :
    ∃ (r : LearnRec) (rest : List LearnRec) (s : State),
      s.live = true ∧ s.tbl.learnQ = r :: rest ∧ s.emPoisoned s.engV (recKey r) = false ∧ ((r.origin = s.myId ∨ s.flag F.TF_EM_TABLE_accept_remote r.table = true)) ∧ s.isDup r = true :=
  ⟨rec1, [], { inMode RUN with tbl := { tblSt0 with learnQ := [rec1], lastSeq := [(0, 3)] } }, by decide⟩

theorem witness_LearningAgingAndCompareActOnEveryView_2c :
    ∃ (r : LearnRec) (rest : List LearnRec) (e : EmEntry) (s : State),
      s.live = true ∧ s.tbl.learnQ = r :: rest ∧ s.emPoisoned s.engV (recKey r) = false ∧ ((r.origin = s.myId ∨ s.flag F.TF_EM_TABLE_accept_remote r.table = true)) ∧ (s.isDup r = false ∧ r.kind = 2 ∧ tget? s.engV.em.ents (recKey r) = some e ∧ tget? s.act.em.ents (recKey r) = some e ∧ e.learned = true ∧ e.origin = r.origin ∧ isFwd s.act (learnedFwd (s.get F.TF_EM_LEARN_learn_nh_base r.table) r.origin r.lport) = true) :=
  ⟨{ rec1 with kind := 2, lport := 5 }, [], emEnt, { tabledBy (fun v => { v with em := ⟨[(recKey rec1, emEnt)], []⟩ }) with tbl := { tblSt0 with learnQ := [{ rec1 with kind := 2, lport := 5 }] } }, by decide⟩

theorem witness_LearningAgingAndCompareActOnEveryView_3 :
    ∃ (b : Nat) (s : State),
      s.live = true ∧ s.flag F.TF_EM_CTL_compare_en = true ∧ s.emPending b = false ∧ s.eng.waiting = none :=
  ⟨0, sets zeroEm [(F.TF_EM_CTL_compare_en, 1)], by decide⟩

theorem witness_ClassificationCommandsChangeTheInactiveView_0 :
    ∃ (c : TCmd) (s : State),
      Taken c 2 0 s ∧ bits (pw c 0) 16 48 = 0 ∧ policyKeyOk (pw c 1) = true ∧ s.poisoned pkTree (bits (pw c 0) 0 8) = false ∧ ((treeBusy s.inact (bits (pw c 0) 0 8) = true → ∀ o, tget? s.inact.trees (bits (pw c 0) 0 8) = some o → o = { o with egress := bitOf (pw c 0) 8, keyLen := bits (pw c 0) 9 6, tagEn := bitOf (pw c 0) 15 })) :=
  ⟨cmd [2, 0], tabled, ⟨by decide, by decide, by decide, by decide, fun h => absurd h (by decide)⟩⟩

theorem witness_ClassificationCommandsChangeTheInactiveView_0b :
    ∃ (c : TCmd) (s : State),
      Taken c 2 0 s ∧ bits (pw c 0) 16 48 = 0 ∧ policyKeyOk (pw c 1) = true ∧ s.poisoned pkTree (bits (pw c 0) 0 8) = false ∧ ((treeBusy s.inact (bits (pw c 0) 0 8) = true → ∀ o, tget? s.inact.trees (bits (pw c 0) 0 8) = some o → o = { o with egress := bitOf (pw c 0) 8, keyLen := bits (pw c 0) 9 6, tagEn := bitOf (pw c 0) 15 })) :=
  ⟨cmd [0x0E01, 0], tabled, ⟨by decide, by decide, by decide, by decide, fun _ => all_some (by decide)⟩⟩

theorem witness_ClassificationCommandsChangeTheInactiveView_1 :
    ∃ (c : TCmd) (s : State),
      Taken c 1 0 s ∧ pw c 0 < 256 ∧ thas s.inact.trees (pw c 0) = true ∧ treeBusy s.inact (pw c 0) = false ∧ s.treeNamed (pw c 0) = false :=
  ⟨cmd [2], tabledBy (fun v => { v with trees := [(1, ⟨false, 7, false, 0⟩), (2, ⟨false, 7, false, 0⟩)] }), by decide +kernel⟩

theorem witness_ClassificationCommandsChangeTheInactiveView_2 :
    ∃ (c : TCmd) (id : Nat) (tr : Tree) (s : State),
      Taken c (2 + 3 * rpConds c) 0 s ∧ id = bits (pw c 0) 0 21 ∧ bits (pw c 0) 49 15 = 0 ∧ id < maxRules ∧ rpConds c ≤ 8 ∧ policyKeyOk (pw c 1) = true ∧ condsReservedOk c.words (rpConds c) = true ∧ tget? s.inact.trees (bits (pw c 0) 21 8) = some tr ∧ (ruleConds c.words (rpConds c)).all (condOk tr) = true ∧ policyRefOk s.inact (pw c 1) = true ∧ tget? s.inact.rules id = none ∧ s.poisoned pkTree (bits (pw c 0) 21 8) = false ∧ copiesUsed s.inact.rules + s.copiesOf ≤ s.copyLimit ∧ s.inact.rules.length < maxRules ∧ tooDeep (tr.keyLen + 1) (ruleConds c.words (rpConds c)) (otherRules s.inact (bits (pw c 0) 21 8) id) = false :=
  ⟨cmd [0x20000A, 0], 10, ⟨false, 7, false, 0⟩, { tabled with inact := { tables with rules := [] } }, ⟨by decide, by decide, by decide, by decide, by decide, by decide, by decide, by decide, by decide, by decide, by decide, by decide, copies_fit, by decide, by decide⟩⟩

theorem witness_ClassificationCommandsChangeTheInactiveView_3 :
    ∃ (c : TCmd) (r : Rule) (s : State),
      Taken c 1 0 s ∧ pw c 0 < 2 ^ 21 ∧ tget? s.inact.rules (pw c 0) = some r ∧ s.poisoned pkTree r.tree = false :=
  ⟨cmd [9], ⟨1, 2, [], 0, 4⟩, tabled, by decide⟩

theorem witness_ClassificationCommandsChangeTheInactiveView_4 :
    ∃ (c : TCmd) (r : Rule) (s : State),
      s.fetchable c 4 = true ∧ s.batchIsFull = false ∧ c.words.length = 1 ∧ pw c 0 < 2 ^ 21 ∧ tget? s.act.rules (pw c 0) = some r :=
  ⟨cmd [9], ⟨1, 2, [], 0, 4⟩, tabled, by decide⟩

theorem witness_ClassificationCommandsChangeTheInactiveView_5 :
    ∃ (c : TCmd) (s : State),
      Taken c 1 0 s ∧ pw c 0 < 256 ∧ thas s.inact.trees (pw c 0) = true ∧ copiesUsed s.inact.rules + treeCopies s.inact (pw c 0) ≤ s.copyLimit :=
  ⟨cmd [1], tabled, by decide⟩

theorem witness_ClassificationCommandsChangeTheInactiveView_6 :
    ∃ (r : Nat × Nat × Nat × Bool) (s : State),
      s.eng.rebuilds.find? (fun r => !r.2.2.2) = some r :=
  ⟨(3, 1, 1, false), { tabled with eng := { tabled.eng with rebuilds := [(3, 0, 2, true), (3, 1, 1, false)] } }, by decide⟩

theorem witness_AssociativeArrayCommandsPlaceChangeAndShift_0 :
    ∃ (c : TCmd) (b : Nat) (e : AssocEntry) (s : State),
      Taken c 8 0 s ∧ bits (pw c 0) 41 23 = 0 ∧ bits (pw c 3) 0 32 = 0 ∧ bits (pw c 6) 0 32 = 0 ∧ policyKeyOk (pw c 7) = true ∧ policyRefOk s.inact (pw c 7) = true ∧ s.assocIdBusy (bits (pw c 0) 0 19) = false ∧ b = bits (pw c 0) 19 6 ∧ s.assocHeld b < assocPos ∧ s.jobs b = assocIdle ∧ e = ⟨bits (pw c 0) 0 19, assoc160 (c.words.getD 1 0) (c.words.getD 2 0) (c.words.getD 3 0) &&& assoc160 (c.words.getD 4 0) (c.words.getD 5 0) (c.words.getD 6 0), assoc160 (c.words.getD 4 0) (c.words.getD 5 0) (c.words.getD 6 0), bits (pw c 0) 25 16, pw c 7, true, false, false, false, none⟩ :=
  ⟨cmd [0xA000003, 0, 0, 0, 0, 0, 0, 0], 0, ⟨3, 0, 0, 5, 0, true, false, false, false, none⟩, tabled, by decide⟩

theorem witness_AssociativeArrayCommandsPlaceChangeAndShift_0b :
    ∃ (c : TCmd) (b : Nat) (e : AssocEntry) (s : State),
      Taken c 8 0 s ∧ bits (pw c 0) 41 23 = 0 ∧ bits (pw c 3) 0 32 = 0 ∧ bits (pw c 6) 0 32 = 0 ∧ policyKeyOk (pw c 7) = true ∧ policyRefOk s.inact (pw c 7) = true ∧ s.assocIdBusy (bits (pw c 0) 0 19) = false ∧ b = bits (pw c 0) 19 6 ∧ s.assocHeld b < assocPos ∧ s.jobs b = assocIdle ∧ e = ⟨bits (pw c 0) 0 19, assoc160 (c.words.getD 1 0) (c.words.getD 2 0) (c.words.getD 3 0) &&& assoc160 (c.words.getD 4 0) (c.words.getD 5 0) (c.words.getD 6 0), assoc160 (c.words.getD 4 0) (c.words.getD 5 0) (c.words.getD 6 0), bits (pw c 0) 25 16, pw c 7, true, false, false, false, none⟩ :=
  ⟨cmd [0x6000009, 0, 0, 0, 0, 0, 0, 0], 0, ⟨9, 0, 0, 3, 0, true, false, false, false, none⟩, array1, by decide⟩

theorem witness_AssociativeArrayCommandsPlaceChangeAndShift_1 :
    ∃ (c : TCmd) (i : Nat) (e : AssocEntry) (s : State),
      Taken c 2 0 s ∧ pw c 0 < 2 ^ 19 ∧ policyKeyOk (pw c 1) = true ∧ policyRefOk s.inact (pw c 1) = true ∧ s.assocQueued (pw c 0) = false ∧ assocFind s.tbl.assoc (pw c 0) = some (i, e) ∧ e.excluded = false ∧ e.fresh = false :=
  ⟨cmd [3, 0], 0, aEnt 5, array1, by decide⟩

theorem witness_AssociativeArrayCommandsPlaceChangeAndShift_2 :
    ∃ (c : TCmd) (i : Nat) (e : AssocEntry) (s : State),
      Taken c 1 0 s ∧ pw c 0 < 2 ^ 19 ∧ s.assocQueued (pw c 0) = false ∧ assocFind s.tbl.assoc (pw c 0) = some (i, e) ∧ e.excluded = false :=
  ⟨cmd [3], 0, aEnt 5, array1, by decide⟩

theorem witness_AssociativeArrayCommandsPlaceChangeAndShift_3 :
    ∃ (c : TCmd) (i : Nat) (e : AssocEntry) (s : State),
      s.fetchable c 9 = true ∧ s.batchIsFull = false ∧ c.words.length = 1 ∧ pw c 0 < 2 ^ 19 ∧ s.tbl.assoc.find? (fun e => decide (e.2.id = pw c 0) && !e.2.fresh && !e.2.dying) = some (i, e) ∧ e.excluded = false ∧ (s.jobs (i / assocPos)).shift = none :=
  ⟨cmd [3], 0, aEnt 5, array1, by decide⟩

theorem witness_AssociativeArrayCommandsPlaceChangeAndShift_4 :
    ∃ (b : Nat) (sh : AssocShift) (e : AssocEntry) (s : State),
      s.jobs b = ⟨some sh, [e]⟩ ∧ ((∀ x, tget? s.tbl.assoc (shiftSource b sh) = some x → x.excluded = false)) :=
  ⟨0, ⟨true, 2, 2, 0, 2⟩, { aEnt 3 with id := 9 }, shifting 2, ⟨by decide, all_some (by decide)⟩⟩

theorem witness_AssociativeArrayCommandsPlaceChangeAndShift_4b :
    ∃ (b : Nat) (sh : AssocShift) (e : AssocEntry) (s : State),
      s.jobs b = ⟨some sh, [e]⟩ ∧ ((∀ x, tget? s.tbl.assoc (shiftSource b sh) = some x → x.excluded = false)) :=
  ⟨0, ⟨true, 1, 1, 0, 1⟩, { aEnt 3 with id := 9 }, { shifting 1 with tbl := { (shifting 1).tbl with assoc := [(0, aEnt 5)] } }, ⟨by decide, all_some (by decide)⟩⟩

theorem witness_AssociativeArrayCommandsPlaceChangeAndShift_5 :
    ∃ (i : Nat) (e : AssocEntry) (s : State),
      s.live = true ∧ tget? s.tbl.assoc i = some e ∧ s.eng.waiting = none :=
  ⟨0, { aEnt 5 with excluded := true }, { array1 with tbl := { tblSt0 with assoc := [(0, { aEnt 5 with excluded := true })] } }, by decide⟩

theorem witness_SchedulerPolicerAndListCommandsChangeTheInactiveView_0 :
    ∃ (c : TCmd) (s : State),
      Taken c 3 0 s ∧ s.nodeSetCheck s.inact (bits (pw c 0) 0 2) (bits (pw c 0) 2 16) (c.words.getD 0 0, c.words.getD 1 0, c.words.getD 2 0) = none :=
  ⟨cmd [0x200000400000015, 0, 0], tabled, by decide⟩

theorem witness_SchedulerPolicerAndListCommandsChangeTheInactiveView_1 :
    ∃ (c : TCmd) (lvl : Nat) (n : Nat) (w : Word × Word × Word) (s : State),
      s.fetchable c 5 = true ∧ s.batchIsFull = false ∧ c.words.length = 1 ∧ lvl = bits (pw c 0) 0 2 ∧ n = bits (pw c 0) 2 16 ∧ n < levelSize lvl ∧ bits (pw c 0) 18 46 = 0 ∧ w = nodeWords s.act lvl n :=
  ⟨cmd [0x15], 1, 5, nodeWords tabled.act 1 5, tabled, by decide⟩

theorem witness_SchedulerPolicerAndListCommandsChangeTheInactiveView_1b :
    ∃ (c : TCmd) (lvl : Nat) (n : Nat) (w : Word × Word × Word) (s : State),
      s.fetchable c 5 = true ∧ s.batchIsFull = false ∧ c.words.length = 1 ∧ lvl = bits (pw c 0) 0 2 ∧ n = bits (pw c 0) 2 16 ∧ n < levelSize lvl ∧ bits (pw c 0) 18 46 = 0 ∧ w = nodeWords s.act lvl n :=
  ⟨cmd [0], 0, 0, nodeWords tabled.act 0 0, tabled, by decide⟩

theorem witness_SchedulerPolicerAndListCommandsChangeTheInactiveView_1c :
    ∃ (c : TCmd) (lvl : Nat) (n : Nat) (w : Word × Word × Word) (s : State),
      s.fetchable c 5 = true ∧ s.batchIsFull = false ∧ c.words.length = 1 ∧ lvl = bits (pw c 0) 0 2 ∧ n = bits (pw c 0) 2 16 ∧ n < levelSize lvl ∧ bits (pw c 0) 18 46 = 0 ∧ w = nodeWords s.act lvl n :=
  ⟨cmd [0x3FFFF], 3, 65535, nodeWords tabled.act 3 65535, tabled, by decide⟩

theorem witness_SchedulerPolicerAndListCommandsChangeTheInactiveView_2 :
    ∃ (c : TCmd) (s : State),
      Taken c 1 0 s ∧ bits (pw c 0) 31 33 = 0 ∧ (bitOf (pw c 0) 30 = true ∧ subOk s.inact (bits (pw c 0) 0 8) (bits (pw c 0) 16 14) = true) :=
  ⟨cmd [0x40000000], tabled, by decide⟩

theorem witness_SchedulerPolicerAndListCommandsChangeTheInactiveView_2b :
    ∃ (c : TCmd) (s : State),
      Taken c 1 0 s ∧ bits (pw c 0) 31 33 = 0 :=
  ⟨cmd [0x3FFF0000], tabled, by decide⟩

theorem witness_SchedulerPolicerAndListCommandsChangeTheInactiveView_3 :
    ∃ (l : Nat) (v : Word) (s : State),
      s.live = true ∧ l < 256 ∧ subOk s.act l (bits v.toNat 0 14) = true :=
  ⟨0, 63, tabled, by decide⟩

theorem witness_SchedulerPolicerAndListCommandsChangeTheInactiveView_3b :
    ∃ (l : Nat) (v : Word) (s : State),
      s.live = true ∧ l < 256 ∧ subOk s.act l (bits v.toNat 0 14) = false :=
  ⟨255, 63, tabled, by decide⟩

theorem witness_SchedulerPolicerAndListCommandsChangeTheInactiveView_4 :
    ∃ (c : TCmd) (s : State),
      Taken c 3 0 s ∧ bits (pw c 0) 27 37 = 0 ∧ bits (pw c 1) 42 22 = 0 ∧ bits (pw c 2) 48 16 = 0 :=
  ⟨cmd [0x3FFFF, 0, 0], tabled, by decide⟩

theorem witness_SchedulerPolicerAndListCommandsChangeTheInactiveView_5 :
    ∃ (c : TCmd) (i : Nat) (w : Word × Word × Word) (x : Policer) (s : State),
      s.fetchable c 7 = true ∧ s.batchIsFull = false ∧ c.words.length = 1 ∧ pw c 0 < 2 ^ 18 ∧ i = pw c 0 ∧ w = tget s.act.pols i (BitVec.ofNat 64 i, 0, 0) ∧ x = tget s.sch.pols i policer0 :=
  ⟨cmd [0x3FFFF], 0x3FFFF, (0x3FFFF, 0, 0), policer0, tabled, by decide⟩

theorem witness_SchedulerPolicerAndListCommandsChangeTheInactiveView_6 :
    ∃ (c : TCmd) (n : Nat) (s : State),
      n = bits (pw c 0) 16 11 ∧ Taken c (1 + (n + 1) / 2) 0 s ∧ 1 ≤ n ∧ n ≤ 1024 ∧ bits (pw c 0) 27 37 = 0 ∧ ((n % 2 = 1 → bits (pw c (1 + n / 2)) 32 32 = 0)) ∧ ((s.inact.mcLists.filter (fun e => decide (e.1 ≠ bits (pw c 0) 0 16))).map (fun e => e.2.length)).sum + n ≤ 65536 :=
  ⟨cmd [0x30007, 0x200000001, 0x3], 3, tabled, by decide⟩

theorem witness_SchedulerPolicerAndListCommandsChangeTheInactiveView_6b :
    ∃ (c : TCmd) (n : Nat) (s : State),
      n = bits (pw c 0) 16 11 ∧ Taken c (1 + (n + 1) / 2) 0 s ∧ 1 ≤ n ∧ n ≤ 1024 ∧ bits (pw c 0) 27 37 = 0 ∧ ((n % 2 = 1 → bits (pw c (1 + n / 2)) 32 32 = 0)) ∧ ((s.inact.mcLists.filter (fun e => decide (e.1 ≠ bits (pw c 0) 0 16))).map (fun e => e.2.length)).sum + n ≤ 65536 :=
  ⟨cmd [0x10007, 5], 1, tabled, by decide⟩

theorem witness_SchedulerPolicerAndListCommandsChangeTheInactiveView_7 :
    ∃ (c : TCmd) (s : State),
      Taken c 1 0 s ∧ thas s.inact.mcLists (pw c 0) = true :=
  ⟨cmd [2], tabled, by decide⟩

theorem witness_SchedulerPolicerAndListCommandsChangeTheInactiveView_7b :
    ∃ (c : TCmd) (s : State),
      Taken c 1 0 s ∧ thas s.inact.egHdrs (pw c 0) = true :=
  ⟨cmd [3], tabled, by decide⟩

theorem witness_SchedulerPolicerAndListCommandsChangeTheInactiveView_8 :
    ∃ (c : TCmd) (s : State),
      Taken c 2 0 s ∧ pw c 0 < 2 ^ 15 ∧ bits (pw c 1) 35 29 = 0 ∧ bitOf (pw c 1) 34 = true ∧ bits (pw c 1) 0 22 + bits (pw c 1) 22 12 ≤ 4194303 ∧ ((∀ i ≤ bits (pw c 1) 22 12, nhIs s.inact.nh (bits (pw c 1) 0 22 + i) 1 = true)) :=
  ⟨cmd [0x7FFF, 0x400000007], tabled, by decide⟩

theorem witness_SchedulerPolicerAndListCommandsChangeTheInactiveView_9 :
    ∃ (c : TCmd) (s : State),
      Taken c 3 0 s ∧ pw c 0 < 8192 :=
  ⟨cmd [8191, 1, 2], tabled, by decide⟩

end Sys2Proof.Tests
end

