-- ==== Sys2Proof/Tests/Witness6.lean ====
section
/-! SUPPORT. Witnesses: for each clause of a statement that has hypotheses, a state and operands that meet them all. -/

namespace Sys2Proof.Tests

set_option Elab.async false

open Sys2Proof Sys2Proof.Machine

/-- Logical port l in a link state, in RUN, with its DT island in service. -/
def lnk (l st : Nat) : State := setsAt (onIsl (inMode RUN) [1, 17]) [(F.TF_LPORT_STAT_link_state, st, l)]

/-- The same with further fields of numbered instances. -/
def lnkWith (l st : Nat) (v : List (Fld × Nat × Nat)) : State := setsAt (lnk l st) v

/-- With the port's own state. -/
def withLp (s : State) (l : Nat) (x : LPort) : State := s.setLp l x

/-- The same later. -/
def later (n : Nat) (s : State) : State := { s with up := n }

/-- The eight lanes of physical port 0 with signal and lock. -/
def litLanes (s : State) : State :=
  setsAt s ((List.range 8).flatMap (fun n => [(F.TF_LANE_STAT_signal, 1, n), (F.TF_LANE_STAT_cdr_lock, 1, n)]))

/-- A framed port past DISABLED, every instance locked, its receive path in a state. -/
def frmd (f : FrmSt) : State :=
  (setsAt (lnk 0 3) [(F.TF_PORT_CFG_framed, 1, 0), (F.TF_FRM_STAT_instance_lock, 0xFFFF, 0)]).setFrm 0 f

/-- An untagged frame of zeros, and a MAC control frame. -/
def plain : List Byte := List.replicate 60 0
def macCtl : List Byte := List.replicate 12 0 ++ [0x88, 0x08] ++ List.replicate 46 0

/-- A frame at a position. -/
def frame (offset mfas : Nat) (ok : Bool) : OtucFrame := 
  ⟨offset, List.replicate 16 ok, mfas, List.replicate 16 ⟨0, 0, 0, 0, 0, 0⟩, 0, 0, List.replicate 16 0, 0, false, 0, 0⟩

/-- Module 3 reachable. -/
def peerUp : Peer := { peer0 with reachable := true }
/-- An input buffer that has no room for another frame. -/
def fullIn : State := (setsAt (onIsl (inMode RUN) [17]) [(F.TF_LPORT_STAT_link_state, 4, 0)]).setPhys 0 { physPort0 with inbuf := [rxf 0 0 (List.replicate 524284 0)] }
theorem rx_bytes_one (n : Nat) : rxBytes [rxf 0 0 (List.replicate n 0)] = n + 4 := by simp [rxBytes, rxLen, rxf]
theorem full_inbuf : 524288 < rxBytes (fullIn.phys (0 / 8)).inbuf + (plain.length + 4) := by
  have h : (fullIn.phys (0 / 8)).inbuf = [rxf 0 0 (List.replicate 524284 0)] := rfl
  rw [h, rx_bytes_one]
  decide
theorem full_no_pick (n : Nat) : fullIn.pickPipe (0 / 8) n = none := by
  have ha : fullIn.inPipeOk (0 / 8) false = false := by decide
  have hb : fullIn.inPipeOk (0 / 8) true = false := by decide
  simp only [State.pickPipe, ha, hb, Bool.or_self, Bool.false_and, Bool.false_eq_true, if_false]

theorem witness_AnToAnotherRateStaysInAn_0 :
    ∃ (l : Nat) (rate : Nat) (s : State),
      s.live = true ∧ s.present l = true ∧ s.link l = 1 ∧ rate ≠ portSpeed (s.breakout (l / 8)) :=
  ⟨0, 2, lnk 0 1, by decide⟩

theorem witness_LinkAttemptsMoveThroughTheirStates_0 :
    ∃ (l : Nat) (s : State),
      s.live = true ∧ s.present l = true ∧ s.isOn (17 + l / 32) = true ∧ s.link l = 0 ∧ s.flag F.TF_PORT_CFG_map_err (l / 8) = false ∧ s.flag F.TF_PORT_CFG_reconfig_busy (l / 8) = false :=
  ⟨0, lnk 0 0, by decide⟩

theorem witness_LinkAttemptsMoveThroughTheirStates_0b :
    ∃ (l : Nat) (s : State),
      s.live = true ∧ s.present l = true ∧ s.isOn (17 + l / 32) = true ∧ s.link l = 0 ∧ s.flag F.TF_PORT_CFG_map_err (l / 8) = false ∧ s.flag F.TF_PORT_CFG_reconfig_busy (l / 8) = false :=
  ⟨0, lnkWith 0 0 [(F.TF_LPORT_CTL_an_en, 1, 0)], by decide⟩

theorem witness_LinkAttemptsMoveThroughTheirStates_0c :
    ∃ (l : Nat) (s : State),
      s.live = true ∧ s.present l = true ∧ s.isOn (17 + l / 32) = true ∧ s.link l = 0 ∧ s.flag F.TF_PORT_CFG_map_err (l / 8) = false ∧ s.flag F.TF_PORT_CFG_reconfig_busy (l / 8) = false :=
  ⟨0, lnkWith 0 0 [(F.TF_LPORT_CTL_lt_en, 1, 0)], by decide⟩

theorem witness_LinkAttemptsMoveThroughTheirStates_0d :
    ∃ (l : Nat) (s : State),
      s.live = true ∧ s.present l = true ∧ s.isOn (17 + l / 32) = true ∧ s.link l = 0 ∧ s.flag F.TF_PORT_CFG_map_err (l / 8) = false ∧ s.flag F.TF_PORT_CFG_reconfig_busy (l / 8) = false :=
  ⟨255, setsAt (onIsl (inMode RUN) [24]) [(F.TF_PORT_CFG_framed, 1, 31), (F.TF_PORT_CFG_breakout, 3, 31)], by decide⟩

theorem witness_LinkAttemptsMoveThroughTheirStates_1 :
    ∃ (l : Nat) (s : State),
      s.awake = true ∧ s.present l = true ∧ s.link l ≠ 0 ∧ (s.link l = 4 ∧ s.viewUp s.myId l = true) :=
  ⟨0, (lnk 0 4).setView 0 0 .up, by decide⟩

theorem witness_LinkAttemptsMoveThroughTheirStates_1b :
    ∃ (l : Nat) (s : State),
      s.awake = true ∧ s.present l = true ∧ s.link l ≠ 0 :=
  ⟨0, lnk 0 2, by decide⟩

theorem witness_LinkAttemptsMoveThroughTheirStates_2 :
    ∃ (l : Nat) (rate : Nat) (s : State),
      s.live = true ∧ s.present l = true ∧ s.link l = 1 ∧ rate = portSpeed (s.breakout (l / 8)) :=
  ⟨0, 5, lnk 0 1, by decide⟩

theorem witness_LinkAttemptsMoveThroughTheirStates_3 :
    ∃ (l : Nat) (s : State),
      s.live = true ∧ s.present l = true ∧ s.link l = 1 ∧ (s.lp l).at' + 5000000000 ≤ s.up :=
  ⟨0, later 5000000000 (lnkWith 0 1 [(F.TF_LPORT_STAT_an_restarts, 255, 0)]), by decide⟩

theorem witness_LinkAttemptsMoveThroughTheirStates_4 :
    ∃ (l : Nat) (s : State),
      s.live = true ∧ s.present l = true ∧ s.link l = 2 ∧ (s.untrained l = false ∧ (s.txLanesOf l).Nodup) :=
  ⟨0, lnkWith 0 2 [(F.TF_LPORT_CTL_lt_en, 1, 0)], by decide⟩

theorem witness_LinkAttemptsMoveThroughTheirStates_4b :
    ∃ (l : Nat) (s : State),
      s.live = true ∧ s.present l = true ∧ s.link l = 2 ∧ (s.untrained l = true ∧ (s.txLanesOf l).Nodup ∧ s.boot.image = some image) :=
  ⟨0, { lnk 0 2 with boot := { (lnk 0 2).boot with image := some image } }, ⟨by decide, by decide, by decide, by decide, by decide, rfl⟩⟩

theorem witness_LinkAttemptsMoveThroughTheirStates_5 :
    ∃ (l : Nat) (s : State),
      s.live = true ∧ s.present l = true ∧ s.link l = 2 ∧ (s.lp l).at' + 3000000000 ≤ s.up :=
  ⟨0, later 3000000000 (lnk 0 2), by decide⟩

theorem witness_LinkAttemptsMoveThroughTheirStates_5b :
    ∃ (l : Nat) (s : State),
      s.live = true ∧ s.present l = true ∧ s.link l = 2 ∧ (s.lp l).at' + 3000000000 ≤ s.up :=
  ⟨0, later 3000000000 (lnkWith 0 2 [(F.TF_LPORT_CTL_an_en, 1, 0)]), by decide⟩

theorem witness_LinkAttemptsMoveThroughTheirStates_6 :
    ∃ (l : Nat) (s : State),
      s.live = true ∧ s.present l = true ∧ s.link l = 3 ∧ s.lanesLock l = true ∧ ((s.framed l = true → s.frmLocked l = true)) :=
  ⟨0, litLanes (lnk 0 3), by decide +kernel⟩

theorem witness_LinkAttemptsMoveThroughTheirStates_7 :
    ∃ (l : Nat) (s : State),
      s.live = true ∧ s.present l = true ∧ s.link l = 3 ∧ (s.lp l).locked = true ∧ (s.lp l).lockAt + 1000000 * s.get F.TF_LPORT_CTL_up_filter_ms l ≤ s.up ∧ ((s.framed l = true → s.frmLocked l = true)) ∧ (s.get F.TF_LPORT_CTL_fc_mode l = 1 ∧ s.get F.TF_LPORT_CTL_pfc_tx_en l ≠ 0) :=
  ⟨0, later 100000000 <| withLp (lnkWith 0 3 [(F.TF_LPORT_CTL_fc_mode, 1, 0), (F.TF_LPORT_CTL_pfc_tx_en, 9, 0), (F.TF_LPORT_STAT_tx_xoff, 8, 0)]) 0 { lport0 with locked := true }, by decide⟩

theorem witness_LinkAttemptsMoveThroughTheirStates_7b :
    ∃ (l : Nat) (s : State),
      s.live = true ∧ s.present l = true ∧ s.link l = 3 ∧ (s.lp l).locked = true ∧ (s.lp l).lockAt + 1000000 * s.get F.TF_LPORT_CTL_up_filter_ms l ≤ s.up ∧ ((s.framed l = true → s.frmLocked l = true)) :=
  ⟨0, later 100000000 <| withLp { lnk 0 3 with fab := { fabSt0 with peers := [(3, peerUp)] } } 0 { lport0 with locked := true }, by decide⟩

theorem witness_LinkAttemptsMoveThroughTheirStates_7c :
    ∃ (l : Nat) (s : State),
      s.live = true ∧ s.present l = true ∧ s.link l = 3 ∧ (s.lp l).locked = true ∧ (s.lp l).lockAt + 1000000 * s.get F.TF_LPORT_CTL_up_filter_ms l ≤ s.up ∧ ((s.framed l = true → s.frmLocked l = true)) ∧ (s.framed l = true ∧ s.frmLocked l = true) :=
  ⟨0, later 100000000 <| withLp ((setsAt (lnk 0 3) [(F.TF_PORT_CFG_framed, 1, 0), (F.TF_FRM_STAT_instance_lock, 0xFFFF, 0)]).setFrm 0 { frm0 with aligner := 2, demap := true }) 0 { lport0 with locked := true }, by decide⟩

theorem witness_LinkAttemptsMoveThroughTheirStates_8 :
    ∃ (l : Nat) (s : State),
      s.live = true ∧ s.present l = true ∧ s.link l = 3 ∧ (s.lp l).locked = false ∧ (s.lp l).at' + 500000000 ≤ s.up :=
  ⟨0, later 500000000 (lnk 0 3), by decide⟩

theorem witness_LinkAttemptsMoveThroughTheirStates_8b :
    ∃ (l : Nat) (s : State),
      s.live = true ∧ s.present l = true ∧ s.link l = 3 ∧ (s.lp l).locked = false ∧ (s.lp l).at' + 500000000 ≤ s.up :=
  ⟨0, later 500000000 (lnkWith 0 3 [(F.TF_LPORT_CTL_lt_en, 1, 0)]), by decide⟩

theorem witness_LinkAttemptsMoveThroughTheirStates_9 :
    ∃ (l : Nat) (cause : Nat) (s : State),
      s.live = true ∧ s.present l = true ∧ s.link l = 4 ∧ s.faultHolds l cause = true :=
  ⟨0, 2, (lnk 0 4).setView 0 0 .up, by decide⟩

theorem witness_LinkAttemptsMoveThroughTheirStates_9b :
    ∃ (l : Nat) (cause : Nat) (s : State),
      s.live = true ∧ s.present l = true ∧ s.link l = 4 ∧ s.faultHolds l cause = true :=
  ⟨0, 0, withLp (lnk 0 4) 0 { lport0 with quanta := [1, 2, 3, 4, 5, 6, 7, 8] }, by decide⟩

theorem witness_LinkAttemptsMoveThroughTheirStates_10 :
    ∃ (l : Nat) (s : State),
      s.live = true ∧ s.present l = true :=
  ⟨0, lnk 0 5, by decide⟩

theorem witness_LinkAttemptsMoveThroughTheirStates_10b :
    ∃ (l : Nat) (s : State),
      s.live = true ∧ s.present l = true :=
  ⟨0, withLp (lnk 0 5) 0 { lport0 with sdHeld := [7] }, by decide⟩

theorem witness_LinkAttemptsMoveThroughTheirStates_11 :
    ∃ (l : Nat) (s : State),
      s.live = true ∧ s.present l = true ∧ s.link l = 5 ∧ ((s.startLink l = 3 → (s.lp l).sdHeld = [])) ∧ (s.lp l).at' + 500000000 ≤ s.up :=
  ⟨0, later 500000000 (lnk 0 5), by decide⟩

theorem witness_LinkAttemptsMoveThroughTheirStates_11b :
    ∃ (l : Nat) (s : State),
      s.live = true ∧ s.present l = true ∧ s.link l = 5 ∧ ((s.startLink l = 3 → (s.lp l).sdHeld = [])) ∧ (s.lp l).at' + 500000000 ≤ s.up :=
  ⟨0, later 500000000 (withLp (lnkWith 0 5 [(F.TF_LPORT_CTL_an_en, 1, 0)]) 0 { lport0 with sdHeld := [7] }), by decide⟩

theorem witness_LanesReportSignalDegradeAdaptAndLoss_0 :
    ∃ (n : Nat) (s : State),
      s.live = true ∧ n < 256 :=
  ⟨255, inMode RUN, by decide⟩

theorem witness_LanesReportSignalDegradeAdaptAndLoss_0b :
    ∃ (n : Nat) (s : State),
      s.live = true ∧ n < 256 :=
  ⟨0, setsAt (inMode RUN) [(F.TF_LANE_STAT_signal, 1, 0)], by decide⟩

theorem witness_LanesReportSignalDegradeAdaptAndLoss_1 :
    ∃ (n : Nat) (ber : Nat) (s : State),
      s.live = true ∧ n < 256 ∧ 0 < ber ∧ ber < 45 ∧ s.flag F.TF_LANE_STAT_cdr_lock n = true :=
  ⟨7, 44, litLanes (lnkWith 0 4 [(F.TF_LPORT_CTL_sd_action, 1, 0)]), by decide +kernel⟩

theorem witness_LanesReportSignalDegradeAdaptAndLoss_1b :
    ∃ (n : Nat) (ber : Nat) (s : State),
      s.live = true ∧ n < 256 ∧ 0 < ber ∧ ber < 45 ∧ s.flag F.TF_LANE_STAT_cdr_lock n = true :=
  ⟨7, 1, litLanes (lnk 0 4), by decide +kernel⟩

theorem witness_LanesReportSignalDegradeAdaptAndLoss_1c :
    ∃ (n : Nat) (ber : Nat) (s : State),
      s.live = true ∧ n < 256 ∧ 0 < ber ∧ ber < 45 ∧ s.flag F.TF_LANE_STAT_cdr_lock n = true :=
  ⟨7, 1, litLanes (lnkWith 0 5 [(F.TF_LPORT_CTL_sd_action, 1, 0)]), by decide +kernel⟩

theorem witness_LanesReportSignalDegradeAdaptAndLoss_2 :
    ∃ (n : Nat) (ber : Nat) (l : Nat) (s : State),
      s.live = true ∧ n < 256 ∧ 45 ≤ ber ∧ ber < 256 ∧ s.laneOwner n = some l ∧ s.flag F.TF_LANE_STAT_cdr_lock n = true :=
  ⟨7, 45, 0, withLp (litLanes (lnk 0 5)) 0 { lport0 with sdHeld := [6, 7] }, by decide +kernel⟩

theorem witness_LanesReportSignalDegradeAdaptAndLoss_2b :
    ∃ (n : Nat) (ber : Nat) (l : Nat) (s : State),
      s.live = true ∧ n < 256 ∧ 45 ≤ ber ∧ ber < 256 ∧ s.laneOwner n = some l ∧ s.flag F.TF_LANE_STAT_cdr_lock n = true ∧ (s.link l = 5 ∧ s.lanesLock l = true) :=
  ⟨7, 255, 0, withLp (litLanes (lnk 0 5)) 0 { lport0 with sdHeld := [7] }, by decide +kernel⟩

theorem witness_LanesReportSignalDegradeAdaptAndLoss_3 :
    ∃ (n : Nat) (s : State),
      s.live = true ∧ n < 256 ∧ s.flag F.TF_LANE_STAT_adapting n = true :=
  ⟨9, setsAt (inMode RUN) [(F.TF_LANE_STAT_adapting, 1, 9)], by decide⟩

theorem witness_LanesReportSignalDegradeAdaptAndLoss_4 :
    ∃ (n : Nat) (s : State),
      s.live = true ∧ n < 256 ∧ s.flag F.TF_LANE_STAT_adapting n = true :=
  ⟨9, setsAt (inMode RUN) [(F.TF_LANE_STAT_adapting, 1, 9)], by decide⟩

theorem witness_LanesReportSignalDegradeAdaptAndLoss_5 :
    ∃ (n : Nat) (l : Nat) (s : State),
      s.live = true ∧ n < 256 ∧ s.laneOwner n = some l ∧ ((s.link l = 2 ∨ s.link l = 4)) :=
  ⟨7, 0, lnk 0 4, by decide +kernel⟩

theorem witness_LanesReportSignalDegradeAdaptAndLoss_5b :
    ∃ (n : Nat) (l : Nat) (s : State),
      s.live = true ∧ n < 256 ∧ s.laneOwner n = some l ∧ ((s.link l = 2 ∨ s.link l = 4)) :=
  ⟨7, 0, lnk 0 2, by decide +kernel⟩

theorem witness_LanesReportSignalDegradeAdaptAndLoss_5c :
    ∃ (n : Nat) (l : Nat) (s : State),
      s.live = true ∧ n < 256 ∧ s.laneOwner n = some l ∧ ((s.link l = 2 ∨ s.link l = 4)) :=
  ⟨7, 0, lnk 0 2, by decide +kernel⟩

theorem witness_FramesPauseAndPfcAtTheMac_0 :
    ∃ (l : Nat) (bytes : List Byte) (fcsOk : Bool) (b : Bool) (s : State),
      s.live = true ∧ s.present l = true ∧ bytes ≠ [] ∧ s.receives l = true ∧ (isMacCtl bytes && fcsOk) = false ∧ (s.phys (l / 8)).inbuf = [] ∧ s.pickPipe (l / 8) (bytes.length + 4) = some b :=
  ⟨0, plain, true, false, lnk 0 4, by decide⟩

theorem witness_FramesPauseAndPfcAtTheMac_1 :
    ∃ (l : Nat) (bytes : List Byte) (fcsOk : Bool) (s : State),
      s.live = true ∧ s.present l = true ∧ bytes ≠ [] ∧ s.receives l = true ∧ (isMacCtl bytes && fcsOk) = false ∧ 524288 < rxBytes (s.phys (l / 8)).inbuf + (bytes.length + 4) ∧ ((∀ f r, (s.phys (l / 8)).inbuf = f :: r → s.pickPipe (l / 8) (rxLen f) = none)) :=
  ⟨0, plain, true, fullIn, ⟨by decide, by decide, by decide, by decide, by decide, full_inbuf, fun _ _ _ => full_no_pick _⟩⟩

theorem witness_FramesPauseAndPfcAtTheMac_2 :
    ∃ (l : Nat) (bytes : List Byte) (s : State),
      s.live = true ∧ s.present l = true ∧ bytes ≠ [] ∧ s.receives l = true ∧ isMacCtl bytes = true :=
  ⟨0, macCtl, lnk 0 4, by decide⟩

theorem witness_FramesPauseAndPfcAtTheMac_3 :
    ∃ (l : Nat) (c : Nat) (s : State),
      s.live = true ∧ s.present l = true ∧ s.receives l = true ∧ c < 8 :=
  ⟨0, 7, lnkWith 0 4 [(F.TF_LPORT_CTL_fc_mode, 1, 0), (F.TF_LPORT_CTL_pfc_rx_en, 0x80, 0)], by decide⟩

theorem witness_FramesPauseAndPfcAtTheMac_3b :
    ∃ (l : Nat) (c : Nat) (s : State),
      s.live = true ∧ s.present l = true ∧ s.receives l = true ∧ c < 8 :=
  ⟨0, 6, lnkWith 0 4 [(F.TF_LPORT_CTL_fc_mode, 1, 0), (F.TF_LPORT_CTL_pfc_rx_en, 0x80, 0)], by decide⟩

theorem witness_FramesPauseAndPfcAtTheMac_3c :
    ∃ (l : Nat) (c : Nat) (s : State),
      s.live = true ∧ s.present l = true ∧ s.receives l = true ∧ c < 8 :=
  ⟨0, 3, lnkWith 0 4 [(F.TF_LPORT_CTL_fc_mode, 2, 0)], by decide⟩

theorem witness_FramesPauseAndPfcAtTheMac_3d :
    ∃ (l : Nat) (c : Nat) (s : State),
      s.live = true ∧ s.present l = true ∧ s.receives l = true ∧ c < 8 :=
  ⟨0, 3, lnk 0 4, by decide⟩

theorem witness_FramesPauseAndPfcAtTheMac_4 :
    ∃ (l : Nat) (c : Nat) (s : State),
      s.live = true ∧ l < 256 ∧ c < 8 ∧ s.quantaOver l ((s.lp l).quanta.getD c 0) ((s.lp l).pauseAt.getD c 0) = true :=
  ⟨255, 7, setsAt (inMode RUN) [(F.TF_LPORT_STAT_rx_paused, 0xFF, 255)], by decide⟩

theorem witness_FramesPauseAndPfcAtTheMac_5 :
    ∃ (l : Nat) (c : Nat) (xoff : Bool) (s : State),
      s.live = true ∧ s.present l = true ∧ c < 8 ∧ s.xoffOn l c = xoff :=
  ⟨0, 7, true, setsAt (lnk 0 4) [(F.DT_LOSSLESS_xoff, 0x80, 0), (F.TF_LPORT_CTL_fc_mode, 1, 0), (F.TF_LPORT_CTL_pfc_tx_en, 0x80, 0)], by decide⟩

theorem witness_FramesPauseAndPfcAtTheMac_5b :
    ∃ (l : Nat) (c : Nat) (xoff : Bool) (s : State),
      s.live = true ∧ s.present l = true ∧ c < 8 ∧ s.xoffOn l c = xoff :=
  ⟨0, 7, false, lnk 0 3, by decide⟩

theorem witness_FramesPauseAndPfcAtTheMac_6 :
    ∃ (l : Nat) (c : Nat) (s : State),
      s.live = true ∧ s.present l = true ∧ c < 8 ∧ s.link l = 4 ∧ bitOf (s.get F.TF_LPORT_STAT_tx_xoff l) c = true ∧ s.pfcSends l c = true ∧ s.quantaOver l 0x8000 ((s.lp l).xoffAt.getD c 0) = true :=
  ⟨0, 7, later 11000 <| setsAt (lnk 0 4) [(F.TF_LPORT_STAT_tx_xoff, 0x80, 0), (F.TF_LPORT_CTL_fc_mode, 1, 0), (F.TF_LPORT_CTL_pfc_tx_en, 0x80, 0)], by decide⟩

theorem witness_FramedReceivePathsAlignAndReportDefects_0 :
    ∃ (l : Nat) (inst : Nat) (s : State),
      s.frmRuns l = true ∧ inst < s.flexos l :=
  ⟨0, 15, frmd { frm0 with aligner := 2 }, by decide⟩

theorem witness_FramedReceivePathsAlignAndReportDefects_1 :
    ∃ (l : Nat) (insts : Nat) (m : Nat) (s : State),
      s.frmRuns l = true ∧ m = s.get F.TF_FRM_STAT_instance_lock l ||| (insts % 2 ^ s.flexos l) :=
  ⟨0, 0xFFFF, 0xFFFF, frmd { frm0 with aligner := 2 }, by decide⟩

theorem witness_FramedReceivePathsAlignAndReportDefects_1b :
    ∃ (l : Nat) (insts : Nat) (m : Nat) (s : State),
      s.frmRuns l = true ∧ m = s.get F.TF_FRM_STAT_instance_lock l ||| (insts % 2 ^ s.flexos l) :=
  ⟨0, 1, 0xFFFF, frmd { frm0 with aligner := 2 }, by decide⟩

theorem witness_FramedReceivePathsAlignAndReportDefects_1c :
    ∃ (l : Nat) (insts : Nat) (m : Nat) (s : State),
      s.frmRuns l = true ∧ m = s.get F.TF_FRM_STAT_instance_lock l ||| (insts % 2 ^ s.flexos l) :=
  ⟨0, 6, 7, (frmd frm0).put F.TF_FRM_STAT_instance_lock 1 0, by decide +kernel⟩

theorem witness_FramedReceivePathsAlignAndReportDefects_2 :
    ∃ (l : Nat) (s : State),
      s.frmRuns l = true ∧ s.get F.TF_FRM_STAT_instance_lock l = 2 ^ s.flexos l - 1 :=
  ⟨0, frmd frm0, by decide +kernel⟩

theorem witness_FramedReceivePathsAlignAndReportDefects_3 :
    ∃ (l : Nat) (s : State),
      s.frmRuns l = true ∧ s.flag F.TF_FRM_STAT_skew_exceeded l = true ∧ s.get F.TF_FRM_STAT_instance_lock l = 2 ^ s.flexos l - 1 :=
  ⟨0, (frmd frm0).put F.TF_FRM_STAT_skew_exceeded 1, by decide +kernel⟩

theorem witness_FramedReceivePathsAlignAndReportDefects_3b :
    ∃ (l : Nat) (s : State),
      s.frmRuns l = true ∧ s.flag F.TF_FRM_STAT_skew_exceeded l = true ∧ s.get F.TF_FRM_STAT_instance_lock l = 2 ^ s.flexos l - 1 :=
  ⟨0, (frmd frm0).put F.TF_FRM_STAT_skew_exceeded 1, by decide +kernel⟩

theorem witness_FramedReceivePathsAlignAndReportDefects_4 :
    ∃ (l : Nat) (offset : Nat) (mfas : Nat) (s : State),
      s.frmRuns l = true ∧ s.deskewed l = true ∧ offset < 122368 ∧ mfas < 256 :=
  ⟨0, 122367, 255, frmd frm0, by decide⟩

theorem witness_FramedReceivePathsAlignAndReportDefects_4b :
    ∃ (l : Nat) (offset : Nat) (mfas : Nat) (s : State),
      s.frmRuns l = true ∧ s.deskewed l = true ∧ offset < 122368 ∧ mfas < 256 :=
  ⟨0, 5, 0, frmd { frm0 with cands := [⟨5, 1, 7, 1⟩] }, by decide⟩

theorem witness_FramedReceivePathsAlignAndReportDefects_5 :
    ∃ (l : Nat) (fr : OtucFrame) (c : FasCand) (s : State),
      s.frmRuns l = true ∧ s.deskewed l = true ∧ s.slicesFit l fr = true ∧ (s.frm l).cands.find? (fun x => decide (x.offset = fr.offset)) = some c :=
  ⟨0, frame 5 8 true, ⟨5, 1, 7, 1⟩, frmd { frm0 with cands := [⟨5, 1, 7, 1⟩] }, by decide⟩

theorem witness_FramedReceivePathsAlignAndReportDefects_5b :
    ∃ (l : Nat) (fr : OtucFrame) (c : FasCand) (s : State),
      s.frmRuns l = true ∧ s.deskewed l = true ∧ s.slicesFit l fr = true ∧ (s.frm l).cands.find? (fun x => decide (x.offset = fr.offset)) = some c :=
  ⟨0, frame 5 0 true, ⟨5, 3, 255, 2⟩, frmd { frm0 with aligner := 1, held := some 5, cands := [⟨5, 3, 255, 2⟩] }, by decide⟩

theorem witness_FramedReceivePathsAlignAndReportDefects_6 :
    ∃ (l : Nat) (fr : OtucFrame) (s : State),
      s.frmRuns l = true ∧ s.deskewed l = true ∧ s.slicesFit l fr = true ∧ (s.frm l).held = some fr.offset :=
  ⟨0, frame 5 9 true, frmd { frm0 with aligner := 2, held := some 5, expMfas := 100, misRun := 4 }, by decide⟩

theorem witness_FramedReceivePathsAlignAndReportDefects_6b :
    ∃ (l : Nat) (fr : OtucFrame) (s : State),
      s.frmRuns l = true ∧ s.deskewed l = true ∧ s.slicesFit l fr = true ∧ (s.frm l).held = some fr.offset :=
  ⟨0, frame 5 9 true, frmd { frm0 with aligner := 2, held := some 5, expMfas := 8, misRun := 4 }, by decide⟩

theorem witness_FramedReceivePathsAlignAndReportDefects_6c :
    ∃ (l : Nat) (fr : OtucFrame) (s : State),
      s.frmRuns l = true ∧ s.deskewed l = true ∧ s.slicesFit l fr = true ∧ (s.frm l).held = some fr.offset :=
  ⟨0, frame 5 9 false, frmd { frm0 with aligner := 3, held := some 5, errRun := 4 }, by decide⟩

theorem witness_FramedReceivePathsAlignAndReportDefects_7 :
    ∃ (l : Nat) (s : State),
      s.frmRuns l = true :=
  ⟨0, frmd frm0, by decide⟩

theorem witness_FramedReceivePathsAlignAndReportDefects_7b :
    ∃ (l : Nat) (s : State),
      s.frmRuns l = true :=
  ⟨0, frmd { frm0 with aligner := 1 }, by decide⟩

theorem witness_FramedReceivePathsAlignAndReportDefects_7c :
    ∃ (l : Nat) (s : State),
      s.frmRuns l = true :=
  ⟨0, frmd { frm0 with aligner := 2 }, by decide⟩

theorem witness_FramedReceivePathsAlignAndReportDefects_7d :
    ∃ (l : Nat) (s : State),
      s.frmRuns l = true :=
  ⟨0, frmd { frm0 with aligner := 3 }, by decide⟩

theorem witness_TimeStepsPulsesAndPortStateMessages_0 :
    ∃ (s : State),
      s.awake = true :=
  ⟨sets (inMode LOAD) [(F.TF_TIME_STEP_step_ns, 2 ^ 39 - 1)], by decide⟩

theorem witness_TimeStepsPulsesAndPortStateMessages_0b :
    ∃ (s : State),
      s.awake = true :=
  ⟨sets (inMode LOAD) [(F.TF_TIME_STEP_step_ns, 2 ^ 39)], by decide⟩

theorem witness_TimeStepsPulsesAndPortStateMessages_1 :
    ∃ (s : State),
      s.awake = true ∧ s.port.ppsDue = true :=
  ⟨{ inMode LOAD with port := { (inMode LOAD).port with ppsDue := true } }, by decide⟩

theorem witness_TimeStepsPulsesAndPortStateMessages_1b :
    ∃ (s : State),
      s.awake = true ∧ s.port.ppsDue = true :=
  ⟨sets { inMode RUN with time := 6000000000, port := { (inMode RUN).port with ppsDue := true } } [(F.TF_TOD_TX_tx_en, 1)], by decide⟩

theorem witness_TimeStepsPulsesAndPortStateMessages_2 :
    ∃ (s : State),
      s.awake = true :=
  ⟨sets { inMode RUN with time := 5999999999 } [(F.TF_TOD_RX_valid, 1)], by decide⟩

theorem witness_TimeStepsPulsesAndPortStateMessages_3 :
    ∃ (sec : Nat) (s : State),
      s.awake = true ∧ s.port.todDue = some sec ∧ s.port.ppsHigh + 9900000 ≤ s.up :=
  ⟨0x1234, { inMode LOAD with up := 10000000, port := { (inMode LOAD).port with todDue := some 0x1234, ppsHigh := 100000 } }, by decide⟩

theorem witness_TimeStepsPulsesAndPortStateMessages_4 :
    ∃ (sec : Nat) (flags : Nat) (edge : Nat) (head : List Byte) (body : List Byte) (check : List Byte) (s : State),
      s.awake = true ∧ s.port.ppsIn = some edge ∧ s.up ≤ edge + 900000000 ∧ sec < 2 ^ 48 ∧ flags < 256 ∧ head ++ body ++ check = todBytes sec flags :=
  ⟨0xAB0000000005, 255, 5, [0x55, 0xAA, 0x01], ((todBytes 0xAB0000000005 255).drop 3).take 7, (todBytes 0xAB0000000005 255).drop 10, { inMode LOAD with up := 900000005, port := { (inMode LOAD).port with ppsIn := some 5 } }, by decide +kernel⟩

theorem witness_TimeStepsPulsesAndPortStateMessages_5 :
    ∃ (m : List Byte) (head : List Byte) (body : List Byte) (check : List Byte) (s : State),
      s.awake = true ∧ head ++ body ++ check = m ∧ ((m.take 3 ≠ [0x55, 0xAA, 0x01] ∨ crc8 ((m.drop 2).take 8) ≠ beNat (m.drop 10) ∨ ∀ edge, s.port.ppsIn = some edge → edge + 900000000 < s.up)) :=
  ⟨todBytes 5 0, [0x55, 0xAA, 0x01], ((todBytes 5 0).drop 3).take 7, (todBytes 5 0).drop 10, { inMode LOAD with up := 900000006, port := { (inMode LOAD).port with ppsIn := some 5 } }, by refine ⟨by decide, rfl, .inr (.inr fun e h => ?_)⟩; cases h; decide⟩

theorem witness_TimeStepsPulsesAndPortStateMessages_5b :
    ∃ (m : List Byte) (head : List Byte) (body : List Byte) (check : List Byte) (s : State),
      s.awake = true ∧ head ++ body ++ check = m ∧ ((m.take 3 ≠ [0x55, 0xAA, 0x01] ∨ crc8 ((m.drop 2).take 8) ≠ beNat (m.drop 10) ∨ ∀ edge, s.port.ppsIn = some edge → edge + 900000000 < s.up)) :=
  ⟨List.replicate 11 0, List.replicate 3 0, List.replicate 7 0, [0], inMode LOAD, by decide⟩

theorem witness_TimeStepsPulsesAndPortStateMessages_6 :
    ∃ (l : Nat) (s : State),
      s.awake = true ∧ s.present l = true :=
  ⟨0, withLp (inMode LOAD) 0 { lport0 with txts := [(1, 2), (3, 4)] }, by decide⟩

theorem witness_TimeStepsPulsesAndPortStateMessages_7 :
    ∃ (s : State),
      s.live = true :=
  ⟨{ inMode RUN with fab := { fabSt0 with peers := [(3, peerUp)] } }, by decide⟩

theorem witness_TimeStepsPulsesAndPortStateMessages_8 :
    ∃ (m : Nat) (s : State),
      s.live = true ∧ m ≠ s.myId :=
  ⟨3, inMode RUN, by decide⟩

theorem witness_TimeStepsPulsesAndPortStateMessages_8b :
    ∃ (m : Nat) (s : State),
      s.live = true ∧ m ≠ s.myId :=
  ⟨3, (inMode RUN).setView 3 255 .up, by decide⟩

theorem witness_TimeStepsPulsesAndPortStateMessages_8c :
    ∃ (m : Nat) (s : State),
      s.live = true ∧ m ≠ s.myId :=
  ⟨3, inMode RUN, by decide⟩

end Sys2Proof.Tests
end

