-- ==== Sys2Proof/Tests/Witness7.lean ====
section
/-! SUPPORT. Witnesses: for each clause of a statement that has hypotheses, a state and operands that meet them all. -/

namespace Sys2Proof.Tests

set_option Elab.async false

open Sys2Proof Sys2Proof.Machine

/-- The datapath in RUN with its islands in service, and port 0 up. -/
def path : State := (onIsl (inMode RUN) [1, 17]).setView 0 0 .up

/-- A unit of pipeline A of port 0. -/
def unit (kind reason seq : Nat) (bytes : List Byte) : IdlUnit :=
  unitOf 0 false .packet ⟨seq, 0, kind, reason, 0, none, 0, 5, 0, false, 0, false, false, false, bytes.length + 4, 0, 0,
    0, 0⟩ bytes none

/-- A frame of 60 bytes. -/
def body60 : List Byte := List.replicate 60 0

/-- The unit in flight. -/
def inFlight (s : State) (u : IdlUnit) : State := { s with idl := { s.idl with up := [u] } }

/-- No pool has a block left. -/
def noCells (s : State) : State := { s with buf := { s.buf with used := [4000000, 4000000, 4000000] } }

/-- A copy for a port of a module, of body 0. -/
def pkt (dm dl : Nat) : Pkt :=
  ⟨0, dm, dl, 0, 64, 0, 0, 0, 5, none, none, false, false, 0, noTs, 60, 0, true, false, false, 0, 0, none, none⟩

/-- Body 0 in the buffer. -/
def withBody (s : State) : State :=
  { s with buf := { s.buf with bodies := [(0, ⟨body60, [⟨0, none⟩], .shared, 1, true⟩)], nextBody := 1, used := [1, 0, 0] } }

/-- A VOQ set. -/
def voqWith (v : Nat) (x : Voq) : State := (withBody path).setVoq v x

/-- Queue 64 enabled with a descriptor posted, bus mastering on. -/
def injects : State :=
  setsAt (busMaster path) [(F.TF_QCTX_CFG_enable, 1, 64), (F.TF_QCTX_STAT_host_idx, 1, 64)]

/-- A request set for port 0 and class 0, and windows that allow a credit. -/
def wants (l : List Nat) : State :=
  let s := setsAt path [(F.DT_EQ_PORT_win_kib, 64, 0), (F.DT_EQ_PORT_port_win_kib, 64, 0)]
  { s with sch := { schedSt0 with reqs := [(0, l)] } }

/-- A packet in egress queue 0 of port 0. -/
def queued : State := ({ withBody path with act := tables }).enqueue (pkt 0 0)

/-- A transmit buffer that is full. -/
def txWith (n : Nat) : State :=
  path.setPhys 0 { physPort0 with
    tx := [⟨0, 0, 0, true, false, 0, 0, noTs, .send (List.replicate n 0), 0, [], 0, none⟩] }
def fullTx : State := txWith 250000
theorem tx_bytes_one (n : Nat) : (txWith n).txBytes 0 = n + 4 := by
  have h : ((txWith n).phys 0).tx =
      [⟨0, 0, 0, true, false, 0, 0, noTs, .send (List.replicate n 0), 0, [], 0, none⟩] := rfl
  rw [State.txBytes, h]
  simp
theorem full_tx : fullTx.txFull 0 = true := by
  rw [State.txFull, fullTx, tx_bytes_one]
  decide

/-- Words of a node with a committed and a peak rate. -/
def shaped : Word × Word × Word := (0x200000400000000, 0x1400005, 0x7000003)

theorem witness_PipelinesEmitAndResequencersReleaseInOrder_0 :
    ∃ (p : Nat) (b : Bool) (f : RxFrame) (rest : List RxFrame) (s : State),
      s.pipeRuns p b = true ∧ pipeFifo (s.phys p) b = f :: rest ∧ (s.phys p).inbuf = [] ∧ f.lport < 256 ∧ f.seq < 2 ^ 32 :=
  ⟨0, false, rxf 0 7 body60, [], path.setPhys 0 { physPort0 with fifoA := [rxf 0 7 body60] }, by decide +kernel⟩

theorem witness_PipelinesEmitAndResequencersReleaseInOrder_0b :
    ∃ (p : Nat) (b : Bool) (f : RxFrame) (rest : List RxFrame) (s : State),
      s.pipeRuns p b = true ∧ pipeFifo (s.phys p) b = f :: rest ∧ (s.phys p).inbuf = [] ∧ f.lport < 256 ∧ f.seq < 2 ^ 32 :=
  ⟨0, true, { rxf 7 0xFFFFFFFF body60 with marked := true }, [], path.setPhys 0 { physPort0 with fifoB := [{ rxf 7 0xFFFFFFFF body60 with marked := true }] }, by decide +kernel⟩

theorem witness_PipelinesEmitAndResequencersReleaseInOrder_1 :
    ∃ (p : Nat) (b : Bool) (s : State),
      s.pipeRuns p b = true :=
  ⟨0, true, path, by decide +kernel⟩

theorem witness_PipelinesEmitAndResequencersReleaseInOrder_2 :
    ∃ (p : Nat) (u : IdlUnit) (rest : List IdlUnit) (s : State),
      s.live = true ∧ s.idl.up = u :: rest ∧ u.port = p ∧ (s.reseq p).waiting = [] ∧ (s.reseq p).held = [] ∧ (s.reseq p).next < 2 ^ 32 :=
  ⟨0, unit 1 1 0 [], [], inFlight path (unit 1 1 0 []), by decide +kernel⟩

theorem witness_PipelinesEmitAndResequencersReleaseInOrder_2b :
    ∃ (p : Nat) (u : IdlUnit) (rest : List IdlUnit) (s : State),
      s.live = true ∧ s.idl.up = u :: rest ∧ u.port = p ∧ (s.reseq p).waiting = [] ∧ (s.reseq p).held = [] ∧ (s.reseq p).next < 2 ^ 32 :=
  ⟨0, unit 1 1 5 [], [], inFlight path (unit 1 1 5 []), by decide +kernel⟩

theorem witness_PipelinesEmitAndResequencersReleaseInOrder_2c :
    ∃ (p : Nat) (u : IdlUnit) (rest : List IdlUnit) (s : State),
      s.live = true ∧ s.idl.up = u :: rest ∧ u.port = p ∧ (s.reseq p).waiting = [] ∧ (s.reseq p).held = [] ∧ (s.reseq p).next < 2 ^ 32 :=
  ⟨0, unit 1 1 0xFFFFFFFF [], [], inFlight path (unit 1 1 0xFFFFFFFF []), by decide +kernel⟩

theorem witness_PipelinesEmitAndResequencersReleaseInOrder_2d :
    ∃ (p : Nat) (u : IdlUnit) (rest : List IdlUnit) (s : State),
      s.live = true ∧ s.idl.up = u :: rest ∧ u.port = p ∧ (s.reseq p).waiting = [] ∧ (s.reseq p).held = [] ∧ (s.reseq p).next < 2 ^ 32 :=
  ⟨0, { unit 1 1 0 [] with w0 := 1 }, [], inFlight path { unit 1 1 0 [] with w0 := 1 }, by decide +kernel⟩

theorem witness_PipelinesEmitAndResequencersReleaseInOrder_2e :
    ∃ (p : Nat) (u : IdlUnit) (rest : List IdlUnit) (s : State),
      s.live = true ∧ s.idl.up = u :: rest ∧ u.port = p ∧ (s.reseq p).waiting = [] ∧ (s.reseq p).held = [] ∧ (s.reseq p).next < 2 ^ 32 ∧ ((∀ k < 3, s.poolHas k = false)) :=
  ⟨0, unit 0 0 0 body60, [], inFlight (noCells path) (unit 0 0 0 body60), by decide +kernel⟩

theorem witness_PipelinesEmitAndResequencersReleaseInOrder_2f :
    ∃ (p : Nat) (u : IdlUnit) (rest : List IdlUnit) (s : State),
      s.live = true ∧ s.idl.up = u :: rest ∧ u.port = p ∧ (s.reseq p).waiting = [] ∧ (s.reseq p).held = [] ∧ (s.reseq p).next < 2 ^ 32 :=
  ⟨0, unit 2 0 3 [], [], inFlight path (unit 2 0 3 []), by decide +kernel⟩

theorem witness_PipelinesEmitAndResequencersReleaseInOrder_3 :
    ∃ (p : Nat) (b : Bool) (s : State),
      s.live = true ∧ p < 32 ∧ stalledOn (s.reseq p) b = false ∧ s.creditHeld p b = false :=
  ⟨0, true, path, by decide +kernel⟩

theorem witness_PipelinesEmitAndResequencersReleaseInOrder_3b :
    ∃ (p : Nat) (b : Bool) (s : State),
      s.live = true ∧ p < 32 ∧ stalledOn (s.reseq p) b = false ∧ s.creditHeld p b = false :=
  ⟨0, false, path.setReseq 0 { reseq0 with held := [(5, .disposition (unit 1 1 5 []))] }, by decide +kernel⟩

theorem witness_PipelinesEmitAndResequencersReleaseInOrder_4 :
    ∃ (p : Nat) (b : Bool) (s : State),
      s.live = true ∧ p < 32 ∧ s.creditHeld p b = true ∧ (s.reseq p).waiting = [] :=
  ⟨0, false, path.setReseq 0 { reseq0 with holdA := true }, by decide +kernel⟩

theorem witness_PipelinesEmitAndResequencersReleaseInOrder_4b :
    ∃ (p : Nat) (b : Bool) (s : State),
      s.live = true ∧ p < 32 ∧ s.creditHeld p b = true ∧ (s.reseq p).waiting = [] :=
  ⟨0, true, { (path.setReseq 0 { reseq0 with holdB := true }) with buf := { (path.setReseq 0 { reseq0 with holdB := true }).buf with reseqUse := [(0, 400000000)] } }, by decide +kernel⟩

theorem witness_PipelinesEmitAndResequencersReleaseInOrder_5 :
    ∃ (u : IdlUnit) (rest : List IdlUnit) (s : State),
      s.live = true ∧ s.idl.mirrors = u :: rest :=
  ⟨unit 0 0 0 body60, [], { path with idl := { path.idl with mirrors := [unit 0 0 0 body60] } }, by decide +kernel⟩

theorem witness_AdmissionLoopInjectionAndBufferMacros_0 :
    ∃ (s : State),
      s.live = true :=
  ⟨setsAt path [(F.DT_ADM_PROF_loop_en, 1, 3), (F.DT_ADM_LOOP_u_low, 10, 0), (F.DT_ADM_LOOP_u_high, 20, 0)], by decide +kernel⟩

theorem witness_AdmissionLoopInjectionAndBufferMacros_0b :
    ∃ (s : State),
      s.live = true :=
  ⟨{ setsAt path [(F.DT_ADM_PROF_loop_en, 1, 3), (F.DT_ADM_LOOP_u_low, 10, 0), (F.DT_ADM_LOOP_u_high, 20, 0)] with buf := { path.buf with shared := 200000000, thrRef := [(3, 1)] } }, by decide +kernel⟩

theorem witness_AdmissionLoopInjectionAndBufferMacros_1 :
    ∃ (q : Nat) (s : State),
      s.live = true ∧ 64 ≤ q ∧ q < 128 ∧ s.qRuns q = true ∧ s.mayIssue 1 = true ∧ s.injNext = some (q - 64) :=
  ⟨64, injects, by decide +kernel⟩

theorem witness_AdmissionLoopInjectionAndBufferMacros_1b :
    ∃ (q : Nat) (s : State),
      s.live = true ∧ 64 ≤ q ∧ q < 128 ∧ s.qRuns q = true ∧ s.mayIssue 1 = true ∧ s.injNext = some (q - 64) :=
  ⟨64, noCells injects, by decide +kernel⟩

theorem witness_AdmissionLoopInjectionAndBufferMacros_2 :
    ∃ (q : Nat) (l : Nat) (w1 : Word) (bytes : List Byte) (s : State),
      s.live = true ∧ 64 ≤ q ∧ q < 128 ∧ s.qRuns q = true ∧ s.mayIssue 1 = true ∧ s.injNext = some (q - 64) ∧ l = bits w1.toNat 15 8 ∧ 60 ≤ bits w1.toNat 0 14 ∧ bits w1.toNat 0 14 ≤ 15996 ∧ s.present l = true ∧ bytes.length = bits w1.toNat 0 14 ∧ bitOf w1.toNat 14 = false ∧ rxBytes (s.phys (l / 8)).inbuf + (bytes.length + 4) ≤ 524288 :=
  ⟨64, 0, 60, body60, injects, by decide +kernel⟩

theorem witness_AdmissionLoopInjectionAndBufferMacros_3 :
    ∃ (m : Nat) (s : State),
      s.live = true ∧ m < 544 ∧ m ∉ s.buf.badMacros :=
  ⟨543, { path with buf := { path.buf with badMacros := [542] } }, by decide +kernel⟩

theorem witness_CreditsAreRequestedGrantedAndSpent_0 :
    ∃ (src : Nat) (l : Nat) (c : Nat) (w : Word) (s : State),
      s.live = true ∧ src < 256 ∧ src ≠ s.myId ∧ l = bits w.toNat 0 8 ∧ c = bits w.toNat 8 3 :=
  ⟨255, 255, 7, 0xFFF, path, by decide +kernel⟩

theorem witness_CreditsAreRequestedGrantedAndSpent_0b :
    ∃ (src : Nat) (l : Nat) (c : Nat) (w : Word) (s : State),
      s.live = true ∧ src < 256 ∧ src ≠ s.myId ∧ l = bits w.toNat 0 8 ∧ c = bits w.toNat 8 3 :=
  ⟨3, 0, 0, 0x10000, { wants [3, 4] with buf := { path.buf with resv := [(resvKey 3 0 0, 512)] } }, by decide +kernel⟩

theorem witness_CreditsAreRequestedGrantedAndSpent_1 :
    ∃ (l : Nat) (c : Nat) (src : Nat) (s : State),
      s.live = true ∧ l < 256 ∧ c < 8 ∧ s.nextGrant l c = some src ∧ s.grantWindow l c = true ∧ 4096 ≤ s.freeShared :=
  ⟨0, 0, 3, wants [3, 4], by decide +kernel⟩

theorem witness_CreditsAreRequestedGrantedAndSpent_1b :
    ∃ (l : Nat) (c : Nat) (src : Nat) (s : State),
      s.live = true ∧ l < 256 ∧ c < 8 ∧ s.nextGrant l c = some src ∧ s.grantWindow l c = true ∧ 4096 ≤ s.freeShared :=
  ⟨0, 0, 0, (wants [0]).setVoq 0 { voq0 with q := [⟨pkt 0 0, .die, 0⟩], reqOn := true }, by decide +kernel⟩

theorem witness_CreditsAreRequestedGrantedAndSpent_2 :
    ∃ (src : Nat) (v : Nat) (n : Nat) (w : Word) (s : State),
      s.live = true ∧ src < 256 ∧ src ≠ s.myId ∧ n = bits w.toNat 11 4 ∧ 0 < n ∧ v = voqId src (bits w.toNat 0 8) (bits w.toNat 8 3) :=
  ⟨3, voqId 3 0 0, 1, 0x800, path, by decide +kernel⟩

theorem witness_CreditsAreRequestedGrantedAndSpent_2b :
    ∃ (src : Nat) (v : Nat) (n : Nat) (w : Word) (s : State),
      s.live = true ∧ src < 256 ∧ src ≠ s.myId ∧ n = bits w.toNat 11 4 ∧ 0 < n ∧ v = voqId src (bits w.toNat 0 8) (bits w.toNat 8 3) :=
  ⟨3, voqId 3 0 0, 1, 0x800, voqWith (voqId 3 0 0) { voq0 with q := [⟨pkt 3 0, .die, 0⟩], reqOn := true }, by decide +kernel⟩

theorem witness_CreditsAreRequestedGrantedAndSpent_3 :
    ∃ (l : Nat) (c : Nat) (s : State),
      s.live = true ∧ s.freeShared < 4096 ∧ thas s.sch.reqs (l * 8 + c) = true ∧ c < 8 ∧ s.grantWindow l c = true ∧ (s.nextGrant l c).isSome = true :=
  ⟨0, 0, { wants [3] with buf := { path.buf with shared := 400000000 } }, by decide +kernel⟩

theorem witness_CreditsAreRequestedGrantedAndSpent_4 :
    ∃ (v : Nat) (e : VPkt) (rest : List VPkt) (s : State),
      s.live = true ∧ s.nextVoq = some v ∧ (s.voq v).q = e :: rest ∧ e.pkt.tr = none ∧ ((e.pkt.dm = s.myId → s.view s.myId e.pkt.dl = .up)) :=
  ⟨voqId 0 0 0, ⟨pkt 0 0, .die, 0⟩, [], voqWith 0 { voq0 with q := [⟨pkt 0 0, .die, 0⟩], balance := 4096 }, by decide +kernel⟩

theorem witness_CreditsAreRequestedGrantedAndSpent_4b :
    ∃ (v : Nat) (e : VPkt) (rest : List VPkt) (s : State),
      s.live = true ∧ s.nextVoq = some v ∧ (s.voq v).q = e :: rest ∧ e.pkt.tr = none ∧ ((e.pkt.dm = s.myId → s.view s.myId e.pkt.dl = .up)) :=
  ⟨voqId 3 5 0, ⟨pkt 3 5, .die, 0⟩, [], (voqWith (voqId 3 5 0) { voq0 with q := [⟨pkt 3 5, .die, 0⟩], balance := 4096 }).setView 3 5 .up, by decide +kernel⟩

theorem witness_CreditsAreRequestedGrantedAndSpent_5 :
    ∃ (l : Nat) (c : Nat) (since : Nat) (s : State),
      s.live = true ∧ tget? s.buf.ctOff (l * 8 + c) = some since ∧ since + 1000000 ≤ s.up :=
  ⟨0, 1, 9, { path with up := 1000009, buf := { path.buf with ctOff := [(1, 9)] } }, by decide +kernel⟩

theorem witness_TailRowsReadBackAndHoldExpiry_0 :
    ∃ (v : Nat) (s : State),
      s.live = true ∧ (s.voq v).written + s.rowSize ≤ (s.voq v).wOff ∧ s.deadStripe = false ∧ 0 < voqTail (s.voq v) :=
  ⟨8, voqWith 8 { voq0 with q := [⟨pkt 0 1, .staged, 0⟩], wOff := 4000, spilling := true, segs := [0] }, by decide +kernel⟩

theorem witness_TailRowsReadBackAndHoldExpiry_1 :
    ∃ (v : Nat) (s : State),
      s.live = true ∧ (s.voq v).written < (s.voq v).wOff ∧ (s.voq v).wOff < (s.voq v).written + s.rowSize ∧ (s.voq v).fedAt + 100000 ≤ s.up ∧ s.deadStripe = false ∧ 0 < voqTail (s.voq v) :=
  ⟨8, { voqWith 8 { voq0 with q := [⟨pkt 0 1, .staged, 0⟩], wOff := 100, spilling := true, segs := [0], fedAt := 7 } with up := 100007 }, by decide +kernel⟩

theorem witness_TailRowsReadBackAndHoldExpiry_2 :
    ∃ (v : Nat) (e : VPkt) (s : State),
      s.live = true ∧ (s.voq v).spilling = true ∧ (s.voq v).q = [e] ∧ e.place = .staged ∧ (s.voq v).written ≤ e.off ∧ 0 < e.pkt.a ∧ 0 < s.spillAt v ∧ segSize ≤ s.freeShared :=
  ⟨8, ⟨pkt 0 1, .staged, 0⟩, voqWith 8 { voq0 with q := [⟨pkt 0 1, .staged, 0⟩], wOff := 60, spilling := true, segs := [0] }, by decide +kernel⟩

theorem witness_TailRowsReadBackAndHoldExpiry_3 :
    ∃ (m : Nat) (l : Nat) (s : State),
      s.live = true ∧ l < 256 ∧ s.view m l = .hold ∧ tget s.buf.holdAt (viewKey m l) 0 + s.holdMs l * 1000000 ≤ s.up :=
  ⟨0, 0, { queued.setView 0 0 .hold with up := 2000000000 }, by decide +kernel⟩

theorem witness_TailRowsReadBackAndHoldExpiry_3b :
    ∃ (m : Nat) (l : Nat) (s : State),
      s.live = true ∧ l < 256 ∧ s.view m l = .hold ∧ tget s.buf.holdAt (viewKey m l) 0 + s.holdMs l * 1000000 ≤ s.up :=
  ⟨3, 255, { (path.setView 3 255 .hold).setVoq (voqId 3 255 7) { voq0 with q := [⟨pkt 3 255, .die, 0⟩] } with up := 2000000000 }, by decide +kernel⟩

theorem witness_TailRowsReadBackAndHoldExpiry_3c :
    ∃ (m : Nat) (l : Nat) (s : State),
      s.live = true ∧ l < 256 ∧ s.view m l = .hold ∧ tget s.buf.holdAt (viewKey m l) 0 + s.holdMs l * 1000000 ≤ s.up :=
  ⟨3, 5, { (setsAt path [(F.DT_PORT_HOLD_protect_en, 1, 5)]).setView 3 5 .hold with up := 2000000000 }, by decide +kernel⟩

theorem witness_TailRowsReadBackAndHoldExpiry_4 :
    ∃ (l : Nat) (c : Nat) (s : State),
      ((s.mode = DRAIN ∨ s.mode = QUIESCED)) ∧ l < 256 ∧ c < 8 ∧ bitOf (s.get F.TF_LPORT_STAT_rx_paused l) c = true ∧ s.protectOf l = none ∧ (s.lp l).since.getD c 0 + s.holdMs l * 1000000 < s.up :=
  ⟨0, 0, { setsAt (sets queued [(F.KV_MODE_mode, DRAIN)]) [(F.TF_LPORT_STAT_rx_paused, 1, 0)] with up := 2000000000 }, by decide +kernel⟩

theorem witness_SchedulingDecisionsAndRefills_0 :
    ∃ (p : Nat) (l : Nat) (g : Nat) (sub : Nat) (q : Nat) (b : Bool) (x : Pkt) (rest : List Pkt) (s : State),
      s.live = true ∧ p < 32 ∧ s.nextPort p = some l ∧ s.egPick p = some b ∧ s.pickChild 0 l = some g ∧ s.pickChild 1 g = some sub ∧ s.pickChild 2 sub = some q ∧ s.equeue q = x :: rest ∧ s.deadStripe = false :=
  ⟨0, 0, 0, 0, 0, false, pkt 0 0, [], queued, by decide +kernel⟩

theorem witness_SchedulingDecisionsAndRefills_1 :
    ∃ (p : Nat) (s : State),
      s.live = true ∧ s.nextPort p = none :=
  ⟨0, path, by decide +kernel⟩

theorem witness_SchedulingDecisionsAndRefills_2 :
    ∃ (s : State),
      s.live = true :=
  ⟨{ path with sch := { schedSt0 with nodes := [(0, { nodeInit shaped with c := -9, p := 1 }), (131072, { nodeInit shaped with pend := some (0, 1, 1) })], pols := [(3, ⟨(0x4000000, 0x1400005, 0x7000003), 4, 5, none⟩), (4, policer0), (5, ⟨(0x4040000, 0x1400005, 0x7000003), 24, 5, none⟩)] } }, by decide +kernel⟩

theorem witness_SchedulingDecisionsAndRefills_3 :
    ∃ (p : Nat) (s : State),
      s.live = true ∧ p < 32 ∧ s.txFull p = true :=
  ⟨0, fullTx, ⟨by decide, by decide, full_tx⟩⟩

end Sys2Proof.Tests
end

