-- ==== Sys2Proof/Tests/Witness8.lean ====
section
/-! SUPPORT. Witnesses: for each clause of a statement that has hypotheses, a state and operands that meet them all. -/

namespace Sys2Proof.Tests

set_option Elab.async false

open Sys2Proof Sys2Proof.Machine

/-- The fabric in use: lane 0 of plane 0 UP, and module 3 heard on that plane both ways. -/
def fab : State :=
  { setsAt (onIsl (inMode RUN) [1, 17, 49, 56]) [(F.DT_FAB_LANE_state, 3, 0)] with
    fab := { fabSt0 with peers := [(3, ⟨1, 1, true, none, 7, [], [], 0⟩)] } }

/-- A lane in a state. -/
def lane (n st : Nat) : State := setsAt (onIsl (inMode RAISE) [49, 56]) [(F.DT_FAB_LANE_state, st, n)]

/-- With a link layer. -/
def laneWith (x : FabLink) : State := (lane 0 3).setFlink 0 x

/-- A cell from module 3. -/
def cell (type stream seq : Nat) (pay : List Byte) : Cell :=
  mkCell { cellHdr type stream 3 0 with sop := true, eop := true, seq := seq } 64 0 0 pay

/-- A frame of 60 bytes, a copy of body 0, and the body in the buffer. -/
def body60' : List Byte := List.replicate 60 0
def copyFor (dm dl : Nat) : Pkt :=
  ⟨0, dm, dl, 0, 64, 0, 0, 0, 5, none, none, false, false, 0, noTs, 60, 0, true, false, false, 0, 0, none, none⟩
def withBody60 (complete : Bool) (s : State) : State :=
  { s with buf := { s.buf with
      bodies := [(0, ⟨body60', [⟨0, none⟩], .shared, 1, complete⟩)], nextBody := 1, used := [1, 0, 0] } }

/-- A tether record of a cell of stream 0 toward module 3. -/
def tether (seq : Nat) : Tether := ⟨seq, mkCell { cellHdr 0 0 0 3 with seq := seq } 0 0 0 [], 0, [], 0⟩

/-- The same later. -/
def since (n : Nat) (s : State) : State := { s with up := n }

/-- Messages toward module 3. -/
def withMsgs (q : MsgQ) : State := { fab with fab := { fab.fab with msgs := [(3, q)] } }

/-- Source stream st toward module 3. -/
def withTx (st : Nat) (x : TxStream) : State := fab.setTxs 3 st x

/-- A cell that the lane has delivered. -/
def delivered (s : State) (c : Cell) : State := { s with fab := { s.fab with arrived := [(0, c)] } }

/-- A unit of port 0 in egress pipeline A, a copy at its MAC, and what is outstanding of it. -/
def egu (raw hdrOk : Bool) (eseq : Nat) : EgUnit :=
  ⟨9, 0, 0, false, none, false, false, none, 64, 0, 0, 0, 0, eseq, { noTs with raw := raw }, 0, body60', hdrOk, none⟩
def txc (stage : Nat) (listed : Bool) : TxCopy :=
  ⟨9, 0, 0, true, listed, 0, 0, noTs, .send body60', stage, [], 0, none⟩
def outst9 : Outstanding := ⟨copyFor 0 0, 0, false, 0, 0, 0, false, some 5⟩

/-- The datapath with port 0 up. -/
def port0up : State := setsAt ((onIsl (inMode RUN) [1, 17]).setView 0 0 .up) [(F.TF_LPORT_STAT_link_state, 4, 0)]

/-- With the egress side of physical port 0. -/
def egPort (x : PhysPort) : State := port0up.setPhys 0 x

/-- With a unit outstanding, and a report. -/
def reported (complete : Bool) (status : Nat) : State :=
  { withBody60 complete port0up with
    sch := { schedSt0 with outst := [(9, outst9)] }, port := { port0up.port with reports := [.one 9 0 status 0 0 [] none] } }

theorem witness_FabricLanesTrainFailAndReplay_0 :
    ∃ (n : Nat) (s : State),
      RAISE ≤ s.mode ∧ s.fabOn = true ∧ n < 320 ∧ s.isOn (49 + n / 40) = true ∧ s.laneSt n = 0 :=
  ⟨0, lane 0 0, by decide +kernel⟩

theorem witness_FabricLanesTrainFailAndReplay_0b :
    ∃ (n : Nat) (s : State),
      RAISE ≤ s.mode ∧ s.fabOn = true ∧ n < 320 ∧ s.isOn (49 + n / 40) = true ∧ s.laneSt n = 0 :=
  ⟨319, lane 319 0, by decide +kernel⟩

theorem witness_FabricLanesTrainFailAndReplay_1 :
    ∃ (n : Nat) (s : State),
      n < 320 ∧ s.laneSt n = 1 :=
  ⟨319, lane 319 1, by decide +kernel⟩

theorem witness_FabricLanesTrainFailAndReplay_2 :
    ∃ (n : Nat) (s : State),
      n < 320 ∧ s.laneSt n = 1 ∧ tget s.fab.laneAt n 0 + 500000000 ≤ s.up :=
  ⟨319, since 500000000 (lane 319 1), by decide +kernel⟩

theorem witness_FabricLanesTrainFailAndReplay_3 :
    ∃ (n : Nat) (s : State),
      n < 320 ∧ s.laneSt n = 2 ∧ tget s.fab.laneAt n 0 + 1000000 ≤ s.up :=
  ⟨319, since 1000000 { lane 319 2 with fab := { fabSt0 with down := [(319, true)] } }, by decide +kernel⟩

theorem witness_FabricLanesTrainFailAndReplay_4 :
    ∃ (n : Nat) (s : State),
      n < 320 ∧ 2 ≤ s.laneSt n :=
  ⟨0, lane 0 3, by decide +kernel⟩

theorem witness_FabricLanesTrainFailAndReplay_4b :
    ∃ (n : Nat) (s : State),
      n < 320 ∧ 2 ≤ s.laneSt n :=
  ⟨319, setsAt (lane 319 2) [(F.DT_FAB_LANE_fails, 255, 319)], by decide +kernel⟩

theorem witness_FabricLanesTrainFailAndReplay_5 :
    ∃ (n : Nat) (s : State),
      n < 320 ∧ 1 ≤ s.laneSt n :=
  ⟨0, lane 0 1, by decide +kernel⟩

theorem witness_FabricLanesTrainFailAndReplay_6 :
    ∃ (n : Nat) (s : State),
      n < 320 ∧ 1 ≤ s.laneSt n ∧ (s.flink n).replay = [] :=
  ⟨0, laneWith { fabLink0 with rxSeq := 4095 }, by decide +kernel⟩

theorem witness_FabricLanesTrainFailAndReplay_6b :
    ∃ (n : Nat) (s : State),
      n < 320 ∧ 1 ≤ s.laneSt n ∧ (s.flink n).replay = [] :=
  ⟨0, lane 0 3, by decide +kernel⟩

theorem witness_FabricLanesTrainFailAndReplay_6c :
    ∃ (n : Nat) (s : State),
      n < 320 ∧ 1 ≤ s.laneSt n ∧ (s.flink n).replay = [] :=
  ⟨0, laneWith { fabLink0 with nakked := true }, by decide +kernel⟩

theorem witness_FabricLanesTrainFailAndReplay_7 :
    ∃ (n : Nat) (s : State),
      n < 320 ∧ 1 ≤ s.laneSt n :=
  ⟨0, lane 0 1, by decide +kernel⟩

theorem witness_FabricLanesTrainFailAndReplay_8 :
    ∃ (n : Nat) (ack : Nat) (c : Cell) (rest : List (Nat × Cell)) (s : State),
      n < 320 ∧ 1 ≤ s.laneSt n ∧ (s.flink n).replay = (ack, c) :: rest ∧ ((∀ m st, ∀ r ∈ (s.txs m st).recs, s.recLost m r = false)) :=
  ⟨0, 7, cell 0 0 0 [], [(8, cell 0 0 1 [])], laneWith { fabLink0 with replay := [(7, cell 0 0 0 []), (8, cell 0 0 1 [])], replays := 3 }, ⟨by decide, by decide, by decide +kernel, fun _ _ r (h : r ∈ ([] : List Tether)) => nomatch h⟩⟩

theorem witness_FabricLanesTrainFailAndReplay_9 :
    ∃ (n : Nat) (ack : Nat) (e : Nat × Cell) (s : State),
      n < 320 ∧ 1 ≤ s.laneSt n ∧ (s.flink n).replay = [e] ∧ e.1 ≠ ack ∧ (s.flink n).replays < 7 :=
  ⟨0, 6, (7, cell 0 0 0 []), laneWith { fabLink0 with replay := [(7, cell 0 0 0 [])], replays := 6 }, by decide +kernel⟩

theorem witness_SourceStreamsSendAckResendAndRestart_0 :
    ∃ (m : Nat) (st : Nat) (n : Nat) (p : Pkt) (s : State),
      m < 256 ∧ st < 8 ∧ s.slotFor m true = some n ∧ (s.txs m st).pkts = [p] ∧ (s.txs m st).cut = 0 ∧ cellsOf p.length = 1 ∧ s.deadStripe = false :=
  ⟨3, 0, 0, copyFor 3 5, (withBody60 true (withTx 0 { txStream0 with next := 0xFFFFFFFF, pkts := [copyFor 3 5] })), by decide +kernel⟩

theorem witness_SourceStreamsSendAckResendAndRestart_1 :
    ∃ (m : Nat) (n : Nat) (s : State),
      s.slotFor m false = some n ∧ (s.msgs m).ctl ≠ [] :=
  ⟨3, 0, withMsgs { msgQ0 with ctl := [portStateMsg 7 true] }, by decide +kernel⟩

theorem witness_SourceStreamsSendAckResendAndRestart_2 :
    ∃ (m : Nat) (n : Nat) (grant : Bool) (s : State),
      s.slotFor m false = some n ∧ s.creditDue (if grant then (s.msgs m).grant else (s.msgs m).req) = true :=
  ⟨3, 0, true, since 1000000 (withMsgs { msgQ0 with grant := [(0, 0x800)] }), by decide +kernel⟩

theorem witness_SourceStreamsSendAckResendAndRestart_2b :
    ∃ (m : Nat) (n : Nat) (grant : Bool) (s : State),
      s.slotFor m false = some n ∧ s.creditDue (if grant then (s.msgs m).grant else (s.msgs m).req) = true :=
  ⟨3, 0, false, withMsgs { msgQ0 with req := List.replicate 60 (0, 0x800) }, by decide +kernel⟩

theorem witness_SourceStreamsSendAckResendAndRestart_3 :
    ∃ (src : Nat) (st : Nat) (nx : Nat) (w : Word) (s : State),
      s.live = true ∧ s.fabOn = true ∧ src < 256 ∧ src ≠ s.myId ∧ st = bits w.toNat 0 4 ∧ st < 9 ∧ nx = bits w.toNat 32 32 :=
  ⟨3, 0, 5, 0x500000000, withTx 0 { txStream0 with next := 7, acked := 3, recs := [tether 3, tether 4, tether 5, tether 6] }, by decide +kernel⟩

theorem witness_SourceStreamsSendAckResendAndRestart_3b :
    ∃ (src : Nat) (st : Nat) (nx : Nat) (w : Word) (s : State),
      s.live = true ∧ s.fabOn = true ∧ src < 256 ∧ src ≠ s.myId ∧ st = bits w.toNat 0 4 ∧ st < 9 ∧ nx = bits w.toNat 32 32 :=
  ⟨3, 8, 3, 0x300000008, withTx 8 { txStream0 with next := 7, acked := 3 }, by decide +kernel⟩

theorem witness_SourceStreamsSendAckResendAndRestart_3c :
    ∃ (src : Nat) (st : Nat) (nx : Nat) (w : Word) (s : State),
      s.live = true ∧ s.fabOn = true ∧ src < 256 ∧ src ≠ s.myId ∧ st = bits w.toNat 0 4 ∧ st < 9 ∧ nx = bits w.toNat 32 32 :=
  ⟨3, 0, 9, 0x900000000, withTx 0 { txStream0 with next := 7, acked := 3 }, by decide +kernel⟩

theorem witness_SourceStreamsSendAckResendAndRestart_4 :
    ∃ (m : Nat) (c : Nat) (r : Tether) (rest : List Tether) (s : State),
      s.live = true ∧ s.fabOn = true ∧ (s.peer m).reachable = true ∧ (s.pickLane m none).isSome = true ∧ (s.txs m c).recs = r :: rest ∧ r.sentAt + s.rtoNs (s.txs m c) ≤ s.up :=
  ⟨3, 0, tether 3, [], since 10000000 <| withTx 0 { txStream0 with next := 4, acked := 3, recs := [tether 3], backoff := 3 }, by decide +kernel⟩

theorem witness_SourceStreamsSendAckResendAndRestart_5 :
    ∃ (m : Nat) (s : State),
      s.live = true ∧ s.fabOn = true ∧ m ∈ tkeys s.fab.peers ∧ s.abandonDue m = true :=
  ⟨3, since 10000000000 <| withTx 0 { txStream0 with next := 4, acked := 3, recs := [tether 3] }, by decide +kernel⟩

theorem witness_DestinationStreamsReleaseInOrderAndHeartbeatsReach_0 :
    ∃ (n : Nat) (src : Nat) (st : Nat) (c : Cell) (rest : List (Nat × Cell)) (s : State),
      s.live = true ∧ s.fabOn = true ∧ s.fab.arrived = (n, c) :: rest ∧ src = cSrc c ∧ st = cStream c ∧ cellOk c = false :=
  ⟨0, 3, 0, { cell 0 0 0 [] with w0 := 0x300 }, [], delivered fab { cell 0 0 0 [] with w0 := 0x300 }, by decide +kernel⟩

theorem witness_DestinationStreamsReleaseInOrderAndHeartbeatsReach_0b :
    ∃ (n : Nat) (src : Nat) (st : Nat) (c : Cell) (rest : List (Nat × Cell)) (s : State),
      s.live = true ∧ s.fabOn = true ∧ s.fab.arrived = (n, c) :: rest ∧ src = cSrc c ∧ st = cStream c ∧ (cellOk c = true ∧ cType c = 0 ∧ serBefore 32 (cSeq c) (s.rxs src st).next = true) :=
  ⟨0, 3, 0, cell 0 0 0xFFFFFFFF body60', [], delivered fab (cell 0 0 0xFFFFFFFF body60'), by decide +kernel⟩

theorem witness_DestinationStreamsReleaseInOrderAndHeartbeatsReach_0c :
    ∃ (n : Nat) (src : Nat) (st : Nat) (c : Cell) (rest : List (Nat × Cell)) (s : State),
      s.live = true ∧ s.fabOn = true ∧ s.fab.arrived = (n, c) :: rest ∧ src = cSrc c ∧ st = cStream c ∧ (cellOk c = true ∧ cType c = 0 ∧ serBefore 32 (s.rxs src st).next (cSeq c) = true) :=
  ⟨0, 3, 0, cell 0 0 65535 body60', [], delivered fab (cell 0 0 65535 body60'), by decide +kernel⟩

theorem witness_DestinationStreamsReleaseInOrderAndHeartbeatsReach_0d :
    ∃ (n : Nat) (src : Nat) (st : Nat) (c : Cell) (rest : List (Nat × Cell)) (s : State),
      s.live = true ∧ s.fabOn = true ∧ s.fab.arrived = (n, c) :: rest ∧ src = cSrc c ∧ st = cStream c ∧ (cellOk c = true ∧ msgWords c.payload = [0x1070]) :=
  ⟨0, 3, 8, cell 6 8 0 (beBytes 8 0x1070 ++ List.replicate 24 0), [], delivered fab (cell 6 8 0 (beBytes 8 0x1070 ++ List.replicate 24 0)), by decide +kernel⟩

theorem witness_DestinationStreamsReleaseInOrderAndHeartbeatsReach_1 :
    ∃ (src : Nat) (n : Nat) (st0 : Nat) (s : State),
      s.live = true ∧ s.fabOn = true ∧ (s.pickLane src none).filter s.ctlFree = some n ∧ st0 < 9 ∧ s.ackDue (s.rxs src st0) = true :=
  ⟨3, 0, 4, { fab with fab := { fab.fab with rx := [(16 * 3 + 4, { rxStream0 with since := 3, next := 3, owed := true })] } }, by decide +kernel⟩

theorem witness_DestinationStreamsReleaseInOrderAndHeartbeatsReach_2 :
    ∃ (m : Nat) (c : Nat) (q : Nat) (since : Nat) (s : State),
      s.live = true ∧ (q, since) ∈ (s.rxs m c).heldAt ∧ since + 200000 ≤ s.up :=
  ⟨3, 4, 5, 7, since 200007 { fab with fab := { fab.fab with rx := [(16 * 3 + 4, { rxStream0 with held := [(5, cell 0 4 5 [])], heldAt := [(5, 7)] })] } }, by decide +kernel⟩

theorem witness_DestinationStreamsReleaseInOrderAndHeartbeatsReach_3 :
    ∃ (m : Nat) (k : Nat) (n : Nat) (s : State),
      s.live = true ∧ s.fabOn = true ∧ s.peerModules = [m] ∧ k < 8 ∧ s.hbLane k = some n ∧ ((∀ t0, s.fab.hbSent = some t0 → t0 + s.hbNs ≤ s.up)) :=
  ⟨3, 0, 0, sets fab [(F.KV_MODE_topology, 2)], ⟨by decide +kernel, by decide +kernel, by decide +kernel, by decide, by decide +kernel, fun _ (h : (none : Option Nat) = some _) => nomatch h⟩⟩

theorem witness_DestinationStreamsReleaseInOrderAndHeartbeatsReach_4 :
    ∃ (plane : Nat) (c : Cell) (s : State),
      s.live = true ∧ s.fabOn = true ∧ plane < 8 ∧ cellOk c = true ∧ cType c = 5 :=
  ⟨7, cell 5 0 0 (beBytes 8 0xFF0000ABCD), fab, by decide +kernel⟩

theorem witness_DestinationStreamsReleaseInOrderAndHeartbeatsReach_4b :
    ∃ (plane : Nat) (c : Cell) (s : State),
      s.live = true ∧ s.fabOn = true ∧ plane < 8 ∧ cellOk c = true ∧ cType c = 5 :=
  ⟨0, mkCell (cellHdr 5 0 0 0) 0 0 0 (beBytes 8 0xFF0000ABCD), fab, by decide +kernel⟩

theorem witness_DestinationStreamsReleaseInOrderAndHeartbeatsReach_5 :
    ∃ (m : Nat) (plane : Nat) (s : State),
      s.live = true ∧ s.fabOn = true ∧ plane < 8 ∧ bitOf (s.peer m).heardOn plane = true ∧ tget (s.peer m).hbAt plane 0 + 3 * s.hbNs ≤ s.up :=
  ⟨3, 0, since 10000000 { fab with buf := { fab.buf with resv := [(resvKey 3 255 7, 4096)] } }, by decide +kernel⟩

theorem witness_DestinationStreamsReleaseInOrderAndHeartbeatsReach_5b :
    ∃ (m : Nat) (plane : Nat) (s : State),
      s.live = true ∧ s.fabOn = true ∧ plane < 8 ∧ bitOf (s.peer m).heardOn plane = true ∧ tget (s.peer m).hbAt plane 0 + 3 * s.hbNs ≤ s.up :=
  ⟨3, 0, since 10000000 { fab with fab := { fab.fab with peers := [(3, ⟨3, 3, true, none, 7, [], [], 0⟩)] } }, by decide +kernel⟩

theorem witness_UnitsAreRewrittenTransmittedReportedAndSettled_0 :
    ∃ (p : Nat) (b : Bool) (u : EgUnit) (rest : List EgUnit) (s : State),
      s.live = true ∧ p < 32 ∧ s.egPipeOk p b = true ∧ egFifo (s.phys p) b = u :: rest :=
  ⟨0, false, egu true true 0, [], egPort { physPort0 with egA := [egu true true 0] }, by decide +kernel⟩

theorem witness_UnitsAreRewrittenTransmittedReportedAndSettled_0b :
    ∃ (p : Nat) (b : Bool) (u : EgUnit) (rest : List EgUnit) (s : State),
      s.live = true ∧ p < 32 ∧ s.egPipeOk p b = true ∧ egFifo (s.phys p) b = u :: rest :=
  ⟨0, false, egu true true 0xFFFF, [], egPort { physPort0 with egA := [egu true true 0xFFFF] }, by decide +kernel⟩

theorem witness_UnitsAreRewrittenTransmittedReportedAndSettled_0c :
    ∃ (p : Nat) (b : Bool) (u : EgUnit) (rest : List EgUnit) (s : State),
      s.live = true ∧ p < 32 ∧ s.egPipeOk p b = true ∧ egFifo (s.phys p) b = u :: rest :=
  ⟨0, false, egu false false 0, [], egPort { physPort0 with egA := [egu false false 0] }, by decide +kernel⟩

theorem witness_UnitsAreRewrittenTransmittedReportedAndSettled_1 :
    ∃ (p : Nat) (c : TxCopy) (b : List Byte) (s : State),
      s.live = true ∧ p < 32 ∧ (s.phys p).tx = [c] ∧ c.eseq = (s.phys p).nextEseq ∧ c.stage = 0 ∧ c.fate = .send b ∧ c.last = true ∧ c.ts.req = 0 ∧ s.link c.lport = 4 ∧ bitOf (s.get F.TF_LPORT_STAT_rx_paused c.lport) c.cls = false :=
  ⟨0, txc 0 false, body60', egPort { physPort0 with tx := [txc 0 false] }, by decide +kernel⟩

theorem witness_UnitsAreRewrittenTransmittedReportedAndSettled_2 :
    ∃ (l : Nat) (c : TxCopy) (b : List Byte) (s : State),
      s.live = true ∧ l < 256 ∧ s.mode ≠ MAINTENANCE ∧ (s.phys (l / 8)).tx = [c] ∧ c.lport = l ∧ c.stage = 1 ∧ c.fate = .send b ∧ c.last = true :=
  ⟨0, txc 1 true, body60', egPort { physPort0 with tx := [txc 1 true] }, by decide +kernel⟩

theorem witness_UnitsAreRewrittenTransmittedReportedAndSettled_2b :
    ∃ (l : Nat) (c : TxCopy) (b : List Byte) (s : State),
      s.live = true ∧ l < 256 ∧ s.mode ≠ MAINTENANCE ∧ (s.phys (l / 8)).tx = [c] ∧ c.lport = l ∧ c.stage = 1 ∧ c.fate = .send b ∧ c.last = true :=
  ⟨0, txc 1 false, body60', egPort { physPort0 with tx := [txc 1 false] }, by decide +kernel⟩

theorem witness_UnitsAreRewrittenTransmittedReportedAndSettled_3 :
    ∃ (l : Nat) (c : TxCopy) (s : State),
      s.live = true ∧ l < 256 ∧ s.link l ≠ 4 ∧ (s.phys (l / 8)).tx = [c] ∧ c.lport = l ∧ c.stage = 1 :=
  ⟨0, txc 1 false, (egPort { physPort0 with tx := [txc 1 false] }).put F.TF_LPORT_STAT_link_state 5, by decide +kernel⟩

theorem witness_UnitsAreRewrittenTransmittedReportedAndSettled_4 :
    ∃ (p : Nat) (a : RunUnit) (r : List RunUnit) (s : State),
      s.live = true ∧ p < 32 ∧ (s.phys p).run = a :: r :=
  ⟨31, ⟨0xFFFF, 5, [], none⟩, [⟨0, 6, [], none⟩], port0up.setPhys 31 { physPort0 with run := [⟨0xFFFF, 5, [], none⟩, ⟨0, 6, [], none⟩] }, by decide +kernel⟩

theorem witness_UnitsAreRewrittenTransmittedReportedAndSettled_5 :
    ∃ (h : Nat) (copy : Nat) (sentAt : Nat) (reason : Nat) (ex : List Byte) (rest : List Report) (o : Outstanding) (s : State),
      s.live = true ∧ s.port.reports = .one h copy 0 reason sentAt ex none :: rest ∧ tget? s.sch.outst h = some o ∧ s.unitCopies o.pkt ≤ copy + 1 :=
  ⟨9, 0, 0, 0, [], [], outst9, reported true 0, by decide +kernel⟩

theorem witness_UnitsAreRewrittenTransmittedReportedAndSettled_6 :
    ∃ (h : Nat) (copy : Nat) (sentAt : Nat) (reason : Nat) (ex : List Byte) (rest : List Report) (o : Outstanding) (s : State),
      s.live = true ∧ s.port.reports = .one h copy 3 reason sentAt ex none :: rest ∧ tget? s.sch.outst h = some o ∧ o.down = false ∧ (s.body o.pkt.body).complete = false :=
  ⟨9, 0, 0, 0, [], [], outst9, reported false 3, by decide +kernel⟩

theorem witness_UnitsAreRewrittenTransmittedReportedAndSettled_7 :
    ∃ (h : Nat) (sent : Nat) (o : Outstanding) (s : State),
      s.live = true ∧ tget? s.sch.outst h = some o ∧ h ∉ s.sch.resend ∧ o.sentAt = some sent ∧ sent + 100000 ≤ s.up ∧ s.deadStripe = false ∧ s.egPipeOk o.port (!o.pipeB) = true :=
  ⟨9, 5, outst9, since 100005 (reported true 0), by decide +kernel⟩

end Sys2Proof.Tests
end

