-- ==== Sys2Proof/Tests/Witness9.lean ====
section
/-! SUPPORT. Witnesses: for each clause of a statement that has hypotheses, a state and operands that meet them all. -/

namespace Sys2Proof.Tests

set_option Elab.async false

open Sys2Proof Sys2Proof.Machine

/-- A memory channel in a state, in RUN. -/
def chan (ch st : Nat) : State := (inMode RUN).put (side ch F.DT_MEM_CH_state F.TF_MEM_CH_state) st (chIdx ch)

/-- A mirrored pair of channels IN. -/
def pairIn (ch : Nat) : State := (chan ch 2).put F.TF_MEM_CH_state 2 (chIdx (mirrorOf ch))

/-- With a transaction of a channel outstanding. -/
def withTx' (ch : Nat) (x : MemTx) (s : State) : State := s.setMemq ch ⟨[x], []⟩

/-- The same later. -/
def atUp (n : Nat) (s : State) : State := { s with up := n }

/-- The spare of cluster 3 in a state. -/
def spare (eg : Bool) (st : Nat) : State := setsAt (inMode RUN) [(spState eg, st, 3), (spSlot eg, 2, 3)]

/-- Both functions enabled, the link up, and each register of the list set. -/
def hosted (v : List (Fld × Nat × Nat)) : State := setsAt (busMaster (inMode RUN)) v

/-- A function frozen. -/
def frz (fn : Nat) : State := (hosted []).setCfgBits fn 0x20C 0 1 1

/-- With requests outstanding. -/
def withReqs (s : State) (l : List DmaReq) : State := { s with host := { s.host with reqs := l } }

/-- MSI-X enabled for PF1. -/
def msixOn (s : State) : State := s.setCfgBits 1 0xB0 31 1 1

/-- A punted frame. -/
def punted : PuntFrame := ⟨List.replicate 60 0, false, 3, 0, 1, true, 2, 0, 9⟩

/-- Eight bytes. -/
def eight : List Byte := [1, 2, 3, 4, 5, 6, 7, 0x81]

/-- An address with no register. -/
theorem no_reg : findReg 0x3FFFFF8 = none := by decide +kernel

theorem witness_MemoryChannelsTrainTrackScrubAndFail_0 :
    ∃ (ch : Nat) (s : State),
      isCh ch = true ∧ s.chState ch = 1 ∧ s.flag (side ch F.DT_MEM_PKG_out F.TF_MEM_PKG_out) (pkgOf ch) = false :=
  ⟨0, chan 0 1, by decide +kernel⟩

theorem witness_MemoryChannelsTrainTrackScrubAndFail_0b :
    ∃ (ch : Nat) (s : State),
      isCh ch = true ∧ s.chState ch = 1 ∧ s.flag (side ch F.DT_MEM_PKG_out F.TF_MEM_PKG_out) (pkgOf ch) = false :=
  ⟨119, chan 119 1, by decide +kernel⟩

theorem witness_MemoryChannelsTrainTrackScrubAndFail_1 :
    ∃ (ch : Nat) (s : State),
      s.chServes ch = true ∧ ((∀ a, (s.memCh ch).trackAt = some a → a + s.trackNs ch ≤ s.up)) :=
  ⟨0, chan 0 2, ⟨by decide, all_some (by decide)⟩⟩

theorem witness_MemoryChannelsTrainTrackScrubAndFail_1b :
    ∃ (ch : Nat) (s : State),
      s.chServes ch = true ∧ ((∀ a, (s.memCh ch).trackAt = some a → a + s.trackNs ch ≤ s.up)) :=
  ⟨119, pairIn 119, ⟨by decide, all_some (by decide)⟩⟩

theorem witness_MemoryChannelsTrainTrackScrubAndFail_1c :
    ∃ (ch : Nat) (s : State),
      s.chServes ch = true ∧ ((∀ a, (s.memCh ch).trackAt = some a → a + s.trackNs ch ≤ s.up)) :=
  ⟨103, atUp 1000000000 ((chan 103 4).setMemCh 103 { memCh0 with trackAt := some 0 }), ⟨by decide, all_some (by decide +kernel)⟩⟩

theorem witness_MemoryChannelsTrainTrackScrubAndFail_2 :
    ∃ (ch : Nat) (s : State),
      isCh ch = true ∧ s.chState ch = 3 :=
  ⟨103, chan 103 3, by decide +kernel⟩

theorem witness_MemoryChannelsTrainTrackScrubAndFail_2b :
    ∃ (ch : Nat) (train : List Int) (s : State),
      isCh ch = true ∧ s.chState ch = 3 ∧ (nearBy (s.memCh ch).train train = true ∧ (s.memCh ch).retrainAt + 200000 ≤ s.up) :=
  ⟨104, [], atUp 200000 (chan 104 3), by decide +kernel⟩

theorem witness_MemoryChannelsTrainTrackScrubAndFail_3 :
    ∃ (ch : Nat) (s : State),
      isCh ch = true ∧ s.chState ch = 4 :=
  ⟨119, chan 119 4, by decide +kernel⟩

theorem witness_MemoryChannelsTrainTrackScrubAndFail_4 :
    ∃ (ch : Nat) (cause : Nat) (s : State),
      isCh ch = true ∧ s.awake = true ∧ s.flag (side ch F.DT_MEM_PKG_out F.TF_MEM_PKG_out) (pkgOf ch) = false ∧ ((cause = 0 → 1 ≤ s.chState ch ∧ s.chState ch ≤ 4)) :=
  ⟨0, 0, chan 0 4, by decide +kernel⟩

theorem witness_MemoryChannelsTrainTrackScrubAndFail_4b :
    ∃ (ch : Nat) (cause : Nat) (s : State),
      isCh ch = true ∧ s.awake = true ∧ s.flag (side ch F.DT_MEM_PKG_out F.TF_MEM_PKG_out) (pkgOf ch) = false ∧ ((cause = 0 → 1 ≤ s.chState ch ∧ s.chState ch ≤ 4)) :=
  ⟨119, 1, chan 119 2, by decide +kernel⟩

theorem witness_MemoryChannelsTrainTrackScrubAndFail_5 :
    ∃ (ch : Nat) (rank : Nat) (x : MemTx) (s : State),
      s.awake = true ∧ s.chServes ch = true ∧ 1 ≤ rank ∧ rank ≤ 5 ∧ oldestTx (s.memq ch) rank = some x ∧ x.addr < 2147483648 ∧ mayEnd (s.memq ch) x = true ∧ ((x.write = true → isTail ch = true)) :=
  ⟨0, 1, ⟨1, 0, true⟩, withTx' 0 ⟨1, 0, true⟩ (chan 0 2), by decide +kernel⟩

theorem witness_MemoryChannelsTrainTrackScrubAndFail_5b :
    ∃ (ch : Nat) (rank : Nat) (x : MemTx) (s : State),
      s.awake = true ∧ s.chServes ch = true ∧ 1 ≤ rank ∧ rank ≤ 5 ∧ oldestTx (s.memq ch) rank = some x ∧ x.addr < 2147483648 ∧ mayEnd (s.memq ch) x = true ∧ ((x.write = true → isTail ch = true)) :=
  ⟨119, 5, ⟨5, 2147483647, false⟩, withTx' 119 ⟨5, 2147483647, false⟩ (chan 119 4), by decide +kernel⟩

theorem witness_MemoryChannelsTrainTrackScrubAndFail_6 :
    ∃ (ch : Nat) (rank : Nat) (x : MemTx) (s : State),
      s.awake = true ∧ s.chServes ch = true ∧ 1 ≤ rank ∧ rank ≤ 5 ∧ oldestTx (s.memq ch) rank = some x ∧ x.write = false ∧ x.addr < 2147483648 ∧ mayEnd (s.memq ch) x = true ∧ s.markedPin ch = none :=
  ⟨0, 2, ⟨2, 7, false⟩, withTx' 0 ⟨2, 7, false⟩ (chan 0 2), by decide +kernel⟩

theorem witness_MemoryChannelsTrainTrackScrubAndFail_6b :
    ∃ (ch : Nat) (rank : Nat) (x : MemTx) (s : State),
      s.awake = true ∧ s.chServes ch = true ∧ 1 ≤ rank ∧ rank ≤ 5 ∧ oldestTx (s.memq ch) rank = some x ∧ x.write = false ∧ x.addr < 2147483648 ∧ mayEnd (s.memq ch) x = true ∧ s.markedPin ch = none :=
  ⟨104, 5, ⟨5, 7, false⟩, withTx' 104 ⟨5, 7, false⟩ (chan 104 2), by decide +kernel⟩

theorem witness_MemoryChannelsTrainTrackScrubAndFail_7 :
    ∃ (ch : Nat) (rank : Nat) (x : MemTx) (s : State),
      s.awake = true ∧ s.chServes ch = true ∧ isTail ch = false ∧ 1 ≤ rank ∧ rank ≤ 5 ∧ oldestTx (s.memq ch) rank = some x ∧ x.write = false ∧ x.addr < 2147483648 ∧ mayEnd (s.memq ch) x = true ∧ s.markedPin ch = none ∧ (s.memCh ch).ueTimes = [] ∧ s.mirrorServes (mirrorOf ch) (s.ballastByte ch x.addr) = true :=
  ⟨104, 1, ⟨1, 0, false⟩, withTx' 104 ⟨1, 0, false⟩ (pairIn 104), by decide +kernel⟩

theorem witness_MemoryChannelsTrainTrackScrubAndFail_8 :
    ∃ (ch : Nat) (addr : Nat) (pct : Nat) (s : State),
      s.live = true ∧ s.chServes ch = true ∧ s.flag (side ch F.DT_MEM_CFG_scrub_en F.TF_MEM_CFG_scrub_en) = true ∧ addr < 2147483648 ∧ pct ≤ 100 ∧ s.scrubMay ch addr = true :=
  ⟨0, 0, 100, setsAt (chan 0 2) [(F.DT_MEM_CFG_scrub_en, 1, 0)], by decide +kernel⟩

theorem witness_MemoryChannelsTrainTrackScrubAndFail_8b :
    ∃ (ch : Nat) (addr : Nat) (pct : Nat) (s : State),
      s.live = true ∧ s.chServes ch = true ∧ s.flag (side ch F.DT_MEM_CFG_scrub_en F.TF_MEM_CFG_scrub_en) = true ∧ addr < 2147483648 ∧ pct ≤ 100 ∧ s.scrubMay ch addr = true :=
  ⟨119, 2147483647, 99, setsAt (chan 119 2) [(F.TF_MEM_CFG_scrub_en, 1, 0)], by decide +kernel⟩

theorem witness_MemoryChannelsTrainTrackScrubAndFail_9 :
    ∃ (dt : Bool) (s : State),
      s.live = true ∧ s.flag (if dt then F.DT_MEM_CFG_scrub_en else F.TF_MEM_CFG_scrub_en) = true ∧ tget s.mem.passAt (b2n dt) 0 + 86400000000000 ≤ s.up :=
  ⟨true, atUp 86400000000000 <| sets (inMode RUN) [(F.DT_MEM_CFG_scrub_en, 1)], by decide +kernel⟩

theorem witness_MemoryChannelsTrainTrackScrubAndFail_9b :
    ∃ (dt : Bool) (s : State),
      s.live = true ∧ s.flag (if dt then F.DT_MEM_CFG_scrub_en else F.TF_MEM_CFG_scrub_en) = true ∧ tget s.mem.passAt (b2n dt) 0 + 86400000000000 ≤ s.up :=
  ⟨false, atUp 86400000000000 <| sets (inMode RUN) [(F.TF_MEM_CFG_scrub_en, 1)], by decide +kernel⟩

theorem witness_MemoryChannelsTrainTrackScrubAndFail_10 :
    ∃ (ch : Nat) (s : State),
      s.awake = true ∧ isCh ch = true ∧ 1 ≤ s.chState ch ∧ s.chState ch ≤ 4 :=
  ⟨0, chan 0 1, by decide +kernel⟩

theorem witness_MemoryChannelsTrainTrackScrubAndFail_10b :
    ∃ (ch : Nat) (s : State),
      s.awake = true ∧ isCh ch = true ∧ 1 ≤ s.chState ch ∧ s.chState ch ≤ 4 :=
  ⟨119, chan 119 4, by decide +kernel⟩

theorem witness_SparesAreCalledInAndLaneFaultsRecorded_0 :
    ∃ (cl : Nat) (pos : Nat) (eg : Bool) (s : State),
      s.live = true ∧ cl < 16 ∧ pos < 4 ∧ s.pipeFailed cl eg pos = false ∧ s.get (spState eg) cl = 0 ∧ s.flag F.TF_SPARE_CTL_spares_en = true :=
  ⟨3, 2, false, sets (inMode RUN) [(F.TF_SPARE_CTL_spares_en, 1)], by decide +kernel⟩

theorem witness_SparesAreCalledInAndLaneFaultsRecorded_0b :
    ∃ (cl : Nat) (pos : Nat) (eg : Bool) (s : State),
      s.live = true ∧ cl < 16 ∧ pos < 4 ∧ s.pipeFailed cl eg pos = false ∧ s.get (spState eg) cl = 0 ∧ s.flag F.TF_SPARE_CTL_spares_en = true :=
  ⟨15, 3, true, { sets (inMode RUN) [(F.TF_SPARE_CTL_spares_en, 1)] with eng := { eng0 with phase := 2 } }, by decide +kernel⟩

theorem witness_SparesAreCalledInAndLaneFaultsRecorded_1 :
    ∃ (cl : Nat) (eg : Bool) (s : State),
      s.live = true ∧ cl < 16 ∧ ((s.get (spState eg) cl = 5 ∨ s.get (spState eg) cl = 7)) :=
  ⟨3, false, spare false 5, by decide +kernel⟩

theorem witness_SparesAreCalledInAndLaneFaultsRecorded_1b :
    ∃ (cl : Nat) (eg : Bool) (s : State),
      s.live = true ∧ cl < 16 ∧ ((s.get (spState eg) cl = 5 ∨ s.get (spState eg) cl = 7)) :=
  ⟨3, true, spare true 7, by decide +kernel⟩

theorem witness_SparesAreCalledInAndLaneFaultsRecorded_2 :
    ∃ (cl : Nat) (eg : Bool) (s : State),
      cl < 16 ∧ s.get (spState eg) cl = 2 :=
  ⟨3, true, spare true 2, by decide +kernel⟩

theorem witness_SparesAreCalledInAndLaneFaultsRecorded_3 :
    ∃ (cl : Nat) (eg : Bool) (s : State),
      cl < 16 ∧ s.get (spState eg) cl = 3 :=
  ⟨3, false, spare false 3, by decide +kernel⟩

theorem witness_SparesAreCalledInAndLaneFaultsRecorded_4 :
    ∃ (cl : Nat) (eg : Bool) (s : State),
      cl < 16 ∧ s.get (spState eg) cl = 4 :=
  ⟨3, true, spare true 4, by decide +kernel⟩

theorem witness_SparesAreCalledInAndLaneFaultsRecorded_4b :
    ∃ (cl : Nat) (eg : Bool) (s : State),
      cl < 16 ∧ s.get (spState eg) cl = 4 :=
  ⟨3, false, spare false 4, by decide +kernel⟩

theorem witness_SparesAreCalledInAndLaneFaultsRecorded_5 :
    ∃ (cl : Nat) (eg : Bool) (s : State),
      cl < 16 ∧ s.get (spState eg) cl = 7 :=
  ⟨3, true, spare true 7, by decide +kernel⟩

theorem witness_SparesAreCalledInAndLaneFaultsRecorded_6 :
    ∃ (s : State),
      s.awake = true :=
  ⟨inMode LOAD, by decide +kernel⟩

theorem witness_SparesAreCalledInAndLaneFaultsRecorded_6b :
    ∃ (s : State),
      s.awake = true :=
  ⟨inMode RUN, by decide +kernel⟩

theorem witness_SparesAreCalledInAndLaneFaultsRecorded_7 :
    ∃ (dir : Nat) (group : Nat) (lane : Nat) (s : State),
      s.live = true ∧ dir < 2 ∧ group < 36 ∧ lane < 18 ∧ lane ∉ s.idlFailed dir group :=
  ⟨1, 35, 17, inMode RUN, by decide +kernel⟩

theorem witness_SparesAreCalledInAndLaneFaultsRecorded_7b :
    ∃ (dir : Nat) (group : Nat) (lane : Nat) (s : State),
      s.live = true ∧ dir < 2 ∧ group < 36 ∧ lane < 18 ∧ lane ∉ s.idlFailed dir group :=
  ⟨0, 0, 2, { inMode RUN with idl := { (inMode RUN).idl with failed := [(0, [0, 1])] } }, by decide +kernel⟩

theorem witness_FunctionsFreezeResetAndAnswerRequests_0 :
    ∃ (fn : Nat) (s : State),
      s.awake = true ∧ fn < 2 :=
  ⟨1, hosted [(F.TF_QCTX_CFG_enable, 1, 5)], by decide +kernel⟩

theorem witness_FunctionsFreezeResetAndAnswerRequests_0b :
    ∃ (fn : Nat) (s : State),
      s.awake = true ∧ fn < 2 :=
  ⟨0, frz 0, by decide +kernel⟩

theorem witness_FunctionsFreezeResetAndAnswerRequests_1 :
    ∃ (fn : Nat) (bit : Nat) (s : State),
      s.awake = true ∧ fn < 2 ∧ bit < 32 ∧ bit ≠ 4 ∧ bit ≠ 5 :=
  ⟨0, 20, (hosted []).setCfgBits 0 0x210 20 1 1, by decide +kernel⟩

theorem witness_FunctionsFreezeResetAndAnswerRequests_1b :
    ∃ (fn : Nat) (bit : Nat) (s : State),
      s.awake = true ∧ fn < 2 ∧ bit < 32 ∧ bit ≠ 4 ∧ bit ≠ 5 :=
  ⟨1, 31, hosted [], by decide +kernel⟩

theorem witness_FunctionsFreezeResetAndAnswerRequests_2 :
    ∃ (fn : Nat) (s : State),
      s.awake = true ∧ fn < 2 ∧ s.frozen fn = true :=
  ⟨0, frz 0, by decide +kernel⟩

theorem witness_FunctionsFreezeResetAndAnswerRequests_2b :
    ∃ (fn : Nat) (s : State),
      s.awake = true ∧ fn < 2 ∧ s.frozen fn = true :=
  ⟨1, withReqs (frz 1) [⟨1, 3, none, 0, 0⟩], by decide +kernel⟩

theorem witness_FunctionsFreezeResetAndAnswerRequests_3 :
    ∃ (fn : Nat) (s : State),
      s.awake = true ∧ fn < 2 ∧ s.frozen fn = true ∧ s.cfgBits fn 0x20C 1 1 = 1 ∧ s.outstanding fn = 0 :=
  ⟨1, (frz 1).setCfgBits 1 0x20C 1 1 1, by decide +kernel⟩

theorem witness_FunctionsFreezeResetAndAnswerRequests_4 :
    ∃ (fn : Nat) (s : State),
      s.awake = true ∧ fn < 2 :=
  ⟨1, withReqs (hosted [(F.TF_QCTX_CFG_enable, 1, 5)]) [⟨1, 3, none, 0, 0⟩, ⟨0, 4, none, 0, 0⟩], by decide +kernel⟩

theorem witness_FunctionsFreezeResetAndAnswerRequests_4b :
    ∃ (fn : Nat) (s : State),
      s.awake = true ∧ fn < 2 :=
  ⟨0, hosted [], by decide +kernel⟩

theorem witness_FunctionsFreezeResetAndAnswerRequests_5 :
    ∃ (s : State),
      s.awake = true :=
  ⟨withReqs (hosted []) [⟨1, 3, none, 0, 0⟩, ⟨2, 4, none, 0, 0⟩], by decide +kernel⟩

theorem witness_FunctionsFreezeResetAndAnswerRequests_5b :
    ∃ (s : State),
      s.awake = true :=
  ⟨hosted [], by decide +kernel⟩

theorem witness_FunctionsFreezeResetAndAnswerRequests_6 :
    ∃ (width : Nat) (speed : Nat) (s : State),
      s.awake = true ∧ width ∈ [1, 2, 4, 8] ∧ 1 ≤ speed ∧ speed ≤ 6 :=
  ⟨8, 6, inMode RUN, by decide +kernel⟩

theorem witness_FunctionsFreezeResetAndAnswerRequests_6b :
    ∃ (width : Nat) (speed : Nat) (s : State),
      s.awake = true ∧ width ∈ [1, 2, 4, 8] ∧ 1 ≤ speed ∧ speed ≤ 6 :=
  ⟨1, 1, inMode LOAD, by decide +kernel⟩

theorem witness_FunctionsFreezeResetAndAnswerRequests_7 :
    ∃ (fn : Nat) (off : Nat) (s : State),
      s.awake = true ∧ fn < 2 ∧ off < 4096 ∧ off % 4 = 0 :=
  ⟨0, 0x04, { hosted [] with boot := { (hosted []).boot with rrs := false } }, by decide +kernel⟩

theorem witness_FunctionsFreezeResetAndAnswerRequests_7b :
    ∃ (fn : Nat) (off : Nat) (s : State),
      s.awake = true ∧ fn < 2 ∧ off < 4096 ∧ off % 4 = 0 :=
  ⟨1, 0x208, { hosted [] with boot := { (hosted []).boot with rrs := false } }, by decide +kernel⟩

theorem witness_FunctionsFreezeResetAndAnswerRequests_7c :
    ∃ (fn : Nat) (off : Nat) (s : State),
      s.awake = true ∧ fn < 2 ∧ off < 4096 ∧ off % 4 = 0 :=
  ⟨1, 0x208, { frz 1 with boot := { (frz 1).boot with rrs := false } }, by decide +kernel⟩

theorem witness_FunctionsFreezeResetAndAnswerRequests_7d :
    ∃ (fn : Nat) (off : Nat) (s : State),
      s.awake = true ∧ fn < 2 ∧ off < 4096 ∧ off % 4 = 0 :=
  ⟨1, 0x78, { hosted [] with boot := { (hosted []).boot with rrs := false } }, by decide +kernel⟩

theorem witness_FunctionsFreezeResetAndAnswerRequests_7e :
    ∃ (fn : Nat) (off : Nat) (s : State),
      s.awake = true ∧ fn < 2 ∧ off < 4096 ∧ off % 4 = 0 :=
  ⟨1, 0x44, { hosted [] with boot := { (hosted []).boot with rrs := false } }, by decide +kernel⟩

theorem witness_FunctionsFreezeResetAndAnswerRequests_7f :
    ∃ (fn : Nat) (off : Nat) (s : State),
      s.awake = true ∧ fn < 2 ∧ off < 4096 ∧ off % 4 = 0 :=
  ⟨1, 0x44, { hosted [] with boot := { (hosted []).boot with rrs := true } }, by decide +kernel⟩

theorem witness_FunctionsFreezeResetAndAnswerRequests_8 :
    ∃ (fn : Nat) (s : State),
      s.awake = true ∧ fn < 2 :=
  ⟨0, hosted [], by decide +kernel⟩

theorem witness_FunctionsFreezeResetAndAnswerRequests_8b :
    ∃ (fn : Nat) (s : State),
      s.awake = true ∧ fn < 2 :=
  ⟨1, frz 1, by decide +kernel⟩

theorem witness_FunctionsFreezeResetAndAnswerRequests_8c :
    ∃ (fn : Nat) (s : State),
      s.awake = true ∧ fn < 2 :=
  ⟨0, hosted [], by decide +kernel⟩

theorem witness_FunctionsFreezeResetAndAnswerRequests_9 :
    ∃ (s : State),
      s.awake = true :=
  ⟨inMode LOAD, by decide +kernel⟩

theorem witness_HostQueuesMessagesAndReads_0 :
    ∃ (q : Nat) (new : Nat) (v : Word) (s : State),
      s.pf1Open = true ∧ q < 168 ∧ s.flag F.TF_QCTX_CFG_enable q = true ∧ new = bits v.toNat 0 32 :=
  ⟨130, 1, 0x1, hosted [(F.TF_QCTX_CFG_enable, 1, 130), (F.TF_QCTX_CFG_size_log2, 6, 130)], by decide +kernel⟩

theorem witness_HostQueuesMessagesAndReads_0b :
    ∃ (q : Nat) (new : Nat) (v : Word) (s : State),
      s.pf1Open = true ∧ q < 168 ∧ s.flag F.TF_QCTX_CFG_enable q = true ∧ new = bits v.toNat 0 32 :=
  ⟨5, 0xFFFFFFFF, 0xFFFFFFFF, hosted [(F.TF_QCTX_CFG_enable, 1, 5), (F.TF_QCTX_CFG_size_log2, 6, 5)], by decide +kernel⟩

theorem witness_HostQueuesMessagesAndReads_0c :
    ∃ (q : Nat) (new : Nat) (v : Word) (s : State),
      s.pf1Open = true ∧ q < 168 ∧ s.flag F.TF_QCTX_CFG_enable q = true ∧ new = bits v.toNat 0 32 :=
  ⟨130, 1, 0x100000001, hosted [(F.TF_QCTX_CFG_enable, 1, 130), (F.TF_QCTX_CFG_size_log2, 6, 130)], by decide +kernel⟩

theorem witness_HostQueuesMessagesAndReads_1 :
    ∃ (q : Nat) (s : State),
      s.pf1Open = true ∧ q < 168 :=
  ⟨167, hosted [], by decide +kernel⟩

theorem witness_HostQueuesMessagesAndReads_1b :
    ∃ (q : Nat) (s : State),
      s.pf1Open = true ∧ q < 168 :=
  ⟨0, hosted [(F.TF_QCTX_CFG_enable, 1, 0), (F.TF_QCTX_STAT_host_idx, 7, 0)], by decide +kernel⟩

theorem witness_HostQueuesMessagesAndReads_2 :
    ∃ (v : Nat) (s : State),
      s.pf1Open = true ∧ v < 2048 :=
  ⟨2047, { msixOn (hosted []) with host := { (msixOn (hosted [])).host with pba := [(2047, true)] } }, by decide +kernel⟩

theorem witness_HostQueuesMessagesAndReads_2b :
    ∃ (v : Nat) (s : State),
      s.pf1Open = true ∧ v < 2048 :=
  ⟨0, hosted [], by decide +kernel⟩

theorem witness_HostQueuesMessagesAndReads_3 :
    ∃ (q : Nat) (s : State),
      q < 168 ∧ s.flag F.TF_QCTX_CFG_irq_en q = true ∧ s.get F.TF_QCTX_CFG_coal_us q ≠ 0 ∧ tget s.host.adv q 0 ≠ 0 ∧ tget s.host.advAt q 0 + s.get F.TF_QCTX_CFG_coal_us q * 1000 ≤ s.up :=
  ⟨5, { msixOn (hosted [(F.TF_QCTX_CFG_irq_en, 1, 5), (F.TF_QCTX_CFG_coal_us, 9, 5)]) with up := 9007, host := { (msixOn (hosted [])).host with adv := [(5, 2)], advAt := [(5, 7)] } }, by decide +kernel⟩

theorem witness_HostQueuesMessagesAndReads_4 :
    ∃ (q : Nat) (f : PuntFrame) (r : List PuntFrame) (s : State),
      q < 64 ∧ s.qRuns q = true ∧ s.mayIssue 1 = true ∧ s.get F.TF_QCTX_STAT_host_idx q ≠ s.get F.TF_QCTX_STAT_dev_idx q ∧ tget s.host.fifos q [] = f :: r :=
  ⟨63, punted, [], { hosted [(F.TF_QCTX_CFG_enable, 1, 63), (F.TF_QCTX_STAT_host_idx, 1, 63)] with host := { (hosted []).host with fifos := [(63, [punted])] } }, by decide +kernel⟩

theorem witness_HostQueuesMessagesAndReads_5 :
    ∃ (tag : Nat) (q : Nat) (r : DmaReq) (s : State),
      s.reqOf tag = some r ∧ r.q = some q ∧ q < 168 ∧ s.cfgBits r.fn 0x98 4 1 = 0 ∧ r.at' + cplTimeoutNs (s.cfgBits r.fn 0x98 0 4) ≤ s.up :=
  ⟨9, 130, ⟨1, 9, some 130, 7, 0⟩, atUp 50000000 <| withReqs (hosted [(F.TF_QCTX_CFG_enable, 1, 130)]) [⟨1, 9, some 130, 7, 0⟩], by decide +kernel⟩

theorem witness_HostQueuesMessagesAndReads_6 :
    ∃ (tag : Nat) (r : DmaReq) (s : State),
      s.awake = true ∧ s.reqOf tag = some r :=
  ⟨9, ⟨1, 9, some 130, 7, 0⟩, withReqs (hosted [(F.TF_QCTX_CFG_enable, 1, 130)]) [⟨1, 9, some 130, 7, 0⟩], by decide +kernel⟩

theorem witness_HostQueuesMessagesAndReads_6b :
    ∃ (tag : Nat) (r : DmaReq) (s : State),
      s.awake = true ∧ s.reqOf tag = some r :=
  ⟨9, ⟨1, 9, some 130, 7, 0⟩, withReqs (hosted [(F.TF_QCTX_CFG_enable, 1, 130)]) [⟨1, 9, some 130, 7, 0⟩], by decide +kernel⟩

theorem witness_HostQueuesMessagesAndReads_6c :
    ∃ (tag : Nat) (r : DmaReq) (s : State),
      s.awake = true ∧ s.reqOf tag = some r :=
  ⟨9, ⟨1, 9, none, 7, 0⟩, withReqs (frz 1) [⟨1, 9, none, 7, 0⟩], by decide +kernel⟩

theorem witness_HostQueuesMessagesAndReads_7 :
    ∃ (tag : Nat) (s : State),
      s.awake = true ∧ s.reqOf tag = none :=
  ⟨9, hosted [], by decide +kernel⟩

theorem witness_HostQueuesMessagesAndReads_8 :
    ∃ (tag : Nat) (s : State),
      ((tag ∈ s.host.held → tget s.host.heldAt tag 0 + s.tagHoldNs ≤ s.up)) :=
  ⟨9, atUp 10000000009 { hosted [] with host := { (hosted []).host with held := [9, 10], heldAt := [(9, 9)] } }, by decide +kernel⟩

theorem witness_HostQueuesMessagesAndReads_8b :
    ∃ (tag : Nat) (s : State),
      ((tag ∈ s.host.held → tget s.host.heldAt tag 0 + s.tagHoldNs ≤ s.up)) :=
  ⟨9, { hosted [] with host := { (hosted []).host with held := [10] } }, by decide +kernel⟩

theorem witness_RegisterAndSidebandAccesses_0 :
    ∃ (src : Nat) (i : Nat) (bytes : List Byte) (s : State),
      s.srcOpen src = true ∧ src ≠ 1 ∧ i < 8 ∧ bytes.length = 8 :=
  ⟨0, 7, eight, hosted [], by decide +kernel⟩

theorem witness_RegisterAndSidebandAccesses_0b :
    ∃ (src : Nat) (i : Nat) (bytes : List Byte) (s : State),
      s.srcOpen src = true ∧ src ≠ 1 ∧ i < 8 ∧ bytes.length = 8 :=
  ⟨2, 0, eight, inMode LOAD, by decide +kernel⟩

theorem witness_RegisterAndSidebandAccesses_1 :
    ∃ (src : Nat) (bytes : List Byte) (s : State),
      s.srcOpen src = true ∧ src ≠ 1 ∧ bytes.length = 8 ∧ s.isOn 41 = true :=
  ⟨2, eight, onIsl (inMode RUN) [41], by decide +kernel⟩

theorem witness_RegisterAndSidebandAccesses_2 :
    ∃ (src : Nat) (addr : Nat) (cause : Nat) (n : Nat) (bytes : List Byte) (s : State),
      s.srcOpen src = true ∧ src ≠ 1 ∧ addr % 8 = 0 ∧ bytes ≠ [] ∧ bytes.length ≤ 8 ∧ addr + 8 ≤ 0x4000000 ∧ inPages addr = false ∧ inSram addr = false ∧ n = s.get F.KV_ACC_ERR_STAT_next ∧ (((findReg addr = none ∧ cause = 4) ∨ (∃ r ij, findReg addr = some r ∧ regIdx r addr = some ij ∧ s.reachable r ij.1 = false ∧ cause = 2) ∨ (∃ r ij, findReg addr = some r ∧ regIdx r addr = some ij ∧ s.reachable r ij.1 = true ∧ bytes.length < 8 ∧ cause = 3))) :=
  ⟨2, 0x3FFFFF8, 4, 0, eight, inMode RUN, ⟨by decide +kernel, by decide, by decide, by decide, by decide, by decide, by decide +kernel, by decide +kernel, by decide +kernel, .inl ⟨no_reg, rfl⟩⟩⟩

theorem witness_RegisterAndSidebandAccesses_2b :
    ∃ (src : Nat) (addr : Nat) (cause : Nat) (n : Nat) (bytes : List Byte) (s : State),
      s.srcOpen src = true ∧ src ≠ 1 ∧ addr % 8 = 0 ∧ bytes ≠ [] ∧ bytes.length ≤ 8 ∧ addr + 8 ≤ 0x4000000 ∧ inPages addr = false ∧ inSram addr = false ∧ n = s.get F.KV_ACC_ERR_STAT_next ∧ (((findReg addr = none ∧ cause = 4) ∨ (∃ r ij, findReg addr = some r ∧ regIdx r addr = some ij ∧ s.reachable r ij.1 = false ∧ cause = 2) ∨ (∃ r ij, findReg addr = some r ∧ regIdx r addr = some ij ∧ s.reachable r ij.1 = true ∧ bytes.length < 8 ∧ cause = 3))) :=
  ⟨2, regAddr R.DT_ADM_LOOP 0 0, 2, 0, eight, setsAt (inMode RUN) [(F.KV_BLK_STAT_state, 4, 41)], ⟨by decide +kernel, by decide, by decide, by decide, by decide, by decide, by decide +kernel, by decide +kernel, by decide +kernel, .inr (.inl ⟨R.DT_ADM_LOOP, (0, 0), by decide +kernel⟩)⟩⟩

theorem witness_RegisterAndSidebandAccesses_2c :
    ∃ (src : Nat) (addr : Nat) (cause : Nat) (n : Nat) (bytes : List Byte) (s : State),
      s.srcOpen src = true ∧ src ≠ 1 ∧ addr % 8 = 0 ∧ bytes ≠ [] ∧ bytes.length ≤ 8 ∧ addr + 8 ≤ 0x4000000 ∧ inPages addr = false ∧ inSram addr = false ∧ n = s.get F.KV_ACC_ERR_STAT_next ∧ (((findReg addr = none ∧ cause = 4) ∨ (∃ r ij, findReg addr = some r ∧ regIdx r addr = some ij ∧ s.reachable r ij.1 = false ∧ cause = 2) ∨ (∃ r ij, findReg addr = some r ∧ regIdx r addr = some ij ∧ s.reachable r ij.1 = true ∧ bytes.length < 8 ∧ cause = 3))) :=
  ⟨0, regAddr R.KV_BACKUP 7 0, 3, 0, [1], hosted [], ⟨by decide +kernel, by decide, by decide, by decide, by decide, by decide, by decide +kernel, by decide +kernel, by decide +kernel, .inr (.inr ⟨R.KV_BACKUP, (7, 0), by decide +kernel⟩)⟩⟩

theorem witness_RegisterAndSidebandAccesses_3 :
    ∃ (src : Nat) (off : Nat) (bytes : List Byte) (s : State),
      s.srcOpen src = true ∧ src ≠ 1 ∧ off % 8 = 0 ∧ 0x100 ≤ off ∧ off < 0x10000 ∧ bytes.length = 8 :=
  ⟨2, 0xFFF8, eight, inMode RUN, by decide +kernel⟩

theorem witness_RegisterAndSidebandAccesses_3b :
    ∃ (src : Nat) (off : Nat) (bytes : List Byte) (s : State),
      s.srcOpen src = true ∧ src ≠ 1 ∧ off % 8 = 0 ∧ 0x100 ≤ off ∧ off < 0x10000 ∧ bytes.length = 8 :=
  ⟨0, 0x100, eight, hosted [], by decide +kernel⟩

theorem witness_RegisterAndSidebandAccesses_4 :
    ∃ (s : State),
      s.mode ≠ OFF :=
  ⟨inMode RUN, by decide +kernel⟩

theorem witness_RegisterAndSidebandAccesses_4b :
    ∃ (s : State),
      s.mode ≠ OFF :=
  ⟨inMode RUN, by decide +kernel⟩

theorem witness_RegisterAndSidebandAccesses_4c :
    ∃ (bytes : List Byte) (s : State),
      s.mode ≠ OFF ∧ (s.inEpisode = false ∧ leNat (bytes.take 4) = regAddr R.KV_BACKUP 7 0) :=
  ⟨((beBytes 4 (regAddr R.KV_BACKUP 7 0)).reverse ++ eight), inMode RUN, by decide +kernel⟩

theorem witness_RegisterAndSidebandAccesses_4d :
    ∃ (bytes : List Byte) (s : State),
      s.mode ≠ OFF ∧ leNat (bytes.take 4) = regAddr R.DT_ADM_LOOP 0 0 :=
  ⟨((beBytes 4 (regAddr R.DT_ADM_LOOP 0 0)).reverse ++ eight), onIsl (inMode RUN) [41], by decide +kernel⟩

theorem witness_RegisterAndSidebandAccesses_5 :
    ∃ (bytes : List Byte) (off : Nat) (r : RegD) (ij : Nat × Nat) (s : State),
      s.mode ≠ OFF ∧ bytes.length = 4 ∧ off = leNat bytes ∧ off % 8 = 0 ∧ off < 0x4000000 ∧ inPages off = false ∧ inSram off = false ∧ findReg off = some r ∧ regIdx r off = some ij ∧ s.inEpisode = false ∧ s.reachable r ij.1 = true :=
  ⟨(beBytes 4 (regAddr R.KV_BACKUP 7 0)).reverse, regAddr R.KV_BACKUP 7 0, R.KV_BACKUP, (7, 0), inMode RUN, by decide +kernel⟩

theorem witness_RegisterAndSidebandAccesses_5b :
    ∃ (bytes : List Byte) (off : Nat) (r : RegD) (ij : Nat × Nat) (s : State),
      s.mode ≠ OFF ∧ bytes.length = 4 ∧ off = leNat bytes ∧ off % 8 = 0 ∧ off < 0x4000000 ∧ inPages off = false ∧ inSram off = false ∧ findReg off = some r ∧ regIdx r off = some ij ∧ s.inEpisode = false ∧ s.reachable r ij.1 = true :=
  ⟨(beBytes 4 (regAddr R.KV_BACKUP 7 0)).reverse, regAddr R.KV_BACKUP 7 0, R.KV_BACKUP, (7, 0), inMode RUN, by decide +kernel⟩

theorem witness_RegisterAndSidebandAccesses_6 :
    ∃ (s : State),
      s.mode ≠ OFF :=
  ⟨{ inMode RUN with smb := some (5, 0) }, by decide +kernel⟩

theorem witness_RegisterAndSidebandAccesses_6b :
    ∃ (s : State),
      s.mode ≠ OFF :=
  ⟨{ inMode RUN with smbNext := some 3 }, by decide +kernel⟩

theorem witness_RegisterAndSidebandAccesses_6c :
    ∃ (s : State),
      s.mode ≠ OFF :=
  ⟨inMode RUN, by decide +kernel⟩

end Sys2Proof.Tests
end

