-- ==== Sys2Proof/Tests/Worked.lean ====
section
/-! SUPPORT. The worked examples of the spec: each test takes its numbers from the example named in its comment. -/

namespace Sys2Proof.Tests

set_option Elab.async false

open Sys2Proof Sys2Proof.Machine

/-- The state that a command answers. -/
def after (c : Instr) (s : State) : State := match exec c s with | .next t => t | _ => s

/-! ### Chapter 3: logical port 100 of P12 with 4 × 400GbE lies on lanes N100 and N101 -/

theorem test_port100_lanes :
    (setsAt (inMode RUN) [(F.TF_PORT_CFG_breakout, 2, 12)]).lanesOf 100 = [100, 101] ∧
      (setsAt (inMode RUN) [(F.TF_PORT_CFG_breakout, 2, 12)]).present 100 = true := by decide

/-! ### Chapter 4: a payload copy of the FAS holds the frame position until the true pattern qualifies -/

def fasAt (offset m : Nat) : OtucFrame :=
  ⟨offset, List.replicate 16 true, m, List.replicate 16 ⟨0, 0, 0, 0, 0, 0⟩, 0, 0, List.replicate 16 0, 0, false, 0, 0⟩
def fasA (m : Nat) : OtucFrame := fasAt 0x111 m
def fasB (m : Nat) : OtucFrame := fasAt 0x222 m
def opened : FrmSt := openCand (openCand frm0 0x111 0x3A) 0x222 0x7E
def f1 : FrmSt := (alignFrame opened (fasA 0x3A)).1
def f2 : FrmSt := (alignFrame f1 (fasB 0x7F)).1
def f3 : FrmSt := (alignFrame f2 (fasA 0x3A)).1

theorem test_copy_takes_the_aligner_to_if : f1.aligner = 1 ∧ f1.held = some 0x111 := by decide
theorem test_true_pattern_qualifies :
    (alignFrame f3 (fasB 0x80)).1.aligner = 2 ∧ (alignFrame f3 (fasB 0x80)).1.held = some 0x222 ∧
      (alignFrame f3 (fasB 0x80)).1.barred = [0x111] ∧ (alignFrame f3 (fasB 0x80)).2 = 1 := by decide

/-! ### Chapter 5: a RESILIENT LAG group of 6 members and 64 slots loses member 2 -/

def lag6 : Group := gSet true true 6 (List.replicate 6 ⟨0, 1, true⟩)

theorem test_lag_fill : gCounts 6 (lag6.slots.map (·.1)) = [11, 11, 11, 11, 10, 10] := by decide +kernel
theorem test_lag_alternates :
    (lag6.slots.filter (fun x => decide (x.1 = 2))).map (·.2) = [4, 5, 0, 1, 3, 4, 5, 0, 1, 3, 4] := by decide +kernel
theorem test_lag_rewrite :
    gCounts 6 ((gMemberDown lag6 2).slots.map (·.1)) = [13, 13, 0, 13, 13, 12] := by decide +kernel

/-- The slot of hash 0x9C3E_5A17 in a group of 4,096. -/
theorem test_slot_index : slotIndex 0x9C3E5A17 12 = 1577 := by decide

/-! ### Chapter 5: IPv6 with a segment routing header over MPLS -/

def selRec (tag base lenPos lenW lenSh term aPos aW bPos bW tbase cnt : Nat) (x : List Nat) : BitVec 128 :=
  BitVec.ofNat 128 (tag + base * 2 ^ 8 + lenPos * 2 ^ 16 + lenW * 2 ^ 22 + lenSh * 2 ^ 24 + term * 2 ^ 26 +
    aPos * 2 ^ 28 + aW * 2 ^ 34 + bPos * 2 ^ 36 + bW * 2 ^ 42 + tbase * 2 ^ 44 + cnt * 2 ^ 55 +
    x.getD 0 0 * 2 ^ 68 + x.getD 1 0 * 2 ^ 87 + x.getD 2 0 * 2 ^ 106)
def ext (from' len dest : Nat) : Nat := from' + (len - 1) * 2 ^ 6 + dest * 2 ^ 11
def tr (v m next : Nat) : BitVec 128 := BitVec.ofNat 128 (v + m * 2 ^ 32 + next * 2 ^ 64)
def none' : Nat := 192 * 2 ^ 11

def srhTables : ParseTables :=
  { states := [(0x000, selRec 0x01 14 0 0 0 0 12 3 0 0 0 2 [ext 0 14 0, none', none']),
      (0x010, selRec 0x10 4 0 0 0 0 2 2 4 1 2 2 [ext 0 4 16, none', none']),
      (0x011, selRec 0x10 4 0 0 0 0 2 2 4 1 2 2 [ext 0 4 20, none', none']),
      (0x020, selRec 0x06 40 0 0 0 0 6 2 42 2 4 2 [ext 0 32 24, ext 32 8 56, none']),
      (0x028, selRec 0x2B 8 1 1 3 0 0 2 0 0 6 1 [ext 0 8 64, ext 8 16 72, none']),
      (0x030, selRec 0x40 8 0 0 0 1 0 0 0 0 0 0 [ext 0 4 88, none', none'])]
    trans := [(0, tr 0x88470000 0xFFFF0000 0x010), (1, tr 0x86DD0000 0xFFFF0000 0x020),
      (2, tr 0x00010006 0x0001000F 0x020), (3, tr 0 0x00010000 0x011),
      (4, tr 0x002B0004 0x00FF00FF 0x028), (5, tr 0x00110000 0x00FF0000 0x030),
      (6, tr 0x00110000 0x00FF0000 0x030)]
    tmpl := [], hash := [] }

def srhFrame : List Byte :=
  List.replicate 12 0xEE ++ [0x88, 0x47] ++ beBytes 4 0x03E840FF ++ beBytes 4 0x05DC11FF ++
    ([0x60, 0, 0, 0, 0, 0, 43, 64] ++ List.replicate 32 0x20) ++ ([17, 6, 4, 2] ++ List.replicate 52 0x33) ++
    beBytes 8 0x1234567800080000 ++ List.replicate 54 0

theorem test_srh_walk :
    (parseWalk srhTables srhFrame 0 0 0 0 false).stack =
      [(0x01, 0), (0x10, 14), (0x10, 18), (0x06, 22), (0x2B, 62), (0x40, 118)] ∧
    (parseWalk srhTables srhFrame 0 0 0 0 false).exc = none ∧ srhFrame.length = 180 := by decide +kernel
theorem test_srh_fields :
    rangeBytes (parseWalk srhTables srhFrame 0 0 0 0 false).fv (16, 8) = beBytes 4 0x03E840FF ++ beBytes 4 0x05DC11FF ∧
    rangeBytes (parseWalk srhTables srhFrame 0 0 0 0 false).fv (64, 4) = [17, 6, 4, 2] ∧
    rangeBytes (parseWalk srhTables srhFrame 0 0 0 0 false).fv (88, 4) = beBytes 4 0x12345678 := by decide +kernel

/-! ### Chapter 6: the charge of 15,728,640 prefixes in 8,192 VRFs -/

theorem test_route_weights :
    ([65536, 7864320, 1507328, 131072, 3670016, 2097152, 131072, 262144].zipIdx.map (fun x => x.1 * classWeight x.2)).sum +
      8192 * routeCharge [(routeKey 0 0 0 0, 0)] - 8192 * classWeight 0 = 212074496 := by decide

/-! ### Chapter 7: the two buckets of a key whose hashes are 0x7E1B_4C02 and 0x2A40_91C7 -/

theorem test_em_buckets : emBucketOf 0x7E1B4C02 = 1000782 ∧ emBucketOf 0x2A4091C7 = 335313 := by decide

/-! ### Chapter 8: a tie between two rules goes to the lower rule id; an associative search over three banks -/

theorem test_tree_tie :
    (treeWinner [(12, ⟨7, 40, [⟨4, 1, 2, 0, 1000 + 2000 * 65536, 0⟩], 1, 1⟩),
        (900, ⟨7, 40, [⟨0, 3, 1, 8, 0x0A00000000000000, 0⟩], 1, 1⟩)]
      7 [10, 1, 1, 1, 5, 220]).map (·.1) = some 12 := by decide

def aKey (vlan ip port dscp : Nat) : Nat := assocKeyNat (beBytes 2 vlan ++ beBytes 4 ip ++ beBytes 2 port ++ beBytes 1 dscp)
def aE (id prio value mask : Nat) : AssocEntry := ⟨id, value, mask, prio, 0, false, false, false, false, none⟩
def assocArr : Tab AssocEntry :=
  [(32785, aE 100 200 (aKey 0 0x0A010000 443 0) (aKey 0 0xFFFF0000 0xFFFF 0)),
    (40963, aE 101 150 (aKey 0 0 443 46) (aKey 0 0 0xFFFF 0xFF)),
    (73728, aE 102 150 (aKey 0 0x0A010200 0 0) (aKey 0 0xFFFFFF00 0 0)),
    (98304, aE 103 10 0 0)]

theorem test_assoc_search :
    (assocSearch assocArr (aKey 20 0x0A010209 443 0) (aKey 0xFFFF 0xFFFFFFFF 0xFFFF 0) 0x230).map
      (fun x => (x.1.1, x.1.2.id, x.2)) = some (40963, 101, true) := by decide +kernel

/-- Bank 5 with priorities 20, 60, 120, 150, 150 and 300: the insert of priority 100 goes to position 2, after four moves
up from position 6. -/
theorem test_assoc_plan :
    assocPlan ([20, 60, 120, 150, 150, 300].zipIdx.map (fun x => (40960 + x.2, aE x.2 x.1 0 0))) 5 100 =
      some (.inr ⟨true, 6, 4, 2, 4⟩) := by decide +kernel

/-! ### Chapter 9: allocations of 1,500 B, 9,000 B and 64 B; the threshold at F = 4,192,768 and the loop's step -/

theorem test_allocations :
    ((blkReqs 1500).map blkSize).sum = 1536 ∧ ((blkReqs 9000).map blkSize).sum = 9216 ∧
      ((blkReqs 64).map blkSize).sum = 256 := by decide
def short (k shared : Nat) : State :=
  { setsAt (inMode RUN) [(F.DT_ADM_PROF_k, k, 2), (F.DT_ADM_PROF_k_max, 7, 2), (F.DT_ADM_PROF_loop_en, 1, 2),
      (F.DT_ADM_PROF_k_min, 0, 2), (F.DT_LOSSLESS_lossless, 8, 0), (F.DT_LOSSLESS_head_kib, 8192, 0)] with
    buf := { bufSt0 with shared := shared } }
theorem test_shared_region : (short 4 0).sharedSize = 176160768 := by decide +kernel
theorem test_thresholds :
    (short 4 (176160768 - 4194304)).threshold 2 = 8388608 ∧ (short 4 (176160768 - 4192768)).threshold 2 = 8385536 ∧
      (short 3 (176160768 - 4192768)).threshold 2 = 7058918 := by decide +kernel
theorem test_loop_step : (after .admissionLoopStep (short 4 171968000)).profK F.DT_ADM_PROF_k 2 = 3 := by decide +kernel

/-! ### Chapter 10: the refill at which new values take effect; tag increments -/

def shaperWords (pir pbs : Nat) : Word × Word × Word := (0, BitVec.ofNat 64 (pir * 2 ^ 21), BitVec.ofNat 64 (pbs * 2 ^ 24))
theorem test_shaper_change :
    (nodeRefill { nodeInit (shaperWords 100000 16000) with p := -8000, pend := some (shaperWords 40000 8000) }).p = 64000 ∧
      (nodeRefill { nodeInit (shaperWords 100000 16000) with p := -4000 }).p = 96000 ∧
      (nodeRefill { nodeInit (shaperWords 40000 8000) with p := 40000 }).p = 64000 := by decide

/-! ### Chapter 12: the decision for three copies of 1,000 B at a port with an overhead of 20 charges 24,480 bits -/

theorem test_list_charge :
    (({ inMode RUN with act := { view0 with nodes := [(100, (BitVec.ofNat 64 (20 * 2 ^ 50 + 2 ^ 57), BitVec.ofNat 64 (100000 * 2 ^ 21),
      BitVec.ofNat 64 (16000 * 2 ^ 24)))] } }).chargeNode 0 100 1000 3 |>.node 0 100).p = 128000 - 24480 := by decide

/-! ### Chapter 13: segment 2,621,450 with a grain of 1 KiB -/

theorem test_tail_map :
    tailMap 1024 2621450 5120 = (72, 40960) ∧ tailMap 1024 2621450 16384 = (72, 41984) ∧
      tailMap 1024 2621450 27648 = (72, 43008) ∧ tailMap 1024 2621450 38912 = (72, 44032) ∧
      tailMap 1024 2621450 0 = (67, 40960) := by decide

/-! ### Chapters 15 and 21: addresses, and a partial write -/

theorem test_addresses :
    regAddr R.DT_FAB_DEST 9 0 = 0x02A20240 ∧ regAddr R.TF_MAC_CNT 100 8 = 0x01093240 ∧
      regAddr R.KV_RESET_REQ 0 0 = 0x2008 ∧ regAddr R.TF_QCTX_BASE 70 0 = 0x100000000 + 0x11180 := by decide
theorem test_partial_write :
    let t := after (.registerWrite 0 0x2008 ⟨[0x02, 0xC3, 0, 0], []⟩) (busMaster (inMode RUN))
    t.get F.KV_ACC_ERR_LOG_offset 0 = 0x2008 ∧ t.get F.KV_ACC_ERR_LOG_write 0 = 1 ∧
      t.get F.KV_ACC_ERR_LOG_cause 0 = 3 ∧ t.mode = RUN := by decide +kernel

/-! ### Chapter 16: SYSRST_N joins an episode of core reach -/

def inService : State :=
  setsAt (onIsl (sets (inMode RUN) [(F.KV_RESET_CAUSE_sys_episodes, 5), (F.KV_RESET_CAUSE_core_episodes, 2),
    (F.KV_MC_STAT_role1, 1)]) [28, 29]) [(F.KV_MC_HEALTH_ready, 1, 0), (F.KV_MC_HEALTH_ready, 1, 1)]
theorem test_core_request_moves_no_mode :
    (after .coreReq inService).mode = RUN ∧ (after .coreReq inService).rst.reach = 1 := by decide +kernel
theorem test_sysrst_joins :
    let t := after .sysrstPin (after .coreReq inService)
    t.mode = HELD ∧ t.rst.reach = 2 ∧ t.get F.KV_RESET_CAUSE_sysrst_pin = 1 ∧ t.get F.KV_RESET_CAUSE_sw_core = 1 ∧
      t.get F.KV_RESET_CAUSE_core_episodes = 2 := by decide +kernel

/-! ### Chapter 1: a resume with the C5 spare in use leads to DEGRADED -/

theorem test_resume_degraded :
    (after .resumeReq (setsAt (inMode QUIESCED) [(F.TF_SPARE_STAT_in_state, 5, 5)])).mode = DEGRADED := by decide +kernel

end Sys2Proof.Tests
end

section
/-! PROOFS. What a step runs, the state at power-on, and that every command answers a next state. -/

namespace Sys2Proof.Machine

/-- Settles O1: `step` is by definition `exec` of the front command on the state with the queue's rest. -/
theorem stepRunsTheFrontCommand : Obligations.StepRunsTheFrontCommand :=
  fun _ _ _ => rfl

/-- Settles O3: each part is read off `State.reset`; with no register listed, every read falls back to the reset
word. -/
theorem resetStateIsPowerOn : Obligations.ResetStateIsPowerOn :=
  ⟨rfl, rfl, rfl, rfl, rfl, rfl, rfl, rfl, fun _ _ _ => rfl⟩

/-- Settles O4, by cases on the command: every path through a meaning ends in `ok` or `okIf`, and both are a next
state by definition. Most meanings are a single such end; those of the first group ask one question of the state
before it, and those of the second several. -/
theorem everyCommandAnswersANextState : Obligations.EveryCommandAnswersANextState := by
  intro c s
  cases c with
  | registerWrite | exitSequenceStep | trainingComplete | fwSendGo | todTxStart | ingressProcess | lagMemberRewrite
  | emFlushDone | agingSweep | rebuildDone | assocEntryRewrite | mirrorCopyTimeout | creditGrantIssue | cellReceive
  | deliveryReportReceive | egressResendTimeout | checkpoint | handoverComplete | pipeFaultDetect
  | conventionalReset =>
    dsimp only [exec, execRegisterWrite, execExitSequenceStep, execTrainingComplete, execFwSendGo, execTodTxStart,
      execIngressProcess, execLagMemberRewrite, execEmFlushDone, execAgingSweep, execRebuildDone,
      execAssocEntryRewrite, execMirrorCopyTimeout, execCreditGrantIssue, execCellReceive,
      execDeliveryReportReceive, execEgressResendTimeout, execCheckpoint, execHandoverComplete, execPipeFaultDetect,
      execConventionalReset]
    split <;> exact ⟨_, rfl⟩
  | ballastCompare | batchAbort | cellSend | chainHdr | commit | completionTimeout | creditCellSend | dmaCompletion
  | doorbellWrite | egressProcess | frameDelivered | hostloadGo | idlUnitReceive | learnRecordApply
  | learnRecordReceive | mboxOpDone | mcBeat | memRequestUnsupported | puntDeliver | retxTimeout | schedDecision
  | selftestPassEnd | smbReadResult | smbReadStart | smbWrite | voqService =>
    dsimp only [exec, execBallastCompare, execBatchAbort, execCellSend, execChainHdr, execCommit,
      execCompletionTimeout, execCreditCellSend, execDmaCompletion, execDoorbellWrite, execEgressProcess,
      execFrameDelivered, execHostloadGo, execIdlUnitReceive, execLearnRecordApply, execLearnRecordReceive,
      execMboxOpDone, execMcBeat, execMemRequestUnsupported, execPuntDeliver, execRetxTimeout, execSchedDecision,
      execSelftestPassEnd, execSmbReadResult, execSmbReadStart, execSmbWrite, execVoqService]
    repeat' split
    all_goals exact ⟨_, rfl⟩
  | _ => exact ⟨_, rfl⟩

end Sys2Proof.Machine
end

section
/-! PROOFS. Rules of register accesses: the words of a request, where a register stands, what a plain store leaves in
each bit, an entry of the access-error log, and frames under `settle`. -/

namespace Sys2Proof.Machine

/-! ### Frames of an answer -/

/-- A state that differs from s in its registers alone, and there only at listed addresses, is still in that frame
once settled. -/
theorem onlyRegs_settle {l : List Nat} {s t : State} (hk : ∃ regs, t = { s with regs := regs }) (h : RegsBut l s t) :
    OnlyRegs l s t.settle := by
  refine ⟨?_, regsBut_settle_of h⟩
  obtain ⟨regs, rfl⟩ := hk
  exact settled_settle _

theorem onlyRegs_settle_refl (l : List Nat) (s : State) : OnlyRegs l s s.settle :=
  onlyRegs_settle ⟨s.regs, rfl⟩ (regsBut_refl l s)

/-- A state with the registers of s leaves them alone, once settled. -/
theorem regsBut_settle_of_regs {l : List Nat} {s t : State} (h : t.regs = s.regs) : RegsBut l s t.settle :=
  regsBut_settle_of fun _ _ _ _ _ => by rw [h]

/-- A write of one register stays in a frame that lists its address. -/
theorem regsBut_wr {l : List Nat} {s t : State} {r : RegD} {w : Word} {i j : Nat} (h : RegsBut l s t)
    (hm : regAddr r i j ∈ l) : RegsBut l s (t.wr r w i j) := by
  intro a ha h1 h2 h3
  have hne : a ≠ regAddr r i j := fun e => ha (e.symm ▸ hm)
  exact (wr_tget t r w i j hne).trans (h a ha h1 h2 h3)

/-- A register at no listed address reads as before. -/
theorem RegsBut.rd {l : List Nat} {s t : State} (h : RegsBut l s t) {r : RegD} {i j : Nat} (hl : regAddr r i j ∉ l)
    (h0 : regAddr r i j ≠ regAddr R.KV_MODE 0 0) (h1 : regAddr r i j ≠ regAddr R.KV_EVT 0 0)
    (h2 : regAddr r i j ≠ regAddr R.KV_EVT_ARM 0 0) : t.rd r i j = s.rd r i j :=
  congrArg (Option.getD · (resetWord r i)) (h _ hl h0 h1 h2)

/-! ### The bits of a word -/

/-- A field within the low n bits does not see what lies above them. -/
theorem bits_mod_two_pow {x lo w n : Nat} (h : lo + w ≤ n) : bits (x % 2 ^ n) lo w = bits x lo w := by
  refine Nat.eq_of_testBit_eq fun k => ?_
  rw [testBit_bits, testBit_bits, Nat.testBit_mod_two_pow]
  by_cases hk : k < w
  · simp [show lo + k < n by omega]
  · simp [hk]

/-- Fields agree when their bits do. -/
theorem bits_congr {x y lo w : Nat} (h : ∀ k < w, x.testBit (lo + k) = y.testBit (lo + k)) :
    bits x lo w = bits y lo w := by
  refine Nat.eq_of_testBit_eq fun k => ?_
  rw [testBit_bits, testBit_bits]
  by_cases hk : k < w
  · rw [h k hk]
  · simp [hk]

theorem bits_word (w : Word) : bits w.toNat 0 64 = w.toNat := by
  simp [bits, Nat.mod_eq_of_lt w.isLt]

/-- The bits that a plain store takes from the word written (R9, R12). -/
def storedMask (r : RegD) (locked : Bool) : Nat := accMask r .rw ||| (if locked then 0 else accMask r .rwl)

theorem testBit_plainWord (r : RegD) (locked : Bool) (old w : Word) {k : Nat} (hk : k < 64) :
    (plainWord r locked old w).toNat.testBit k =
      ((if (storedMask r locked).testBit k then w.toNat.testBit k else old.toNat.testBit k) &&
        !(w.toNat.testBit k && (accMask r .w1c).testBit k)) := by
  have e : plainWord r locked old w =
      ((old &&& ~~~ BitVec.ofNat 64 (storedMask r locked)) ||| (w &&& BitVec.ofNat 64 (storedMask r locked))) &&&
        ~~~ (w &&& BitVec.ofNat 64 (accMask r .w1c)) := rfl
  simp only [e, BitVec.testBit_toNat, BitVec.getLsbD_and, BitVec.getLsbD_or, BitVec.getLsbD_not,
    BitVec.getLsbD_ofNat, hk, decide_true, Bool.true_and]
  cases (storedMask r locked).testBit k <;> simp

/-- A field whose bits are all stored, and none of them cleared by a 1, holds what was written. -/
theorem bits_plainWord_stored {r : RegD} {locked : Bool} {old w : Word} {lo n : Nat} (hn : lo + n ≤ 64)
    (hm : ∀ k < n, (storedMask r locked).testBit (lo + k) = true)
    (hc : ∀ k < n, (accMask r .w1c).testBit (lo + k) = false) :
    bits (plainWord r locked old w).toNat lo n = bits w.toNat lo n :=
  bits_congr fun k hk => by simp [testBit_plainWord r locked old w (k := lo + k) (by omega), hm k hk, hc k hk]

/-- A field none of whose bits is stored or cleared keeps what it held. -/
theorem bits_plainWord_kept {r : RegD} {locked : Bool} {old w : Word} {lo n : Nat} (hn : lo + n ≤ 64)
    (hm : ∀ k < n, (storedMask r locked).testBit (lo + k) = false)
    (hc : ∀ k < n, (accMask r .w1c).testBit (lo + k) = false) :
    bits (plainWord r locked old w).toNat lo n = bits old.toNat lo n :=
  bits_congr fun k hk => by simp [testBit_plainWord r locked old w (k := lo + k) (by omega), hm k hk, hc k hk]

theorem plainWord_backup (locked : Bool) (old w : Word) : plainWord R.KV_BACKUP locked old w = w := by
  refine BitVec.eq_of_toNat_eq ?_
  rw [← bits_word, ← bits_word w]
  exact bits_plainWord_stored (le_refl _) (by revert locked; decide) (by decide)

theorem storedMask_admLoop (locked : Bool) : storedMask R.DT_ADM_LOOP locked = 0xFFFF7F7F := by
  cases locked <;> rfl

/-! ### The words of a request (R843, R844) -/

theorem wordsOf_one {a n : Nat} (ha : a % 8 = 0) (h0 : 0 < n) (h8 : n ≤ 8) : wordsOf a n = [a] := by
  have e : (a + n - 1) / 8 - a / 8 + 1 = 1 := by omega
  have e' : 8 * (a / 8) = a := by omega
  simp [wordsOf, show n ≠ 0 by omega, e, e']

theorem wordAt_whole (a : Nat) {bytes : List Byte} (h : bytes.length = 8) :
    wordAt a bytes a = some (BitVec.ofNat 64 (leNat bytes)) := by
  simp [wordAt, h, List.take_of_length_le]

theorem wordAt_part (a : Nat) {bytes : List Byte} (h : bytes.length < 8) : wordAt a bytes a = none := by
  simp [wordAt, h]

/-- A write of one word, whole or in part, by a source that reaches the registers, answers what that word does. -/
theorem registerWrite_answers {src addr : Nat} {bytes part : List Byte} {s : State} {P : State → Prop}
    (ho : s.srcOpen src = true) (ha : addr % 8 = 0) (h0 : bytes ≠ []) (h8 : bytes.length ≤ 8)
    (hin : addr + 8 ≤ 0x4000000)
    (h : P (s.writeWord src addr addr (wordAt addr bytes addr) part).1.settle) :
    Answers (.registerWrite src addr ⟨bytes, part⟩) s P := by
  have he : exec (.registerWrite src addr ⟨bytes, part⟩) s =
      okIf (s.srcOpen src && decide (addr + bytes.length ≤ 0x4000000)) s (s.writeBytes src addr bytes part) :=
    if_neg (show ¬ bar2Base ≤ addr by unfold bar2Base; omega)
  refine answers_okIf he (by simp [ho]; omega) ?_
  simpa [State.writeBytes, wordsOf_one ha (List.length_pos_iff.2 h0) h8] using h

/-! ### Where a register stands -/

/-- Word a of BAR0 is element ij of a register array, outside the counter pages and the retained SRAM. -/
structure RegAt (a : Nat) (r : RegD) (ij : Nat × Nat) : Prop where
  page : inPages a = false
  sram : inSram a = false
  low : a < 0x4000000
  reg : findReg a = some r
  idx : regIdx r a = some ij

theorem regAt_backup : ∀ i < 8, RegAt (regAddr R.KV_BACKUP i 0) R.KV_BACKUP (i, 0) := by
  have h : ∀ i < 8, inPages (regAddr R.KV_BACKUP i 0) = false ∧ inSram (regAddr R.KV_BACKUP i 0) = false ∧
      regAddr R.KV_BACKUP i 0 < 0x4000000 ∧ findReg (regAddr R.KV_BACKUP i 0) = some R.KV_BACKUP ∧
      regIdx R.KV_BACKUP (regAddr R.KV_BACKUP i 0) = some (i, 0) := by decide
  intro i hi
  obtain ⟨hp, hs, hl, hr, hx⟩ := h i hi
  exact ⟨hp, hs, hl, hr, hx⟩

/-- The backup registers' addresses are whole words of BAR0, apart from those that `settle` touches. -/
theorem backupAddr : ∀ i < 8, regAddr R.KV_BACKUP i 0 % 8 = 0 ∧ regAddr R.KV_BACKUP i 0 + 8 ≤ 0x4000000 ∧
    regAddr R.KV_BACKUP i 0 ≠ regAddr R.KV_MODE 0 0 ∧ regAddr R.KV_BACKUP i 0 ≠ regAddr R.KV_EVT 0 0 ∧
    regAddr R.KV_BACKUP i 0 ≠ regAddr R.KV_EVT_ARM 0 0 := by decide

theorem regAt_admLoop : RegAt (regAddr R.DT_ADM_LOOP 0 0) R.DT_ADM_LOOP (0, 0) where
  page := rfl
  sram := rfl
  low := by decide
  reg := rfl
  idx := rfl

theorem RegAt.bar0Reg {a : Nat} {r : RegD} {ij : Nat × Nat} (h : RegAt a r ij) : bar0Reg a = some r := by
  simp [Machine.bar0Reg, h.low, h.reg]

/-! ### A word written to a register (R9, R846, R849, R853, R858) -/

section
variable {s : State} {src a first : Nat} {r : RegD} {ij : Nat × Nat} {part : List Byte}

/-- A whole word that passes every check acts on its register. -/
theorem writeWord_acts {x : Word} (h : RegAt a r ij) (hs : src ≠ 1 ∨ smbMay r (some x) = true)
    (hr : s.reachable r ij.1 = true) (hl : s.locksOut r ij.1 ij.2 x = false) :
    s.writeWord src a first (some x) part = (s.regAct src r ij.1 ij.2 x part, false) := by
  have hd : ¬ (src = 1 ∧ smbMay r (some x) = false) := by
    rintro ⟨h1, h2⟩
    simp [h1, h2] at hs
  simp [State.writeWord, h.page, h.sram, h.bar0Reg, h.idx, hd, hr, hl]

theorem writeWord_unmapped {w : Option Word} (hp : inPages a = false) (hm : inSram a = false)
    (hf : bar0Reg a = none) :
    s.writeWord src a first w part = (s.accLog causeUnmapped src first true, src == 1) := by
  simp [State.writeWord, hp, hm, hf]

theorem writeWord_isolated {w : Option Word} (h : RegAt a r ij) (hs : src ≠ 1) (hr : s.reachable r ij.1 = false) :
    s.writeWord src a first w part = (s.accLog causeIsolated src first true, false) := by
  simp [State.writeWord, h.page, h.sram, h.bar0Reg, h.idx, hs, hr]

theorem writeWord_partial (h : RegAt a r ij) (hs : src ≠ 1) (hr : s.reachable r ij.1 = true) :
    s.writeWord src a first none part = (s.accLog causeWidth src first true, false) := by
  simp [State.writeWord, h.page, h.sram, h.bar0Reg, h.idx, hs, hr]

/-- The sideband is denied a register that is not its own (R858). -/
theorem writeWord_denied {w : Option Word} (h : RegAt a r ij) (hs : smbMay r w = false) :
    s.writeWord 1 a first w part = (s.accLog causeDenied 1 first true, true) := by
  simp [State.writeWord, h.page, h.sram, h.bar0Reg, hs]

/-- In the retained SRAM a whole word of a controller is stored from offset 0x100 on, and no other (R854; log 110). -/
theorem writeWord_sram {x : Word} (hp : inPages a = false) (hm : inSram a = true) :
    s.writeWord src a first (some x) part =
      (if src = 2 ∧ 0x40100 ≤ a then s.sramPut (a - 0x40000) x else s, src == 1) := by
  simp [State.writeWord, hp, hm]

end

/-- A register without RWL fields locks nothing out. -/
theorem locksOut_of_noRwl {r : RegD} (h : accMask r .rwl = 0) (s : State) (i j : Nat) (x : Word) :
    s.locksOut r i j x = false := by
  simp [State.locksOut, h]

/-- A whole word written to a backup register by a source that may. -/
theorem writeWord_backup (s : State) {src i first : Nat} (x : Word) (part : List Byte) (hi : i < 8) :
    s.writeWord src (regAddr R.KV_BACKUP i 0) first (some x) part = (s.wr R.KV_BACKUP x i 0, false) := by
  have ha : s.regAct src R.KV_BACKUP i 0 x part = s.plain R.KV_BACKUP i 0 x := rfl
  rw [writeWord_acts (regAt_backup i hi) (.inr (by simp [smbMay])) rfl (locksOut_of_noRwl rfl s i 0 x), ha,
    State.plain, plainWord_backup]

/-- A whole word written to `DT_ADM_LOOP` by PF0 or a controller, with island 41 ON. -/
theorem writeWord_admLoop {s : State} {src first : Nat} (x : Word) (part : List Byte) (hs : src ≠ 1)
    (hon : s.isOn 41 = true) :
    s.writeWord src (regAddr R.DT_ADM_LOOP 0 0) first (some x) part = (s.plain R.DT_ADM_LOOP 0 0 x, false) := by
  have ha : s.regAct src R.DT_ADM_LOOP 0 0 x part = s.plain R.DT_ADM_LOOP 0 0 x := rfl
  have hr : s.reachable R.DT_ADM_LOOP 0 = true := (congrArg (_ || ·) hon).trans (Bool.or_true _)
  rw [writeWord_acts regAt_admLoop (.inl hs) hr (locksOut_of_noRwl rfl s 0 0 x), ha]

end Sys2Proof.Machine
end

section
/-! PROOFS. The access-error log: what an entry holds and what logging leaves alone (R853). -/

namespace Sys2Proof.Machine

/-- The addresses of the log's entries are apart from those that `settle` touches, and from its status. -/
theorem accLogAddr_ne : ∀ n < 8, regAddr R.KV_ACC_ERR_LOG n 0 ≠ regAddr R.KV_MODE 0 0 ∧
    regAddr R.KV_ACC_ERR_LOG n 0 ≠ regAddr R.KV_EVT 0 0 ∧ regAddr R.KV_ACC_ERR_LOG n 0 ≠ regAddr R.KV_EVT_ARM 0 0 ∧
    regAddr R.KV_ACC_ERR_LOG n 0 ≠ regAddr R.KV_ACC_ERR_STAT 0 0 := by decide

/-- One more in a count of 16 bits that saturates. -/
theorem satAdd_sixteen {c : Nat} (hc : c < 2 ^ 16) : satAdd (2 ^ 16 - 1) c 1 % 2 ^ 16 = min 65535 (c + 1) := by
  unfold satAdd
  split <;> omega

section
variable (s : State) (cause src off : Nat) (write : Bool)

theorem accLogNext_lt : s.get F.KV_ACC_ERR_STAT_next < 8 := State.get_lt ..

/-- The state of the log's status before the entry is counted: `wrapped` is set once eight have been logged. -/
def State.accWrapped : State :=
  if 8 ≤ s.get F.KV_ACC_ERR_STAT_count then s.raise F.KV_ACC_ERR_STAT_wrapped else s

/-- The entry of an access. -/
def accEntry : Word :=
  BitVec.ofNat 64 (off % 2 ^ 26 + b2n write * 2 ^ 26 + cause * 2 ^ 27 + src * 2 ^ 30 + bits s.time 10 32 * 2 ^ 32)

theorem State.accLog_eq : s.accLog cause src off write =
    ((s.accWrapped.wr R.KV_ACC_ERR_LOG (accEntry s cause src off write) (s.get F.KV_ACC_ERR_STAT_next)).addSat
      F.KV_ACC_ERR_STAT_count 1).addWrap F.KV_ACC_ERR_STAT_next 1 := rfl

theorem State.accWrapped_keeps : ∃ regs, s.accWrapped = { s with regs := regs } := by
  unfold State.accWrapped
  split
  · exact ⟨_, rfl⟩
  · exact ⟨s.regs, rfl⟩

theorem State.get_accWrapped {f : Fld} (hr : f.reg = R.KV_ACC_ERR_STAT) (hf : f.lo + f.w ≤ 19) :
    s.accWrapped.get f = s.get f := by
  unfold State.accWrapped
  split
  · exact State.get_raise_fld s hr (by decide) (.inr hf)
  · rfl

/-- The entry's write leaves the log's status alone. -/
theorem State.get_accWrapped_wr {f : Fld} {n : Nat} (e : Word) (hn : n < 8) (hr : f.reg = R.KV_ACC_ERR_STAT)
    (hf : f.lo + f.w ≤ 19) : (s.accWrapped.wr R.KV_ACC_ERR_LOG e n).get f = s.get f := by
  obtain ⟨-, -, -, h⟩ := accLogAddr_ne n hn
  rw [State.get, hr, State.rd_wr_ne _ _ h.symm, ← hr]
  exact s.get_accWrapped hr hf

/-- Logging touches the register file alone. -/
theorem State.accLog_keeps : ∃ regs, s.accLog cause src off write = { s with regs := regs } := by
  obtain ⟨regs, h⟩ := s.accWrapped_keeps
  have hw : ∃ r, s.accWrapped.wr R.KV_ACC_ERR_LOG (accEntry s cause src off write) (s.get F.KV_ACC_ERR_STAT_next) =
      { s with regs := r } := by
    rw [h]
    exact ⟨_, rfl⟩
  exact State.keeps_put (State.keeps_put hw F.KV_ACC_ERR_STAT_count _ 0 0) F.KV_ACC_ERR_STAT_next _ 0 0

/-- Logging writes the next entry and the log's status. -/
theorem State.accLog_regsBut : RegsBut [regAddr R.KV_ACC_ERR_LOG (s.get F.KV_ACC_ERR_STAT_next) 0,
    regAddr R.KV_ACC_ERR_STAT 0 0] s (s.accLog cause src off write) := by
  have hw : RegsBut [regAddr R.KV_ACC_ERR_LOG (s.get F.KV_ACC_ERR_STAT_next) 0, regAddr R.KV_ACC_ERR_STAT 0 0] s
      s.accWrapped := by
    unfold State.accWrapped
    split
    · exact regsBut_raise (regsBut_refl _ _) (by simp [F.KV_ACC_ERR_STAT_wrapped])
    · exact regsBut_refl _ _
  rw [State.accLog_eq]
  exact regsBut_put (regsBut_put (regsBut_wr hw (by simp)) (by simp [F.KV_ACC_ERR_STAT_count]))
    (by simp [F.KV_ACC_ERR_STAT_next])

/-- The entry is what the next place of the log reads. -/
theorem State.rd_accLog_entry : (s.accLog cause src off write).rd R.KV_ACC_ERR_LOG (s.get F.KV_ACC_ERR_STAT_next) =
    accEntry s cause src off write := by
  obtain ⟨-, -, -, h⟩ := accLogAddr_ne _ (accLogNext_lt s)
  rw [State.accLog_eq, State.addWrap, State.addSat, State.rd_put_ne _ _ h, State.rd_put_ne _ _ h, State.rd_wr_self]

/-- The log's place moves on, modulo 8. -/
theorem State.get_accLog_next : (s.accLog cause src off write).get F.KV_ACC_ERR_STAT_next =
    (s.get F.KV_ACC_ERR_STAT_next + 1) % 8 := by
  rw [State.accLog_eq, State.addWrap, State.get_put_self _ _ _ _ _ (by decide), State.addSat,
    State.get_put_fld (f := F.KV_ACC_ERR_STAT_count) (g := F.KV_ACC_ERR_STAT_next) _ _ rfl (by decide)
      (.inl (by decide)), s.get_accWrapped_wr _ (accLogNext_lt s) rfl (by decide)]
  rfl

/-- The log's count saturates at 65,535. -/
theorem State.get_accLog_count : (s.accLog cause src off write).get F.KV_ACC_ERR_STAT_count =
    min 65535 (s.get F.KV_ACC_ERR_STAT_count + 1) := by
  rw [State.accLog_eq, State.addWrap, State.get_put_fld (f := F.KV_ACC_ERR_STAT_next) (g := F.KV_ACC_ERR_STAT_count) _ _ rfl
    (by decide) (.inr (by decide)), State.addSat, State.get_put_self _ _ _ _ _ (by decide),
    s.get_accWrapped_wr _ (accLogNext_lt s) rfl (by decide)]
  exact satAdd_sixteen (State.get_lt s F.KV_ACC_ERR_STAT_count 0 0)

/-- The fields of an entry, for values that fit them. -/
theorem accEntry_fields (hc : cause < 8) (hs : src < 4) (ho : off < 0x4000000) :
    bits (accEntry s cause src off write).toNat 0 26 = off ∧
      bits (accEntry s cause src off write).toNat 26 1 = b2n write ∧
      bits (accEntry s cause src off write).toNat 27 3 = cause ∧
      bits (accEntry s cause src off write).toNat 30 2 = src := by
  have ht : bits s.time 10 32 < 2 ^ 32 := bits_lt ..
  have hw : b2n write < 2 := by cases write <;> decide
  rw [accEntry, BitVec.toNat_ofNat]
  generalize bits s.time 10 32 = t at ht
  generalize b2n write = w at hw
  simp only [bits]
  omega

/-- What the log shows of an entry, once the registers it was written to have settled. -/
theorem State.accLog_settle_shows {u : State} (hu : u.regs = (s.accLog cause src off write).regs) (hc : cause < 8)
    (hs : src < 4) (ho : off < 0x4000000) :
    u.settle.get F.KV_ACC_ERR_LOG_cause (s.get F.KV_ACC_ERR_STAT_next) = cause ∧
      u.settle.get F.KV_ACC_ERR_LOG_offset (s.get F.KV_ACC_ERR_STAT_next) = off ∧
      u.settle.get F.KV_ACC_ERR_LOG_write (s.get F.KV_ACC_ERR_STAT_next) = b2n write ∧
      u.settle.get F.KV_ACC_ERR_LOG_source (s.get F.KV_ACC_ERR_STAT_next) = src := by
  obtain ⟨h0, h1, h2, -⟩ := accLogAddr_ne _ (accLogNext_lt s)
  have hf : ∀ f : Fld, f.reg = R.KV_ACC_ERR_LOG → u.settle.get f (s.get F.KV_ACC_ERR_STAT_next) =
      bits (accEntry s cause src off write).toNat f.lo f.w := by
    intro f hr
    rw [State.get, hr, State.rd_settle _ h0 h1 h2, State.rd_congr hu, State.rd_accLog_entry]
  obtain ⟨ho', hw', hc', hs'⟩ := accEntry_fields s cause src off write hc hs ho
  exact ⟨(hf _ rfl).trans hc', (hf _ rfl).trans ho', (hf _ rfl).trans hw', (hf _ rfl).trans hs'⟩

end

end Sys2Proof.Machine
end

section
/-! PROOFS. Register writes by PF0 and the controllers, and the sideband's transactions (R841 to R858). -/

namespace Sys2Proof.Machine

/-! ### REGISTER_WRITE -/

theorem State.srcOpen_cases {s : State} {src : Nat} (h : s.srcOpen src = true) (h1 : src ≠ 1) : src = 0 ∨ src = 2 := by
  unfold State.srcOpen at h
  by_cases h0 : src = 0
  · exact .inl h0
  · simp [h0, h1] at h
    exact .inr h.1

/-- A whole word written to a backup register is what it holds (R9, R841). -/
theorem registerWrite_backup {src i : Nat} {bytes part : List Byte} {s : State} (ho : s.srcOpen src = true)
    (hi : i < 8) (h8 : bytes.length = 8) :
    Answers (.registerWrite src (regAddr R.KV_BACKUP i 0) ⟨bytes, part⟩) s (fun t =>
      t.rd R.KV_BACKUP i = BitVec.ofNat 64 (leNat bytes) ∧ OnlyRegs [regAddr R.KV_BACKUP i 0] s t) := by
  obtain ⟨hal, hin, h0, h1, h2⟩ := backupAddr i hi
  refine registerWrite_answers ho hal (by rintro rfl; simp at h8) h8.le hin ?_
  rw [wordAt_whole _ h8, writeWord_backup s _ _ hi]
  refine ⟨?_, onlyRegs_settle ⟨_, rfl⟩ (regsBut_wr (regsBut_refl _ s) (List.mem_singleton_self _))⟩
  rw [State.rd_settle _ h0 h1 h2, State.rd_wr_self]

/-- A whole word written to `DT_ADM_LOOP` stores its three fields and no reserved bit (R9, R12). -/
theorem registerWrite_admLoop {src : Nat} {bytes part : List Byte} {s : State} (ho : s.srcOpen src = true)
    (hs : src ≠ 1) (h8 : bytes.length = 8) (hon : s.isOn 41 = true) :
    Answers (.registerWrite src (regAddr R.DT_ADM_LOOP 0 0) ⟨bytes, part⟩) s (fun t =>
      t.get F.DT_ADM_LOOP_u_high = bits (leNat bytes) 0 7 ∧ t.get F.DT_ADM_LOOP_u_low = bits (leNat bytes) 8 7 ∧
      t.get F.DT_ADM_LOOP_loop_us = bits (leNat bytes) 16 16 ∧
      bits (t.rd R.DT_ADM_LOOP).toNat 32 32 = bits (s.rd R.DT_ADM_LOOP).toNat 32 32 ∧
      OnlyRegs [regAddr R.DT_ADM_LOOP 0 0] s t) := by
  refine registerWrite_answers ho (by decide) (by rintro rfl; simp at h8) h8.le (by decide) ?_
  rw [wordAt_whole _ h8, writeWord_admLoop _ _ hs hon, State.plain]
  generalize hx : BitVec.ofNat 64 (leNat bytes) = x
  generalize s.locked R.DT_ADM_LOOP = locked
  have hr : (s.wr R.DT_ADM_LOOP (plainWord R.DT_ADM_LOOP locked (s.rd R.DT_ADM_LOOP) x)).settle.rd R.DT_ADM_LOOP =
      plainWord R.DT_ADM_LOOP locked (s.rd R.DT_ADM_LOOP) x := by
    rw [State.rd_settle _ (by decide) (by decide) (by decide), State.rd_wr_self]
  have hstored : ∀ {lo n : Nat}, lo + n ≤ 64 → (∀ k < n, Nat.testBit 0xFFFF7F7F (lo + k) = true) →
      bits (plainWord R.DT_ADM_LOOP locked (s.rd R.DT_ADM_LOOP) x).toNat lo n = bits (leNat bytes) lo n := by
    intro lo n hn hm
    rw [bits_plainWord_stored (r := R.DT_ADM_LOOP) hn (by rwa [storedMask_admLoop]) (fun _ _ => Nat.zero_testBit _),
      ← hx, BitVec.toNat_ofNat, bits_mod_two_pow hn]
  simp only [State.get, F.DT_ADM_LOOP_u_high, F.DT_ADM_LOOP_u_low, F.DT_ADM_LOOP_loop_us, hr]
  refine ⟨hstored (by decide) (by decide), hstored (by decide) (by decide), hstored (by decide) (by decide), ?_,
    onlyRegs_settle ⟨_, rfl⟩ (regsBut_wr (regsBut_refl _ s) (List.mem_singleton_self _))⟩
  exact bits_plainWord_kept (by decide) (by rw [storedMask_admLoop]; decide) (fun _ _ => Nat.zero_testBit _)

/-- A write that finds no register, an island out of service, or a word in part, is logged by its cause and does
nothing else (R843, R846, R853). -/
theorem writeWord_logs {src addr cause : Nat} {bytes part : List Byte} {s : State} (hs : src ≠ 1)
    (hin : addr < 0x4000000) (hp : inPages addr = false) (hm : inSram addr = false)
    (hc : (findReg addr = none ∧ cause = 4) ∨
      (∃ r ij, findReg addr = some r ∧ regIdx r addr = some ij ∧ s.reachable r ij.1 = false ∧ cause = 2) ∨
      (∃ r ij, findReg addr = some r ∧ regIdx r addr = some ij ∧ s.reachable r ij.1 = true ∧ bytes.length < 8 ∧
        cause = 3)) :
    (s.writeWord src addr addr (wordAt addr bytes addr) part).1 = s.accLog cause src addr true ∧ cause < 8 := by
  obtain ⟨hf, rfl⟩ | ⟨r, ij, hf, hx, hr, rfl⟩ | ⟨r, ij, hf, hx, hr, h8, rfl⟩ := hc
  · rw [writeWord_unmapped hp hm (by simp [bar0Reg, hf])]
    exact ⟨rfl, by decide⟩
  · rw [writeWord_isolated ⟨hp, hm, hin, hf, hx⟩ hs hr]
    exact ⟨rfl, by decide⟩
  · rw [wordAt_part addr h8, writeWord_partial ⟨hp, hm, hin, hf, hx⟩ hs hr]
    exact ⟨rfl, by decide⟩

/-- A write that is logged leaves its entry in the next place of the log, moves the log on, and no more (R853). -/
theorem registerWrite_logged {src addr cause : Nat} {bytes part : List Byte} {s : State} (ho : s.srcOpen src = true)
    (hs : src ≠ 1) (hal : addr % 8 = 0) (h0 : bytes ≠ []) (h8 : bytes.length ≤ 8) (hin : addr + 8 ≤ 0x4000000)
    (hc : cause < 8)
    (hw : (s.writeWord src addr addr (wordAt addr bytes addr) part).1 = s.accLog cause src addr true) :
    Answers (.registerWrite src addr ⟨bytes, part⟩) s (fun t =>
      t.get F.KV_ACC_ERR_LOG_cause (s.get F.KV_ACC_ERR_STAT_next) = cause ∧
      t.get F.KV_ACC_ERR_LOG_offset (s.get F.KV_ACC_ERR_STAT_next) = addr ∧
      t.get F.KV_ACC_ERR_LOG_write (s.get F.KV_ACC_ERR_STAT_next) = 1 ∧
      t.get F.KV_ACC_ERR_LOG_source (s.get F.KV_ACC_ERR_STAT_next) = src ∧
      t.get F.KV_ACC_ERR_STAT_next = (s.get F.KV_ACC_ERR_STAT_next + 1) % 8 ∧
      t.get F.KV_ACC_ERR_STAT_count = min 65535 (s.get F.KV_ACC_ERR_STAT_count + 1) ∧
      OnlyRegs [regAddr R.KV_ACC_ERR_LOG (s.get F.KV_ACC_ERR_STAT_next) 0, regAddr R.KV_ACC_ERR_STAT 0 0] s t) := by
  have hs4 : src < 4 := by rcases State.srcOpen_cases ho hs with rfl | rfl <;> decide
  obtain ⟨hcause, hoff, hwrite, hsrc⟩ := s.accLog_settle_shows cause src addr true rfl hc hs4 (by omega)
  refine registerWrite_answers ho hal h0 h8 hin ?_
  rw [hw]
  refine ⟨hcause, hoff, hwrite, hsrc, ?_, ?_, onlyRegs_settle (s.accLog_keeps ..) (s.accLog_regsBut _ _ _ _)⟩
  · rw [State.get_settle _ (by decide) (by decide) (by decide), State.get_accLog_next]
  · rw [State.get_settle _ (by decide) (by decide) (by decide), State.get_accLog_count]

theorem State.sramGet_settle (s : State) (off : Nat) : s.settle.sramGet off = s.sramGet off := by
  simp [State.sramGet]

/-- A whole word written to the retained SRAM from offset 0x100 on is stored for a controller and dropped for PF0
(R854; log 110). -/
theorem registerWrite_sram {src off : Nat} {bytes part : List Byte} {s : State} (ho : s.srcOpen src = true)
    (hs : src ≠ 1) (hal : off % 8 = 0) (hlo : 0x100 ≤ off) (hhi : off < 0x10000) (h8 : bytes.length = 8) :
    Answers (.registerWrite src (0x40000 + off) ⟨bytes, part⟩) s (fun t =>
      (src = 2 → t.sramGet off = BitVec.ofNat 64 (leNat bytes) ∧
        (∀ a, a < off ∨ off + 8 ≤ a → tget t.sram a 0 = tget s.sram a 0)) ∧
      (src = 0 → t.sram = s.sram) ∧ RegsBut [] s t) := by
  have hp : inPages (0x40000 + off) = false := by simp [inPages]
  have hm : inSram (0x40000 + off) = true := by simp [inSram]; omega
  refine registerWrite_answers ho (by omega) (by rintro rfl; simp at h8) h8.le (by omega) ?_
  rw [wordAt_whole _ h8, writeWord_sram hp hm, Nat.add_sub_cancel_left]
  obtain rfl | rfl := State.srcOpen_cases ho hs
  · simp [regsBut_settle]
  · rw [if_pos ⟨rfl, by omega⟩]
    refine ⟨fun _ => ⟨?_, fun a ha => ?_⟩, by simp, regsBut_settle_of_regs rfl⟩
    · rw [State.sramGet_settle, State.sramGet_sramPut]
    · rw [State.settle_sram, State.sramPut_ne _ _ _ ha]

/-! ### The sideband -/

/-- A command that ends in `ok u` answers u, settled, and no other state. -/
theorem next_unique {c : Instr} {s t u : State} (ht : exec c s = .next t) (hu : exec c s = ok u) : t = u.settle :=
  Host.Outcome.next.inj (ht.symm.trans hu)

section
variable {s : State} {bytes : List Byte}

theorem smbWrite_badPec (hm : s.mode ≠ OFF) : exec (.smbWrite bytes false) s = ok (s.smbStatus 4) :=
  (if_neg hm).trans (if_pos rfl)

theorem smbWrite_badForm (hm : s.mode ≠ OFF) (hf : bytes.length ≠ 12 ∨ leNat (bytes.take 4) % 8 ≠ 0) :
    exec (.smbWrite bytes true) s = ok (s.smbStatus 2) :=
  ((if_neg hm).trans (if_neg Bool.false_ne_true)).trans (if_pos hf)

/-- A well-formed write outside an episode of system or power-on reach, or of a register that is not the sideband's,
reaches its word; what it is denied sets the status 3 (R858). -/
theorem smbWrite_reaches {r : RegD} {ij : Nat × Nat} (hm : s.mode ≠ OFF) (h12 : bytes.length = 12)
    (hal : leNat (bytes.take 4) % 8 = 0) (hr : RegAt (leNat (bytes.take 4)) r ij)
    (hh : s.inEpisode = false ∨ ∀ w, smbMay r w = false) {x : State × Bool}
    (hx : s.writeWord 1 (leNat (bytes.take 4)) (leNat (bytes.take 4))
      (some (BitVec.ofNat 64 (leNat (bytes.drop 4)))) = x) :
    exec (.smbWrite bytes true) s = ok (if x.2 then x.1.smbStatus 3 else x.1) := by
  have hf : ¬ (bytes.length ≠ 12 ∨ leNat (bytes.take 4) % 8 ≠ 0) := by simp [h12, hal]
  have hheld : (smbMay r (some (BitVec.ofNat 64 (leNat (bytes.drop 4)))) && s.heldInReset (leNat (bytes.take 4))) =
      false := by
    rcases hh with h | h <;> simp [State.heldInReset, h]
  show execSmbWrite bytes true s = _
  simp [execSmbWrite, hm, hf, hr.bar0Reg, hheld, hx]

/-- A write of a backup register stores it (R858). -/
theorem smbWrite_backup {i : Nat} (hm : s.mode ≠ OFF) (hi : i < 8) (h12 : bytes.length = 12)
    (he : s.inEpisode = false) (ha : leNat (bytes.take 4) = regAddr R.KV_BACKUP i 0) :
    exec (.smbWrite bytes true) s = ok (s.wr R.KV_BACKUP (BitVec.ofNat 64 (leNat (bytes.drop 4))) i 0) := by
  obtain ⟨hal, -⟩ := backupAddr i hi
  rw [smbWrite_reaches hm h12 (ha ▸ hal) (ha ▸ regAt_backup i hi) (.inl he) rfl, ha, writeWord_backup s _ [] hi]
  simp only [Bool.false_eq_true, if_false]

theorem smbMay_admLoop (w : Option Word) : smbMay R.DT_ADM_LOOP w = false := rfl

/-- A write of `DT_ADM_LOOP`, which is not the sideband's, is logged as denied and sets the status 3 (R858). -/
theorem smbWrite_admLoop (hm : s.mode ≠ OFF) (h12 : bytes.length = 12)
    (ha : leNat (bytes.take 4) = regAddr R.DT_ADM_LOOP 0 0) :
    exec (.smbWrite bytes true) s = ok ((s.accLog causeDenied 1 (leNat (bytes.take 4)) true).smbStatus 3) := by
  have hr : RegAt (leNat (bytes.take 4)) R.DT_ADM_LOOP (0, 0) := ha ▸ regAt_admLoop
  have hal : leNat (bytes.take 4) % 8 = 0 := by rw [ha]; rfl
  rw [smbWrite_reaches hm h12 hal hr (.inr smbMay_admLoop) (writeWord_denied hr (smbMay_admLoop _))]
  simp only [if_true]

theorem State.smbStatus_regs (s : State) (st : Nat) : (s.smbStatus st).regs = s.regs := rfl

/-- What a denied write leaves: its cause in the next entry of the log, and `DT_ADM_LOOP` as it was. -/
theorem smbDenied_settle (s : State) {a : Nat} (ha : a < 0x4000000) :
    ((s.accLog causeDenied 1 a true).smbStatus 3).settle.rd R.DT_ADM_LOOP = s.rd R.DT_ADM_LOOP ∧
      ((s.accLog causeDenied 1 a true).smbStatus 3).settle.get F.KV_ACC_ERR_LOG_cause
        (s.get F.KV_ACC_ERR_STAT_next) = 5 := by
  have hne : ∀ n < 8, regAddr R.DT_ADM_LOOP 0 0 ∉ [regAddr R.KV_ACC_ERR_LOG n 0, regAddr R.KV_ACC_ERR_STAT 0 0] := by
    decide
  constructor
  · rw [State.rd_settle _ (by decide) (by decide) (by decide), State.rd_congr (State.smbStatus_regs _ _)]
    exact (s.accLog_regsBut causeDenied 1 a true).rd (hne _ (accLogNext_lt s)) (by decide) (by decide) (by decide)
  · exact (s.accLog_settle_shows causeDenied 1 a true (State.smbStatus_regs _ _) (by decide) (by decide) ha).1

/-- What SMB_WRITE answers (R855, R856, R858). -/
theorem smbWrite_answers (pecOk : Bool) (hm : s.mode ≠ OFF) :
    Answers (.smbWrite bytes pecOk) s (fun t =>
      (pecOk = false → t.smbNext = some 4 ∧ OnlyRegs [] { s with smbNext := some 4 } t) ∧
      (pecOk = true → (bytes.length ≠ 12 ∨ leNat (bytes.take 4) % 8 ≠ 0) → t.smbNext = some 2 ∧
        OnlyRegs [] { s with smbNext := some 2 } t) ∧
      (∀ i < 8, pecOk = true → bytes.length = 12 → s.inEpisode = false →
        leNat (bytes.take 4) = regAddr R.KV_BACKUP i 0 →
        t.rd R.KV_BACKUP i = BitVec.ofNat 64 (leNat (bytes.drop 4)) ∧ t.smbNext = s.smbNext) ∧
      (pecOk = true → bytes.length = 12 → leNat (bytes.take 4) = regAddr R.DT_ADM_LOOP 0 0 →
        t.smbNext = some 3 ∧ t.rd R.DT_ADM_LOOP = s.rd R.DT_ADM_LOOP ∧
        t.get F.KV_ACC_ERR_LOG_cause (s.get F.KV_ACC_ERR_STAT_next) = 5)) := by
  obtain ⟨t, ht⟩ := everyCommandAnswersANextState (.smbWrite bytes pecOk) s
  refine ⟨t, ht, ?_, ?_, ?_, ?_⟩
  · rintro rfl
    obtain rfl := next_unique ht (smbWrite_badPec hm)
    exact ⟨State.settle_smbNext _, onlyRegs_settle_refl ..⟩
  · rintro rfl hf
    obtain rfl := next_unique ht (smbWrite_badForm hm hf)
    exact ⟨State.settle_smbNext _, onlyRegs_settle_refl ..⟩
  · rintro i hi rfl h12 he ha
    obtain ⟨-, -, h0, h1, h2⟩ := backupAddr i hi
    obtain rfl := next_unique ht (smbWrite_backup hm hi h12 he ha)
    rw [State.rd_settle _ h0 h1 h2, State.settle_smbNext]
    exact ⟨State.rd_wr_self .., State.wr_smbNext ..⟩
  · rintro rfl h12 ha
    obtain rfl := next_unique ht (smbWrite_admLoop hm h12 ha)
    exact ⟨State.settle_smbNext _, smbDenied_settle s (ha ▸ by decide)⟩

/-- What SMB_READ_START answers for a register in service, outside an episode (R845, R855; log 114). -/
theorem smbReadStart_answers {off : Nat} {r : RegD} {ij : Nat × Nat} (pecOk : Bool) (hm : s.mode ≠ OFF)
    (h4 : bytes.length = 4) (ho : off = leNat bytes) (hal : off % 8 = 0) (hr : RegAt off r ij)
    (he : s.inEpisode = false) (hon : s.reachable r ij.1 = true) :
    Answers (.smbReadStart bytes pecOk) s (fun t =>
      (pecOk = true → t.smb = some (s.shown r ij.1 ij.2, 0) ∧ t.smbNext = s.smbNext) ∧
      (pecOk = false → t.smb = s.smb ∧ t.smbNext = some 4) ∧ RegsBut [] s t) := by
  cases pecOk with
  | false =>
    have hx : exec (.smbReadStart bytes false) s = ok (s.smbStatus 4) := (if_neg hm).trans (if_pos rfl)
    refine answers_ok hx ⟨nofun, fun _ => ⟨State.settle_smb _, State.settle_smbNext _⟩, ?_⟩
    exact regsBut_settle_of_regs rfl
  | true =>
    have hread : s.smbRead off = (s.shown r ij.1 ij.2, 0, { s with fv := s.fv + 1 }) := by
      simp [State.smbRead, hr.page, hr.sram, hr.bar0Reg, hr.idx, he, hon]
    have hx : exec (.smbReadStart bytes true) s =
        ok { s with fv := s.fv + 1, smb := some (s.shown r ij.1 ij.2, 0) } := by
      show execSmbReadStart bytes true s = _
      simp [execSmbReadStart, hm, List.take_of_length_le h4.le, h4, ← ho, hal, hread]
    refine answers_ok hx ⟨fun _ => ⟨State.settle_smb _, State.settle_smbNext _⟩, nofun, ?_⟩
    exact regsBut_settle_of_regs rfl

/-- What SMB_READ_RESULT answers: a pending status once, else what was read, else that no read was started (R855,
R856; log 113). -/
theorem smbReadResult_answers (hm : s.mode ≠ OFF) :
    Answers .smbReadResult s (fun t => t.smbNext = none ∧ t.smb = s.smb ∧ RegsBut [] s t ∧
      (∀ st, s.smbNext = some st → .readData 1 0 0 st ∈ t.out) ∧
      (∀ x, s.smbNext = none → s.smb = some x → .readData 1 0 x.1 x.2 ∈ t.out) ∧
      (s.smbNext = none → s.smb = none → .readData 1 0 0 5 ∈ t.out)) := by
  have hx : exec .smbReadResult s = execSmbReadResult s := rfl
  have hsent : ∀ o, o ∈ (s.emit o).out := by simp
  rw [execSmbReadResult, if_neg hm] at hx
  rcases hn : s.smbNext with _ | st
  · rcases hb : s.smb with _ | x
    · rw [hn, hb] at hx
      refine answers_ok hx ⟨?_, ?_, regsBut_settle_of_regs rfl, nofun, nofun, fun _ _ => ?_⟩
      · rw [State.settle_smbNext, State.emit_smbNext, hn]
      · rw [State.settle_smb, State.emit_smb, hb]
      · exact State.mem_out_settle (hsent _)
    · rw [hn, hb] at hx
      refine answers_ok hx ⟨?_, ?_, regsBut_settle_of_regs rfl, nofun, ?_, nofun⟩
      · rw [State.settle_smbNext, State.emit_smbNext, hn]
      · rw [State.settle_smb, State.emit_smb, hb]
      · rintro y - ⟨⟩
        exact State.mem_out_settle (hsent _)
  · rw [hn] at hx
    refine answers_ok hx ⟨State.settle_smbNext _, State.settle_smb _, regsBut_settle_of_regs rfl, ?_,
      nofun, nofun⟩
    rintro st' ⟨⟩
    exact State.mem_out_settle (hsent _)

end

/-- Settles O60: each clause is the lemma about its access. -/
theorem registerAndSidebandAccesses : Obligations.RegisterAndSidebandAccesses := by
  refine ⟨?_, ?_, ?_, ?_, ?_, ?_, ?_⟩
  · intro src i bytes part s ho _ hi h8
    exact registerWrite_backup ho hi h8
  · intro src bytes part s ho hs h8 hon
    exact registerWrite_admLoop ho hs h8 hon
  · rintro src addr cause n bytes part s ho hs hal h0 h8 hin hp hm rfl hc
    obtain ⟨hw, hcause⟩ := writeWord_logs (part := part) hs (by omega) hp hm hc
    exact registerWrite_logged ho hs hal h0 h8 hin hcause hw
  · intro src off bytes part s ho hs hal hlo hhi h8
    exact registerWrite_sram ho hs hal hlo hhi h8
  · intro bytes pecOk s hm
    exact smbWrite_answers pecOk hm
  · intro bytes pecOk off r ij s hm h4 ho hal hlow hp hs hf hx he hon
    exact smbReadStart_answers pecOk hm h4 ho hal ⟨hp, hs, hlow, hf, hx⟩ he hon
  · intro s hm
    exact smbReadResult_answers hm

end Sys2Proof.Machine
end

section
/-! PROOFS. The `degraded` bit and the mode after every step (R33, R35, R39, R586), and the invariants at reset. -/

namespace Sys2Proof.Machine

/-! ### What the `degraded` bit is read from -/

/-- The register arrays that show units out of service. -/
def unitRegs : List RegD := [R.TF_SPARE_STAT, R.TF_BANK_STAT, R.TF_MEM_CH, R.DT_MEM_CH, R.KV_BLK_STAT]

/-- An address apart from those arrays and from the controllers' roles and health. -/
def offUnits (a : Nat) : Bool :=
  unitRegs.all (fun q => !(regIdx q a).isSome) && decide (a ≠ regAddr R.KV_MC_STAT 0 0) &&
    decide (a ≠ regAddr R.KV_MC_HEALTH 0 0) && decide (a ≠ regAddr R.KV_MC_HEALTH 1 0)

/-- Two states show the same units, roles and health: all that the `degraded` bit is read from but the mode. -/
structure SameUnits (s t : State) : Prop where
  summary : ∀ q ∈ unitRegs, ∀ p, t.anyReg q p = s.anyReg q p
  stat : t.rd R.KV_MC_STAT = s.rd R.KV_MC_STAT
  health0 : t.rd R.KV_MC_HEALTH 0 = s.rd R.KV_MC_HEALTH 0
  health1 : t.rd R.KV_MC_HEALTH 1 = s.rd R.KV_MC_HEALTH 1
  mc : t.mc = s.mc
  idl : t.idl = s.idl
  fab : t.fab = s.fab
  buf : t.buf = s.buf

namespace SameUnits

theorem refl (s : State) : SameUnits s s := ⟨fun _ _ _ => rfl, rfl, rfl, rfl, rfl, rfl, rfl, rfl⟩

theorem trans {s t u : State} (h : SameUnits s t) (k : SameUnits t u) : SameUnits s u where
  summary q hq p := (k.summary q hq p).trans (h.summary q hq p)
  stat := k.stat.trans h.stat
  health0 := k.health0.trans h.health0
  health1 := k.health1.trans h.health1
  mc := k.mc.trans h.mc
  idl := k.idl.trans h.idl
  fab := k.fab.trans h.fab
  buf := k.buf.trans h.buf

theorem of_regs {s t : State} (hr : t.regs = s.regs) (hm : t.mc = s.mc) (hi : t.idl = s.idl) (hf : t.fab = s.fab)
    (hb : t.buf = s.buf) : SameUnits s t :=
  ⟨fun q _ p => State.anyReg_congr hr q p, State.rd_congr hr .., State.rd_congr hr .., State.rd_congr hr ..,
    hm, hi, hf, hb⟩

/-- A write of a register elsewhere. -/
theorem wr (s : State) {r : RegD} {i j : Nat} (w : Word) (h : offUnits (regAddr r i j) = true) :
    SameUnits s (s.wr r w i j) := by
  simp only [offUnits, Bool.and_eq_true, List.all_eq_true, Bool.not_eq_true', decide_eq_true_eq] at h
  obtain ⟨⟨⟨hu, h1⟩, h2⟩, h3⟩ := h
  exact ⟨fun q hq p => State.anyReg_wr_ne s w p (hu q hq), State.rd_wr_ne s w (Ne.symm h1), State.rd_wr_ne s w (Ne.symm h2),
    State.rd_wr_ne s w (Ne.symm h3), rfl, rfl, rfl, rfl⟩

theorem put (s : State) {f : Fld} {i j : Nat} (v : Nat) (h : offUnits (regAddr f.reg i j) = true) :
    SameUnits s (s.put f v i j) := wr s _ h

theorem modeRegs (s : State) (m0 m : Nat) : SameUnits s (s.modeRegs m0 m) :=
  (((put s m0 (by decide)).trans (put _ _ (by decide))).trans (put _ m (by decide))).trans (put _ 1 (by decide))

theorem enterMode (s : State) (m : Nat) : SameUnits s (s.enterMode m) := by
  have hm := modeRegs s s.mode m
  rw [State.enterMode_eq]
  generalize s.modeRegs s.mode m = u at hm ⊢
  exact State.ite_ind (fun _ => refl s) fun _ =>
    State.ite_ind (fun _ => hm.trans (of_regs rfl rfl rfl rfl rfl)) fun _ => hm

theorem level (s : State) : SameUnits s s.level := by
  have hd : SameUnits s (if s.get F.KV_MODE_degraded = b2n s.degradedNow then s
      else (s.put F.KV_MODE_degraded (b2n s.degradedNow)).raise F.KV_EVT_degraded_change) :=
    State.ite_ind (fun _ => refl s) fun _ => (put s _ (by decide)).trans (put _ 1 (by decide))
  exact State.ite_ind (fun _ => hd.trans (enterMode _ _)) fun _ =>
    State.ite_ind (fun _ => hd.trans (enterMode _ _)) fun _ => hd

theorem srcMessage (s : State) (n : Nat) : SameUnits s (s.srcMessage n) := by
  have hm : ∀ (t : State) v, SameUnits t (t.msiSend v) := by
    intro t v
    unfold State.msiSend
    split <;> exact of_regs rfl rfl rfl rfl rfl
  exact (put (f := F.KV_EVT_ARM_arm) (i := 0) (j := 0) s _ (by decide)).trans (hm _ _)

theorem foldl {α : Type} {step : State → α → State} (h : ∀ s x, SameUnits s (step s x)) (l : List α) (s : State) :
    SameUnits s (l.foldl step s) := by
  induction l generalizing s with
  | nil => exact refl s
  | cons x l ih => exact (h s x).trans (ih _)

theorem signal (s : State) : SameUnits s s.signal := by
  unfold State.signal
  refine State.ite_ind (fun _ => foldl srcMessage _ s) fun _ => State.ite_ind (fun _ => refl s) fun _ => ?_
  exact of_regs rfl rfl rfl rfl rfl

theorem settle (s : State) : SameUnits s s.settle := (level s).trans (signal _)

variable {s t : State}

theorem unitsOut (h : SameUnits s t) : t.unitsOut = s.unitsOut := by
  have hq : ∀ q ∈ unitRegs, ∀ p, t.anyReg q p = s.anyReg q p := h.summary
  simp only [unitRegs, List.forall_mem_cons] at hq
  obtain ⟨h1, h2, h3, h4, h5, -⟩ := hq
  simp only [State.unitsOut, h1, h2, h3, h4, h5, h.idl, h.fab, h.buf]

theorem mcWeak (h : SameUnits s t) (hm : RAISE ≤ t.mode ↔ RAISE ≤ s.mode) : t.mcWeak = s.mcWeak := by
  simp [State.mcWeak, State.flag, State.get, F.KV_MC_STAT_role0, F.KV_MC_STAT_role1, F.KV_MC_HEALTH_ready, hm, h.stat,
    h.health0, h.health1]

theorem mcLost (h : SameUnits s t) (hm : RAISE ≤ t.mode ↔ RAISE ≤ s.mode) : t.mcLost = s.mcLost := by
  simp [State.mcLost, State.get, F.KV_MC_STAT_role0, F.KV_MC_STAT_role1, hm, h.stat, h.mc]

theorem degradedNow (h : SameUnits s t) (hm : RAISE ≤ t.mode ↔ RAISE ≤ s.mode) : t.degradedNow = s.degradedNow := by
  rw [State.degradedNow, h.mcWeak hm, h.unitsOut, State.degradedNow]

theorem capacityDown (h : SameUnits s t) (hm : RAISE ≤ t.mode ↔ RAISE ≤ s.mode) :
    t.capacityDown = s.capacityDown := by
  rw [State.capacityDown, h.mcLost hm, h.unitsOut, State.capacityDown]

end SameUnits

/-! ### `settle` leaves the mode level -/

/-- A lost controller is out of service (R65, R586). -/
theorem State.mcWeak_of_mcLost {s : State} (h : s.mcLost = true) : s.mcWeak = true := by
  simp only [State.mcLost, State.mcWeak, Bool.and_eq_true, List.any_eq_true] at h ⊢
  obtain ⟨hm, r, hr, hl⟩ := h
  refine ⟨hm, r, hr, ?_⟩
  simp only [Bool.or_eq_true, Bool.and_eq_true, beq_iff_eq] at hl ⊢
  tauto

/-- Whatever takes capacity sets the bit. -/
theorem State.degradedNow_of_capacityDown {s : State} (h : s.capacityDown = true) : s.degradedNow = true := by
  simp only [State.capacityDown, State.degradedNow, Bool.or_eq_true] at h ⊢
  exact h.imp State.mcWeak_of_mcLost id

/-- The mode after `settle` is from RAISE on where the mode before it was: RUN and DEGRADED both are. -/
theorem State.raise_le_mode_settle (s : State) : RAISE ≤ s.settle.mode ↔ RAISE ≤ s.mode := by
  rw [State.mode_settle]
  split
  · next h => rw [h.1]; decide
  · split
    · next h => rw [h.1]; decide
    · rfl

theorem State.degradedNow_settle (s : State) : s.settle.degradedNow = s.degradedNow :=
  (SameUnits.settle s).degradedNow s.raise_le_mode_settle

theorem State.capacityDown_settle (s : State) : s.settle.capacityDown = s.capacityDown :=
  (SameUnits.settle s).capacityDown s.raise_le_mode_settle

/-- A change of mode leaves the fields of `KV_MODE` but the modes and their count. -/
theorem State.get_modeRegs_field (s : State) (m0 m : Nat) {f : Fld} (hr : f.reg = R.KV_MODE) (hlo : 12 ≤ f.lo)
    (hhi : f.lo + f.w ≤ 48) : (s.modeRegs m0 m).get f = s.get f := by
  have h1 : regAddr f.reg 0 0 ≠ regAddr F.KV_EVT_mode_change.reg 0 0 := by rw [hr]; decide
  have h2 : F.KV_MODE_mode.lo + F.KV_MODE_mode.w ≤ f.lo := le_trans (by decide) hlo
  unfold State.modeRegs State.addWrap
  rw [State.get_raise_reg _ h1, State.get_put_fld (f := F.KV_MODE_mode) _ _ hr (by decide) (.inl h2),
    State.get_put_fld (f := F.KV_MODE_mode_changes) _ _ hr (by decide) (.inr hhi),
    State.get_put_fld (f := F.KV_MODE_prev_mode) _ _ hr (by decide) (.inl hlo)]

theorem State.get_noFails {s u : State} {f : Fld} (h : u.get f = s.get f) (m : Nat) :
    (if m = RUN ∨ m = DEGRADED then { u with rec0 := { u.rec0 with fails := 0 } } else u).get f = s.get f := by
  split <;> exact h

theorem State.get_enterMode_field (s : State) (m : Nat) {f : Fld} (hr : f.reg = R.KV_MODE) (hlo : 12 ≤ f.lo)
    (hhi : f.lo + f.w ≤ 48) : (s.enterMode m).get f = s.get f := by
  rw [State.enterMode_eq]
  exact State.ite_ind (P := fun t => t.get f = s.get f) (fun _ => rfl)
    fun _ => State.get_noFails (s.get_modeRegs_field s.mode m hr hlo hhi) m

theorem State.get_degraded_level (s : State) : s.level.get F.KV_MODE_degraded = b2n s.degradedNow := by
  have hd : (if s.get F.KV_MODE_degraded = b2n s.degradedNow then s
      else (s.put F.KV_MODE_degraded (b2n s.degradedNow)).raise F.KV_EVT_degraded_change).get F.KV_MODE_degraded =
      b2n s.degradedNow := by
    split
    · next h => exact h
    · rw [State.get_raise_reg _ (by decide), State.get_put_self _ _ _ _ _ (by decide)]
      cases s.degradedNow <;> rfl
  have he : ∀ (t : State) m, t.get F.KV_MODE_degraded = b2n s.degradedNow →
      (t.enterMode m).get F.KV_MODE_degraded = b2n s.degradedNow :=
    fun t m h => (t.get_enterMode_field m rfl (by decide) (by decide)).trans h
  exact State.ite_ind (P := fun t => t.get F.KV_MODE_degraded = b2n s.degradedNow) (fun _ => he _ _ hd) fun _ =>
    State.ite_ind (P := fun t => t.get F.KV_MODE_degraded = b2n s.degradedNow) (fun _ => he _ _ hd) fun _ => hd

theorem State.get_degraded_settle (s : State) : s.settle.get F.KV_MODE_degraded = b2n s.degradedNow := by
  rw [State.settle, State.get, State.rd_signal _ (by decide)]
  exact s.get_degraded_level

/-- What follows every command leaves the bit and the mode level with the units, whatever the state before it. -/
theorem State.settle_levelled (s : State) : s.settle.Levelled := by
  refine ⟨?_, ?_, ?_⟩
  · rw [s.get_degraded_settle, s.degradedNow_settle]
  · rw [s.mode_settle, s.capacityDown_settle]
    split
    · intro h; exact absurd h (by decide)
    · next hn =>
      split
      · next hd =>
        exact fun _ => by_contra fun hc => Bool.eq_false_iff.1 hd.2 (degradedNow_of_capacityDown (by simpa using hc))
      · exact fun hm => by_contra fun hc => hn ⟨hm, by simpa using hc⟩
  · rw [s.mode_settle, s.degradedNow_settle]
    split
    · next h => exact fun _ => degradedNow_of_capacityDown h.2
    · split
      · intro h; exact absurd h (by decide)
      · next hn => exact fun hm => by_contra fun hc => hn ⟨hm, by simpa using hc⟩

/-! ### Every step ends in `settle` -/

/-- A command's next state is a settled one: every path through a meaning ends in `ok`, directly or by `okIf`. -/
theorem exec_settles (c : Instr) (s : State) : ∃ u, exec c s = ok u := by
  cases c with
  | registerWrite | exitSequenceStep | trainingComplete | fwSendGo | todTxStart | ingressProcess | lagMemberRewrite
  | emFlushDone | agingSweep | rebuildDone | assocEntryRewrite | mirrorCopyTimeout | creditGrantIssue | cellReceive
  | deliveryReportReceive | egressResendTimeout | checkpoint | handoverComplete | pipeFaultDetect
  | conventionalReset =>
    dsimp only [exec, execRegisterWrite, execExitSequenceStep, execTrainingComplete, execFwSendGo, execTodTxStart,
      execIngressProcess, execLagMemberRewrite, execEmFlushDone, execAgingSweep, execRebuildDone,
      execAssocEntryRewrite, execMirrorCopyTimeout, execCreditGrantIssue, execCellReceive,
      execDeliveryReportReceive, execEgressResendTimeout, execCheckpoint, execHandoverComplete, execPipeFaultDetect,
      execConventionalReset]
    split <;> exact ⟨_, rfl⟩
  | ballastCompare | batchAbort | cellSend | chainHdr | commit | completionTimeout | creditCellSend | dmaCompletion
  | doorbellWrite | egressProcess | frameDelivered | hostloadGo | idlUnitReceive | learnRecordApply
  | learnRecordReceive | mboxOpDone | mcBeat | memRequestUnsupported | puntDeliver | retxTimeout | schedDecision
  | selftestPassEnd | smbReadResult | smbReadStart | smbWrite | voqService =>
    dsimp only [exec, execBallastCompare, execBatchAbort, execCellSend, execChainHdr, execCommit,
      execCompletionTimeout, execCreditCellSend, execDmaCompletion, execDoorbellWrite, execEgressProcess,
      execFrameDelivered, execHostloadGo, execIdlUnitReceive, execLearnRecordApply, execLearnRecordReceive,
      execMboxOpDone, execMcBeat, execMemRequestUnsupported, execPuntDeliver, execRetxTimeout, execSchedDecision,
      execSelftestPassEnd, execSmbReadResult, execSmbReadStart, execSmbWrite, execVoqService]
    repeat' split
    all_goals exact ⟨_, rfl⟩
  | _ => exact ⟨_, rfl⟩

theorem step_settles (s : State) : ∃ u, step s = ok u := by
  unfold step
  split
  · exact ⟨_, rfl⟩
  · exact exec_settles _ _

/-- Settles O5: every step ends in `settle`, which leaves the bit and the mode level. -/
theorem modeAndDegradedBitFollowTheUnits : Obligations.ModeAndDegradedBitFollowTheUnits := by
  intro s t ht
  obtain ⟨u, hu⟩ := step_settles s
  obtain rfl : u.settle = t := Host.Outcome.next.inj (hu.symm.trans ht)
  exact u.settle_levelled

/-! ### At reset -/

/-- No unit is out and no role has a meaning yet in the reset state. -/
theorem State.reset_degradedNow : State.reset.degradedNow = false := by decide

/-- With no register listed, no event bit is set, so no source is pending. -/
theorem State.reset_srcPending (n : Nat) : State.reset.srcPending n = false := by
  have ht : State.reset.tfSum = 0 := by decide
  have hd : State.reset.dtSum = 0 := by decide
  have h0 : ∀ b, bitOf 0 b = false := by simp [bitOf]
  simp [State.srcPending, State.srcRaw, ht, hd, h0]

/-- Settles O8: at reset the bit is 0 in HELD with no unit out, no source is pending, and both tables are empty. -/
theorem invariantsHoldAtReset : Obligations.InvariantsHoldAtReset := by
  refine ⟨⟨by rw [State.reset_degradedNow]; rfl, ?_, ?_⟩, ?_, ?_, rfl, rfl⟩
  · intro h; exact absurd h (by decide)
  · intro h; exact absurd h (by decide)
  · have h0 : State.reset.evtSrc = 0 := rfl
    intro _
    rw [h0]
    rfl
  · intro _ n _ hp
    rw [State.reset_srcPending] at hp
    cases hp

end Sys2Proof.Machine
end

section
/-! PROOFS. What the assertion of a reset source leaves (R678, R680, R682 to R685): the episode, the mode, and at core
reach everything but the controllers. -/

namespace Sys2Proof.Machine

/-- What no step of a fold changes, the fold does not. -/
theorem foldl_fixes {α β : Type} (g : State → β) {step : State → α → State} {l : List α}
    (h : ∀ s, ∀ x ∈ l, g (step s x) = g s) (s : State) : g (l.foldl step s) = g s := by
  induction l generalizing s with
  | nil => rfl
  | cons x l ih =>
    exact (ih (fun t y hy => h t y (List.mem_cons_of_mem _ hy)) _).trans (h s x List.mem_cons_self)

/-- A state without its registers: what an operation on registers alone leaves. -/
def State.sansRegs (s : State) : State := { s with regs := [] }

theorem State.sansRegs_wr (s : State) (r : RegD) (w : Word) (i j : Nat) : (s.wr r w i j).sansRegs = s.sansRegs := rfl

theorem State.sansRegs_put (s : State) (f : Fld) (v i j : Nat) : (s.put f v i j).sansRegs = s.sansRegs :=
  s.sansRegs_wr ..

/-- Two states alike without their registers differ in them alone. -/
theorem State.keeps_of_sansRegs {s t : State} (h : t.sansRegs = s.sansRegs) : ∃ regs, t = { s with regs := regs } :=
  ⟨t.regs, congrArg (fun u : State => { u with regs := t.regs }) h⟩

/-! ### Core reset (R16, R594, R677) -/

/-- A state without what core reset touches: registers, crossings and voltages, the controllers, and the watchdog's start. -/
def State.sansCore (s : State) : State :=
  { s with regs := [], pwr := pwr0, mc := mcSt0, rst := { s.rst with wdogStart := 0 } }

theorem State.sansCore_wr (s : State) (r : RegD) (w : Word) (i j : Nat) : (s.wr r w i j).sansCore = s.sansCore := rfl

theorem State.sansCore_put (s : State) (f : Fld) (v i j : Nat) : (s.put f v i j).sansCore = s.sansCore :=
  s.sansCore_wr ..

theorem State.sansCore_xingPeerReset (s : State) (i : Nat) : (s.xingPeerReset i).sansCore = s.sansCore := by
  refine foldl_fixes State.sansCore (fun t e _ => ?_) s
  have hx : (t.setXing e.1 xing0).sansCore = t.sansCore := rfl
  split
  · unfold State.xingPeerAbort
    split
    · rw [State.raise, State.addSat, State.addSat, State.sansCore_put, State.sansCore_put, State.sansCore_put, hx]
    · exact hx
  · rfl

theorem State.sansCore_blockReset (s : State) (i : Nat) : (s.blockReset i).sansCore = s.sansCore := by
  simp only [State.blockReset, State.sansCore_put, State.sansCore_xingPeerReset]

theorem State.sansCore_setRole (s : State) (m role : Nat) : (s.setRole m role).sansCore = s.sansCore := by
  unfold State.setRole
  dsimp only
  split
  · exact s.sansCore_put ..
  · exact s.sansCore_put ..

theorem State.sansCore_coreReset (s : State) : s.coreReset.sansCore = s.sansCore := by
  have hr : ∀ (t : State) regs mc, ({ t with regs := regs, mc := mc } : State).sansCore = t.sansCore := fun _ _ _ => rfl
  simp only [State.coreReset, hr, State.zero, State.sansCore_put, State.sansCore_setRole, State.sansCore_blockReset]

/-! ### An assertion in its three steps -/

/-- The cause register, as a source joins. -/
def State.joinCauses (s : State) (x : RSrc) (drained : Bool) : State :=
  if drained then (State.causeAdd (if s.rst.reach = 0 then s.causeClear else s) x).raise F.KV_RESET_CAUSE_drained
  else State.causeAdd (if s.rst.reach = 0 then s.causeClear else s) x

/-- The episode and its cause register, as a source joins them. -/
def State.joinEpisode (s : State) (x : RSrc) (drained : Bool) : State :=
  let s2 := s.joinCauses x drained
  { s2 with rst := { s2.rst with
    reach := max s.rst.reach (srcReach x)
    asserted := x :: s2.rst.asserted.filter (· ≠ x)
    exit := none
    incDone := if s.rst.reach = 0 then false else s2.rst.incDone } }

/-- An episode takes system reach, or deeper. -/
def State.takeSystem (s : State) (r : Nat) : State :=
  let t := ((if r = 2 then s.failCount else s).enterMode HELD).systemReset
  let t := (t.put F.KV_MODE_mode HELD).emits [.avs 0 750, .avs 1 750]
  { t with rst := { t.rst with serves := [], fromSafe := false } }

/-- An episode takes power-on reach. -/
def State.takePower (s : State) : State :=
  (s.powerReset.wr R.KV_RESET_CAUSE (BitVec.ofNat 64 ((s.rd R.KV_RESET_CAUSE).toNat % 2 ^ 32))).put F.KV_MODE_mode HELD

/-- The reset of the datapath and of the retained registers, where the reach has just become deep enough. -/
def State.takeReach (s : State) (old r : Nat) : State :=
  let t := if old < 2 ∧ 2 ≤ r then s.takeSystem r else s
  if old < 3 ∧ r = 3 then t.takePower else t

theorem State.assertSource_eq (s : State) (x : RSrc) (drained : Bool) :
    s.assertSource x drained =
      if max s.rst.reach (srcReach x) = 1 then
        ((s.joinEpisode x drained).takeReach s.rst.reach (max s.rst.reach (srcReach x))).coreReset
      else (s.joinEpisode x drained).takeReach s.rst.reach (max s.rst.reach (srcReach x)) := rfl

theorem State.sansRegs_causeAdd (s : State) (x : RSrc) : (s.causeAdd x).sansRegs = s.sansRegs := by
  unfold State.causeAdd
  rw [State.sansRegs_put]
  exact foldl_fixes State.sansRegs (fun t f _ => t.sansRegs_put f 1 0 0) s

theorem State.sansRegs_joinCauses (s : State) (x : RSrc) (drained : Bool) :
    (s.joinCauses x drained).sansRegs = s.sansRegs := by
  have hc : (if s.rst.reach = 0 then s.causeClear else s).sansRegs = s.sansRegs := by
    split
    · exact s.sansRegs_wr ..
    · rfl
  unfold State.joinCauses
  split
  · rw [State.raise, State.sansRegs_put, State.sansRegs_causeAdd, hc]
  · rw [State.sansRegs_causeAdd, hc]

/-- A source that joins deepens the reach, is asserted, and holds the exit sequence back; the rest of the state stays. -/
theorem State.joinEpisode_keeps (s : State) (x : RSrc) (drained : Bool) :
    ∃ regs inc, s.joinEpisode x drained = { s with regs := regs, rst := { s.rst with
      reach := max s.rst.reach (srcReach x), asserted := x :: s.rst.asserted.filter (· ≠ x), exit := none
      incDone := inc } } := by
  obtain ⟨regs, h⟩ := State.keeps_of_sansRegs (s.sansRegs_joinCauses x drained)
  rw [State.joinEpisode, h]
  exact ⟨_, _, rfl⟩

/-! ### What a change of mode and `settle` leave -/

@[simp] theorem State.enterMode_rst (s : State) (m : Nat) : (s.enterMode m).rst = s.rst := by
  obtain ⟨_, _, h⟩ := State.enterMode_keeps s m; rw [h]
@[simp] theorem State.enterMode_boot (s : State) (m : Nat) : (s.enterMode m).boot = s.boot := by
  obtain ⟨_, _, h⟩ := State.enterMode_keeps s m; rw [h]
@[simp] theorem State.enterMode_mc (s : State) (m : Nat) : (s.enterMode m).mc = s.mc := by
  obtain ⟨_, _, h⟩ := State.enterMode_keeps s m; rw [h]
@[simp] theorem State.enterMode_out (s : State) (m : Nat) : (s.enterMode m).out = s.out := by
  obtain ⟨_, _, h⟩ := State.enterMode_keeps s m; rw [h]
@[simp] theorem State.enterMode_prob (s : State) (m : Nat) : (s.enterMode m).rec0.prob = s.rec0.prob := by
  obtain ⟨_, _, h⟩ := State.enterMode_keeps s m; rw [h]
@[simp] theorem State.settle_prob (s : State) : s.settle.rec0.prob = s.rec0.prob := by
  obtain ⟨_, _, _, _, _, h⟩ := State.settle_keeps s; rw [h]

/-! ### What an assertion leaves -/

/-- The part of an episode's record that its resets leave: its reach, what is asserted, and the exit sequence's step. -/
def State.episode (s : State) : Nat × List RSrc × Option Nat := (s.rst.reach, s.rst.asserted, s.rst.exit)

theorem State.episode_coreReset (s : State) : s.coreReset.episode = s.episode := by
  have h := congrArg State.episode s.sansCore_coreReset
  exact h

theorem State.episode_takeSystem (s : State) (r : Nat) : (s.takeSystem r).episode = s.episode := by
  have hf : (if r = 2 then s.failCount else s).episode = s.episode := by
    unfold State.failCount
    split
    · split <;> rfl
    · rfl
  have he : ∀ t : State, (t.enterMode HELD).episode = t.episode := fun t => by simp [State.episode]
  exact (he _).trans hf

theorem State.episode_takeReach (s : State) (old r : Nat) : (s.takeReach old r).episode = s.episode := by
  have h : (if old < 2 ∧ 2 ≤ r then s.takeSystem r else s).episode = s.episode := by
    split
    · exact s.episode_takeSystem r
    · rfl
  unfold State.takeReach
  dsimp only
  split
  · exact h
  · exact h

theorem State.episode_assertSource (s : State) (x : RSrc) (drained : Bool) :
    (s.assertSource x drained).episode =
      (max s.rst.reach (srcReach x), x :: s.rst.asserted.filter (· ≠ x), none) := by
  have h : ((s.joinEpisode x drained).takeReach s.rst.reach (max s.rst.reach (srcReach x))).episode =
      (max s.rst.reach (srcReach x), x :: s.rst.asserted.filter (· ≠ x), none) := by
    rw [State.episode_takeReach]
    obtain ⟨regs, inc, hj⟩ := s.joinEpisode_keeps x drained
    rw [hj]
    rfl
  rw [State.assertSource_eq]
  split
  · rw [State.episode_coreReset, h]
  · exact h

/-- The reach after an assertion: the deeper of the episode's and the source's (R685). -/
theorem State.reach_assertSource (s : State) (x : RSrc) (drained : Bool) :
    (s.assertSource x drained).rst.reach = max s.rst.reach (srcReach x) :=
  congrArg (·.1) (s.episode_assertSource x drained)

theorem State.asserted_assertSource (s : State) (x : RSrc) (drained : Bool) :
    (s.assertSource x drained).rst.asserted = x :: s.rst.asserted.filter (· ≠ x) :=
  congrArg (·.2.1) (s.episode_assertSource x drained)

theorem State.exit_assertSource (s : State) (x : RSrc) (drained : Bool) :
    (s.assertSource x drained).rst.exit = none :=
  congrArg (·.2.2) (s.episode_assertSource x drained)

theorem State.mem_asserted_assertSource (s : State) (x : RSrc) (drained : Bool) :
    x ∈ (s.assertSource x drained).rst.asserted := by
  rw [State.asserted_assertSource]
  exact List.mem_cons_self

/-- A source asserted stays so as another asserts. -/
theorem State.mem_asserted_assertSource_of_mem {s : State} {y : RSrc} (x : RSrc) (drained : Bool)
    (h : y ∈ s.rst.asserted) : y ∈ (s.assertSource x drained).rst.asserted := by
  rw [State.asserted_assertSource, List.mem_cons, List.mem_filter]
  by_cases hy : y = x
  · exact .inl hy
  · exact .inr ⟨h, by simpa using hy⟩

/-- A source of system or power-on reach that finds no episode as deep takes the mode to HELD (R35, R678). -/
theorem State.mode_assertSource {s : State} {x : RSrc} (drained : Bool) (h2 : 2 ≤ srcReach x)
    (hr : s.rst.reach < srcReach x) : (s.assertSource x drained).mode = HELD := by
  have h3 : srcReach x ≤ 3 := by cases x <;> decide
  have hmax : max s.rst.reach (srcReach x) = srcReach x := by omega
  have hput : ∀ t : State, (t.put F.KV_MODE_mode HELD).mode = HELD := fun t => t.get_put_self _ _ _ _ (by decide)
  have hs : ∀ (t : State) r, (t.takeSystem r).mode = HELD := fun t r => hput _
  rw [State.assertSource_eq, hmax, if_neg (by omega)]
  unfold State.takeReach
  dsimp only
  split
  · exact hput _
  · rw [if_pos (by omega)]
    exact hs _ _

/-- A source of core reach that finds no deeper episode than its own resets the controllers alone; one that joins a deeper
episode resets nothing. -/
theorem State.sansCore_assertSource {s : State} {x : RSrc} (drained : Bool) (h : srcReach x = 1) :
    ∃ inc, (s.assertSource x drained).sansCore = State.sansCore { s with rst := { s.rst with
      reach := max s.rst.reach 1, asserted := x :: s.rst.asserted.filter (· ≠ x), exit := none, incDone := inc } } := by
  obtain ⟨regs, inc, hj⟩ := s.joinEpisode_keeps x drained
  refine ⟨inc, ?_⟩
  have ht : (s.joinEpisode x drained).takeReach s.rst.reach (max s.rst.reach (srcReach x)) =
      s.joinEpisode x drained := by
    unfold State.takeReach
    dsimp only
    rw [if_neg (by omega), if_neg (by omega)]
  rw [State.assertSource_eq, ht, hj, h]
  split
  · rw [State.sansCore_coreReset]; rfl
  · rfl

end Sys2Proof.Machine
end

section
/-! PROOFS. The reset sources that assert at once, and the power-on detector (R35, R678 to R687, R772, R821). -/

namespace Sys2Proof.Machine

/-- HELD stays HELD as a command settles. -/
theorem State.mode_settle_held {s : State} (h : s.mode = HELD) : s.settle.mode = HELD := by
  rw [State.mode_settle_of_ne] <;> rw [h] <;> decide

/-- What an assertion of a source leaves once it has settled: the episode deepens to the source's reach and waits for its
release, and the mode is HELD where the source is of system or power-on reach and no such episode stood. -/
theorem answers_asserts {c : Instr} {s u : State} {b : Bool} {x : RSrc} {P : State → Prop}
    (he : exec c s = okIf b s (u.assertSource x)) (hb : b = true)
    (hP : ∀ t : State, t.rst.reach = max u.rst.reach (srcReach x) → x ∈ t.rst.asserted → t.rst.exit = none →
      (2 ≤ srcReach x → u.rst.reach < srcReach x → t.mode = HELD) → P t) : Answers c s P := by
  refine answers_okIf he hb (hP _ ?_ ?_ ?_ fun h2 hr => ?_)
  · rw [State.settle_rst, State.reach_assertSource]
  · rw [State.settle_rst]; exact State.mem_asserted_assertSource ..
  · rw [State.settle_rst, State.exit_assertSource]
  · exact State.mode_settle_held (State.mode_assertSource _ h2 hr)

/-- What a probation that fails leaves of the record and of the episode (R772). -/
theorem State.probationFail_keeps {s : State} {p : ProbRec} (h : s.rec0.prob = some p) :
    s.probationFail.leaveProbation.rec0.prob = none ∧ s.probationFail.leaveProbation.rst = s.rst := by
  have hf : s.probationFail.rec0.prob = none ∧ s.probationFail.rst = s.rst := by
    unfold State.probationFail
    rw [h]
    dsimp only
    rw [State.raise, State.raise, State.put_rec0, State.put_rec0, State.put_rec0, State.useBank, State.put_rec0, State.put_rec0,
      State.put_rst, State.put_rst, State.put_rst, State.put_rst, State.put_rst]
    exact ⟨rfl, rfl⟩
  unfold State.leaveProbation
  split
  · rw [State.enterMode_prob, State.enterMode_rst]
    exact hf
  · exact hf

/-- The end of a probation's window: its fallback asserts core reach, and the record is cleared (R772). -/
theorem probationExpiry_answers {p : ProbRec} {s : State} (hr : s.probRuns = true) (hp : s.rec0.prob = some p)
    (h0 : p.left = 0) (hl : s.live = true) :
    Answers .probationExpiry s (fun t => t.rst.reach = max s.rst.reach 1 ∧ .probation ∈ t.rst.asserted ∧
      t.rec0.prob = none) := by
  obtain ⟨hrec, hrst⟩ := State.probationFail_keeps hp
  have hrec' : (s.probationFail.leaveProbation.assertSource .probation).rec0.prob = none := by
    obtain ⟨inc, h⟩ := State.sansCore_assertSource (s := s.probationFail.leaveProbation) (x := .probation) false rfl
    have h' := congrArg (·.rec0.prob) h
    exact h'.trans hrec
  refine answers_okIf (t := s.probationFail.leaveProbation.assertSource .probation) rfl (by simp [hr, hl, hp, h0]) ?_
  refine ⟨?_, ?_, ?_⟩
  · rw [State.settle_rst, State.reach_assertSource, hrst]; rfl
  · rw [State.settle_rst]; exact State.mem_asserted_assertSource ..
  · rw [State.settle_prob, hrec']

theorem exec_watchdogExpiry (s : State) :
    exec .watchdogExpiry s = okIf (s.wdogCounts && s.wdogOver) s s.wdogExpire := rfl

/-- Settles O9: each source asserts, by `answers_asserts`; the probation's end clears its record before. -/
theorem resetSourcesAssert : Obligations.ResetSourcesAssert := by
  refine ⟨?_, ?_, ?_, ?_, ?_, ?_, ?_, ?_⟩
  · intro s hm
    exact answers_asserts rfl (by simpa using hm) fun t hr ha hx hh => ⟨hr, ha, hx, hh (by decide)⟩
  · intro s hm
    exact answers_asserts rfl (by simpa using hm) fun t hr ha hx hh => ⟨hr, ha, hx, hh (by decide)⟩
  · intro s hm
    exact answers_asserts rfl hm fun t hr ha hx _ => ⟨hr, ha, hx⟩
  · intro s hm ht
    exact answers_asserts rfl (by simp [hm, ht]) fun t hr ha hx hh => ⟨hr, ha, hx, hh (by decide)⟩
  · intro s hm ht
    exact answers_asserts rfl (by simp [hm, ht]) fun t hr ha hx hh => ⟨hr, ha, hx, hh (by decide)⟩
  · intro s hc ho hd
    have he : s.wdogExpire = s.wdogRestart.assertSource .wdogSys := by rw [State.wdogExpire, if_pos hd]
    exact answers_asserts (u := s.wdogRestart) (x := .wdogSys) (by rw [exec_watchdogExpiry, he]) (by simp [hc, ho])
      fun t hr ha _ _ => ⟨hr, ha⟩
  · intro s hc ho hd hp
    have he : s.wdogExpire = s.wdogRestart.assertSource .wdogCore := by
      simp only [State.wdogExpire, hd, hp, Bool.false_eq_true, if_false]
    exact answers_asserts (u := s.wdogRestart) (x := .wdogCore) (by rw [exec_watchdogExpiry, he]) (by simp [hc, ho])
      fun t hr ha _ _ => ⟨hr, ha⟩
  · intro p s hr hp h0 hl _
    exact probationExpiry_answers hr hp h0 hl

/-- Settles O10: the detector's source is of power-on reach; an absent rail overwrites the mode with OFF, and rails that come
up in OFF enter HELD. -/
theorem theDetectorHoldsOffAndHeld : Obligations.TheDetectorHoldsOffAndHeld := by
  refine ⟨?_, ?_, ?_⟩
  · intro s
    have hm : ((s.assertSource .por).put F.KV_MODE_mode OFF).mode = OFF := State.get_put_self _ _ _ _ _ (by decide)
    refine answers_ok rfl ⟨?_, ?_, ?_⟩
    · rw [State.mode_settle_of_ne] <;> rw [if_pos rfl, hm] <;> decide
    · rw [State.settle_rst, if_pos rfl, State.put_rst, State.reach_assertSource]
      exact le_max_right _ _
    · rw [State.settle_rst, if_pos rfl, State.put_rst]
      exact State.mem_asserted_assertSource ..
  · intro s h
    have he : exec (.powerOnDetect false) s = okIf true s (s.assertSource .por) := rfl
    exact answers_asserts he rfl fun t hr ha _ hh =>
      ⟨hh (by decide) h, hr.trans (max_eq_right (Nat.le_of_lt h)), ha⟩
  · intro s h
    refine answers_okIf (t := (s.assertSource .por).enterMode HELD) rfl (by simpa using h) ⟨?_, ?_, ?_⟩
    · exact State.mode_settle_held (State.mode_enterMode _ (by decide))
    · rw [State.settle_rst, State.enterMode_rst, State.reach_assertSource]
      exact le_max_right _ _
    · rw [State.settle_rst, State.enterMode_rst]
      exact State.mem_asserted_assertSource ..

end Sys2Proof.Machine
end

section
/-! PROOFS. What counts, XOFF and XON leave alone: the always-on registers and the units (R60, R71, R383, R384). -/

namespace Sys2Proof.Machine

/-! ### Induction over a count -/

/-- The element of a group's array that holds counter k of its i-th register set (R776). -/
def cntPlace (g : CntGroup) (i k : Nat) : Nat × Nat := if g.reg.n2 = 0 then (k, 0) else (i, k)

/-- A property that no count disturbs by what it does to the telemetry: its windows, the late count and its event (R780, R782). -/
structure CountsKeep (P : State → Prop) : Prop where
  windows : ∀ t tlm, P t → P { t with tlm := tlm }
  late : ∀ t w, P t → P (t.wr R.KV_TLM_CNT w 2)
  event : ∀ t, P t → P (t.raise F.KV_TLM_EVT_late_attr)

namespace CountsKeep

variable {P : State → Prop} {s : State}

theorem liveCount (h : CountsKeep P) (hs : P s) (key n : Nat) : P (s.liveCount key n) := by
  unfold State.liveCount
  split
  · exact h.windows _ _ hs
  · exact hs

theorem windowCount (h : CountsKeep P) (hs : P s) (g flat n t : Nat) : P (s.windowCount g flat n t) := by
  unfold State.windowCount
  dsimp only
  split
  · exact hs
  · split
    · split
      · exact h.windows _ _ hs
      · exact h.liveCount hs _ _
    · split
      · exact h.event _ (h.liveCount (h.late _ _ (h.windows _ _ (h.liveCount hs _ _))) _ _)
      · exact h.liveCount hs _ _

/-- A count writes its own register besides. -/
theorem countAt (h : CountsKeep P) {g : CntGroup} {i k : Nat}
    (hg : ∀ t w, P t → P (t.wr g.reg w (cntPlace g i k).1 (cntPlace g i k).2)) (hs : P s) (n t : Nat) :
    P (s.countAt g i k n t) := h.windowCount (hg _ _ hs) _ _ _ _

theorem count (h : CountsKeep P) {g : CntGroup} {i k : Nat}
    (hg : ∀ t w, P t → P (t.wr g.reg w (cntPlace g i k).1 (cntPlace g i k).2)) (hs : P s) (n : Nat) :
    P (s.count g k i n) := h.countAt hg hs _ _

end CountsKeep

/-! ### The always-on registers -/

/-- The registers of the always-on island below the telemetry (R838): modes, controllers, resets, boot, blocks, power and
firmware. -/
def kvEnd : Nat := 0x20000

/-- Two states hold the same words in them. -/
def KvSame (s t : State) : Prop := ∀ a < kvEnd, tget? t.regs a = tget? s.regs a

namespace KvSame

theorem refl (s : State) : KvSame s s := fun _ _ => rfl

theorem trans {s t u : State} (h : KvSame s t) (k : KvSame t u) : KvSame s u := fun a ha => (k a ha).trans (h a ha)

theorem of_regs {s t : State} (h : t.regs = s.regs) : KvSame s t := fun _ _ => by rw [h]

/-- A write of a register elsewhere. -/
theorem wr (s : State) {r : RegD} (w : Word) (i j : Nat) (h : kvEnd ≤ r.base) : KvSame s (s.wr r w i j) := by
  intro a ha
  refine wr_tget s r w i j ?_
  unfold regAddr
  omega

theorem put (s : State) {f : Fld} (v i j : Nat) (h : kvEnd ≤ f.reg.base) : KvSame s (s.put f v i j) := wr s _ i j h

theorem countsKeep (s : State) : CountsKeep (KvSame s) where
  windows _ _ h := h
  late t w h := h.trans (wr t w 2 0 (by decide))
  event t h := h.trans (put t 1 0 0 (by decide))

theorem count (s : State) {g : CntGroup} (k i n : Nat) (h : kvEnd ≤ g.reg.base) : KvSame s (s.count g k i n) :=
  (countsKeep s).count (fun t w ht => ht.trans (wr t w _ _ h)) (refl s) n

theorem foldl {α : Type} {step : State → α → State} (h : ∀ s x, KvSame s (step s x)) (l : List α) (s : State) :
    KvSame s (l.foldl step s) := by
  induction l generalizing s with
  | nil => exact refl s
  | cons x l ih => exact (h s x).trans (ih _)

theorem get {s t : State} (h : KvSame s t) {f : Fld} {i j : Nat} (hf : regAddr f.reg i j < kvEnd) :
    t.get f i j = s.get f i j := by
  unfold State.get State.rd tget
  rw [h _ hf]

theorem mode {s t : State} (h : KvSame s t) : t.mode = s.mode := h.get (f := F.KV_MODE_mode) (by decide)

theorem requestXoff (s : State) (lc : Nat) : KvSame s (s.requestXoff lc) := by
  unfold State.requestXoff
  split
  · exact refl s
  · exact (put s _ _ _ (by decide)).trans (count _ _ _ _ (by decide))

theorem xoffAll (s : State) : KvSame s s.xoffAll := foldl (fun s _ => foldl (fun s _ => requestXoff s _) _ s) _ s

theorem checkXon (s : State) (lc : Nat) : KvSame s (s.checkXon lc) := by
  unfold State.checkXon
  dsimp only
  split
  · exact (put s _ _ _ (by decide)).trans (count _ _ _ _ (by decide))
  · exact refl s

theorem xonAll (s : State) : KvSame s s.xonAll := foldl checkXon _ s

end KvSame

/-! ### XOFF and XON: registers and telemetry alone -/

/-- A state without its registers and its telemetry windows: what counting leaves. -/
def State.sansCounts (s : State) : State := { s with regs := [], tlm := tlm0 }

theorem State.sansCounts_put (s : State) (f : Fld) (v i j : Nat) : (s.put f v i j).sansCounts = s.sansCounts := by
  obtain ⟨regs, h⟩ := s.put_keeps f v i j
  rw [h]
  rfl

theorem State.sansCounts_countAt (s : State) (g : CntGroup) (i k n t : Nat) :
    (s.countAt g i k n t).sansCounts = s.sansCounts := by
  obtain ⟨regs, tlm, h⟩ := s.countAt_keeps g i k n t
  rw [h]
  rfl

theorem State.sansCounts_requestXoff (s : State) (lc : Nat) : (s.requestXoff lc).sansCounts = s.sansCounts := by
  unfold State.requestXoff
  split
  · rfl
  · rw [State.count, State.sansCounts_countAt, State.putBit, State.sansCounts_put]

theorem State.sansCounts_xoffAll (s : State) : s.xoffAll.sansCounts = s.sansCounts :=
  foldl_fixes State.sansCounts (fun t _ _ =>
    foldl_fixes State.sansCounts (fun u _ _ => u.sansCounts_requestXoff _) t) s

/-- A packet counted as lost touches counters alone. -/
theorem State.sansCounts_pktCount (s : State) (k : Nat) (x : Pkt) : (s.pktCount k x).sansCounts = s.sansCounts := by
  unfold State.pktCount State.lossAt State.loss State.count
  split
  · rw [State.sansCounts_countAt, State.sansCounts_countAt]
  · rw [State.sansCounts_countAt]

/-! ### XON leaves the units as they are shown -/

/-- The registers of the packet buffer and of the scheduler lie apart from those that show units. -/
theorem offUnits_buffer {a : Nat} (hlo : 0x2800000 ≤ a) (hhi : a < 0x2B00000) : offUnits a = true := by
  have hq : ∀ q ∈ unitRegs, (regIdx q a).isSome = false := by
    simp only [unitRegs, List.forall_mem_cons]
    refine ⟨?_, ?_, ?_, ?_, ?_, nofun⟩
    · have hn : ¬ a < 0x1500100 := by omega
      have hd : ¬ (a - 0x1500100) / 8 < 16 := by omega
      simp [regIdx, R.TF_SPARE_STAT, hn, hd]
    · have hn : ¬ a < 0x1210000 := by omega
      have hd : ¬ (a - 0x1210000) / 8 < 1024 := by omega
      simp [regIdx, R.TF_BANK_STAT, hn, hd]
    · have hn : ¬ a < 0x1401000 := by omega
      have hd : ¬ (a - 0x1401000) / 64 < 16 := by omega
      simp [regIdx, R.TF_MEM_CH, hn, hd]
    · have hn : a < 0x2B01000 := by omega
      simp [regIdx, R.DT_MEM_CH, hn]
    · have hn : ¬ a < 0x3008 := by omega
      have hd : ¬ (a - 0x3008) / 16 < 68 := by omega
      simp [regIdx, R.KV_BLK_STAT, hn, hd]
  have h1 : a ≠ regAddr R.KV_MC_STAT 0 0 := fun h => by rw [h] at hlo; revert hlo; decide
  have h2 : a ≠ regAddr R.KV_MC_HEALTH 0 0 := fun h => by rw [h] at hlo; revert hlo; decide
  have h3 : a ≠ regAddr R.KV_MC_HEALTH 1 0 := fun h => by rw [h] at hlo; revert hlo; decide
  simp only [offUnits, Bool.and_eq_true, List.all_eq_true, Bool.not_eq_true', decide_eq_true_eq]
  exact ⟨⟨⟨hq, h1⟩, h2⟩, h3⟩

theorem SameUnits.countsKeep (s : State) : CountsKeep (SameUnits s) where
  windows _ _ h := h.trans (of_regs rfl rfl rfl rfl rfl)
  late t w h := h.trans (wr t w (by decide))
  event t h := h.trans (put t 1 (by decide))

theorem SameUnits.count {s t : State} (h : SameUnits s t) {g : CntGroup} {k i : Nat} (n : Nat)
    (hg : offUnits (regAddr g.reg (cntPlace g i k).1 (cntPlace g i k).2) = true) : SameUnits s (t.count g k i n) :=
  (countsKeep s).count (fun t w ht => ht.trans (wr t w hg)) h n

/-- An element of an array lies within it. -/
theorem lt_of_regIdx {r : RegD} {a : Nat} {i : Nat × Nat} (h : regIdx r a = some i) (hr : r.stride ≠ 0) : i.1 < r.n := by
  unfold regIdx at h
  dsimp only at h
  split at h
  · cases h
  · split at h
    · split at h
      · next hd => obtain rfl := Option.some.inj h; exact hd.2
      · cases h
    · split at h
      · next hd => obtain rfl := Option.some.inj h; exact hd.1
      · cases h

/-- The pairs of which XOFF is in force are listed by their port and class. -/
theorem State.lt_of_mem_xoffs {s : State} {lc : Nat} (h : lc ∈ s.xoffs) : lc / 8 < 256 := by
  obtain ⟨e, -, he⟩ := List.mem_flatMap.1 h
  cases hi : regIdx R.DT_LOSSLESS e.1 with
  | none => rw [hi] at he; cases he
  | some i =>
    rw [hi] at he
    obtain ⟨c, hc, rfl⟩ := List.mem_map.1 he
    have hc8 : c < 8 := by
      rw [bitList, List.mem_filter, List.mem_range] at hc
      exact hc.1
    have hi256 : i.1 < 256 := lt_of_regIdx hi (by decide)
    omega

theorem SameUnits.checkXon (s : State) {lc : Nat} (h : lc / 8 < 256) : SameUnits s (s.checkXon lc) := by
  unfold State.checkXon
  dsimp only
  split
  · have hx : offUnits (regAddr R.DT_LOSSLESS (lc / 8) 0) = true := by
      refine offUnits_buffer ?_ ?_ <;> simp only [regAddr, R.DT_LOSSLESS] <;> omega
    exact (put (f := F.DT_LOSSLESS_xoff) s _ hx).count 1 (by decide)
  · exact refl s

/-- What XON keeps for each pair that is listed, XON for all of them keeps. -/
theorem State.xonAll_ind {P : State → Prop} {s : State} (h : ∀ t lc, lc / 8 < 256 → P t → P (t.checkXon lc))
    (hs : P s) : P s.xonAll := by
  have hall : ∀ (l : List Nat) (t : State), (∀ lc ∈ l, lc / 8 < 256) → P t → P (l.foldl State.checkXon t) := by
    intro l
    induction l with
    | nil => exact fun t _ ht => ht
    | cons lc l ih =>
      exact fun t hl ht => ih _ (fun x hx => hl x (List.mem_cons_of_mem _ hx)) (h t lc (hl lc List.mem_cons_self) ht)
  exact hall _ s (fun lc hlc => State.lt_of_mem_xoffs hlc) hs

theorem SameUnits.xonAll (s : State) : SameUnits s s.xonAll :=
  State.xonAll_ind (fun t _ hlc ht => ht.trans (checkXon t hlc)) (refl s)

end Sys2Proof.Machine
end

section
/-! PROOFS. Frames of mode changes, the resume request, refused requests, and the drain (R34 to R46, R71 to R77, R678, R747,
R766). -/

namespace Sys2Proof.Machine

/-! ### Frames -/

/-- What one command settles and the next one settles too is settled over both. -/
theorem State.settled_trans {s t u : State} (h : t = s.settled t) (k : u = t.settled u) : u = s.settled u := by
  rw [k, h]
  rfl

theorem State.settled_enterMode (s : State) (m : Nat) : s.enterMode m = s.settled (s.enterMode m) := by
  obtain ⟨regs, fails, h⟩ := s.enterMode_keeps m
  rw [h]
  rfl

/-- A change of mode touches `KV_MODE` and `KV_EVT` alone of the registers. -/
theorem regsBut_enterMode (l : List Nat) (s : State) (m : Nat) : RegsBut l s (s.enterMode m) := by
  intro a _ h0 h1 _
  have hm : tget? (s.modeRegs s.mode m).regs a = tget? s.regs a := by
    unfold State.modeRegs State.addWrap
    rw [raise_tget _ _ _ _ h1, put_tget _ _ _ _ _ h0, put_tget _ _ _ _ _ h0, put_tget _ _ _ _ _ h0]
  rw [State.enterMode_eq]
  exact State.ite_ind (P := fun u => tget? u.regs a = tget? s.regs a) (fun _ => rfl) fun _ =>
    State.ite_ind (P := fun u => tget? u.regs a = tget? s.regs a) (fun _ => hm) fun _ => hm

namespace OnlyRegs

variable {l : List Nat} {s t : State}

theorem refl (l : List Nat) (s : State) : OnlyRegs l s s := ⟨rfl, regsBut_refl l s⟩

theorem put (h : OnlyRegs l s t) {f : Fld} {i j : Nat} (v : Nat) (hm : regAddr f.reg i j ∈ l) :
    OnlyRegs l s (t.put f v i j) := ⟨State.settled_trans h.1 rfl, regsBut_put h.2 hm⟩

theorem enterMode (h : OnlyRegs l s t) (m : Nat) : OnlyRegs l s (t.enterMode m) :=
  ⟨State.settled_trans h.1 (t.settled_enterMode m), regsBut_trans h.2 (regsBut_enterMode l t m)⟩

theorem settle (h : OnlyRegs l s t) : OnlyRegs l s t.settle :=
  ⟨State.settled_trans h.1 (settled_settle t), regsBut_settle_of h.2⟩

end OnlyRegs

theorem State.get_enterMode (s : State) (m : Nat) {f : Fld} {i j : Nat} (h0 : regAddr f.reg i j ≠ regAddr R.KV_MODE 0 0)
    (h1 : regAddr f.reg i j ≠ regAddr R.KV_EVT 0 0) : (s.enterMode m).get f i j = s.get f i j := by
  simp only [State.get, State.rd_enterMode s m h0 h1]

theorem State.mode_put (s : State) {f : Fld} {i j : Nat} (v : Nat) (h : regAddr R.KV_MODE 0 0 ≠ regAddr f.reg i j) :
    (s.put f v i j).mode = s.mode := State.get_put_reg (g := F.KV_MODE_mode) s v h

theorem State.awake_of_mode {s : State} {m : Nat} (h : s.mode = m) (hm : LOAD ≤ m) : s.awake = true := by
  simpa [State.awake, h] using hm

theorem State.mode_lt (s : State) : s.mode < 16 := s.get_lt F.KV_MODE_mode 0 0

/-! ### A resume request (R45) -/

/-- The mode that a resume request in QUIESCED enters, before it settles. -/
def State.resumeMode (s : State) : Nat :=
  if s.probRuns then PROBATION else if s.degradedNow then DEGRADED else RUN

/-- The state that a resume request in QUIESCED leaves, before it settles. -/
def State.resumed (s : State) : State := ((s.zero F.KV_MODE_REQ_resume_req).enterMode s.resumeMode).xonAll

theorem State.resumeReq_of_quiesced {s : State} (h : s.mode = QUIESCED) : s.resumeReq = s.resumed := if_pos h

theorem State.mode_resumed (s : State) : s.resumed.mode = s.resumeMode := by
  have h16 : s.resumeMode < 16 := by
    unfold State.resumeMode
    split
    · decide
    · split <;> decide
  exact (KvSame.xonAll _).mode.trans (State.mode_enterMode _ h16)

/-- The bit follows the units, which a resume request leaves as they were. -/
theorem State.degradedNow_resumed {s : State} (h : s.mode = QUIESCED) : s.resumed.degradedNow = s.degradedNow := by
  have hu : SameUnits s s.resumed :=
    ((SameUnits.put (f := F.KV_MODE_REQ_resume_req) (i := 0) (j := 0) s 0 (by decide)).trans
      (SameUnits.enterMode _ _)).trans (SameUnits.xonAll _)
  have hr : RAISE ≤ s.resumeMode := by
    unfold State.resumeMode
    split
    · decide
    · split <;> decide
  refine hu.degradedNow (iff_of_true ?_ ?_)
  · rw [s.mode_resumed]; exact hr
  · rw [h]; decide

/-- RUN stays while no capacity has fallen. -/
theorem State.mode_settle_run {s : State} (h : s.mode = RUN) (hd : s.degradedNow = false) : s.settle.mode = RUN := by
  have hc : ¬ s.capacityDown = true := fun hc => by
    rw [State.degradedNow_of_capacityDown hc] at hd
    cases hd
  rw [State.mode_settle, if_neg fun k => hc k.2, if_neg fun k => absurd (h.symm.trans k.1) (by decide), h]

/-- DEGRADED stays while the bit is 1. -/
theorem State.mode_settle_degraded {s : State} (h : s.mode = DEGRADED) (hd : s.degradedNow = true) :
    s.settle.mode = DEGRADED := by
  rw [State.mode_settle, if_neg fun k => absurd (h.symm.trans k.1) (by decide), if_neg fun k => by simp [hd] at k, h]

/-- Settles O13: the mode entered is that of the degraded bit to come, and settling keeps it. -/
theorem resumeLeadsToRunDegradedOrProbation : Obligations.ResumeLeadsToRunDegradedOrProbation := by
  intro s hm
  have hmode := s.mode_resumed
  have hnow := State.degradedNow_resumed hm
  refine answers_okIf rfl (State.awake_of_mode hm (by decide)) ?_
  rw [State.resumeReq_of_quiesced hm, State.get_degraded_settle, hnow]
  refine ⟨?_, ?_, ?_, ?_⟩
  · intro hp
    rw [State.resumeMode, if_pos hp] at hmode
    rw [State.mode_settle_of_ne] <;> rw [hmode] <;> decide
  · intro hp hd
    have hs : s.degradedNow = false := by
      cases h : s.degradedNow with
      | false => rfl
      | true => rw [h] at hd; cases hd
    simp only [State.resumeMode, hp, hs, Bool.false_eq_true, if_false] at hmode
    exact State.mode_settle_run hmode (hnow.trans hs)
  · intro hp hd
    have hs : s.degradedNow = true := by
      cases h : s.degradedNow with
      | false => rw [h] at hd; cases hd
      | true => rfl
    simp only [State.resumeMode, hp, hs, Bool.false_eq_true, if_false, if_true] at hmode
    exact State.mode_settle_degraded hmode (hnow.trans hs)
  · cases s.degradedNow <;> decide

/-! ### Requests that a mode does not allow (R40) -/

/-- What a refusal leaves, of a request whose write may have changed its own register: the mode, with the refusal recorded. -/
theorem modeRefused_settle {s u : State} {f : Fld} (hu : OnlyRegs [regAddr R.KV_MODE_REQ 0 0] s u)
    (hm : u.mode = s.mode) (hr : s.mode ≠ RUN) (hd : s.mode ≠ DEGRADED) (hf : f.reg = R.KV_MODE_REQ)
    (hw : f.lo + f.w ≤ 8) :
    (u.modeRefused f).settle.mode = s.mode ∧ (u.modeRefused f).settle.flag F.KV_MODE_REQ_req_refused = true ∧
      (u.modeRefused f).settle.get F.KV_MODE_REQ_refused_mode = s.mode ∧ (u.modeRefused f).settle.get f = 0 ∧
      OnlyRegs [regAddr R.KV_MODE_REQ 0 0] s (u.modeRefused f).settle := by
  have hreq : ∀ g : Fld, g.reg = R.KV_MODE_REQ → (u.modeRefused f).settle.get g = (u.modeRefused f).get g := by
    intro g hg
    exact State.get_settle _ (by rw [hg]; decide) (by rw [hg]; decide) (by rw [hg]; decide)
  have hmode : (u.modeRefused f).mode = s.mode := by
    unfold State.modeRefused State.raise State.zero
    rw [State.mode_put _ _ (by decide), State.mode_put _ _ (by decide), State.mode_put _ _ (by rw [hf]; decide), hm]
  refine ⟨?_, ?_, ?_, ?_, ?_⟩
  · rw [State.mode_settle_of_ne _ (by rwa [hmode]) (by rwa [hmode]), hmode]
  · have h1 : (u.modeRefused f).get F.KV_MODE_REQ_req_refused = 1 := by
      unfold State.modeRefused
      rw [State.get_put_fld (f := F.KV_MODE_REQ_refused_mode) (g := F.KV_MODE_REQ_req_refused) _ _ rfl (by decide)
        (.inr (by decide)), State.get_raise_self _ _ _ _ (by decide) (by decide)]
    rw [State.flag, hreq _ rfl, h1]
    rfl
  · rw [hreq _ rfl, State.modeRefused, State.get_put_self _ _ _ _ _ (by decide), hm]
    exact Nat.mod_eq_of_lt s.mode_lt
  · rw [hreq f hf, State.modeRefused,
      State.get_put_fld (f := F.KV_MODE_REQ_refused_mode) _ _ hf (by decide) (.inr (le_trans hw (by decide))),
      State.get_raise_fld (f := F.KV_MODE_REQ_req_refused) _ hf (by decide) (.inr hw),
      State.get_zero_self _ _ _ _ (by omega)]
  · exact (((hu.put 0 (by rw [hf]; exact List.mem_singleton_self _)).put (f := F.KV_MODE_REQ_req_refused) 1
      (List.mem_singleton_self _)).put (f := F.KV_MODE_REQ_refused_mode) u.mode (List.mem_singleton_self _)).settle

section
variable {s : State}

/-- A request in a mode that does not allow it. -/
theorem answers_refused {c : Instr} {u : State} {f : Fld} {b : Bool} (he : exec c s = okIf b s (u.modeRefused f))
    (hb : b = true) (hu : OnlyRegs [regAddr R.KV_MODE_REQ 0 0] s u) (hm : u.mode = s.mode) (hr : s.mode ≠ RUN)
    (hd : s.mode ≠ DEGRADED) (hf : f.reg = R.KV_MODE_REQ) (hw : f.lo + f.w ≤ 8) :
    Answers c s (fun t => t.mode = s.mode ∧ t.flag F.KV_MODE_REQ_req_refused = true ∧
      t.get F.KV_MODE_REQ_refused_mode = s.mode ∧ t.get f = 0 ∧ OnlyRegs [regAddr R.KV_MODE_REQ 0 0] s t) :=
  answers_okIf he hb (modeRefused_settle hu hm hr hd hf hw)

theorem exec_drainReq : exec .drainReq s = okIf s.awake s s.drainReq := rfl
theorem exec_resumeReq : exec .resumeReq s = okIf s.awake s s.resumeReq := rfl
theorem exec_maintReq : exec .maintReq s = okIf s.awake s s.maintReq := rfl
theorem exec_maintExit : exec .maintExit s = okIf s.awake s s.maintExit := rfl

theorem drainReq_refused (ha : s.awake = true) (hr : s.mode ≠ RUN) (hd : s.mode ≠ DEGRADED)
    (hf : s.forwarding = false) (hm : s.mode ≠ DRAIN) :
    Answers .drainReq s (fun t => t.mode = s.mode ∧ t.flag F.KV_MODE_REQ_req_refused = true ∧
      t.get F.KV_MODE_REQ_refused_mode = s.mode ∧ t.get F.KV_MODE_REQ_drain_req = 0 ∧
      OnlyRegs [regAddr R.KV_MODE_REQ 0 0] s t) := by
  have he : s.drainReq = (s.raise F.KV_MODE_REQ_drain_req).modeRefused F.KV_MODE_REQ_drain_req := by
    simp only [State.drainReq, hm, hf, Bool.false_eq_true, if_false]
  refine answers_refused (u := s.raise F.KV_MODE_REQ_drain_req) (by rw [exec_drainReq, he]) ha ?_
    (s.mode_put 1 (by decide)) hr hd rfl (by decide)
  exact (OnlyRegs.refl _ s).put (f := F.KV_MODE_REQ_drain_req) 1 (List.mem_singleton_self _)

/-- The other requests' refusals, each in a mode other than its own. -/
theorem request_refused {c : Instr} {f : Fld} (ha : s.awake = true) (hr : s.mode ≠ RUN) (hd : s.mode ≠ DEGRADED)
    (hc : (c = .drainReq ∧ f = F.KV_MODE_REQ_drain_req ∧ s.forwarding = false ∧ s.mode ≠ DRAIN) ∨
      (c = .resumeReq ∧ f = F.KV_MODE_REQ_resume_req ∧ s.mode ≠ QUIESCED) ∨
      (c = .maintReq ∧ f = F.KV_MODE_REQ_maint_req ∧ s.mode ≠ QUIESCED) ∨
      (c = .maintExit ∧ f = F.KV_MODE_REQ_maint_exit ∧ s.mode ≠ MAINTENANCE)) :
    Answers c s (fun t => t.mode = s.mode ∧ t.flag F.KV_MODE_REQ_req_refused = true ∧
      t.get F.KV_MODE_REQ_refused_mode = s.mode ∧ t.get f = 0 ∧ OnlyRegs [regAddr R.KV_MODE_REQ 0 0] s t) := by
  obtain ⟨rfl, rfl, hf, hm⟩ | ⟨rfl, rfl, hm⟩ | ⟨rfl, rfl, hm⟩ | ⟨rfl, rfl, hm⟩ := hc
  · exact drainReq_refused ha hr hd hf hm
  · exact answers_refused (by rw [exec_resumeReq, State.resumeReq, if_neg hm]) ha (OnlyRegs.refl _ s) rfl hr hd rfl
      (by decide)
  · exact answers_refused (by rw [exec_maintReq, State.maintReq, if_neg hm]) ha (OnlyRegs.refl _ s) rfl hr hd rfl
      (by decide)
  · exact answers_refused (by rw [exec_maintExit, State.maintExit, if_neg hm]) ha (OnlyRegs.refl _ s) rfl hr hd rfl
      (by decide)

end

/-! ### Entering DRAIN (R35, R46, R71, R742) -/

/-- DRAIN is entered, before the lossless pairs are paused. -/
def State.toDrain (s : State) (src : Option RSrc) : State :=
  State.enterMode { s.saveAging with rst := { s.saveAging.rst with
    serves := src.toList, fromSafe := s.mode == SAFE, drainStart := s.up } } DRAIN

theorem State.enterDrain_eq (s : State) (src : Option RSrc) : s.enterDrain src =
    if idleModes.contains s.mode then ((s.toDrain src).wr R.DT_DRAIN_STAT 0).put F.DT_DRAIN_STAT_phase 7
    else (((s.toDrain src).wr R.DT_DRAIN_STAT 0).put F.DT_DRAIN_STAT_phase 2).xoffAll := rfl

theorem State.kvSame_enterDrain (s : State) (src : Option RSrc) : KvSame (s.toDrain src) (s.enterDrain src) := by
  have hp : ∀ v, KvSame (s.toDrain src) (((s.toDrain src).wr R.DT_DRAIN_STAT 0).put F.DT_DRAIN_STAT_phase v) :=
    fun v => (KvSame.wr _ _ _ _ (by decide)).trans (KvSame.put _ _ _ _ (by decide))
  rw [State.enterDrain_eq]
  exact State.ite_ind (fun _ => hp 7) fun _ => (hp 2).trans (KvSame.xoffAll _)

theorem State.sansCounts_enterDrain (s : State) (src : Option RSrc) :
    (s.enterDrain src).sansCounts = (s.toDrain src).sansCounts := by
  have hp : ∀ v, (((s.toDrain src).wr R.DT_DRAIN_STAT 0).put F.DT_DRAIN_STAT_phase v).sansCounts =
      (s.toDrain src).sansCounts := by
    intro v
    generalize s.toDrain src = u
    exact (State.sansCounts_put ..).trans rfl
  rw [State.enterDrain_eq]
  split
  · exact hp 7
  · exact (State.sansCounts_xoffAll _).trans (hp 2)

theorem State.mode_enterDrain (s : State) (src : Option RSrc) : (s.enterDrain src).mode = DRAIN :=
  (s.kvSame_enterDrain src).mode.trans (State.mode_enterMode _ (by decide))

theorem State.mode_enterDrain_settle (s : State) (src : Option RSrc) : (s.enterDrain src).settle.mode = DRAIN := by
  rw [State.mode_settle_of_ne] <;> rw [State.mode_enterDrain] <;> decide

theorem State.rst_enterDrain (s : State) (src : Option RSrc) : (s.enterDrain src).rst = { s.rst with
    serves := src.toList, fromSafe := s.mode == SAFE, drainStart := s.up } := by
  have h := congrArg (·.rst) (s.sansCounts_enterDrain src)
  exact h.trans (State.enterMode_rst _ _)

theorem State.out_enterDrain (s : State) (src : Option RSrc) : (s.enterDrain src).out = s.out := by
  have h := congrArg (·.out) (s.sansCounts_enterDrain src)
  exact h.trans (State.enterMode_out _ _)

/-- A field of the always-on island outside `KV_MODE` reads as before. -/
theorem State.get_enterDrain (s : State) (src : Option RSrc) {f : Fld} {i j : Nat} (hf : regAddr f.reg i j < kvEnd)
    (h0 : regAddr f.reg i j ≠ regAddr R.KV_MODE 0 0) : (s.enterDrain src).get f i j = s.get f i j := by
  have h1 : regAddr f.reg i j ≠ regAddr R.KV_EVT 0 0 := fun h => absurd (h ▸ hf) (by decide)
  exact ((s.kvSame_enterDrain src).get hf).trans (State.get_enterMode _ _ h0 h1)

theorem State.awake_of_forwarding {s : State} (h : s.forwarding = true) : s.awake = true := by
  simp only [State.forwarding, Bool.or_eq_true, beq_iff_eq] at h
  obtain ((h | h) | h) | h := h <;> exact State.awake_of_mode h (by decide)

/-- Settles O14: each request's meaning by its mode; a refusal is `answers_refused`. -/
theorem modeRequestsMoveTheModeOrAreRefused : Obligations.ModeRequestsMoveTheModeOrAreRefused := by
  refine ⟨?_, ?_, ?_, ?_, ?_⟩
  · intro s hf
    have hd : s.mode ≠ DRAIN := by
      intro h
      simp only [State.forwarding, h] at hf
      exact absurd hf (by decide)
    have he : s.drainReq = (s.raise F.KV_MODE_REQ_drain_req).enterDrain none := by
      simp only [State.drainReq, hd, hf, if_false, if_true]
    refine answers_okIf (exec_drainReq.trans (by rw [he])) (State.awake_of_forwarding hf) ⟨?_, ?_, ?_⟩
    · exact State.mode_enterDrain_settle _ _
    · rw [State.settle_rst, State.rst_enterDrain]; rfl
    · rw [State.settle_rst, State.rst_enterDrain]; rfl
  · intro s hm
    have he : s.drainReq = s.raise F.KV_MODE_REQ_drain_req := if_pos hm
    have hm' : (s.raise F.KV_MODE_REQ_drain_req).mode = DRAIN := (s.mode_put 1 (by decide)).trans hm
    refine answers_okIf (exec_drainReq.trans (by rw [he])) (State.awake_of_mode hm (by decide)) ⟨?_, ?_, ?_⟩
    · rw [State.mode_settle_of_ne] <;> rw [hm'] <;> decide
    · rw [State.flag, State.get_settle _ (by decide) (by decide) (by decide),
        State.get_raise_self _ _ _ _ (by decide) (by decide)]
      rfl
    · exact ((OnlyRegs.refl _ s).put (f := F.KV_MODE_REQ_drain_req) 1 (List.mem_singleton_self _)).settle
  · intro s hm
    have he : s.maintReq = (s.zero F.KV_MODE_REQ_maint_req).enterMode MAINTENANCE := if_pos hm
    have hm' := (s.zero F.KV_MODE_REQ_maint_req).mode_enterMode (m := MAINTENANCE) (by decide)
    refine answers_okIf (exec_maintReq.trans (by rw [he])) (State.awake_of_mode hm (by decide)) ⟨?_, ?_⟩
    · rw [State.mode_settle_of_ne] <;> rw [hm'] <;> decide
    · exact (((OnlyRegs.refl _ s).put (f := F.KV_MODE_REQ_maint_req) 0 (List.mem_singleton_self _)).enterMode _).settle
  · intro s hm
    have he : s.maintExit = (s.zero F.KV_MODE_REQ_maint_exit).enterMode QUIESCED := if_pos hm
    have hm' := (s.zero F.KV_MODE_REQ_maint_exit).mode_enterMode (m := QUIESCED) (by decide)
    refine answers_okIf (exec_maintExit.trans (by rw [he])) (State.awake_of_mode hm (by decide)) ⟨?_, ?_⟩
    · rw [State.mode_settle_of_ne] <;> rw [hm'] <;> decide
    · exact (((OnlyRegs.refl _ s).put (f := F.KV_MODE_REQ_maint_exit) 0 (List.mem_singleton_self _)).enterMode _).settle
  · intro c f s ha hr hd hc
    exact request_refused ha hr hd hc

end Sys2Proof.Machine
end

section
/-! PROOFS. The phases of a drain and their end, and the reset sources that drain first (R35, R46, R71, R76, R77, R678, R685,
R717, R747, R766). -/

namespace Sys2Proof.Machine

/-! ### The phases (R71) -/

theorem exec_drainPhaseEnd (s : State) : exec .drainPhaseEnd s = okIf (s.mode == DRAIN && s.phaseOver) s
    (if 6 ≤ s.get F.DT_DRAIN_STAT_phase then s.drainDone
      else s.put F.DT_DRAIN_STAT_phase (s.get F.DT_DRAIN_STAT_phase + 1)) := rfl

section
variable {s : State} {P : State → Prop}

/-- A phase before the last ends in the next. -/
theorem answers_nextPhase (hm : s.mode = DRAIN) (hp : s.phaseOver = true) (h6 : s.get F.DT_DRAIN_STAT_phase < 6)
    (h : P (s.put F.DT_DRAIN_STAT_phase (s.get F.DT_DRAIN_STAT_phase + 1)).settle) : Answers .drainPhaseEnd s P :=
  answers_okIf (by rw [exec_drainPhaseEnd, if_neg (by omega)]) (by simp [hm, hp]) h

/-- The last phase ends the drain. -/
theorem answers_drainDone (hm : s.mode = DRAIN) (hp : s.phaseOver = true) (h6 : 6 ≤ s.get F.DT_DRAIN_STAT_phase)
    (h : P s.drainDone.settle) : Answers .drainPhaseEnd s P :=
  answers_okIf (by rw [exec_drainPhaseEnd, if_pos h6]) (by simp [hm, hp]) h

end

/-- The drain shows its end: phase 7, its time, and what is left. -/
def State.drainShown (s : State) : State :=
  ((s.put F.DT_DRAIN_STAT_phase 7).put F.DT_DRAIN_STAT_elapsed_us s.drainUs).put F.DT_DRAIN_STAT_left_mib s.leftMib

/-- A drain that serves no source, and did not start in SAFE, ends in QUIESCED. -/
theorem State.drainDone_of_none {s : State} (hs : s.rst.serves = []) (hf : s.rst.fromSafe = false) :
    s.drainDone = (s.drainShown.zero F.KV_MODE_REQ_drain_req).enterMode QUIESCED := by
  simp only [State.drainDone, hs, hf, List.isEmpty_nil, Bool.and_false, Bool.false_eq_true, if_false, if_true]
  rfl

/-- A drain that serves one source asserts it. -/
theorem State.drainDone_of_one {s : State} {x : RSrc} (hs : s.rst.serves = [x]) :
    s.drainDone = s.drainShown.assertSource x true := by
  simp only [State.drainDone, hs, List.isEmpty_cons, Bool.false_and, Bool.false_eq_true, if_false, List.foldl_cons,
    List.foldl_nil]
  rfl

theorem State.rst_drainShown (s : State) : s.drainShown.rst = s.rst := by
  rw [State.drainShown, State.put_rst, State.put_rst, State.put_rst]

theorem State.phase_drainShown (s : State) : s.drainShown.get F.DT_DRAIN_STAT_phase = 7 := by
  unfold State.drainShown
  rw [State.get_put_fld (f := F.DT_DRAIN_STAT_left_mib) (g := F.DT_DRAIN_STAT_phase) _ _ rfl (by decide) (.inr (by decide)),
    State.get_put_fld (f := F.DT_DRAIN_STAT_elapsed_us) (g := F.DT_DRAIN_STAT_phase) _ _ rfl (by decide)
      (.inr (by decide)), State.get_put_self _ _ _ _ _ (by decide)]
  rfl

theorem State.elapsed_drainShown (s : State) : s.drainShown.get F.DT_DRAIN_STAT_elapsed_us = s.drainUs := by
  unfold State.drainShown
  rw [State.get_put_fld (f := F.DT_DRAIN_STAT_left_mib) (g := F.DT_DRAIN_STAT_elapsed_us) _ _ rfl (by decide)
    (.inr (by decide)), State.get_put_self _ _ _ _ _ (by decide)]
  refine Nat.mod_eq_of_lt ?_
  simp only [State.drainUs, F.DT_DRAIN_STAT_elapsed_us]
  omega

/-- What the state in QUIESCED shows after a drain. -/
theorem quiesced_settle (s : State) :
    ((s.drainShown.zero F.KV_MODE_REQ_drain_req).enterMode QUIESCED).settle.mode = QUIESCED ∧
      ((s.drainShown.zero F.KV_MODE_REQ_drain_req).enterMode QUIESCED).settle.get F.DT_DRAIN_STAT_phase = 7 ∧
      ((s.drainShown.zero F.KV_MODE_REQ_drain_req).enterMode QUIESCED).settle.get F.DT_DRAIN_STAT_elapsed_us = s.drainUs ∧
      ((s.drainShown.zero F.KV_MODE_REQ_drain_req).enterMode QUIESCED).settle.get F.KV_MODE_REQ_drain_req = 0 ∧
      OnlyRegs [regAddr R.DT_DRAIN_STAT 0 0, regAddr R.KV_MODE_REQ 0 0] s
        ((s.drainShown.zero F.KV_MODE_REQ_drain_req).enterMode QUIESCED).settle := by
  refine ⟨?_, ?_, ?_, ?_, ?_⟩
  · rw [State.mode_settle_of_ne] <;> rw [State.mode_enterMode _ (by decide)] <;> decide
  · rw [State.get_settle _ (by decide) (by decide) (by decide), State.get_enterMode _ _ (by decide) (by decide),
      State.get_zero_reg _ (by decide), State.phase_drainShown]
  · rw [State.get_settle _ (by decide) (by decide) (by decide), State.get_enterMode _ _ (by decide) (by decide),
      State.get_zero_reg _ (by decide), State.elapsed_drainShown]
  · rw [State.get_settle _ (by decide) (by decide) (by decide), State.get_enterMode _ _ (by decide) (by decide),
      State.get_zero_self _ _ _ _ (by decide)]
  · have hd : OnlyRegs [regAddr R.DT_DRAIN_STAT 0 0, regAddr R.KV_MODE_REQ 0 0] s s.drainShown :=
      (((OnlyRegs.refl _ s).put (f := F.DT_DRAIN_STAT_phase) 7 List.mem_cons_self).put
        (f := F.DT_DRAIN_STAT_elapsed_us) s.drainUs List.mem_cons_self).put (f := F.DT_DRAIN_STAT_left_mib) s.leftMib
          List.mem_cons_self
    exact ((hd.put (f := F.KV_MODE_REQ_drain_req) 0 (List.mem_cons_of_mem _ List.mem_cons_self)).enterMode _).settle

/-! ### The ripcord's limit (R76) -/

/-- The sources that a drain serves assert in turn: those asserted stay so, the reach only deepens, and each of them is asserted
with its reach. -/
theorem State.asserts_all (l : List RSrc) (s : State) :
    s.rst.reach ≤ (l.foldl (fun (t : State) x => t.assertSource x) s).rst.reach ∧
      (∀ y ∈ s.rst.asserted, y ∈ (l.foldl (fun (t : State) x => t.assertSource x) s).rst.asserted) ∧
      ∀ y ∈ l, y ∈ (l.foldl (fun (t : State) x => t.assertSource x) s).rst.asserted ∧
        srcReach y ≤ (l.foldl (fun (t : State) x => t.assertSource x) s).rst.reach := by
  induction l generalizing s with
  | nil => exact ⟨le_refl _, fun _ h => h, nofun⟩
  | cons x l ih =>
    obtain ⟨hr, hk, hl⟩ := ih (s.assertSource x)
    rw [State.reach_assertSource] at hr
    refine ⟨(le_max_left _ _).trans hr, fun y hy => hk y (State.mem_asserted_assertSource_of_mem _ _ hy), ?_⟩
    intro y hy
    rcases List.mem_cons.1 hy with rfl | hy
    · exact ⟨hk y (State.mem_asserted_assertSource ..), (le_max_right _ _).trans hr⟩
    · exact hl y hy

/-- What is held at the ripcord's limit, counted. -/
def State.ripcordCounted (s : State) : State :=
  let s1 := s.heldPkts.foldl (fun (t : State) x => t.pktCount 0x18 x) s
  if s.heldPkts.isEmpty then s1 else s1.raise F.DT_GUAR_EVT_ripcord_flush

theorem State.rst_ripcordCounted (s : State) : s.ripcordCounted.rst = s.rst := by
  have h : (s.heldPkts.foldl (fun (t : State) x => t.pktCount 0x18 x) s).rst = s.rst :=
    foldl_fixes (·.rst) (fun t x _ => congrArg (·.rst) (t.sansCounts_pktCount 0x18 x)) s
  unfold State.ripcordCounted
  dsimp only
  split
  · exact h
  · rw [State.raise_rst, h]

theorem exec_ripcordDrainLimit (s : State) : exec .ripcordDrainLimit s =
    okIf (s.mode == DRAIN && s.rst.serves.contains .ripcord && decide (s.rst.tripAt + 10000000 ≤ s.up)) s
      (s.ripcordCounted.rst.serves.foldl (fun (t : State) x => t.assertSource x) s.ripcordCounted) := rfl

/-- Settles O15: the phases by `answers_nextPhase`, their end by `drainDone`'s two cases, the ripcord's limit by the
sources that its drain serves. -/
theorem drainPhasesEndInQuiescedOrTheReset : Obligations.DrainPhasesEndInQuiescedOrTheReset := by
  refine ⟨?_, ?_, ?_, ?_⟩
  · intro s hm hp h6
    have hm' := (s.mode_put (f := F.DT_DRAIN_STAT_phase) (i := 0) (j := 0) (s.get F.DT_DRAIN_STAT_phase + 1) (by decide)).trans hm
    refine answers_nextPhase hm hp h6 ⟨?_, ?_, ?_⟩
    · rw [State.get_settle _ (by decide) (by decide) (by decide), State.get_put_self _ _ _ _ _ (by decide)]
      exact Nat.mod_eq_of_lt (lt_trans (Nat.succ_lt_succ h6) (by decide))
    · rw [State.mode_settle_of_ne] <;> rw [hm'] <;> decide
    · exact ((OnlyRegs.refl _ s).put (f := F.DT_DRAIN_STAT_phase) _ (List.mem_singleton_self _)).settle
  · intro s hm hp h6 hs hf
    refine answers_drainDone hm hp h6 ?_
    rw [State.drainDone_of_none hs hf]
    exact quiesced_settle s
  · intro x s hm hp h6 hs
    refine answers_drainDone hm hp h6 ?_
    rw [State.drainDone_of_one hs, State.settle_rst, State.reach_assertSource, s.rst_drainShown]
    exact ⟨State.mem_asserted_assertSource .., rfl⟩
  · intro s hm hx ht
    obtain ⟨-, -, hl⟩ := State.asserts_all s.ripcordCounted.rst.serves s.ripcordCounted
    obtain ⟨ha, hr⟩ := hl .ripcord (by rw [s.rst_ripcordCounted]; exact hx)
    refine answers_okIf (exec_ripcordDrainLimit s) (by simp [hm, hx, ht]) ?_
    rw [State.settle_rst]
    exact ⟨ha, hr⟩

/-! ### Sources that drain first (R46, R678) -/

/-- In a mode that forwards the drain starts, and serves the source. -/
theorem State.drainFirst_of_forwarding {s : State} (h : s.forwarding = true) (x : RSrc) :
    s.drainFirst x = s.enterDrain (some x) := by
  simp only [State.forwarding, Bool.or_eq_true, beq_iff_eq] at h
  obtain ((h | h) | h) | h := h <;> unfold State.drainFirst <;>
    rw [if_neg (by rw [h]; decide), if_neg (by rw [h]; decide), if_neg (by rw [h]; decide)]

theorem State.forwarding_congr {s t : State} (h : t.mode = s.mode) : t.forwarding = s.forwarding := by
  unfold State.forwarding
  rw [h]

/-- What a source leaves that starts a drain: the mode, what the drain serves, and what was sent before. -/
theorem answers_drains {c : Instr} {s u : State} {b : Bool} {x : RSrc} {P : State → Prop}
    (he : exec c s = okIf b s (u.drainFirst x)) (hb : b = true) (hu : u.mode = s.mode) (hf : s.forwarding = true)
    (hP : ∀ t : State, t.mode = DRAIN → t.rst.serves = [x] → (∀ o ∈ u.out, o ∈ t.out) →
      (∀ f : Fld, regAddr f.reg 0 0 < kvEnd → regAddr f.reg 0 0 ≠ regAddr R.KV_MODE 0 0 → t.get f = u.get f) → P t) :
    Answers c s P := by
  rw [State.drainFirst_of_forwarding ((State.forwarding_congr hu).trans hf)] at he
  refine answers_okIf he hb (hP _ (State.mode_enterDrain_settle _ _) ?_ ?_ ?_)
  · rw [State.settle_rst, State.rst_enterDrain]
    rfl
  · intro o ho
    exact State.mem_out_settle (by rwa [State.out_enterDrain])
  · intro f hf h0
    rw [State.get_settle _ h0 (fun h => absurd (h ▸ hf) (by decide)) (fun h => absurd (h ▸ hf) (by decide)),
      State.get_enterDrain _ _ hf h0]

theorem State.cmdStatus_keeps (s : State) (st : Nat) : ∃ out, s.cmdStatus st = { s with out := s.out ++ out } := by
  unfold State.cmdStatus
  split
  · exact ⟨[], by rw [List.append_nil]⟩
  · exact ⟨_, rfl⟩

/-- The ripcord's trip, before its drain (R747). -/
def State.tripped (s : State) : State :=
  State.put { s.emit (.thermtrip true) with rst := { s.rst with tripAt := s.up } } F.KV_THERM_STAT_state 5

theorem exec_ripcordTrip (s : State) : exec .ripcordTrip s =
    okIf (s.mode ≠ OFF && s.get F.KV_THERM_STAT_state != 5) s (s.tripped.drainFirst .ripcord) := rfl

theorem exec_chainSysReset (target gen : Nat) (s : State) : exec (.chainSysReset target gen) s =
    okIf (s.mode ≠ OFF) s (if s.cmdMine target then ((s.relayCmd 2 target gen).cmdStatus 0).drainFirst .chainSys
      else s.relayCmd 2 target gen) := rfl

/-- Settles O16: in a mode that forwards each source starts the drain that serves it; in HELD the software reset asserts. -/
theorem sourcesThatDrainFirstEnterDrain : Obligations.SourcesThatDrainFirstEnterDrain := by
  have hoff : ∀ {s : State}, s.forwarding = true → s.mode ≠ OFF := fun {s} hf h => by
    simp only [State.forwarding, h] at hf
    exact absurd hf (by decide)
  refine ⟨?_, ?_, ?_, ?_⟩
  · intro s hf
    have he : exec .sysReq s = okIf true s ((s.raise F.KV_RESET_REQ_sys_req).drainFirst .swSys) := by
      show ok s.sysReq = _
      rw [State.sysReq, if_pos (State.awake_of_forwarding hf)]
      rfl
    exact answers_drains he rfl (s.mode_put 1 (by decide)) hf fun t hm hs _ _ => ⟨hm, hs⟩
  · intro s hm
    have he : exec .sysReq s = okIf true s (s.assertSource .swSys) := by
      show ok s.sysReq = _
      rw [State.sysReq, if_neg (by simp [State.awake, hm]; decide), State.drainFirst, if_neg (by rw [hm]; decide),
        if_pos hm]
      rfl
    exact answers_asserts he rfl fun t hr ha _ _ => ⟨ha, hr⟩
  · intro target gen s hf ht
    obtain ⟨out, ho⟩ := (s.relayCmd 2 target gen).cmdStatus_keeps 0
    refine answers_drains (by rw [exec_chainSysReset, if_pos ht]) (by simpa using hoff hf) (by rw [ho]; rfl) hf
      fun t hm hs hout _ => ⟨hm, hs, hout _ ?_⟩
    rw [ho]
    exact List.mem_append_left _ (List.mem_append_right _ (List.mem_singleton_self _))
  · intro s hf h5
    refine answers_drains (exec_ripcordTrip s) (by simpa using ⟨hoff hf, h5⟩) ?_ hf
      fun t hm hs hout hget => ⟨hm, hs, ?_, hout _ ?_⟩
    · exact State.mode_put _ 5 (by decide)
    · rw [hget _ (by decide) (by decide), State.tripped, State.get_put_self _ _ _ _ _ (by decide)]
      rfl
    · exact List.mem_append_right _ (List.mem_singleton_self _)

end Sys2Proof.Machine
end

section
/-! PROOFS. The loader: the flash bank that boots, a load that fails, and a host's image (R35, R678, R707 to R715). -/

namespace Sys2Proof.Machine

/-! ### What a boot leaves -/

theorem State.rd_restoreAging (s : State) {r : RegD} {i j : Nat} (h1 : regAddr r i j ≠ regAddr R.KV_AGE_ON 0 0)
    (h2 : ∀ c < 16, regAddr r i j ≠ regAddr R.KV_AGE_UPD c 0) : s.restoreAging.rd r i j = s.rd r i j := by
  unfold State.restoreAging
  split
  · rfl
  · refine (foldl_fixes (·.rd r i j) ?_ _).trans (State.rd_put_ne _ _ h1)
    exact fun t c hc => t.rd_put_ne _ (h2 c (List.mem_range.1 hc))

/-- An image with the registers it loads (R711). -/
def State.imageLoaded (s : State) (c : ImgContent) : State :=
  (((s.load R.DT_BUF_CFG c.bufCfg).load R.DT_MEM_CFG c.dtMemCfg).load R.TF_MEM_CFG c.tfMemCfg).load R.TF_EM_SEED c.emSeed

theorem State.rd_imageLoaded (s : State) (c : ImgContent) {r : RegD} {i j : Nat} (h : regAddr r i j < kvEnd) :
    (s.imageLoaded c).rd r i j = s.rd r i j := by
  have hl : ∀ (t : State) (q : RegD) (w : Word), kvEnd ≤ q.base → (t.load q w).rd r i j = t.rd r i j := by
    intro t q w hq
    refine t.rd_wr_ne _ fun he => ?_
    rw [he, regAddr] at h
    omega
  unfold State.imageLoaded
  rw [hl _ _ _ (by decide), hl _ _ _ (by decide), hl _ _ _ (by decide), hl _ _ _ (by decide)]

/-- The subsystem identity goes to the configuration space, which is no register. -/
theorem State.rd_subsys (s : State) (x : Option (Nat × Nat)) (b : Bool) (r : RegD) (i j : Nat) :
    (match x with
      | some (v, d) => if b then
          [0, 1].foldl (fun (t : State) fn => t.setCfg fn 0x2C (BitVec.ofNat 32 (d * 65536 + v))) s else s
      | none => s).rd r i j = s.rd r i j := by
  cases x with
  | none => rfl
  | some p => exact State.ite_ind (P := fun t => t.rd r i j = s.rd r i j) (fun _ => rfl) fun _ => rfl

theorem State.bootImage_boot (s : State) (im : Image) (slot : Nat) : (s.bootImage im slot).boot.image = some im := by
  unfold State.bootImage
  rw [State.enterMode_boot]

theorem State.mode_bootImage (s : State) (im : Image) (slot : Nat) : (s.bootImage im slot).mode = TRAIN :=
  State.mode_enterMode _ (by decide)

/-- The image's registers and subsystem identity, and the mode's fields that come from it. -/
theorem State.rd_bootImage (s : State) (im : Image) (slot : Nat) :
    (s.bootImage im slot).rd R.KV_BOOT_STAT = s.rd R.KV_BOOT_STAT := by
  have hz : ∀ t : State, (if im.content.profile = 1 then t.zero F.DT_BUF_CFG_teth_mib else t).rd R.KV_BOOT_STAT =
      t.rd R.KV_BOOT_STAT := fun t => State.ite_ind (P := fun u => u.rd R.KV_BOOT_STAT = t.rd R.KV_BOOT_STAT)
        (fun _ => t.rd_put_ne 0 (by decide)) fun _ => rfl
  unfold State.bootImage
  rw [State.rd_enterMode _ _ (by decide) (by decide)]
  refine (State.rd_restoreAging _ (by decide) (by decide)).trans ?_
  rw [State.rd_put_ne _ _ (by decide), State.rd_put_ne _ _ (by decide)]
  refine (State.rd_subsys _ _ _ _ _ _).trans ?_
  exact (hz _).trans (s.rd_imageLoaded im.content (by decide))

/-! ### The selection from the flash banks (R708) -/

/-- A bank that passes is the bank in use, and its image runs. -/
theorem bootBank_settle {s : State} {b : Nat} {im : Image} (h : (s.bank b).image = some im) (hb : b < 2) (slot : Nat) :
    (s.bootBank b slot).settle.mode = TRAIN ∧ (s.bootBank b slot).settle.boot.image = some im ∧
      (s.bootBank b slot).settle.get F.KV_BOOT_STAT_bank = b := by
  have he : s.bootBank b slot = (s.useBank b).bootImage im slot := by simp only [State.bootBank, h]
  rw [he]
  refine ⟨?_, ?_, ?_⟩
  · rw [State.mode_settle_of_ne] <;> rw [State.mode_bootImage] <;> decide
  · rw [State.settle_boot, State.bootImage_boot]
  · have hg : ((s.useBank b).bootImage im slot).get F.KV_BOOT_STAT_bank = (s.useBank b).get F.KV_BOOT_STAT_bank :=
      congrArg (fun w : Word => bits w.toNat 2 1) (State.rd_bootImage _ im slot)
    rw [State.get_settle _ (by decide) (by decide) (by decide), hg, State.useBank,
      State.get_put_fld (f := F.KV_BOOT_STAT_generation) (g := F.KV_BOOT_STAT_bank) _ _ rfl (by decide) (.inr (by decide)),
      State.get_put_self _ _ _ _ _ (by decide)]
    exact Nat.mod_eq_of_lt hb

theorem State.bank_checked (s : State) (e b : Nat) : (s.checked e).bank b = s.bank b := by
  have h : (s.checked e).boot = s.boot := State.ite_ind (P := fun t => t.boot = s.boot) (fun _ => rfl) fun _ => rfl
  simp only [State.bank, h]

/-- An image that passes the check is there. -/
theorem isSome_of_imageCheck {types : List Nat} {im : Option Image} (h : imageCheck types false im = 0) :
    ∃ i, im = some i := by
  cases im with
  | none => simp [imageCheck] at h
  | some i => exact ⟨i, rfl⟩

/-- Without a probation the COMMITTED banks are tried: the first that passes is booted. -/
theorem State.selectImage_of_passed {s u : State} {readErr b : Nat} (hf : s.rec0.fails < 3) (hp : s.rec0.prob = none)
    (ht : s.tryBanks readErr true s.committedBanks = (u, some b)) : s.selectImage readErr = u.bootBank b 0 := by
  rw [State.selectImage, if_neg (by omega)]
  simp only [hp, ht]

/-- With none that passes the load fails. -/
theorem State.selectImage_of_failed {s u : State} {readErr : Nat} (hf : s.rec0.fails < 3) (hp : s.rec0.prob = none)
    (ht : s.tryBanks readErr true s.committedBanks = (u, none)) : s.selectImage readErr = u.assertSource .loadFail := by
  rw [State.selectImage, if_neg (by omega)]
  simp only [hp, ht, State.imageFailure]

theorem State.firstBank_cases (s : State) : s.firstBank = 0 ∨ s.firstBank = 1 := by
  unfold State.firstBank
  split
  · exact .inr rfl
  · exact .inl rfl

theorem State.committedBanks_of_a {s : State} (ha : s.boot.bankA.state = 0x1F) (hb : s.boot.bankB.state ≠ 0x1F) :
    s.committedBanks = [0] := by
  obtain h | h := s.firstBank_cases <;> simp [State.committedBanks, h, State.bank, ha, hb]

theorem State.committedBanks_of_none {s : State} (ha : s.boot.bankA.state ≠ 0x1F) (hb : s.boot.bankB.state ≠ 0x1F) :
    s.committedBanks = [] := by
  obtain h | h := s.firstBank_cases <;> simp [State.committedBanks, h, State.bank, ha, hb]

/-! ### A host's image (R713, R714) -/

theorem State.mayIssue_put (s : State) {f : Fld} {i j : Nat} (v fn : Nat)
    (h : regAddr R.TF_HOST_STAT 0 0 ≠ regAddr f.reg i j) : (s.put f v i j).mayIssue fn = s.mayIssue fn := by
  have hl := State.get_put_reg (g := F.TF_HOST_STAT_link_up) s v h
  simp only [State.mayIssue, State.flag, hl]
  rfl

theorem exec_hostloadGo {s : State} {length : Nat} {im : Image} (hl : s.hostLoads = true) (hi : s.mayIssue 0 = true)
    (hc : imageCheck allTypes false (some im) = 0) :
    ∃ u : State, exec (.hostloadGo length (some im)) s = ok (u.bootImage im 0) := by
  have hi1 : ((s.put F.KV_HOSTLOAD_CTL_length length).zero F.KV_HOSTLOAD_CTL_go).mayIssue 0 = true := by
    rw [State.zero, State.mayIssue_put _ _ _ (by decide), State.mayIssue_put _ _ _ (by decide), hi]
  show ∃ u : State, execHostloadGo length (some im) s = ok (u.bootImage im 0)
  simp only [execHostloadGo, hl, hi1, hc, Option.isNone_some, Bool.not_true, Bool.or_self, if_true]
  exact ⟨_, rfl⟩

theorem exec_loadImageDone (readErr : Nat) (s : State) :
    exec (.loadImageDone readErr) s = okIf s.flashLoad s (s.selectImage readErr) := rfl

/-- Settles O17: the one COMMITTED bank boots by `bootBank_settle`; with none the load's source asserts. -/
theorem theLoaderBootsAnImageIntoTrain : Obligations.TheLoaderBootsAnImageIntoTrain := by
  refine ⟨?_, ?_, ?_, ?_⟩
  · intro readErr s hl hf hp _ ha hb hr hc
    obtain ⟨im, him⟩ := isSome_of_imageCheck hc
    have ht : s.tryBanks readErr true [0] = (s.checked 0, some 0) := by
      simp only [State.tryBanks, readFails, hr, State.bank, if_true, hc]
    have he : s.selectImage readErr = (s.checked 0).bootBank 0 0 :=
      State.selectImage_of_passed hf hp (by rw [State.committedBanks_of_a ha hb, ht])
    refine answers_okIf (exec_loadImageDone readErr s) hl ?_
    rw [he, him]
    exact bootBank_settle ((congrArg Bank.image (s.bank_checked 0 0)).trans him) (by decide) 0
  · intro readErr s hl hf hp _ ha hb
    have he : s.selectImage readErr = s.assertSource .loadFail :=
      State.selectImage_of_failed hf hp (by rw [State.committedBanks_of_none ha hb]; rfl)
    exact answers_asserts (u := s) (x := .loadFail) ((exec_loadImageDone readErr s).trans (by rw [he])) hl
      fun t _ hm hx _ => ⟨hm, hx⟩
  · intro length im s hl hi hc
    obtain ⟨u, hu⟩ := exec_hostloadGo (length := length) hl hi hc
    refine answers_ok hu ⟨?_, ?_⟩
    · rw [State.mode_settle_of_ne] <;> rw [State.mode_bootImage] <;> decide
    · rw [State.settle_boot, State.bootImage_boot]
  · intro s hm ht
    refine answers_okIf (t := { s with boot := { s.boot with rrs := false } }) rfl (by simp [hm, ht]) ⟨?_, ?_, ?_⟩
    · rw [State.settle_boot]
    · rw [State.settle_boot]
      exact settled_settle _
    · exact regsBut_settle _ _

end Sys2Proof.Machine
end

section
/-! PROOFS. Bring-up: from TRAIN to RAISE, and the steps to the modes that forward (R35, R36, R710, R736, R773). -/

namespace Sys2Proof.Machine

/-! ### A port that starts touches the port registers alone (R96, R127, R134) -/

namespace KvSame

theorem setFrm (s : State) (l : Nat) (f : FrmSt) : KvSame s (s.setFrm l f) := by
  unfold State.setFrm
  dsimp only
  have h : ∀ t : State, KvSame s t → KvSame s (((((t.put F.TF_FRM_STAT_aligner f.aligner l).put
      F.TF_FRM_STAT_candidates f.cands.length l).put F.TF_FRM_STAT_demap_lock (b2n f.demap) l).put
      F.TF_FRM_STAT_aps_count f.apsCnt l).put F.TF_FRM_STAT_mfas f.lastMfas l) := fun t ht =>
    ((((ht.trans (put t _ _ _ (by decide))).trans (put _ _ _ _ (by decide))).trans (put _ _ _ _ (by decide))).trans
      (put _ _ _ _ (by decide))).trans (put _ _ _ _ (by decide))
  exact h _ (of_regs (State.ite_ind (P := fun t => t.regs = s.regs) (fun _ => rfl) fun _ => rfl))

theorem frmRestart (s : State) (l : Nat) : KvSame s (s.frmRestart l) := by
  have ho : KvSame s (s.frmOof l) := State.ite_ind (fun _ => setFrm s l _) fun _ =>
    ((setFrm s l _).trans (count _ _ _ _ (by decide))).trans (put _ _ _ _ (by decide))
  exact ho.trans (put _ _ _ _ (by decide))

theorem imageTaps (s : State) (l : Nat) : KvSame s (s.imageTaps l) := by
  unfold State.imageTaps
  split
  · exact State.ite_ind (fun _ => of_regs rfl) fun _ => refl s
  · exact refl s

theorem setLink (s : State) (l st : Nat) : KvSame s (s.setLink l st) := by
  have hl : ∀ t : State, KvSame t (t.putLanes F.TF_LANE_STAT_adapting (b2n (decide (2 ≤ st))) l) :=
    fun t => foldl (fun u n => put u _ _ _ (by decide)) _ t
  have h3 : KvSame s (((s.put F.TF_LPORT_STAT_link_state st l).putLanes F.TF_LANE_STAT_adapting
      (b2n (decide (2 ≤ st))) l)) := (put s _ _ _ (by decide)).trans (hl _)
  unfold State.setLink
  dsimp only
  refine State.ite_ind (fun _ => ?_) fun _ => State.ite_ind (fun _ => ?_) fun _ => ?_
  · exact (h3.trans (of_regs rfl)).trans (put _ _ _ _ (by decide))
  · have ht : ∀ t : State, KvSame t (if s.framed l then
        (t.imageTaps l).setFrm l { (t.imageTaps l).frm l with mapAmp := (t.imageTaps l).flag F.TF_FRM_CTL_map_mode l }
        else t.imageTaps l) := fun t =>
      State.ite_ind (fun _ => (imageTaps t l).trans (setFrm _ l _)) fun _ => imageTaps t l
    exact (h3.trans (of_regs rfl)).trans (ht _)
  · exact h3.trans (of_regs rfl)

theorem beginLink (s : State) (l : Nat) : KvSame s (s.beginLink l) := by
  have h0 : KvSame s ((s.setLp l { s.lp l with sdHeld := [] }).zero F.TF_LINK_PARTNER_valid l) :=
    (of_regs rfl).trans (put _ _ _ _ (by decide))
  have h1 := h0.trans (setLink _ l (s.startLink l))
  exact State.ite_ind (fun _ => (h1.trans (frmRestart _ l)).trans (setFrm _ l _)) fun _ => h1

theorem tryStart (s : State) (l : Nat) : KvSame s (s.tryStart l) :=
  State.ite_ind (fun _ => beginLink s l) fun _ => refl s

end KvSame

/-! ### An island that is released touches its own registers and the power state (R688, R736, R820) -/

/-- A state without its registers, its power state and its outputs: what a release leaves. -/
def State.sansPower (s : State) : State := { s with regs := [], pwr := pwr0, out := [] }

theorem State.sansPower_put (s : State) (f : Fld) (v i j : Nat) : (s.put f v i j).sansPower = s.sansPower := rfl

theorem State.sansPower_railRequest (s : State) (r : Nat) : (s.railRequest r).sansPower = s.sansPower := by
  unfold State.railRequest
  split <;> rfl

theorem State.regs_railRequest (s : State) (r : Nat) : (s.railRequest r).regs = s.regs := by
  unfold State.railRequest
  split <;> rfl

/-- A change of an island's voltage writes its register and may ask for its rail. -/
theorem State.setIslMv_cases {P : State → Prop} (s : State) (i mv : Nat)
    (h : ∀ t : State, t.regs = (s.put F.KV_ISL_STAT_v_mv mv i).regs → t.sansPower = s.sansPower → P t) :
    P (s.setIslMv i mv) := by
  unfold State.setIslMv
  dsimp only
  split
  · exact h _ rfl rfl
  · split
    · split
      · exact h _ rfl rfl
      · exact h _ (State.regs_railRequest _ _) (State.sansPower_railRequest _ _)
    · exact h _ rfl rfl

theorem State.rd_mode_isl (s : State) {f : Fld} (v i : Nat) (hf : f.reg = R.KV_BLK_STAT ∨ f.reg = R.KV_ISL_STAT) :
    (s.put f v i).rd R.KV_MODE = s.rd R.KV_MODE := by
  refine s.rd_put_ne v ?_
  rcases hf with hf | hf <;> rw [hf] <;> simp only [regAddr, R.KV_MODE, R.KV_BLK_STAT, R.KV_ISL_STAT] <;> omega

theorem State.sansPower_blockOn (s : State) (i : Nat) : (s.blockOn i).sansPower = s.sansPower := by
  unfold State.blockOn
  refine State.setIslMv_cases _ _ _ fun t _ ht => ht.trans ?_
  rw [State.sansPower_put, State.sansPower_put, State.sansPower_put, State.sansPower_put]

theorem State.rd_mode_blockOn (s : State) (i : Nat) : (s.blockOn i).rd R.KV_MODE = s.rd R.KV_MODE := by
  unfold State.blockOn
  refine State.setIslMv_cases (P := fun t => t.rd R.KV_MODE = s.rd R.KV_MODE) _ _ _ fun t ht _ => ?_
  rw [State.rd_congr ht, State.rd_mode_isl _ _ _ (.inr rfl), State.rd_mode_isl _ _ _ (.inr rfl),
    State.rd_mode_isl _ _ _ (.inl rfl), State.rd_mode_isl _ _ _ (.inl rfl), State.rd_mode_isl _ _ _ (.inl rfl)]

theorem State.sansPower_releaseIslands (s : State) (l : List Nat) : (s.releaseIslands l).sansPower = s.sansPower :=
  foldl_fixes State.sansPower (fun t i _ => State.ite_ind (P := fun u => u.sansPower = t.sansPower)
    (fun _ => t.sansPower_blockOn i) fun _ => rfl) s

theorem State.rd_mode_releaseIslands (s : State) (l : List Nat) :
    (s.releaseIslands l).rd R.KV_MODE = s.rd R.KV_MODE :=
  foldl_fixes (·.rd R.KV_MODE) (fun t i _ => State.ite_ind (P := fun u => u.rd R.KV_MODE = t.rd R.KV_MODE)
    (fun _ => t.rd_mode_blockOn i) fun _ => rfl) s

/-! ### The steps (R736) -/

theorem exec_bringupStep_train {s : State} (h : s.mode = TRAIN) :
    exec .bringupStep s = ok (s.trainStep s.boot.bringup) := by
  show ok _ = _
  rw [if_pos h]

theorem exec_bringupStep_raise {s : State} (h : s.mode = RAISE) :
    exec .bringupStep s = ok (s.raiseStep s.boot.bringup) := by
  show ok _ = _
  rw [if_neg (by rw [h]; decide), if_pos h]

/-- A step of TRAIN before the memory batches powers a SerDes group, which the model does not show. -/
theorem State.trainStep_serdes {s : State} {k : Nat} (h1 : 1 ≤ k) (h72 : k ≤ 72) (hs : s.standalone = false) :
    s.trainStep k = s.nextBringup (k + 1) := by
  rw [State.trainStep, if_neg (by omega), if_pos h72, if_neg (by rw [hs]; simp)]

/-- Each step of RAISE before the last is followed by the next. -/
theorem State.raiseStep_next (s : State) {k : Nat} (h : 100 ≤ k) (h131 : k ≤ 131) :
    ∃ t : State, s.raiseStep k = t.nextBringup (k + 1) := by
  rw [State.raiseStep, if_neg (by omega)]
  by_cases h1 : k ≤ 114
  · exact ⟨_, if_pos h1⟩
  · rw [if_neg h1]
    by_cases h2 : k ≤ 130
    · exact ⟨_, if_pos h2⟩
    · obtain rfl : k = 131 := by omega
      exact ⟨_, rfl⟩

/-! ### The last step (R35) -/

/-- The mode that the last step enters. -/
def State.raisedTo (s : State) : Nat := (s.releaseIslands ((List.range 8).map (49 + ·))).raiseTo

theorem State.raiseTo_lt (s : State) : s.raiseTo < 16 := by
  unfold State.raiseTo
  split
  · decide
  · split
    · decide
    · split <;> decide

theorem State.raiseTo_probation {s : State} (hr : s.boot.resume = true) (hp : s.rec0.prob.isSome = true) :
    s.raiseTo = PROBATION := by
  rw [State.raiseTo, hr, hp]
  rfl

theorem State.raiseTo_fallback {s : State} (hr : s.boot.resume = false) (hf : s.flag F.KV_MODE_fallback = true) :
    s.raiseTo = SAFE := by
  simp [State.raiseTo, hr, hf]

theorem State.raiseTo_forwards {s : State} (hr : s.boot.resume = false) (hf : s.flag F.KV_MODE_fallback = false) :
    s.raiseTo = RUN ∨ s.raiseTo = DEGRADED := by
  simp only [State.raiseTo, hr, hf, Bool.false_and, Bool.false_eq_true, if_false]
  split
  · exact .inr rfl
  · exact .inl rfl

/-- RUN and DEGRADED change into one another alone as a command settles. -/
theorem State.mode_settle_forwards {s : State} (h : s.mode = RUN ∨ s.mode = DEGRADED) :
    s.settle.mode = RUN ∨ s.settle.mode = DEGRADED := by
  rw [State.mode_settle]
  split
  · exact .inr rfl
  · split
    · exact .inl rfl
    · exact h

theorem State.mode_leaveRaise (s : State) : s.leaveRaise.mode = s.raisedTo := by
  have ht : ∀ t : State, ((List.range 256).foldl State.tryStart t).mode = t.mode :=
    fun t => (KvSame.foldl KvSame.tryStart _ t).mode
  have hc : ∀ t : State, (if t.flag F.KV_STRAP_conflict then t.raise F.KV_RST_EVT_strap_conflict else t).mode = t.mode :=
    fun t => State.ite_ind (P := fun u => u.mode = t.mode) (fun _ => t.mode_put 1 (by decide)) fun _ => rfl
  have hn : ∀ (t : State) k, (t.nextBringup k).mode = t.mode := fun _ _ => rfl
  unfold State.leaveRaise
  rw [hn]
  exact (hc _).trans ((ht _).trans (State.mode_enterMode _ (State.raiseTo_lt _)))

/-- Settles O18: the steps of the two modes, and the last one by the mode that it enters. -/
theorem bringUpPassesFromTrainToTheModesThatForward : Obligations.BringUpPassesFromTrainToTheModesThatForward := by
  refine ⟨?_, ?_, ?_, ?_⟩
  · intro s hm
    refine ⟨_, if_pos hm, ?_, ?_, ?_⟩
    · rw [State.mode_settle_of_ne] <;> rw [State.mode_enterMode _ (by decide)] <;> decide
    · rw [State.settle_boot, State.enterMode_boot]
    · rw [State.settle_mc, State.enterMode_mc]
  · intro s hm h1 h72 hs
    refine answers_ok ((exec_bringupStep_train hm).trans (by rw [State.trainStep_serdes h1 h72 hs])) ⟨?_, ?_, ?_⟩
    · rw [State.settle_boot]; rfl
    · rw [State.settle_boot]; exact settled_settle _
    · exact regsBut_settle _ _
  · intro s hm h100 h131
    obtain ⟨t, ht⟩ := s.raiseStep_next h100 h131
    refine answers_ok ((exec_bringupStep_raise hm).trans (by rw [ht])) ?_
    rw [State.settle_boot]; rfl
  · intro s hm hk
    have hp := s.sansPower_releaseIslands ((List.range 8).map (49 + ·))
    have hboot := congrArg (·.boot) hp
    have hrec := congrArg (·.rec0) hp
    have hfb : (s.releaseIslands ((List.range 8).map (49 + ·))).flag F.KV_MODE_fallback = s.flag F.KV_MODE_fallback :=
      congrArg (fun w : Word => bits w.toNat 17 1 == 1) (s.rd_mode_releaseIslands _)
    have hmode := s.mode_leaveRaise
    refine answers_ok ((exec_bringupStep_raise hm).trans (by rw [hk]; rfl)) (t := s.leaveRaise) ⟨?_, ?_, ?_, ?_⟩
    · rw [State.settle_boot]; rfl
    · intro hr hs
      have hto : s.raisedTo = PROBATION := State.raiseTo_probation ((congrArg (·.resume) hboot).trans hr)
        ((congrArg (fun r : BootRec => r.prob.isSome) hrec).trans hs)
      rw [State.mode_settle_of_ne] <;> rw [hmode, hto] <;> decide
    · intro hr hf
      have hto : s.raisedTo = SAFE := State.raiseTo_fallback ((congrArg (·.resume) hboot).trans hr) (hfb.trans hf)
      rw [State.mode_settle_of_ne] <;> rw [hmode, hto] <;> decide
    · intro hr hf
      refine State.mode_settle_forwards ?_
      rw [hmode]
      exact State.raiseTo_forwards ((congrArg (·.resume) hboot).trans hr) (hfb.trans hf)

end Sys2Proof.Machine
end

section
/-! PROOFS. Activation of a staged bank and its confirmation (R35, R44, R678, R757, R766, R769 to R771). -/

namespace Sys2Proof.Machine

/-! ### Activation (R770) -/

theorem State.bank_setBank (s : State) (b : Nat) (k : Bank) : (s.setBank b k).bank b = k := by
  unfold State.bank State.setBank
  split <;> rfl

theorem State.bank_congr {s t : State} (ha : t.boot.bankA = s.boot.bankA) (hb : t.boot.bankB = s.boot.bankB) (b : Nat) :
    t.bank b = s.bank b := by
  simp only [State.bank, ha, hb]

/-- The record of an activation, before its bank is named and its source asserts: the bank is on trial, and its firmware goes to
the free slot. -/
def State.trialRecord (s : State) (im : Image) : State :=
  let b := s.inactiveBank
  let s1 := s.setBank b { s.bank b with state := 0x3F }
  { s1 with
    fw := { s1.fw with slots := lset none s1.fw.slots (1 - s.fw.running) (some im), running := 1 - s.fw.running }
    rec0 := { s1.rec0 with prob := some ⟨b, probationSecs im.hdr, 1 - s.fw.running⟩ }
    boot := { s1.boot with rom := some im, resume := true } }

/-- The record with the bank in use, the window and the event. -/
def State.onTrial (s : State) (im : Image) : State :=
  (((s.trialRecord im).useBank s.inactiveBank).put F.KV_MODE_probation_left (probationSecs im.hdr)).raise
    F.KV_FW_EVT_activated

theorem State.activate_eq {s : State} {im : Image} (h : (s.bank s.inactiveBank).image = some im) :
    s.activate = ((s.onTrial im).assertSource .activation).enterMode PROBATION := by
  unfold State.activate State.onTrial State.trialRecord
  simp only [h]

theorem State.sansRegs_onTrial (s : State) (im : Image) : (s.onTrial im).sansRegs = (s.trialRecord im).sansRegs := by
  unfold State.onTrial State.useBank State.raise
  rw [State.sansRegs_put, State.sansRegs_put, State.sansRegs_put, State.sansRegs_put]

/-- What the assertion of the activation's source, of core reach, leaves of the record. -/
theorem State.activate_keeps {s : State} {im : Image} (h : (s.bank s.inactiveBank).image = some im) :
    s.activate.boot = (s.trialRecord im).boot ∧ s.activate.rec0.prob = (s.trialRecord im).rec0.prob ∧
      s.activate.out = s.out := by
  obtain ⟨inc, hc⟩ := State.sansCore_assertSource (s := s.onTrial im) (x := .activation) false rfl
  have hr := s.sansRegs_onTrial im
  have hboot := (congrArg (·.boot) hc).trans (congrArg (·.boot) hr)
  have hrec := (congrArg (·.rec0.prob) hc).trans (congrArg (·.rec0.prob) hr)
  have hout := (congrArg (·.out) hc).trans (congrArg (·.out) hr)
  rw [State.activate_eq h]
  refine ⟨?_, ?_, ?_⟩
  · rw [State.enterMode_boot]; exact hboot
  · rw [State.enterMode_prob]; exact hrec
  · rw [State.enterMode_out]; exact hout

/-- What an activation leaves. -/
theorem activate_settle {s : State} {im : Image} (h : (s.bank s.inactiveBank).image = some im) :
    s.activate.settle.mode = PROBATION ∧ (s.activate.settle.bank s.inactiveBank).state = 0x3F ∧
      s.activate.settle.rec0.prob = some ⟨s.inactiveBank, probationSecs im.hdr, 1 - s.fw.running⟩ ∧
      .activation ∈ s.activate.settle.rst.asserted ∧ ∀ o ∈ s.out, o ∈ s.activate.settle.out := by
  obtain ⟨hboot, hprob, hout⟩ := State.activate_keeps h
  refine ⟨?_, ?_, ?_, ?_, ?_⟩
  · have hm : s.activate.mode = PROBATION := by
      rw [State.activate_eq h]
      exact State.mode_enterMode _ (by decide)
    rw [State.mode_settle_of_ne] <;> rw [hm] <;> decide
  · have hb : s.activate.settle.bank s.inactiveBank =
        (s.setBank s.inactiveBank { s.bank s.inactiveBank with state := 0x3F }).bank s.inactiveBank :=
      State.bank_congr (by rw [State.settle_boot, hboot]; rfl) (by rw [State.settle_boot, hboot]; rfl) _
    rw [hb, State.bank_setBank]
  · rw [State.settle_prob, hprob]
    rfl
  · rw [State.settle_rst, State.activate_eq h, State.enterMode_rst]
    exact State.mem_asserted_assertSource ..
  · intro o ho
    exact State.mem_out_settle (by rwa [hout])

theorem State.actRefusal_lt (s : State) : s.actRefusal < 256 := by
  unfold State.actRefusal
  dsimp only
  repeat' split
  all_goals decide

theorem exec_fwActivate (s : State) : exec .fwActivate s = okIf s.awake s s.tryActivate := rfl

theorem fwActivate_refused {s : State} (ha : s.awake = true) (h : s.actRefusal ≠ 0) :
    Answers .fwActivate s (fun t => t.get F.KV_FW_STAT_act_err = s.actRefusal ∧
      OnlyRegs [regAddr R.KV_FW_STAT 0 0] s t) := by
  refine answers_okIf ((exec_fwActivate s).trans (by rw [State.tryActivate, if_neg h])) ha ⟨?_, ?_⟩
  · rw [State.get_settle _ (by decide) (by decide) (by decide), State.get_put_self _ _ _ _ _ (by decide)]
    exact Nat.mod_eq_of_lt s.actRefusal_lt
  · exact ((OnlyRegs.refl _ s).put (f := F.KV_FW_STAT_act_err) _ (List.mem_singleton_self _)).settle

/-! ### Activation by a chain command (R766) -/

/-- A relayed command that is answered, before its effect. -/
def State.cmdTaken (s : State) (cmd target gen : Nat) : State := (s.relayCmd cmd target gen).cmdStatus 0

theorem State.cmdTaken_keeps (s : State) (cmd target gen : Nat) :
    ∃ out, s.cmdTaken cmd target gen = { s with out := out } ∧ .chainDown 6 0 0 (cmdBytes cmd target gen) ∈ out := by
  obtain ⟨out, ho⟩ := (s.relayCmd cmd target gen).cmdStatus_keeps 0
  exact ⟨_, ho, List.mem_append_left _ (List.mem_append_right _ (List.mem_singleton_self _))⟩

theorem exec_chainActivate {s : State} {target : Nat} {im : Image} (hm : s.cmdMine target = true)
    (hr : s.actRefusal = 0) (hi : (s.bank s.inactiveBank).image = some im) :
    exec (.chainActivate target im.hdr.generation) s =
      okIf s.awake s (s.cmdTaken 3 target im.hdr.generation).activate := by
  have hg : bankGen (s.bank s.inactiveBank) = im.hdr.generation := by rw [bankGen, hi]; rfl
  show execChainActivate target im.hdr.generation s = _
  simp only [execChainActivate, hr, hg, hm, ne_eq, not_true_eq_false, if_false, if_true]
  rfl

/-! ### Confirmation (R44, R771) -/

/-- A field of `KV_MODE` past `degraded` and below the count of modes is no business of settling. -/
theorem State.get_settle_field (s : State) {f : Fld} (hr : f.reg = R.KV_MODE) (hlo : 17 ≤ f.lo) (hhi : f.lo + f.w ≤ 48) :
    s.settle.get f = s.get f := by
  have he : ∀ (t : State) m, t.get f = s.get f → (t.enterMode m).get f = s.get f :=
    fun t m h => (t.get_enterMode_field m hr (le_trans (by decide) hlo) hhi).trans h
  have hd : (if s.get F.KV_MODE_degraded = b2n s.degradedNow then s
      else (s.put F.KV_MODE_degraded (b2n s.degradedNow)).raise F.KV_EVT_degraded_change).get f = s.get f := by
    refine State.ite_ind (P := fun t => t.get f = s.get f) (fun _ => rfl) fun _ => ?_
    rw [State.get_raise_reg _ (by rw [hr]; decide), State.get_put_fld (f := F.KV_MODE_degraded) _ _ hr (by decide) (.inl hlo)]
  have hl : s.level.get f = s.get f :=
    State.ite_ind (P := fun t => t.get f = s.get f) (fun _ => he _ _ hd) fun _ =>
      State.ite_ind (P := fun t => t.get f = s.get f) (fun _ => he _ _ hd) fun _ => hd
  rw [State.settle, State.get, State.rd_signal _ (by rw [hr]; decide)]
  exact hl

/-- A probation that is confirmed, before PROBATION is left. -/
def State.confirmed (s : State) (p : ProbRec) : State :=
  let s1 := s.setBank p.bank { s.bank p.bank with state := 0x1F }
  (State.put { s1 with rec0 := { s1.rec0 with prob := none }, boot := { s1.boot with resume := false } }
    F.KV_MODE_probation_left 0).raise F.KV_FW_EVT_confirmed

theorem State.confirm_eq {s : State} {p : ProbRec} (h : s.rec0.prob = some p) :
    s.confirm = (s.confirmed p).leaveProbation := by
  simp only [State.confirm, h]
  rfl

/-- PROBATION is left by a change of mode, to RUN or DEGRADED. -/
theorem State.leaveProbation_cases {P : State → Prop} (s : State)
    (h : s.mode = PROBATION → ∀ m, m = RUN ∨ m = DEGRADED → P (s.enterMode m)) (h' : s.mode ≠ PROBATION → P s) :
    P s.leaveProbation := by
  unfold State.leaveProbation
  split
  · next hm => exact h hm _ (by split <;> simp)
  · next hm => exact h' hm

/-- Leaving PROBATION changes the mode and what a change of mode writes. -/
theorem State.leaveProbation_boot (s : State) :
    s.leaveProbation.boot = s.boot ∧ s.leaveProbation.rec0.prob = s.rec0.prob :=
  s.leaveProbation_cases (P := fun t => t.boot = s.boot ∧ t.rec0.prob = s.rec0.prob)
    (fun _ m _ => ⟨s.enterMode_boot m, s.enterMode_prob m⟩) fun _ => ⟨rfl, rfl⟩

theorem State.mode_confirmed (s : State) (p : ProbRec) : (s.confirmed p).mode = s.mode := by
  have h0 : ∀ (t : State) v, (t.put F.KV_MODE_probation_left v).mode = t.mode :=
    fun t v => t.get_put_fld (f := F.KV_MODE_probation_left) (g := F.KV_MODE_mode) (i := 0) (j := 0) v rfl (by decide)
      (.inr (by decide))
  unfold State.confirmed
  rw [State.raise, State.mode_put _ _ (by decide), h0]
  rfl

theorem State.left_confirmed (s : State) (p : ProbRec) : (s.confirmed p).get F.KV_MODE_probation_left = 0 := by
  unfold State.confirmed
  rw [State.get_raise_reg _ (by decide), State.get_put_self _ _ _ _ _ (by decide)]
  rfl

theorem State.event_confirmed (s : State) (p : ProbRec) : (s.confirmed p).get F.KV_FW_EVT_confirmed = 1 := by
  unfold State.confirmed
  rw [State.get_raise_self _ _ _ _ (by decide) (by decide)]

/-- What a confirmation leaves. -/
theorem confirm_settle {s : State} {p : ProbRec} (h : s.rec0.prob = some p) :
    (s.confirm.settle.bank p.bank).state = 0x1F ∧ s.confirm.settle.rec0.prob = none ∧
      s.confirm.settle.get F.KV_MODE_probation_left = 0 ∧ s.confirm.settle.flag F.KV_FW_EVT_confirmed = true ∧
      (s.mode = PROBATION → s.confirm.settle.mode = RUN ∨ s.confirm.settle.mode = DEGRADED) ∧
      (s.mode ≠ PROBATION → s.mode ≠ RUN → s.mode ≠ DEGRADED → s.confirm.settle.mode = s.mode) := by
  obtain ⟨hboot, hprob⟩ := (s.confirmed p).leaveProbation_boot
  have hmode := s.mode_confirmed p
  rw [State.confirm_eq h]
  refine ⟨?_, ?_, ?_, ?_, ?_, ?_⟩
  · have hb : (s.confirmed p).leaveProbation.settle.bank p.bank =
        (s.setBank p.bank { s.bank p.bank with state := 0x1F }).bank p.bank :=
      State.bank_congr (by rw [State.settle_boot, hboot]; rfl) (by rw [State.settle_boot, hboot]; rfl) _
    rw [hb, State.bank_setBank]
  · rw [State.settle_prob, hprob]
    rfl
  · rw [State.get_settle_field _ rfl (by decide) (by decide)]
    refine State.leaveProbation_cases (P := fun t => t.get F.KV_MODE_probation_left = 0) _ (fun _ m _ => ?_) fun _ => ?_
    · rw [State.get_enterMode_field _ _ rfl (by decide) (by decide), s.left_confirmed]
    · exact s.left_confirmed p
  · rw [State.flag, State.get_settle _ (by decide) (by decide) (by decide)]
    refine State.leaveProbation_cases (P := fun t => (t.get F.KV_FW_EVT_confirmed == 1) = true) _ (fun _ m _ => ?_) fun _ => ?_
    · rw [State.get_enterMode _ _ (by decide) (by decide), s.event_confirmed]; rfl
    · rw [s.event_confirmed]; rfl
  · intro hm
    refine State.mode_settle_forwards ?_
    refine State.leaveProbation_cases (P := fun t => t.mode = RUN ∨ t.mode = DEGRADED) _ (fun _ m hto => ?_)
      fun hn => absurd (hmode.trans hm) hn
    rw [State.mode_enterMode _ (by rcases hto with rfl | rfl <;> decide)]
    exact hto
  · intro hm hr hd
    have he : (s.confirmed p).leaveProbation = s.confirmed p := if_neg (by rwa [hmode])
    rw [he, State.mode_settle_of_ne _ (by rwa [hmode]) (by rwa [hmode]), hmode]

/-- Settles O21: an activation by `activate_settle`, a refusal by its status, a confirmation by `confirm_settle`. -/
theorem activationConfirmationAndFallback : Obligations.ActivationConfirmationAndFallback := by
  refine ⟨?_, ?_, ?_, ?_⟩
  · intro im s ha hr hi
    obtain ⟨hm, hb, hp, hx, -⟩ := activate_settle hi
    exact answers_okIf ((exec_fwActivate s).trans (by rw [State.tryActivate, if_pos hr])) ha ⟨hm, hb, hp, hx⟩
  · intro s ha hr
    exact fwActivate_refused ha hr
  · intro target im s ha hmine hr hi
    refine answers_okIf (exec_chainActivate hmine hr hi) ha ?_
    obtain ⟨out, ho, hin⟩ := s.cmdTaken_keeps 3 target im.hdr.generation
    rw [ho]
    obtain ⟨hm, hb, -, hx, hout⟩ := activate_settle (s := { s with out := out }) hi
    exact ⟨hm, hb, hx, hout _ hin⟩
  · intro p s hmc hr hp hl
    exact answers_okIf (t := s.confirm) rfl (by simp [hmc, hr, hl]) (confirm_settle hp)

end Sys2Proof.Machine
end

section
/-! PROOFS. The mailbox: a `go` that starts an operation, one that is refused, and the ends (R30, R86, R601, R606, R620 to
R623). -/

namespace Sys2Proof.Machine

/-! ### Retired table banks are those of their register array -/

theorem filter_tdel {α : Type} (t : Tab α) (k : Nat) (p : Nat × α → Bool) (h : ∀ v, p (k, v) = false) :
    (tdel t k).filter p = t.filter p := by
  induction t with
  | nil => rfl
  | cons e r ih =>
    obtain ⟨a, w⟩ := e
    by_cases ha : a = k
    · subst ha; simp [tdel, ih, h]
    · simp [tdel, ha, ih, List.filter_cons]

theorem filter_tset {α : Type} (t : Tab α) (k : Nat) (v : α) (p : Nat × α → Bool) (h : ∀ v, p (k, v) = false) :
    (tset t k v).filter p = t.filter p := by
  induction t with
  | nil => simp [tset, h]
  | cons e r ih =>
    obtain ⟨a, w⟩ := e
    by_cases ha : a = k
    · subst ha; simp [tset, h]
    · by_cases hk : k < a
      · simp [tset, ha, hk, h]
      · simp [tset, ha, hk, ih, List.filter_cons]

theorem State.retiredBanks_put (s : State) {f : Fld} {i j : Nat} (v : Nat)
    (h : (regIdx R.TF_BANK_STAT (regAddr f.reg i j)).isSome = false) : (s.put f v i j).retiredBanks = s.retiredBanks := by
  unfold State.retiredBanks State.put State.wr tput
  dsimp only
  split
  · rw [filter_tdel _ _ _ fun v => by simp [h]]
  · rw [filter_tset _ _ _ _ fun v => by simp [h]]

theorem State.retiredBanks_congr {s t : State} (h : t.regs = s.regs) : t.retiredBanks = s.retiredBanks := by
  simp only [State.retiredBanks, h]

/-- What a view has to fit in comes from the shares and the retired banks alone. -/
theorem State.viewFits_congr {s t : State} (ht : t.tbl.shares = s.tbl.shares) (hb : t.retiredBanks = s.retiredBanks)
    (v : View) : t.viewFits v = s.viewFits v := by
  simp only [State.viewFits, State.routeSLeft, State.routeS, State.emUnitLimit, State.nhLimit, State.copyLimit,
    State.slotStore, State.miscShare, State.share, ht, hb]
  rfl

/-! ### The registers of a spare -/

theorem spState_reg (eg : Bool) : (spState eg).reg = R.TF_SPARE_STAT := by cases eg <;> rfl
theorem spSlot_reg (eg : Bool) : (spSlot eg).reg = R.TF_SPARE_STAT := by cases eg <;> rfl
theorem spFailed_reg (eg : Bool) : (spFailed eg).reg = R.TF_SPARE_STAT := by cases eg <;> rfl

/-! ### A `go` (R620, R621) -/

/-- Two states whose registers differ in the mailbox's command and status alone. -/
def MboxOnly (s t : State) : Prop :=
  ∀ a, a ≠ regAddr R.KV_MBOX_CMD 0 0 → a ≠ regAddr R.KV_MBOX_STAT 0 0 → tget? t.regs a = tget? s.regs a

namespace MboxOnly

variable {s t : State}

theorem put (h : MboxOnly s t) {f : Fld} (v : Nat) (hf : f.reg = R.KV_MBOX_CMD ∨ f.reg = R.KV_MBOX_STAT) :
    MboxOnly s (t.put f v) := by
  intro a h1 h2
  refine (put_tget t f v 0 0 ?_).trans (h a h1 h2)
  rcases hf with hf | hf
  · rwa [hf]
  · rwa [hf]

theorem get (h : MboxOnly s t) {f : Fld} {i j : Nat} (h1 : regAddr f.reg i j ≠ regAddr R.KV_MBOX_CMD 0 0)
    (h2 : regAddr f.reg i j ≠ regAddr R.KV_MBOX_STAT 0 0) : t.get f i j = s.get f i j := by
  unfold State.get State.rd tget
  rw [h _ h1 h2]

/-- A register past the always-on island. -/
theorem get_high (h : MboxOnly s t) {f : Fld} {i j : Nat} (hf : kvEnd ≤ f.reg.base) : t.get f i j = s.get f i j := by
  have ha : ∀ c < kvEnd, regAddr f.reg i j ≠ c := fun c hc => by unfold regAddr; omega
  exact h.get (ha _ (by decide)) (ha _ (by decide))

theorem rd (h : MboxOnly s t) {r : RegD} {i j : Nat} (h1 : regAddr r i j ≠ regAddr R.KV_MBOX_CMD 0 0)
    (h2 : regAddr r i j ≠ regAddr R.KV_MBOX_STAT 0 0) : t.rd r i j = s.rd r i j := by
  unfold State.rd tget
  rw [h _ h1 h2]

theorem regsBut (h : MboxOnly s t) : RegsBut [regAddr R.KV_MBOX_CMD 0 0, regAddr R.KV_MBOX_STAT 0 0] s t := by
  intro a ha _ _ _
  simp only [List.mem_cons, List.not_mem_nil, or_false, not_or] at ha
  exact h a ha.1 ha.2

theorem role (h : MboxOnly s t) (m : Nat) : t.role m = s.role m := by
  unfold State.role roleF
  split
  · exact h.get (by decide) (by decide)
  · exact h.get (by decide) (by decide)

theorem mcReady (h : MboxOnly s t) {m : Nat} (hm : m < 2) : t.mcReady m = s.mcReady m := by
  have ha : ∀ c, 0x1100 ≤ c → regAddr R.KV_MC_HEALTH m 0 ≠ c := fun c hc => by
    simp only [regAddr, R.KV_MC_HEALTH]; omega
  unfold State.mcReady State.flag
  rw [h.get (f := F.KV_MC_HEALTH_ready) (ha _ (by decide)) (ha _ (by decide))]

theorem activeMc (h : MboxOnly s t) : t.activeMc = s.activeMc := by
  have hb : ∀ i, t.isOn i = s.isOn i := by
    intro i
    have ha : ∀ c < 0x3000, regAddr R.KV_BLK_STAT i 0 ≠ c := fun c hc => by
      simp only [regAddr, R.KV_BLK_STAT]; omega
    unfold State.isOn State.blk
    rw [h.get (f := F.KV_BLK_STAT_state) (ha _ (by decide)) (ha _ (by decide))]
  have hm : ∀ m, t.mcActive m = s.mcActive m := by
    intro m
    have hr := h.role m
    unfold State.role at hr
    unfold State.mcActive
    rw [hb, hr]
  unfold State.activeMc
  rw [hm, hm]

end MboxOnly

/-- A `go` as the mailbox shows it before it is judged. -/
def State.mboxAsked (s : State) (op : Nat) : State := (s.put F.KV_MBOX_CMD_op op).put F.KV_MBOX_CMD_go 0

/-- An operation as it starts. -/
def State.mboxBegun (s : State) (op : Nat) : State := (s.mboxAsked op).mboxStart op

theorem State.mboxGo_eq (s : State) (op : Nat) (run : State → State) : s.mboxGo op run =
    if (s.mboxAsked op).flag F.KV_MBOX_STAT_busy || (s.mboxAsked op).activeMc.isNone then
      (s.mboxAsked op).raise F.KV_MBOX_STAT_refused
    else run (s.mboxBegun op) := rfl

theorem State.mboxOnly_asked (s : State) (op : Nat) : MboxOnly s (s.mboxAsked op) :=
  ((show MboxOnly s s from fun _ _ _ => rfl).put (f := F.KV_MBOX_CMD_op) op (.inl rfl)).put (f := F.KV_MBOX_CMD_go) 0 (.inl rfl)

theorem State.busy_mboxAsked (s : State) (op : Nat) :
    (s.mboxAsked op).get F.KV_MBOX_STAT_busy = s.get F.KV_MBOX_STAT_busy := by
  unfold State.mboxAsked
  rw [State.get_put_reg (f := F.KV_MBOX_CMD_go) (g := F.KV_MBOX_STAT_busy) (i' := 0) (j' := 0) _ 0 (by decide),
    State.get_put_reg (f := F.KV_MBOX_CMD_op) (g := F.KV_MBOX_STAT_busy) (i' := 0) (j' := 0) _ op (by decide)]

/-- A `go` while an operation runs, or with no controller ACTIVE. -/
theorem State.mboxGo_refused {s : State} (h : s.flag F.KV_MBOX_STAT_busy = true ∨ s.activeMc = none) (op : Nat)
    (run : State → State) : s.mboxGo op run = (s.mboxAsked op).raise F.KV_MBOX_STAT_refused := by
  rw [State.mboxGo_eq, if_pos]
  rw [State.flag, s.busy_mboxAsked, (s.mboxOnly_asked op).activeMc]
  rcases h with h | h
  · rw [State.flag] at h
    rw [h, Bool.true_or]
  · rw [h, Option.isNone_none, Bool.or_true]

/-- A `go` that starts its operation. -/
theorem State.mboxGo_begins {s : State} (hb : s.flag F.KV_MBOX_STAT_busy = false) (hm : s.activeMc.isSome = true)
    (op : Nat) (run : State → State) : s.mboxGo op run = run (s.mboxBegun op) := by
  rw [State.mboxGo_eq, if_neg]
  rw [State.flag] at hb
  rw [State.flag, s.busy_mboxAsked, (s.mboxOnly_asked op).activeMc, hb, Bool.false_or]
  obtain ⟨m, hm⟩ := Option.isSome_iff_exists.1 hm
  rw [hm]
  exact Bool.false_ne_true

/-- The refusal: the command's own write, and the bit. -/
theorem mboxRefused_settle (s : State) (op : Nat) :
    ((s.mboxAsked op).raise F.KV_MBOX_STAT_refused).settle.flag F.KV_MBOX_STAT_refused = true ∧
      OnlyRegs [regAddr R.KV_MBOX_CMD 0 0, regAddr R.KV_MBOX_STAT 0 0] s
        ((s.mboxAsked op).raise F.KV_MBOX_STAT_refused).settle := by
  refine ⟨?_, ?_⟩
  · rw [State.flag, State.get_settle _ (by decide) (by decide) (by decide),
      State.get_raise_self _ _ _ _ (by decide) (by decide)]
    rfl
  · exact ((((OnlyRegs.refl _ s).put (f := F.KV_MBOX_CMD_op) op List.mem_cons_self).put (f := F.KV_MBOX_CMD_go) 0
      List.mem_cons_self).put (f := F.KV_MBOX_STAT_refused) 1 (List.mem_cons_of_mem _ List.mem_cons_self)).settle

/-! ### What stands when an operation starts -/

/-- The operation as the status shows it, before its journal entry. -/
def State.mboxMarked (s : State) (op : Nat) : State :=
  (((State.put { s.mboxAsked op with mc := { s.mc with
      args := (List.range 4).map (fun i => (s.mboxAsked op).rd R.KV_MBOX_ARG i) } }
    F.KV_MBOX_STAT_busy 1).put F.KV_MBOX_STAT_cur_op op).put F.KV_MBOX_STAT_progress 0)

theorem State.mboxBegun_keeps (s : State) (op : Nat) :
    ∃ m b eng, s.mboxBegun op = { s.mboxMarked op with sram := m, sramBad := b, eng := eng } :=
  (s.mboxMarked op).journal_keeps ..

/-- An operation that has started: its arguments latched, itself shown, and what its own check reads as before the `go`. -/
structure MboxBegan (s t : State) (op : Nat) : Prop where
  only : MboxOnly s t
  retired : t.retiredBanks = s.retiredBanks
  busy : t.get F.KV_MBOX_STAT_busy = 1
  curOp : t.get F.KV_MBOX_STAT_cur_op = op % 2 ^ 8
  args : t.mc.args = (List.range 4).map (fun i => s.rd R.KV_MBOX_ARG i)
  views : t.act = s.act ∧ t.inact = s.inact
  held : t.buf = s.buf ∧ t.sch = s.sch

theorem State.mboxBegan (s : State) (op : Nat) : MboxBegan s (s.mboxBegun op) op := by
  obtain ⟨m, b, eng, h⟩ := s.mboxBegun_keeps op
  have hregs : (s.mboxBegun op).regs = (s.mboxMarked op).regs := by rw [h]
  have ho : MboxOnly s (s.mboxMarked op) :=
    ((MboxOnly.put (t := { s.mboxAsked op with mc := _ }) (s.mboxOnly_asked op) (f := F.KV_MBOX_STAT_busy) 1 (.inr rfl)).put
      (f := F.KV_MBOX_STAT_cur_op) op (.inr rfl)).put (f := F.KV_MBOX_STAT_progress) 0 (.inr rfl)
  refine ⟨?_, ?_, ?_, ?_, ?_, ⟨?_, ?_⟩, ?_, ?_⟩
  · intro a h1 h2
    rw [hregs]
    exact ho a h1 h2
  · rw [State.retiredBanks_congr hregs, State.mboxMarked, State.retiredBanks_put _ _ (by decide),
      State.retiredBanks_put _ _ (by decide), State.retiredBanks_put _ _ (by decide)]
    refine (State.retiredBanks_congr (t := { s.mboxAsked op with mc := _ }) (s := s.mboxAsked op) rfl).trans ?_
    rw [State.mboxAsked, State.retiredBanks_put _ _ (by decide), State.retiredBanks_put _ _ (by decide)]
  · rw [State.get_congr hregs, State.mboxMarked,
      State.get_put_fld (f := F.KV_MBOX_STAT_progress) (g := F.KV_MBOX_STAT_busy) _ _ rfl (by decide) (.inr (by decide)),
      State.get_put_fld (f := F.KV_MBOX_STAT_cur_op) (g := F.KV_MBOX_STAT_busy) _ _ rfl (by decide) (.inr (by decide)),
      State.get_put_self _ _ _ _ _ (by decide)]
    rfl
  · rw [State.get_congr hregs, State.mboxMarked,
      State.get_put_fld (f := F.KV_MBOX_STAT_progress) (g := F.KV_MBOX_STAT_cur_op) _ _ rfl (by decide) (.inr (by decide)),
      State.get_put_self _ _ _ _ _ (by decide)]
    rfl
  · have ha : ∀ i, (s.mboxAsked op).rd R.KV_MBOX_ARG i = s.rd R.KV_MBOX_ARG i := fun i =>
      (s.mboxOnly_asked op).rd (by simp only [regAddr, R.KV_MBOX_ARG, R.KV_MBOX_CMD]; omega)
        (by simp only [regAddr, R.KV_MBOX_ARG, R.KV_MBOX_STAT]; omega)
    rw [h, State.mboxMarked, State.put_mc, State.put_mc, State.put_mc]
    exact List.map_congr_left fun i _ => ha i
  all_goals
    rw [h]
    simp only [State.mboxMarked, State.mboxAsked, State.put_act, State.put_inact, State.put_buf, State.put_sch]

/-- An operation whose start passes its own check and shows no register more. -/
theorem begun_answers {c : Instr} {s : State} {op : Nat} {run : State → State}
    (he : exec c s = okIf s.awake s (s.mboxGo op run)) (ha : s.awake = true) (hb : s.flag F.KV_MBOX_STAT_busy = false)
    (hm : s.activeMc.isSome = true) (ho : op < 256) (hr : (run (s.mboxBegun op)).regs = (s.mboxBegun op).regs)
    (hargs : (run (s.mboxBegun op)).mc.args = (s.mboxBegun op).mc.args)
    (h4 : op = 4 → (run (s.mboxBegun op)).mc.handTo = some (1 - s.activeMc.getD 0)) :
    Answers c s (fun t => t.flag F.KV_MBOX_STAT_busy = true ∧ t.get F.KV_MBOX_STAT_cur_op = op ∧
      t.mc.args = (List.range 4).map (fun i => s.rd R.KV_MBOX_ARG i) ∧
      (op = 4 → t.mc.handTo = some (1 - s.activeMc.getD 0)) ∧
      RegsBut [regAddr R.KV_MBOX_CMD 0 0, regAddr R.KV_MBOX_STAT 0 0] s t) := by
  have hbegan := s.mboxBegan op
  refine answers_okIf (he.trans (by rw [State.mboxGo_begins hb hm])) ha ⟨?_, ?_, ?_, ?_, ?_⟩
  · rw [State.flag, State.get_settle _ (by decide) (by decide) (by decide), State.get_congr hr, hbegan.busy]
    rfl
  · rw [State.get_settle _ (by decide) (by decide) (by decide), State.get_congr hr, hbegan.curOp]
    exact Nat.mod_eq_of_lt ho
  · rw [State.settle_mc, hargs, hbegan.args]
  · rw [State.settle_mc]
    exact h4
  · refine regsBut_settle_of fun a h1 h2 h3 h4 => ?_
    rw [hr]
    exact hbegan.only.regsBut a h1 h2 h3 h4

/-! ### Each operation's own check (R86, R601, R606, R623) -/

section
variable {s t : State} {op : Nat}

/-- The first argument, latched. -/
theorem MboxBegan.marg_zero (h : MboxBegan s t op) : t.marg 0 = (s.rd R.KV_MBOX_ARG 0).toNat := by
  rw [State.marg, h.args]
  rfl

theorem mcSwitchStart_of_ready (h : MboxBegan s t op) (hr : s.role (1 - s.activeMc.getD 0) = 1)
    (hm : s.mcReady (1 - s.activeMc.getD 0) = true) :
    t.mcSwitchStart = { t with mc := { t.mc with handTo := some (1 - s.activeMc.getD 0) } } := by
  unfold State.mcSwitchStart
  rw [h.only.activeMc, if_pos]
  rw [h.only.role, h.only.mcReady (by omega), hr, hm]
  rfl

theorem repartitionStart_of_fits (h : MboxBegan s t op)
    (hl : (argShares (s.rd R.KV_MBOX_ARG 0).toNat).sum ≤ 496)
    (ha : (s.withShares (argShares (s.rd R.KV_MBOX_ARG 0).toNat)).viewFits s.act = true)
    (hi : (s.withShares (argShares (s.rd R.KV_MBOX_ARG 0).toNat)).viewFits s.inact = true) : t.repartitionStart = t := by
  have hv : ∀ v, (t.withShares (argShares (s.rd R.KV_MBOX_ARG 0).toNat)).viewFits v =
      (s.withShares (argShares (s.rd R.KV_MBOX_ARG 0).toNat)).viewFits v := State.viewFits_congr rfl h.retired
  obtain ⟨hact, hinact⟩ := h.views
  unfold State.repartitionStart
  dsimp only
  rw [h.marg_zero, if_neg (by omega), hv, hv, hact, hinact, ha, hi]
  exact if_neg (by decide)

theorem retestStart_of_failed (h : MboxBegan s t op) (hp : bits (s.rd R.KV_MBOX_ARG 0).toNat 5 3 < 4)
    (hf : s.pipeFailed (bits (s.rd R.KV_MBOX_ARG 0).toNat 0 4) (bitOf (s.rd R.KV_MBOX_ARG 0).toNat 4)
      (bits (s.rd R.KV_MBOX_ARG 0).toNat 5 3) = true) : t.retestStart = t := by
  have hg : ∀ eg cl, t.get (spFailed eg) cl = s.get (spFailed eg) cl :=
    fun eg cl => h.only.get_high (by rw [spFailed_reg]; decide)
  unfold State.retestStart
  dsimp only
  rw [h.marg_zero, State.pipeFailed, hg]
  exact if_pos ⟨hp, hf⟩

/-- A port group that is down, and of which DT holds nothing. -/
theorem reconfigStart_of_down {p code : Nat} (h : MboxBegan s t op) (hp : p = bits (s.rd R.KV_MBOX_ARG 0).toNat 0 5)
    (hc : code = bits (s.rd R.KV_MBOX_ARG 0).toNat 5 3) (h5 : code < 5)
    (h8 : bitOf (s.rd R.KV_MBOX_ARG 0).toNat 8 = true → code < 3)
    (hd : ∀ i < 8, s.present (8 * p + i) = true →
      s.flag F.TF_LPORT_CTL_admin_up (8 * p + i) = false ∧ s.holdsFor (8 * p + i) = false) :
    t.reconfigStart = ((List.range 8).map (8 * p + ·)).foldl State.retrainLane (t.put F.TF_PORT_CFG_reconfig_busy 1 p) := by
  obtain ⟨hbuf, hsch⟩ := h.held
  have hpres : ∀ l, t.present l = s.present l := fun l => by
    unfold State.present State.breakout
    rw [h.only.get_high (f := F.TF_PORT_CFG_breakout) (by decide)]
  have hadm : ∀ l, t.flag F.TF_LPORT_CTL_admin_up l = s.flag F.TF_LPORT_CTL_admin_up l := fun l => by
    unfold State.flag
    rw [h.only.get_high (f := F.TF_LPORT_CTL_admin_up) (by decide)]
  have hheld : ∀ l, t.holdsFor l = s.holdsFor l := fun l => by
    unfold State.holdsFor State.myId
    rw [h.only.get (f := F.KV_MODE_module_id) (by decide) (by decide), hbuf, hsch]
  have hany : (((List.range 8).map (fun i => 8 * p + i)).filter t.present).any
      (fun l => t.flag F.TF_LPORT_CTL_admin_up l || t.holdsFor l) = false := by
    rw [List.any_eq_false]
    intro l hl
    obtain ⟨hl, hpl⟩ := List.mem_filter.1 hl
    obtain ⟨i, hi, rfl⟩ := List.mem_map.1 hl
    obtain ⟨hau, hho⟩ := hd i (List.mem_range.1 hi) ((hpres _).symm.trans hpl)
    rw [hadm, hheld, hau, hho]
    exact Bool.false_ne_true
  unfold State.reconfigStart
  dsimp only
  rw [h.marg_zero, ← hp, ← hc, if_neg, if_neg]
  · rw [hany]
    exact Bool.false_ne_true
  · rintro (h5' | ⟨h8', h3⟩)
    · omega
    · have := h8 h8'
      omega

/-- The bits of a lane that trains again. -/
def State.laneCleared (u : State) (n : Nat) : State :=
  (((u.zero F.TF_LANE_STAT_signal n).zero F.TF_LANE_STAT_cdr_lock n).zero F.TF_LANE_STAT_adapting n).zero
    F.TF_LANE_STAT_ber_log n

theorem State.regs_retrainLane (u : State) (n : Nat) : (u.retrainLane n).regs = (u.laneCleared n).regs := rfl

theorem kvSame_retrainLane (u : State) (n : Nat) : KvSame u (u.retrainLane n) := by
  have hz : ∀ (v : State) (f : Fld), f.reg = R.TF_LANE_STAT → KvSame v (v.zero f n) :=
    fun v f hf => KvSame.put v 0 n 0 (by rw [hf]; decide)
  have h : KvSame u (u.laneCleared n) := (((hz _ _ rfl).trans (hz _ _ rfl)).trans (hz _ _ rfl)).trans (hz _ _ rfl)
  intro a ha
  rw [u.regs_retrainLane]
  exact h a ha

/-- The lanes that train again are registers apart from the port's own. -/
theorem reconfig_busy_retrained (u : State) {p : Nat} (hp : p < 32) (l : List Nat) :
    (l.foldl State.retrainLane (u.put F.TF_PORT_CFG_reconfig_busy 1 p)).get F.TF_PORT_CFG_reconfig_busy p = 1 := by
  have hz : ∀ (v : State) (f : Fld) n, f.reg = R.TF_LANE_STAT →
      (v.zero f n).get F.TF_PORT_CFG_reconfig_busy p = v.get F.TF_PORT_CFG_reconfig_busy p := by
    intro v f n hf
    refine State.get_put_reg _ _ ?_
    rw [hf]
    simp only [regAddr, F.TF_PORT_CFG_reconfig_busy, R.TF_PORT_CFG, R.TF_LANE_STAT]
    omega
  have hl : ∀ (v : State) n, (v.retrainLane n).get F.TF_PORT_CFG_reconfig_busy p =
      v.get F.TF_PORT_CFG_reconfig_busy p := by
    intro v n
    rw [State.get_congr (v.regs_retrainLane n), State.laneCleared, hz _ F.TF_LANE_STAT_ber_log _ rfl,
      hz _ F.TF_LANE_STAT_adapting _ rfl, hz _ F.TF_LANE_STAT_cdr_lock _ rfl, hz _ F.TF_LANE_STAT_signal _ rfl]
  rw [foldl_fixes (·.get F.TF_PORT_CFG_reconfig_busy p) (fun v n _ => hl v n),
    State.get_put_self _ _ _ _ _ (by decide)]
  rfl

end

/-! ### The end of an operation (R620, R623) -/

/-- What an end writes to the result registers. -/
def State.withResults (s : State) (res : List Nat) : State :=
  (List.range 4).foldl (fun (t : State) i => t.wr R.KV_MBOX_RES (BitVec.ofNat 64 (res.getD i 0)) i) s

/-- An operation's end, before its journal entry. -/
def State.mboxShown (s : State) (status : Nat) (res : List Nat) : State :=
  ((((s.withResults res).put F.KV_MBOX_STAT_busy 0).put F.KV_MBOX_STAT_done 1).put F.KV_MBOX_STAT_status status).put
    F.KV_MBOX_STAT_progress 100

theorem State.mboxEnd_keeps (s : State) (status : Nat) (res : List Nat) :
    ∃ m b eng, s.mboxEnd status res = { s.mboxShown status res with sram := m, sramBad := b, eng := eng } :=
  (s.mboxShown status res).journal_keeps ..

theorem State.rd_withResults (s : State) (res : List Nat) :
    ∀ i < 4, (s.withResults res).rd R.KV_MBOX_RES i = BitVec.ofNat 64 (res.getD i 0) := by
  have hne : ∀ (t : State) w a b, a ≠ b → (t.wr R.KV_MBOX_RES w a).rd R.KV_MBOX_RES b = t.rd R.KV_MBOX_RES b := by
    intro t w a b hab
    refine State.rd_wr_ne _ _ ?_
    simp only [regAddr, R.KV_MBOX_RES]
    omega
  have hw : s.withResults res = (((s.wr R.KV_MBOX_RES (BitVec.ofNat 64 (res.getD 0 0)) 0).wr R.KV_MBOX_RES
    (BitVec.ofNat 64 (res.getD 1 0)) 1).wr R.KV_MBOX_RES (BitVec.ofNat 64 (res.getD 2 0)) 2).wr R.KV_MBOX_RES
    (BitVec.ofNat 64 (res.getD 3 0)) 3 := rfl
  intro i hi
  rw [hw]
  obtain rfl | rfl | rfl | rfl : i = 0 ∨ i = 1 ∨ i = 2 ∨ i = 3 := by omega
  · rw [hne _ _ _ _ (by decide), hne _ _ _ _ (by decide), hne _ _ _ _ (by decide), State.rd_wr_self]
  · rw [hne _ _ _ _ (by decide), hne _ _ _ _ (by decide), State.rd_wr_self]
  · rw [hne _ _ _ _ (by decide), State.rd_wr_self]
  · rw [State.rd_wr_self]

theorem State.tbl_mboxShown (s : State) (status : Nat) (res : List Nat) : (s.mboxShown status res).tbl = s.tbl := by
  rw [State.mboxShown, State.put_tbl, State.put_tbl, State.put_tbl, State.put_tbl]
  exact foldl_fixes (·.tbl) (step := fun t i => t.wr R.KV_MBOX_RES (BitVec.ofNat 64 (res.getD i 0)) i)
    (fun _ _ _ => rfl) s

/-- What the mailbox shows when an operation has ended: its registers, and the shares left as they were. -/
theorem mboxEnd_settle (s : State) (status : Nat) (res : List Nat) :
    (s.mboxEnd status res).settle.flag F.KV_MBOX_STAT_busy = false ∧
      (s.mboxEnd status res).settle.flag F.KV_MBOX_STAT_done = true ∧
      (s.mboxEnd status res).settle.get F.KV_MBOX_STAT_status = status % 16 ∧
      (∀ i < 4, (s.mboxEnd status res).settle.rd R.KV_MBOX_RES i = BitVec.ofNat 64 (res.getD i 0)) ∧
      (s.mboxEnd status res).settle.tbl = s.tbl := by
  obtain ⟨m, b, eng, h⟩ := s.mboxEnd_keeps status res
  have hregs : (s.mboxEnd status res).regs = (s.mboxShown status res).regs := by rw [h]
  have hst : ∀ f : Fld, f.reg = R.KV_MBOX_STAT →
      (s.mboxEnd status res).settle.get f = (s.mboxShown status res).get f := fun f hf =>
    (State.get_settle _ (by rw [hf]; decide) (by rw [hf]; decide) (by rw [hf]; decide)).trans (State.get_congr hregs _ _ _)
  refine ⟨?_, ?_, ?_, ?_, ?_⟩
  · rw [State.flag, hst _ rfl, State.mboxShown,
      State.get_put_fld (f := F.KV_MBOX_STAT_progress) (g := F.KV_MBOX_STAT_busy) _ _ rfl (by decide) (.inr (by decide)),
      State.get_put_fld (f := F.KV_MBOX_STAT_status) (g := F.KV_MBOX_STAT_busy) _ _ rfl (by decide) (.inr (by decide)),
      State.get_put_fld (f := F.KV_MBOX_STAT_done) (g := F.KV_MBOX_STAT_busy) _ _ rfl (by decide) (.inr (by decide)),
      State.get_put_self _ _ _ _ _ (by decide)]
    rfl
  · rw [State.flag, hst _ rfl, State.mboxShown,
      State.get_put_fld (f := F.KV_MBOX_STAT_progress) (g := F.KV_MBOX_STAT_done) _ _ rfl (by decide) (.inr (by decide)),
      State.get_put_fld (f := F.KV_MBOX_STAT_status) (g := F.KV_MBOX_STAT_done) _ _ rfl (by decide) (.inr (by decide)),
      State.get_put_self _ _ _ _ _ (by decide)]
    rfl
  · rw [hst _ rfl, State.mboxShown,
      State.get_put_fld (f := F.KV_MBOX_STAT_progress) (g := F.KV_MBOX_STAT_status) _ _ rfl (by decide) (.inr (by decide)),
      State.get_put_self _ _ _ _ _ (by decide)]
    rfl
  · intro i hi
    have ha : ∀ c, c < 0x1140 ∨ 0x1160 ≤ c → regAddr R.KV_MBOX_RES i 0 ≠ c := fun c hc => by
      simp only [regAddr, R.KV_MBOX_RES]; omega
    rw [State.rd_settle _ (ha _ (by decide)) (ha _ (by decide)) (ha _ (by decide)),
      State.rd_congr hregs, State.mboxShown, State.rd_put_ne _ _ (ha _ (by decide)),
      State.rd_put_ne _ _ (ha _ (by decide)), State.rd_put_ne _ _ (ha _ (by decide)),
      State.rd_put_ne _ _ (ha _ (by decide)), s.rd_withResults res i hi]
  · rw [State.settle_tbl, h, s.tbl_mboxShown status res]

/-- Every operation's `go` is one of the mailbox's. -/
theorem exec_mailbox {c : Instr} {s : State} (ha : s.awake = true)
    (hc : c = .mcSwitch ∨ c = .epochQuery ∨ c = .queueReset ∨ c = .repartition ∨ c = .portReconfig ∨ c = .pipeRetest ∨
      ∃ op, (op = 0 ∨ 6 < op) ∧ c = .mboxUnknownOp op) :
    ∃ b op run, exec c s = okIf b s (s.mboxGo op run) ∧ b = true := by
  obtain rfl | rfl | rfl | rfl | rfl | rfl | ⟨op, ho, rfl⟩ := hc
  · exact ⟨_, _, _, rfl, ha⟩
  · exact ⟨_, _, _, rfl, ha⟩
  · exact ⟨_, _, _, rfl, ha⟩
  · exact ⟨_, _, _, rfl, ha⟩
  · exact ⟨_, _, _, rfl, ha⟩
  · exact ⟨_, _, _, rfl, ha⟩
  · refine ⟨_, _, _, rfl, ?_⟩
    rw [ha, Bool.true_and, Bool.not_eq_true', decide_eq_false_iff_not]
    omega

/-- A port reconfiguration that starts: busy, and its port group marked (R86). -/
theorem portReconfig_begins {p code : Nat} {s : State} (ha : s.awake = true)
    (hb : s.flag F.KV_MBOX_STAT_busy = false) (hm : s.activeMc.isSome = true)
    (hp : p = bits (s.rd R.KV_MBOX_ARG 0).toNat 0 5) (hc : code = bits (s.rd R.KV_MBOX_ARG 0).toNat 5 3) (h5 : code < 5)
    (h8 : bitOf (s.rd R.KV_MBOX_ARG 0).toNat 8 = true → code < 3)
    (hd : ∀ i < 8, s.present (8 * p + i) = true →
      s.flag F.TF_LPORT_CTL_admin_up (8 * p + i) = false ∧ s.holdsFor (8 * p + i) = false) :
    Answers .portReconfig s (fun t => t.flag F.KV_MBOX_STAT_busy = true ∧ t.get F.KV_MBOX_STAT_cur_op = 2 ∧
      t.flag F.TF_PORT_CFG_reconfig_busy p = true) := by
  have hbegan := s.mboxBegan 2
  have hs := reconfigStart_of_down hbegan hp hc h5 h8 hd
  have hp32 : p < 32 := hp ▸ bits_lt _ 0 5
  have hkv : KvSame (s.mboxBegun 2) (s.mboxBegun 2).reconfigStart := by
    rw [hs]
    exact (KvSame.put _ _ _ _ (by decide)).trans (KvSame.foldl kvSame_retrainLane _ _)
  have he : exec .portReconfig s = okIf s.awake s (s.mboxGo 2 State.reconfigStart) := rfl
  refine answers_okIf (he.trans (by rw [State.mboxGo_begins hb hm])) ha ⟨?_, ?_, ?_⟩
  · rw [State.flag, State.get_settle _ (by decide) (by decide) (by decide), hkv.get (by decide), hbegan.busy]
    rfl
  · rw [State.get_settle _ (by decide) (by decide) (by decide), hkv.get (by decide), hbegan.curOp]
    rfl
  · have hne : ∀ c < 0x1000000, regAddr R.TF_PORT_CFG p 0 ≠ c := fun c hc => by
      simp only [regAddr, R.TF_PORT_CFG]; omega
    rw [State.flag, State.get_settle _ (hne _ (by decide)) (hne _ (by decide)) (hne _ (by decide)), hs,
      reconfig_busy_retrained _ hp32]
    rfl

/-- An operation that the mailbox does not know ends at once (R623). -/
theorem mboxUnknownOp_ends {op : Nat} {s : State} (ha : s.awake = true) (hb : s.flag F.KV_MBOX_STAT_busy = false)
    (hm : s.activeMc.isSome = true) (ho : op = 0 ∨ 6 < op) :
    Answers (.mboxUnknownOp op) s (fun t => t.flag F.KV_MBOX_STAT_busy = false ∧
      t.flag F.KV_MBOX_STAT_done = true ∧ t.get F.KV_MBOX_STAT_status = stBadOpcode) := by
  have he : exec (.mboxUnknownOp op) s = okIf (s.awake && !(decide (1 ≤ op ∧ op ≤ 6))) s
    (s.mboxGo (op % 256) (fun t => t.mboxEnd stBadOpcode [])) := rfl
  have hop : (s.awake && !(decide (1 ≤ op ∧ op ≤ 6))) = true := by
    rw [ha, Bool.true_and, Bool.not_eq_true', decide_eq_false_iff_not]
    omega
  obtain ⟨hbusy, hdone, hstat, -, -⟩ := mboxEnd_settle (s.mboxBegun (op % 256)) stBadOpcode []
  exact answers_okIf (he.trans (by rw [State.mboxGo_begins hb hm])) hop ⟨hbusy, hdone, hstat⟩

/-- The ends of EPOCH_QUERY, REPARTITION and a retest, by the operation in progress (R606, R623). -/
theorem mboxOpDone_ends (passed : Bool) {s : State} (hb : s.flag F.KV_MBOX_STAT_busy = true)
    (hm : s.activeMc.isSome = true) : Answers (.mboxOpDone passed) s (fun t =>
      (s.get F.KV_MBOX_STAT_cur_op = 5 → t.flag F.KV_MBOX_STAT_busy = false ∧ t.flag F.KV_MBOX_STAT_done = true ∧
        t.get F.KV_MBOX_STAT_status = 0 ∧
        ∀ i < 4, t.rd R.KV_MBOX_RES i = BitVec.ofNat 64 (s.epochResults.getD i 0)) ∧
      (s.get F.KV_MBOX_STAT_cur_op = 1 → t.flag F.KV_MBOX_STAT_busy = false ∧
        t.tbl.shares = argShares (s.marg 0)) ∧
      (s.get F.KV_MBOX_STAT_cur_op = 3 → t.flag F.KV_MBOX_STAT_busy = false ∧
        t.rd R.KV_MBOX_RES 0 = BitVec.ofNat 64 (b2n passed))) := by
  have hg : (s.flag F.KV_MBOX_STAT_busy && s.activeMc.isSome) = true := by rw [hb, hm]; rfl
  by_cases h5 : s.get F.KV_MBOX_STAT_cur_op = 5
  · obtain ⟨hbusy, hdone, hstat, hres, -⟩ := mboxEnd_settle s stOk s.epochResults
    have he : exec (.mboxOpDone passed) s = ok (s.mboxEnd stOk s.epochResults) := by
      show execMboxOpDone passed s = _
      simp only [execMboxOpDone, hg, if_true, h5]
    exact answers_ok he ⟨fun _ => ⟨hbusy, hdone, hstat, hres⟩, fun h => absurd (h5.symm.trans h) (by decide),
      fun h => absurd (h5.symm.trans h) (by decide)⟩
  by_cases h1 : s.get F.KV_MBOX_STAT_cur_op = 1
  · obtain ⟨hbusy, -, -, -, htbl⟩ := mboxEnd_settle (s.withShares (argShares (s.marg 0))) stOk
      [(s.withShares (argShares (s.marg 0))).routeS]
    have he : exec (.mboxOpDone passed) s = ok s.repartitionDone := by
      show execMboxOpDone passed s = _
      simp only [execMboxOpDone, hg, if_true, h1]
    exact answers_ok he ⟨fun h => absurd h h5, fun _ => ⟨hbusy, congrArg (·.shares) htbl⟩,
      fun h => absurd (h1.symm.trans h) (by decide)⟩
  by_cases h3 : s.get F.KV_MBOX_STAT_cur_op = 3
  · have he : exec (.mboxOpDone passed) s = ok (s.retestDone passed) := by
      show execMboxOpDone passed s = _
      simp only [execMboxOpDone, hg, if_true, h3]
    refine answers_ok he ⟨fun h => absurd h h5, fun h => absurd h h1, fun _ => ?_⟩
    unfold State.retestDone
    dsimp only
    obtain ⟨hbusy, -, -, hres, -⟩ := mboxEnd_settle _ stOk [b2n passed]
    exact ⟨hbusy, hres 0 (by decide)⟩
  · obtain ⟨u, hu⟩ := exec_settles (.mboxOpDone passed) s
    exact answers_ok hu ⟨fun h => absurd h h5, fun h => absurd h h1, fun h => absurd h h3⟩

/-- Settles O30: each `go` by `mboxGo_refused` or `mboxGo_begins` with its operation's check, each end by
`mboxEnd_settle`. -/
theorem mailboxOperationsStartEndOrAreRefused : Obligations.MailboxOperationsStartEndOrAreRefused := by
  refine ⟨?_, ?_, ?_, ?_, ?_⟩
  · intro c s ha h hc
    obtain ⟨b, op, run, he, hb⟩ := exec_mailbox ha hc
    exact answers_okIf (he.trans (by rw [State.mboxGo_refused h])) hb (mboxRefused_settle s op)
  · intro c op s ha hb hm hc
    have hbegan := s.mboxBegan op
    have hne : ∀ {n : Nat} {p : Prop}, n ≠ 4 → n = 4 → p := fun h h' => absurd h' h
    obtain ⟨rfl, rfl⟩ | ⟨rfl, rfl⟩ | ⟨rfl, rfl, hr, hready⟩ | ⟨rfl, rfl, hl, hact, hin⟩ |
      ⟨rfl, rfl, hp, hf⟩ := hc
    · exact begun_answers (run := id) rfl ha hb hm (by decide) rfl rfl (hne (by decide))
    · exact begun_answers (run := id) rfl ha hb hm (by decide) rfl rfl (hne (by decide))
    · have hs := mcSwitchStart_of_ready hbegan hr hready
      exact begun_answers (run := State.mcSwitchStart) rfl ha hb hm (by decide) (by rw [hs]) (by rw [hs])
        (fun _ => by rw [hs])
    · have hs := repartitionStart_of_fits hbegan hl hact hin
      exact begun_answers (run := State.repartitionStart) rfl ha hb hm (by decide) (by rw [hs]) (by rw [hs])
        (hne (by decide))
    · have hs := retestStart_of_failed hbegan hp hf
      exact begun_answers (run := State.retestStart) rfl ha hb hm (by decide) (by rw [hs]) (by rw [hs])
        (hne (by decide))
  · intro p code s ha hb hm hp hc h5 h8 hd
    exact portReconfig_begins ha hb hm hp hc h5 h8 hd
  · intro op s ha hb hm ho
    exact mboxUnknownOp_ends ha hb hm ho
  · intro passed s hb hm
    exact mboxOpDone_ends passed hb hm

end Sys2Proof.Machine
end

section
/-! PROOFS. What a failed slot loses leaves the spares' registers, the table's events and the unit fault's record alone (R58,
R363, R375, R383, R540). -/

namespace Sys2Proof.Machine

/-- Two states with the same commit engine, the same words of the memory and table registers of TF (from `TF_MEM_CFG` to the
spares'), and the same record of unit faults: `DT_GUAR_EVT` but its `breach`. -/
structure DropKeeps (s t : State) : Prop where
  eng : t.eng = s.eng
  tbl : ∀ a, 0x1400000 ≤ a → a < 0x1700000 → tget? t.regs a = tget? s.regs a
  guar : ∀ f : Fld, f.reg = R.DT_GUAR_EVT → 1 ≤ f.lo → t.get f = s.get f

namespace DropKeeps

variable {s t u : State}

theorem of_regs (he : t.eng = s.eng) (hr : t.regs = s.regs) : DropKeeps s t :=
  ⟨he, fun _ _ _ => by rw [hr], fun _ _ _ => State.get_congr hr _ _ _⟩

theorem refl (s : State) : DropKeeps s s := of_regs rfl rfl

theorem trans (h : DropKeeps s t) (k : DropKeeps t u) : DropKeeps s u where
  eng := k.eng.trans h.eng
  tbl a h1 h2 := (k.tbl a h1 h2).trans (h.tbl a h1 h2)
  guar f hf h1 := (k.guar f hf h1).trans (h.guar f hf h1)

/-- A write of a register elsewhere. -/
theorem wr (s : State) {r : RegD} {i j : Nat} (w : Word) (hlo : regAddr r i j < 0x1400000 ∨ 0x1700000 ≤ regAddr r i j)
    (hg : regAddr R.DT_GUAR_EVT 0 0 ≠ regAddr r i j) : DropKeeps s (s.wr r w i j) where
  eng := rfl
  tbl a h1 h2 := wr_tget s r w i j (by omega)
  guar f hf _ := by
    have h := s.rd_wr_ne w (hf.symm ▸ hg : regAddr f.reg 0 0 ≠ regAddr r i j)
    simp only [State.get, h]

theorem put (s : State) {f : Fld} {i j : Nat} (v : Nat)
    (hlo : regAddr f.reg i j < 0x1400000 ∨ 0x1700000 ≤ regAddr f.reg i j)
    (hg : regAddr R.DT_GUAR_EVT 0 0 ≠ regAddr f.reg i j) : DropKeeps s (s.put f v i j) := wr s _ hlo hg

theorem get {f : Fld} {i j : Nat} (h : DropKeeps s t) (h1 : 0x1400000 ≤ regAddr f.reg i j)
    (h2 : regAddr f.reg i j < 0x1700000) : t.get f i j = s.get f i j := by
  unfold State.get State.rd tget
  rw [h.tbl _ h1 h2]

theorem foldl {α : Type} {step : State → α → State} (h : ∀ s x, DropKeeps s (step s x)) (l : List α) (s : State) :
    DropKeeps s (l.foldl step s) := by
  induction l generalizing s with
  | nil => exact refl s
  | cons x l ih => exact (h s x).trans (ih _)

theorem countsKeep (s : State) : CountsKeep (DropKeeps s) where
  windows _ _ h := h.trans (of_regs rfl rfl)
  late t w h := h.trans (wr t w (by decide) (by decide))
  event t h := h.trans (put t 1 (by decide) (by decide))

/-! ### XON, blocks and charges -/

theorem checkXon (s : State) {lc : Nat} (h : lc / 8 < 256) : DropKeeps s (s.checkXon lc) := by
  unfold State.checkXon
  dsimp only
  split
  · have hp : ∀ v, DropKeeps s (s.put F.DT_LOSSLESS_xoff v (lc / 8)) := fun v => by
      refine put s v (.inr ?_) ?_ <;> simp only [regAddr, F.DT_LOSSLESS_xoff, R.DT_LOSSLESS, R.DT_GUAR_EVT] <;> omega
    exact (countsKeep s).count (fun t w ht => ht.trans (wr t w (by decide) (by decide))) (hp _) 1
  · exact refl s

theorem xonAll (s : State) : DropKeeps s s.xonAll :=
  State.xonAll_ind (fun t _ hlc ht => ht.trans (checkXon t hlc)) (refl s)

theorem uncharge (s : State) (c : Charge) (n : Nat) : DropKeeps s (s.uncharge c n) := by
  have hb : ∀ buf, DropKeeps s ({ s with buf := buf } : State).xonAll := fun buf =>
    (of_regs (s := s) (t := { s with buf := buf }) rfl rfl).trans (xonAll _)
  cases c with
  | reseq p => exact hb _
  | shared => exact hb _
  | tether => exact hb _
  | lossless lc => exact hb _
  | free => exact refl s

theorem freeBlk (s : State) (b : Blk) : DropKeeps s (s.freeBlk b) := by
  unfold State.freeBlk
  split
  · exact of_regs rfl rfl
  · split
    · exact refl s
    · split
      · exact of_regs rfl rfl
      · exact of_regs rfl rfl

theorem resolve (s : State) (h : Nat) : DropKeeps s (s.resolve h) := by
  have hf : DropKeeps s (s.freeBody h) := by
    have h1 := (foldl freeBlk (s.body h).blks s).trans (uncharge _ (s.body h).charge (blksSize (s.body h).blks))
    exact h1.trans (of_regs rfl rfl)
  unfold State.resolve
  split
  · exact refl s
  · split
    · exact hf
    · exact of_regs rfl rfl

/-! ### Units lost and sent again (R58, R540) -/

/-- A loss counted: the counter of its cause, and that of the port, whose place is no multiple of 256. -/
theorem pktCount (s : State) {k : Nat} (x : Pkt) (h0 : 0 < k) (hk : k < 32) : DropKeeps s (s.pktCount k x) := by
  have hg : regAddr R.DT_GUAR_EVT 0 0 = 0x2C00100 := by decide
  have hla : regAddr cgLoss.reg (cntPlace cgLoss 0 k).1 (cntPlace cgLoss 0 k).2 = 0x2C00000 + k * 8 + 0 * 0 := rfl
  have hpa : regAddr cgPort.reg (cntPlace cgPort x.inLport k).1 (cntPlace cgPort x.inLport k).2 =
      0x2830000 + x.inLport * 0x100 + k * 8 := rfl
  have hl : ∀ t w, DropKeeps s t → DropKeeps s (t.wr cgLoss.reg w (cntPlace cgLoss 0 k).1 (cntPlace cgLoss 0 k).2) :=
    fun t w ht => ht.trans (wr t w (.inr (by rw [hla]; omega)) (by rw [hla, hg]; omega))
  have hp : ∀ t w, DropKeeps s t →
      DropKeeps s (t.wr cgPort.reg w (cntPlace cgPort x.inLport k).1 (cntPlace cgPort x.inLport k).2) :=
    fun t w ht => ht.trans (wr t w (.inr (by rw [hpa]; omega)) (by rw [hpa, hg]; omega))
  unfold State.pktCount State.lossAt State.loss
  split
  · exact (countsKeep s).countAt hp ((countsKeep s).countAt hl (refl s) 1 _) 1 _
  · exact (countsKeep s).count hl (refl s) 1

theorem raise_breach (s : State) : DropKeeps s (s.raise F.DT_GUAR_EVT_breach) where
  eng := rfl
  tbl a h1 h2 := put_tget s F.DT_GUAR_EVT_breach 1 0 0 (fun h => by rw [h] at h2; revert h2; decide)
  guar f hf h1 := State.get_put_fld (f := F.DT_GUAR_EVT_breach) _ 1 hf (by decide) (.inl h1)

theorem lostCopy (s : State) (x : Pkt) : DropKeeps s (s.lostCopy x) :=
  ((pktCount s x (by decide) (by decide)).trans (raise_breach _)).trans (resolve _ _)

theorem passOver (s : State) (h : Nat) (o : Outstanding) : DropKeeps s (s.passOver h o) :=
  State.ite_ind (P := DropKeeps s) (fun _ => refl s) fun _ => of_regs rfl rfl

theorem loseUnit (s : State) (h : Nat) (o : Outstanding) : DropKeeps s (s.loseUnit h o) := by
  unfold State.loseUnit
  dsimp only
  have h2 := fun sch => (of_regs (s := s) (t := { s with sch := sch }) rfl rfl).trans (passOver _ h o)
  split
  · exact (h2 _).trans (resolve _ _)
  · split
    · exact ((h2 _).trans (pktCount _ o.pkt (by decide) (by decide))).trans (resolve _ _)
    · exact (h2 _).trans (lostCopy _ _)

theorem raise_resend (h : DropKeeps s t) : DropKeeps s (t.raise F.TF_EG_EVT_resend) :=
  h.trans (put t 1 (by decide) (by decide))

theorem giveAgain (s : State) (h : Nat) (b : Bool) : DropKeeps s (s.giveAgain h b) := by
  unfold State.giveAgain
  split
  · exact refl s
  · dsimp only
    exact raise_resend (of_regs rfl rfl)

theorem resendTo (s : State) (h : Nat) (b : Bool) : DropKeeps s (s.resendTo h b) := by
  have hr : DropKeeps s s.readOk.2 := by
    unfold State.readOk
    split
    · exact of_regs rfl rfl
    · exact refl s
  unfold State.resendTo
  split
  · exact refl s
  · dsimp only
    split
    · exact hr.trans (giveAgain _ _ _)
    · exact hr.trans (loseUnit _ _ _)

theorem resendUnit (s : State) (h : Nat) : DropKeeps s (s.resendUnit h) := by
  unfold State.resendUnit
  split
  · exact refl s
  · exact resendTo _ _ _

theorem resendPipe (s : State) (p : Nat) (b : Bool) : DropKeeps s (s.resendPipe p b) := by
  refine foldl (fun t h => ?_) _ s
  exact State.ite_ind (P := DropKeeps t) (fun _ => resendTo t h _) fun _ => resendUnit t h

theorem dropSlot (s : State) (cl : Nat) (eg : Bool) (slot : Nat) : DropKeeps s (s.dropSlot cl eg slot) := by
  cases eg with
  | true => exact trans (t := State.setPhys _ _ _) (of_regs rfl rfl) (resendPipe _ _ _)
  | false => exact of_regs rfl rfl

end DropKeeps

end Sys2Proof.Machine
end

section
/-! PROOFS. Spares called in, and the faults of pipelines and of the inter-die link (R21, R22, R61 to R63, R603 to R605). -/

namespace Sys2Proof.Machine

/-! ### The fields of a spare (R626) -/

section
variable (s : State) {f g : Fld} {cl : Nat} (v : Nat)

/-- Two fields of a spare's register that lie apart. -/
theorem State.get_put_spare (hf : f.reg = R.TF_SPARE_STAT) (hg : g.reg = R.TF_SPARE_STAT) (hfit : f.lo + f.w ≤ 64)
    (h : f.lo + f.w ≤ g.lo ∨ g.lo + g.w ≤ f.lo) : (s.put f v cl).get g cl = s.get g cl :=
  s.get_put_fld v (hg.trans hf.symm) hfit h

theorem State.get_spSlot_put_spState (eg : Bool) : (s.put (spState eg) v cl).get (spSlot eg) cl = s.get (spSlot eg) cl := by
  cases eg <;> exact s.get_put_spare v rfl rfl (by decide) (by decide)

theorem State.get_spFailed_put_spState (eg : Bool) :
    (s.put (spState eg) v cl).get (spFailed eg) cl = s.get (spFailed eg) cl := by
  cases eg <;> exact s.get_put_spare v rfl rfl (by decide) (by decide)

theorem State.get_spState_put_spSlot (eg : Bool) : (s.put (spSlot eg) v cl).get (spState eg) cl = s.get (spState eg) cl := by
  cases eg <;> exact s.get_put_spare v rfl rfl (by decide) (by decide)

theorem State.get_spFailed_put_spSlot (eg : Bool) :
    (s.put (spSlot eg) v cl).get (spFailed eg) cl = s.get (spFailed eg) cl := by
  cases eg <;> exact s.get_put_spare v rfl rfl (by decide) (by decide)

theorem State.get_spSlot_put_spFailed (eg : Bool) :
    (s.put (spFailed eg) v cl).get (spSlot eg) cl = s.get (spSlot eg) cl := by
  cases eg <;> exact s.get_put_spare v rfl rfl (by decide) (by decide)

/-- The spare of the other direction. -/
theorem State.get_spState_not (eg : Bool) : ((s.put (spState eg) v cl).put (spSlot eg) v cl).get (spState (!eg)) cl =
    s.get (spState (!eg)) cl := by
  cases eg <;> exact (State.get_put_spare _ v rfl rfl (by decide) (by decide)).trans
    (s.get_put_spare v rfl rfl (by decide) (by decide))

theorem State.get_spState_self (eg : Bool) (hv : v < 8) : (s.put (spState eg) v cl).get (spState eg) cl = v := by
  cases eg <;> exact (State.get_put_self s _ v cl 0 (by decide)).trans (Nat.mod_eq_of_lt hv)

theorem State.get_spSlot_self (eg : Bool) (hv : v < 4) : (s.put (spSlot eg) v cl).get (spSlot eg) cl = v := by
  cases eg <;> exact (State.get_put_self s _ v cl 0 (by decide)).trans (Nat.mod_eq_of_lt hv)

end

theorem bitOf_setBits_one (x pos : Nat) : bitOf (setBits x pos 1 1) pos = true :=
  decide_eq_true (bits_setBits_self x pos 1 1)

/-- A pipeline marked failed shows so. -/
theorem State.pipeFailed_setPipeFailed (s : State) {cl pos : Nat} (eg : Bool) (hp : pos < 5) :
    (s.setPipeFailed cl eg pos true).pipeFailed cl eg pos = true := by
  have h5 : (spFailed eg).w = 5 := by cases eg <;> rfl
  have hlt : setBits (s.get (spFailed eg) cl) pos 1 1 < 2 ^ (spFailed eg).w :=
    setBits_lt (s.get_lt _ _ _) (by omega)
  have hg : (s.setPipeFailed cl eg pos true).get (spFailed eg) cl = setBits (s.get (spFailed eg) cl) pos 1 1 := by
    unfold State.setPipeFailed
    rw [State.get_put_self _ _ _ _ _ (by cases eg <;> decide)]
    exact Nat.mod_eq_of_lt hlt
  rw [State.pipeFailed, hg]
  exact bitOf_setBits_one _ _

theorem State.pipeFailed_congr {s t : State} {cl : Nat} {eg : Bool} (h : t.get (spFailed eg) cl = s.get (spFailed eg) cl)
    (pos : Nat) : t.pipeFailed cl eg pos = s.pipeFailed cl eg pos := by
  rw [State.pipeFailed, h, State.pipeFailed]

/-! ### The record of a unit fault (R61 to R63) -/

/-- The fault's kind, index and number, before what is left of its cover. -/
def State.faultNamed (s : State) (kind idx : Nat) : State :=
  ((s.put F.DT_GUAR_EVT_unit_kind kind).put F.DT_GUAR_EVT_unit_index idx).addSat F.DT_GUAR_EVT_unit_faults 1

theorem State.unitFault_eq (s : State) (kind idx : Nat) (a b : Bool) : s.unitFault kind idx a b =
    if b then (if a then s.faultNamed kind idx else (s.faultNamed kind idx).raise F.DT_GUAR_EVT_double_fault)
    else (if a then s.faultNamed kind idx else (s.faultNamed kind idx).raise F.DT_GUAR_EVT_double_fault).raise
      F.DT_GUAR_EVT_cover_lost := by
  unfold State.unitFault State.faultNamed
  dsimp only

/-- A field that neither bit of the cover is. -/
theorem State.get_unitFault (s : State) (kind idx : Nat) (a b : Bool) {f : Fld} {i j : Nat}
    (h : regAddr f.reg i j ≠ regAddr R.DT_GUAR_EVT 0 0 ∨ i = 0 ∧ j = 0 ∧ f.reg = R.DT_GUAR_EVT ∧ 4 ≤ f.lo) :
    (s.unitFault kind idx a b).get f i j = (s.faultNamed kind idx).get f i j := by
  have hr : ∀ (t : State) (q : Fld), q.reg = R.DT_GUAR_EVT → q.lo + q.w ≤ 4 → (t.raise q).get f i j = t.get f i j := by
    intro t q hq h4
    rcases h with h | ⟨rfl, rfl, hf, hlo⟩
    · exact State.get_raise_reg _ (by rwa [hq])
    · exact State.get_raise_fld _ (hf.trans hq.symm) (by omega) (.inl (by omega))
  rw [State.unitFault_eq]
  generalize s.faultNamed kind idx = t
  have ha : (if a then t else t.raise F.DT_GUAR_EVT_double_fault).get f i j = t.get f i j :=
    State.ite_ind (P := fun u => u.get f i j = t.get f i j) (fun _ => rfl) fun _ => hr t _ rfl (by decide)
  exact State.ite_ind (P := fun u => u.get f i j = t.get f i j) (fun _ => ha) fun _ =>
    (hr _ F.DT_GUAR_EVT_cover_lost rfl (by decide)).trans ha

/-- A field of another register. -/
theorem State.get_unitFault_reg (s : State) (kind idx : Nat) (a b : Bool) {f : Fld} {i j : Nat}
    (h : regAddr f.reg i j ≠ regAddr R.DT_GUAR_EVT 0 0) : (s.unitFault kind idx a b).get f i j = s.get f i j := by
  rw [State.get_unitFault _ _ _ _ _ (.inl h), State.faultNamed, State.addSat, State.get_put_reg _ _ h,
    State.get_put_reg _ _ h, State.get_put_reg _ _ h]

theorem State.unit_kind_unitFault (s : State) {kind : Nat} (idx : Nat) (a b : Bool) (h : kind < 16) :
    (s.unitFault kind idx a b).get F.DT_GUAR_EVT_unit_kind = kind := by
  rw [State.get_unitFault _ _ _ _ _ (.inr ⟨rfl, rfl, rfl, by decide⟩), State.faultNamed, State.addSat,
    State.get_put_fld (f := F.DT_GUAR_EVT_unit_faults) (g := F.DT_GUAR_EVT_unit_kind) _ _ rfl (by decide) (.inr (by decide)),
    State.get_put_fld (f := F.DT_GUAR_EVT_unit_index) (g := F.DT_GUAR_EVT_unit_kind) _ _ rfl (by decide) (.inr (by decide)),
    State.get_put_self _ _ _ _ _ (by decide)]
  exact Nat.mod_eq_of_lt h

theorem State.unit_index_unitFault (s : State) (kind : Nat) {idx : Nat} (a b : Bool) (h : idx < 65536) :
    (s.unitFault kind idx a b).get F.DT_GUAR_EVT_unit_index = idx := by
  rw [State.get_unitFault _ _ _ _ _ (.inr ⟨rfl, rfl, rfl, by decide⟩), State.faultNamed, State.addSat,
    State.get_put_fld (f := F.DT_GUAR_EVT_unit_faults) (g := F.DT_GUAR_EVT_unit_index) _ _ rfl (by decide) (.inr (by decide)),
    State.get_put_self _ _ _ _ _ (by decide)]
  exact Nat.mod_eq_of_lt h

/-- A fault that leaves no cover says so. -/
theorem State.cover_lost_unitFault (s : State) (kind idx : Nat) (a : Bool) :
    (s.unitFault kind idx a false).get F.DT_GUAR_EVT_cover_lost = 1 := by
  rw [State.unitFault_eq, if_neg Bool.false_ne_true, State.get_raise_self _ _ _ _ (by decide) (by decide)]

/-- One that had cover and leaves cover touches neither bit. -/
theorem State.cover_lost_unitFault_covered (s : State) (kind idx : Nat) :
    (s.unitFault kind idx true true).get F.DT_GUAR_EVT_cover_lost = s.get F.DT_GUAR_EVT_cover_lost := by
  rw [State.unitFault_eq, if_pos rfl, if_pos rfl, State.faultNamed, State.addSat,
    State.get_put_fld (f := F.DT_GUAR_EVT_unit_faults) (g := F.DT_GUAR_EVT_cover_lost) _ _ rfl (by decide) (.inr (by decide)),
    State.get_put_fld (f := F.DT_GUAR_EVT_unit_index) (g := F.DT_GUAR_EVT_cover_lost) _ _ rfl (by decide) (.inr (by decide)),
    State.get_put_fld (f := F.DT_GUAR_EVT_unit_kind) (g := F.DT_GUAR_EVT_cover_lost) _ _ rfl (by decide) (.inr (by decide))]

/-- A fault without cover before it is a double one. -/
theorem State.double_fault_unitFault (s : State) (kind idx : Nat) (b : Bool) :
    (s.unitFault kind idx false b).get F.DT_GUAR_EVT_double_fault = 1 := by
  rw [State.unitFault_eq, if_neg Bool.false_ne_true]
  generalize s.faultNamed kind idx = t
  have h : (t.raise F.DT_GUAR_EVT_double_fault).get F.DT_GUAR_EVT_double_fault = 1 :=
    State.get_raise_self _ _ _ _ (by decide) (by decide)
  refine State.ite_ind (P := fun u => u.get F.DT_GUAR_EVT_double_fault = 1) (fun _ => h) fun _ => ?_
  rw [State.get_raise_fld (f := F.DT_GUAR_EVT_cover_lost) (g := F.DT_GUAR_EVT_double_fault) _ rfl (by decide)
    (.inr (by decide)), h]

theorem State.unitFault_eng (s : State) (kind idx : Nat) (a b : Bool) : (s.unitFault kind idx a b).eng = s.eng := by
  obtain ⟨regs, h⟩ := s.unitFault_keeps kind idx a b
  rw [h]

/-! ### What a fault of a pipeline leaves (R603, R604) -/

/-- A register of the islands past the always-on one reads as before when a command settles. -/
theorem State.get_settle_high (s : State) {f : Fld} {i j : Nat} (h : 0x30000 ≤ f.reg.base) :
    s.settle.get f i j = s.get f i j := by
  have ha : ∀ c < 0x30000, regAddr f.reg i j ≠ c := fun c hc => by unfold regAddr; omega
  exact State.get_settle _ (ha _ (by decide)) (ha _ (by decide)) (ha _ (by decide))

theorem spare_ne_guar {r : RegD} {cl : Nat} (h : r = R.TF_SPARE_STAT) (hcl : cl < 16) :
    regAddr r cl 0 ≠ regAddr R.DT_GUAR_EVT 0 0 := by
  rw [h]
  simp only [regAddr, R.TF_SPARE_STAT, R.DT_GUAR_EVT]
  omega

/-- A slot's loss leaves the fields of the spares alone. -/
theorem DropKeeps.get_spare {s t : State} (h : DropKeeps s t) {f : Fld} {cl : Nat} (hf : f.reg = R.TF_SPARE_STAT)
    (hcl : cl < 16) : t.get f cl = s.get f cl := by
  refine h.get ?_ ?_ <;> rw [hf] <;> simp only [regAddr, R.TF_SPARE_STAT] <;> omega

/-- A pipeline with its fault recorded and its slot's contents lost. -/
def State.pipeLost (s : State) (cl : Nat) (eg : Bool) (pos : Nat) (cover : Bool) : State :=
  ((s.setPipeFailed cl eg pos true).unitFault (if eg then 2 else 1) (5 * cl + pos) cover false).dropSlot cl eg pos

theorem exec_pipeFaultDetect_called {s : State} {cl pos : Nat} {eg : Bool} (hp : pos < 4)
    (h0 : s.get (spState eg) cl = 0) (hen : s.flag F.TF_SPARE_CTL_spares_en = true) :
    exec (.pipeFaultDetect cl eg pos) s =
      okIf (decide (RAISE ≤ s.mode) && decide (cl < 16 ∧ pos < 4) && !s.pipeFailed cl eg pos) s
        ((s.pipeLost cl eg pos (s.get (spFailed eg) cl == 0)).callIn cl eg pos) := by
  show execPipeFaultDetect cl eg pos s = _
  unfold execPipeFaultDetect
  dsimp only
  rw [if_neg (by omega), h0, hen]
  rfl

section
variable {s : State} {cl pos : Nat} {eg : Bool} (cover : Bool)

theorem State.pipeLost_keeps (s : State) (cl : Nat) (eg : Bool) (pos : Nat) (cover : Bool) :
    DropKeeps ((s.setPipeFailed cl eg pos true).unitFault (if eg then 2 else 1) (5 * cl + pos) cover false)
      (s.pipeLost cl eg pos cover) := DropKeeps.dropSlot _ _ _ _

theorem State.pipeFailed_pipeLost (hcl : cl < 16) (hp : pos < 4) :
    (s.pipeLost cl eg pos cover).pipeFailed cl eg pos = true := by
  have h1 := (s.pipeLost_keeps cl eg pos cover).get_spare (spFailed_reg eg) hcl
  rw [State.get_unitFault_reg _ _ _ _ _ (spare_ne_guar (spFailed_reg eg) hcl)] at h1
  rw [State.pipeFailed_congr h1, State.pipeFailed_setPipeFailed _ _ (by omega)]

theorem State.betweenEpochs_pipeLost : (s.pipeLost cl eg pos cover).betweenEpochs = s.betweenEpochs := by
  unfold State.betweenEpochs
  rw [(s.pipeLost_keeps cl eg pos cover).eng, State.unitFault_eng, State.setPipeFailed, State.put_eng]

/-- The input FIFO of a failed ingress pipeline is empty (log 87). -/
theorem State.fifo_pipeLost : pipeFifo ((s.pipeLost cl false pos cover).phys (2 * cl + pos / 2)) (pos % 2 == 1) = [] := by
  have h : ∀ t : State, pipeFifo ((t.dropIngress (2 * cl + pos / 2) (pos % 2 == 1)).phys (2 * cl + pos / 2))
      (pos % 2 == 1) = [] := by
    intro t
    unfold State.dropIngress State.phys State.setPhys
    rw [tget_tput_self]
    cases pos % 2 == 1 <;> rfl
  exact h _

/-- What a call-in leaves: the spare's state and slot, and every other register. -/
theorem State.callIn_fields (t : State) (hp : pos < 4) :
    (t.callIn cl eg pos).get (spState eg) cl = (if t.betweenEpochs then 2 else 1) ∧
      (t.callIn cl eg pos).get (spSlot eg) cl = pos ∧
      (t.callIn cl eg pos).pipeFailed cl eg pos = t.pipeFailed cl eg pos ∧ (t.callIn cl eg pos).port = t.port := by
  unfold State.callIn
  refine ⟨?_, ?_, ?_, ?_⟩
  · rw [State.get_spState_put_spSlot]
    exact State.get_spState_self _ _ _ (by split <;> decide)
  · exact State.get_spSlot_self _ _ _ hp
  · refine State.pipeFailed_congr ?_ pos
    rw [State.get_spFailed_put_spSlot, State.get_spFailed_put_spState]
  · rw [State.put_port, State.put_port]

/-- A call-in writes the spare's register alone. -/
theorem State.guar_callIn (t : State) (hcl : cl < 16) {f : Fld} (hf : f.reg = R.DT_GUAR_EVT) :
    (t.callIn cl eg pos).get f = t.get f := by
  have hn : ∀ g : Fld, g.reg = R.TF_SPARE_STAT → regAddr f.reg 0 0 ≠ regAddr g.reg cl 0 := fun g hg => by
    rw [hf]
    exact (spare_ne_guar hg hcl).symm
  unfold State.callIn
  rw [State.get_put_reg _ _ (hn _ (spSlot_reg eg)), State.get_put_reg _ _ (hn _ (spState_reg eg))]

/-- What a call-in for a failed pipeline leaves once it has settled. -/
theorem callIn_settle (hcl : cl < 16) (hp : pos < 4) :
    ((s.pipeLost cl eg pos cover).callIn cl eg pos).settle.pipeFailed cl eg pos = true ∧
      ((s.pipeLost cl eg pos cover).callIn cl eg pos).settle.get (spState eg) cl = (if s.betweenEpochs then 2 else 1) ∧
      ((s.pipeLost cl eg pos cover).callIn cl eg pos).settle.get (spSlot eg) cl = pos ∧
      ((s.pipeLost cl eg pos cover).callIn cl eg pos).settle.get F.DT_GUAR_EVT_unit_kind = (if eg then 2 else 1) ∧
      ((s.pipeLost cl eg pos cover).callIn cl eg pos).settle.get F.DT_GUAR_EVT_unit_index = 5 * cl + pos ∧
      ((s.pipeLost cl eg pos cover).callIn cl eg pos).settle.flag F.DT_GUAR_EVT_cover_lost = true ∧
      (eg = false → pipeFifo (((s.pipeLost cl eg pos cover).callIn cl eg pos).settle.phys (2 * cl + pos / 2))
        (pos % 2 == 1) = []) := by
  obtain ⟨hst, hslot, hfail, hport⟩ := (s.pipeLost cl eg pos cover).callIn_fields (cl := cl) (eg := eg) hp
  have hguar : ∀ f : Fld, f.reg = R.DT_GUAR_EVT → 1 ≤ f.lo →
      ((s.pipeLost cl eg pos cover).callIn cl eg pos).settle.get f =
        ((s.setPipeFailed cl eg pos true).unitFault (if eg then 2 else 1) (5 * cl + pos) cover false).get f :=
    fun f hf h1 => (State.get_settle_high _ (by rw [hf]; decide)).trans ((State.guar_callIn _ hcl hf).trans
      ((s.pipeLost_keeps cl eg pos cover).guar f hf h1))
  refine ⟨?_, ?_, ?_, ?_, ?_, ?_, ?_⟩
  · rw [State.pipeFailed_congr (State.get_settle_high _ (by rw [spFailed_reg]; decide)), hfail,
      State.pipeFailed_pipeLost _ hcl hp]
  · rw [State.get_settle_high _ (by rw [spState_reg]; decide), hst, State.betweenEpochs_pipeLost]
  · rw [State.get_settle_high _ (by rw [spSlot_reg]; decide), hslot]
  · rw [hguar _ rfl (by decide), State.unit_kind_unitFault _ _ _ _ (by split <;> decide)]
  · rw [hguar _ rfl (by decide), State.unit_index_unitFault _ _ _ _ (by omega)]
  · rw [State.flag, hguar _ rfl (by decide), State.cover_lost_unitFault]
    rfl
  · rintro rfl
    unfold State.phys
    rw [State.settle_port, hport]
    exact State.fifo_pipeLost cover

end

/-! ### A spare that fails (R604) -/

/-- A spare shown as failed, before its unit fault. -/
def State.spareMarked (s : State) (cl : Nat) (eg : Bool) : State :=
  ((s.setPipeFailed cl eg 4 true).put (spState eg) 6 cl).raise F.TF_TBL_EVT_spare_fail

theorem State.spareFails_eq (s : State) (cl : Nat) (eg : Bool) :
    s.spareFails cl eg = (s.spareMarked cl eg).unitFault (if eg then 2 else 1) (5 * cl + 4) false false := rfl

/-- What a failed spare shows, with its register's slot as before. -/
theorem State.spareFails_fields (s : State) {cl : Nat} (eg : Bool) (hcl : cl < 16) :
    (s.spareFails cl eg).get (spState eg) cl = 6 ∧ (s.spareFails cl eg).pipeFailed cl eg 4 = true ∧
      (s.spareFails cl eg).get F.TF_TBL_EVT_spare_fail = 1 ∧ (s.spareFails cl eg).get F.DT_GUAR_EVT_double_fault = 1 ∧
      (s.spareFails cl eg).get (spSlot eg) cl = s.get (spSlot eg) cl := by
  have hn : ∀ f : Fld, f.reg = R.TF_SPARE_STAT → (s.spareFails cl eg).get f cl =
      ((s.setPipeFailed cl eg 4 true).put (spState eg) 6 cl).get f cl := by
    intro f hf
    rw [State.spareFails_eq, State.get_unitFault_reg _ _ _ _ _ (spare_ne_guar hf hcl), State.spareMarked,
      State.get_raise_reg]
    rw [hf]
    simp only [regAddr, R.TF_SPARE_STAT, F.TF_TBL_EVT_spare_fail, R.TF_TBL_EVT]
    omega
  refine ⟨?_, ?_, ?_, ?_, ?_⟩
  · rw [hn _ (spState_reg eg)]
    exact State.get_spState_self _ _ _ (by decide)
  · rw [State.pipeFailed_congr (hn _ (spFailed_reg eg)), State.pipeFailed_congr (State.get_spFailed_put_spState _ _ _),
      State.pipeFailed_setPipeFailed _ _ (by decide)]
  · rw [State.spareFails_eq, State.get_unitFault_reg _ _ _ _ _ (by decide), State.spareMarked,
      State.get_raise_self _ _ _ _ (by decide) (by decide)]
  · rw [State.spareFails_eq, State.double_fault_unitFault]
  · rw [hn _ (spSlot_reg eg), State.get_spSlot_put_spState, State.setPipeFailed, State.get_spSlot_put_spFailed]

theorem exec_pipeFaultDetect_spare (cl : Nat) (eg : Bool) (s : State) : exec (.pipeFaultDetect cl eg 4) s =
    okIf (decide (RAISE ≤ s.mode) && decide (cl < 16) && (s.get (spState eg) cl == 5 || s.get (spState eg) cl == 7)) s
      (if s.get (spState eg) cl = 5 then (s.spareFails cl eg).dropSlot cl eg (s.get (spSlot eg) cl)
        else s.spareFails cl eg) := rfl

theorem pipeFaultDetect_spare {s : State} {cl : Nat} {eg : Bool} (hl : s.live = true) (hcl : cl < 16)
    (h : s.get (spState eg) cl = 5 ∨ s.get (spState eg) cl = 7) :
    Answers (.pipeFaultDetect cl eg 4) s (fun t => t.get (spState eg) cl = 6 ∧ t.pipeFailed cl eg 4 = true ∧
      t.flag F.TF_TBL_EVT_spare_fail = true ∧ t.flag F.DT_GUAR_EVT_double_fault = true) := by
  have hm : RAISE ≤ s.mode := le_trans (by decide) (of_decide_eq_true hl)
  have hk : DropKeeps (s.spareFails cl eg) (if s.get (spState eg) cl = 5 then
      (s.spareFails cl eg).dropSlot cl eg (s.get (spSlot eg) cl) else s.spareFails cl eg) :=
    State.ite_ind (P := DropKeeps (s.spareFails cl eg)) (fun _ => DropKeeps.dropSlot _ _ _ _) fun _ => DropKeeps.refl _
  obtain ⟨hst, hfail, hevt, hdbl, -⟩ := s.spareFails_fields eg hcl
  refine answers_okIf (exec_pipeFaultDetect_spare cl eg s) (by simpa [hm, hcl] using h) ⟨?_, ?_, ?_, ?_⟩
  · rw [State.get_settle_high _ (by rw [spState_reg]; decide), hk.get_spare (spState_reg eg) hcl, hst]
  · rw [State.pipeFailed_congr (State.get_settle_high _ (by rw [spFailed_reg]; decide)),
      State.pipeFailed_congr (hk.get_spare (spFailed_reg eg) hcl), hfail]
  · rw [State.flag, State.get_settle_high _ (by decide), hk.get (by decide) (by decide), hevt]
    rfl
  · rw [State.flag, State.get_settle_high _ (by decide), hk.guar _ rfl (by decide), hdbl]
    rfl

/-! ### The steps of a call-in (R604) -/

/-- A step that moves the spare from one state to the next. -/
theorem spare_step {c : Instr} {s : State} {cl v w : Nat} {eg : Bool}
    (he : exec c s = okIf (decide (cl < 16) && s.get (spState eg) cl == v) s (s.put (spState eg) w cl)) (hw : w < 8)
    (hcl : cl < 16) (h : s.get (spState eg) cl = v) :
    Answers c s (fun t => t.get (spState eg) cl = w ∧ OnlyRegs [regAddr R.TF_SPARE_STAT cl 0] s t) := by
  refine answers_okIf he (by simp [hcl, h]) ⟨?_, ?_⟩
  · rw [State.get_settle_high _ (by rw [spState_reg]; decide)]
    exact State.get_spState_self _ _ _ hw
  · exact ((OnlyRegs.refl _ s).put _ (by rw [spState_reg]; exact List.mem_singleton_self _)).settle

/-- Frames that wait pass on by the port's own state. -/
theorem State.passFrames_keeps (s : State) (p : Nat) : (s.passFrames p).regs = s.regs ∧ (s.passFrames p).buf = s.buf := by
  have h1 : ∀ t : State, (t.passOne p).regs = t.regs ∧ (t.passOne p).buf = t.buf := by
    intro t
    unfold State.passOne
    dsimp only
    split
    · exact ⟨rfl, rfl⟩
    · split
      · exact ⟨rfl, rfl⟩
      · exact ⟨rfl, rfl⟩
  have h0 : (s.stampHigh p).regs = s.regs ∧ (s.stampHigh p).buf = s.buf :=
    State.ite_ind (P := fun t => t.regs = s.regs ∧ t.buf = s.buf) (fun _ => ⟨rfl, rfl⟩) fun _ => ⟨rfl, rfl⟩
  exact ⟨(foldl_fixes (·.regs) (fun t _ _ => (h1 t).1) _).trans h0.1,
    (foldl_fixes (·.buf) (fun t _ _ => (h1 t).2) _).trans h0.2⟩

/-- A spare that has passed its check, before its port's frames pass on. -/
def State.spareIn (s : State) (cl : Nat) (eg : Bool) : State := (s.put (spState eg) 5 cl).raise F.TF_TBL_EVT_spare_in

theorem exec_spareCheckDone (cl : Nat) (eg pass : Bool) (s : State) : exec (.spareCheckDone cl eg pass) s =
    okIf (decide (cl < 16) && s.get (spState eg) cl == 4) s
      (if pass then (if eg then s.spareIn cl eg else
        (s.spareIn cl eg).passFrames (2 * cl + s.get (spSlot eg) cl / 2)) else s.spareFails cl eg) := rfl

theorem spareCheckDone_passed {s : State} {cl : Nat} {eg : Bool} (hcl : cl < 16) (h : s.get (spState eg) cl = 4) :
    Answers (.spareCheckDone cl eg true) s (fun t => t.get (spState eg) cl = 5 ∧ t.flag F.TF_TBL_EVT_spare_in = true ∧
      t.get (spSlot eg) cl = s.get (spSlot eg) cl ∧ t.buf = s.buf) := by
  have hk : (if eg then s.spareIn cl eg else
      (s.spareIn cl eg).passFrames (2 * cl + s.get (spSlot eg) cl / 2)).regs = (s.spareIn cl eg).regs ∧
      (if eg then s.spareIn cl eg else
      (s.spareIn cl eg).passFrames (2 * cl + s.get (spSlot eg) cl / 2)).buf = (s.spareIn cl eg).buf :=
    State.ite_ind (P := fun t => t.regs = (s.spareIn cl eg).regs ∧ t.buf = (s.spareIn cl eg).buf)
      (fun _ => ⟨rfl, rfl⟩) fun _ => State.passFrames_keeps _ _
  have hn : ∀ f : Fld, f.reg = R.TF_SPARE_STAT → (s.spareIn cl eg).get f cl = (s.put (spState eg) 5 cl).get f cl := by
    intro f hf
    refine State.get_raise_reg _ ?_
    rw [hf]
    simp only [regAddr, R.TF_SPARE_STAT, F.TF_TBL_EVT_spare_in, R.TF_TBL_EVT]
    omega
  refine answers_okIf ((exec_spareCheckDone cl eg true s).trans (by rw [if_pos rfl])) (by simp [hcl, h]) ⟨?_, ?_, ?_, ?_⟩
  · rw [State.get_settle_high _ (by rw [spState_reg]; decide), State.get_congr hk.1, hn _ (spState_reg eg)]
    exact State.get_spState_self _ _ _ (by decide)
  · rw [State.flag, State.get_settle_high _ (by decide), State.get_congr hk.1, State.spareIn,
      State.get_raise_self _ _ _ _ (by decide) (by decide)]
    rfl
  · rw [State.get_settle_high _ (by rw [spSlot_reg]; decide), State.get_congr hk.1, hn _ (spSlot_reg eg),
      State.get_spSlot_put_spState]
  · rw [State.settle_buf, hk.2, State.spareIn, State.raise, State.put_buf, State.put_buf]

theorem spareCheckDone_failed {s : State} {cl : Nat} {eg : Bool} (hcl : cl < 16) (h : s.get (spState eg) cl = 4) :
    Answers (.spareCheckDone cl eg false) s (fun t => t.get (spState eg) cl = 6 ∧
      t.flag F.TF_TBL_EVT_spare_fail = true ∧ t.get (spSlot eg) cl = s.get (spSlot eg) cl ∧ t.buf = s.buf) := by
  obtain ⟨hst, -, hevt, -, hslot⟩ := s.spareFails_fields eg hcl
  refine answers_okIf ((exec_spareCheckDone cl eg false s).trans (by rw [if_neg Bool.false_ne_true])) (by simp [hcl, h])
    ⟨?_, ?_, ?_, ?_⟩
  · rw [State.get_settle_high _ (by rw [spState_reg]; decide), hst]
  · rw [State.flag, State.get_settle_high _ (by decide), hevt]
    rfl
  · rw [State.get_settle_high _ (by rw [spSlot_reg]; decide), hslot]
  · obtain ⟨regs, hu⟩ := (s.spareMarked cl eg).unitFault_keeps (if eg then 2 else 1) (5 * cl + 4) false false
    rw [State.settle_buf, State.spareFails_eq, hu, State.spareMarked, State.setPipeFailed, State.raise, State.put_buf,
      State.put_buf, State.put_buf]

theorem spareReleaseDone_cold {s : State} {cl : Nat} {eg : Bool} (hcl : cl < 16) (h : s.get (spState eg) cl = 7) :
    Answers (.spareReleaseDone cl eg) s (fun t => t.get (spState eg) cl = 0 ∧ t.get (spSlot eg) cl = 0 ∧
      t.get (spState (!eg)) cl = s.get (spState (!eg)) cl ∧ OnlyRegs [regAddr R.TF_SPARE_STAT cl 0] s t) := by
  have he : exec (.spareReleaseDone cl eg) s = okIf (decide (cl < 16) && s.get (spState eg) cl == 7) s
      ((s.put (spState eg) 0 cl).put (spSlot eg) 0 cl) := rfl
  refine answers_okIf he (by simp [hcl, h]) ⟨?_, ?_, ?_, ?_⟩
  · rw [State.get_settle_high _ (by rw [spState_reg]; decide), State.get_spState_put_spSlot]
    exact State.get_spState_self _ _ _ (by decide)
  · rw [State.get_settle_high _ (by rw [spSlot_reg]; decide)]
    exact State.get_spSlot_self _ _ _ (by decide)
  · rw [State.get_settle_high _ (by rw [spState_reg]; decide)]
    exact State.get_spState_not s 0 eg
  · exact (((OnlyRegs.refl _ s).put _ (by rw [spState_reg]; exact List.mem_singleton_self _)).put _
      (by rw [spSlot_reg]; exact List.mem_singleton_self _)).settle

/-! ### `spares_en` and the inter-die link (R21, R22, R605) -/

theorem sparesEnWrite_shows {s : State} (en : Bool) (ha : s.awake = true) :
    Answers (.sparesEnWrite en) s (fun t => t.flag F.TF_SPARE_CTL_spares_en = en ∧
      (en = false → t.flag F.DT_GUAR_EVT_cover_lost = true) ∧
      OnlyRegs [regAddr R.TF_SPARE_CTL 0 0, regAddr R.DT_GUAR_EVT 0 0] s t) := by
  have ho := (OnlyRegs.refl [regAddr R.TF_SPARE_CTL 0 0, regAddr R.DT_GUAR_EVT 0 0] s).put
    (f := F.TF_SPARE_CTL_spares_en) (i := 0) (j := 0) (b2n en) List.mem_cons_self
  have hp : (s.put F.TF_SPARE_CTL_spares_en (b2n en)).get F.TF_SPARE_CTL_spares_en = b2n en := by
    rw [State.get_put_self _ _ _ _ _ (by decide)]
    cases en <;> rfl
  refine answers_okIf (t := s.sparesEn en) rfl ha ?_
  cases en with
  | true =>
    refine ⟨?_, nofun, ho.settle⟩
    rw [State.flag, State.get_settle_high _ (by decide)]
    exact beq_iff_eq.2 hp
  | false =>
    refine ⟨?_, fun _ => ?_, ?_⟩
    · rw [State.flag, State.get_settle_high _ (by decide), State.sparesEn, if_neg Bool.false_ne_true,
        State.get_raise_reg _ (by decide), hp]
      rfl
    · rw [State.flag, State.get_settle_high _ (by decide), State.sparesEn, if_neg Bool.false_ne_true,
        State.get_raise_self _ _ _ _ (by decide) (by decide)]
      rfl
    · exact (ho.put (f := F.DT_GUAR_EVT_cover_lost) 1 (List.mem_cons_of_mem _ List.mem_cons_self)).settle

/-- A failed lane of a group, before its unit fault. -/
def State.laneFailed (s : State) (dir group lane : Nat) : State :=
  { s with idl := { s.idl with failed := tset s.idl.failed (36 * dir + group) (s.idlFailed dir group ++ [lane]) } }

/-- Whether the group still has cover: a spare lane, or no lane left to lose. -/
def State.laneCover (s : State) (dir group : Nat) : Bool :=
  decide ((s.idlFailed dir group).length + 1 ≤ 2 ∨ 7 < (s.idlFailed dir group).length + 1)

theorem exec_idlLaneFault (dir group lane : Nat) (s : State) : exec (.idlLaneFault dir group lane) s =
    okIf (decide (TRAIN ≤ s.mode) && decide (dir < 2 ∧ group < 36 ∧ lane < 18) && !(s.idlFailed dir group).contains lane)
      s ((s.laneFailed dir group lane).unitFault 0xB (648 * dir + 18 * group + lane) true (s.laneCover dir group)) := rfl

/-- The record of a unit fault is one register. -/
theorem regsBut_unitFault (s : State) (kind idx : Nat) (a b : Bool) :
    RegsBut [regAddr R.DT_GUAR_EVT 0 0] s (s.unitFault kind idx a b) := by
  have hp : ∀ (t : State) (f : Fld) v, f.reg = R.DT_GUAR_EVT → RegsBut [regAddr R.DT_GUAR_EVT 0 0] s t →
      RegsBut [regAddr R.DT_GUAR_EVT 0 0] s (t.put f v) := fun t f v hf ht =>
    regsBut_put ht (by rw [hf]; exact List.mem_singleton_self _)
  have hn : RegsBut [regAddr R.DT_GUAR_EVT 0 0] s (s.faultNamed kind idx) :=
    hp _ _ _ rfl (hp _ _ _ rfl (hp _ _ _ rfl (regsBut_refl _ s)))
  rw [State.unitFault_eq]
  generalize s.faultNamed kind idx = t at hn ⊢
  have h2 : RegsBut [regAddr R.DT_GUAR_EVT 0 0] s (if a then t else t.raise F.DT_GUAR_EVT_double_fault) :=
    State.ite_ind (P := RegsBut _ s) (fun _ => hn) fun _ => hp _ _ _ rfl hn
  exact State.ite_ind (P := RegsBut _ s) (fun _ => h2) fun _ => hp _ _ _ rfl h2

theorem idlLaneFault_recorded {s : State} {dir group lane : Nat} (hl : s.live = true) (hd : dir < 2) (hg : group < 36)
    (hlane : lane < 18) (hn : lane ∉ s.idlFailed dir group) :
    Answers (.idlLaneFault dir group lane) s (fun t =>
      t.idlFailed dir group = s.idlFailed dir group ++ [lane] ∧ t.get F.DT_GUAR_EVT_unit_kind = 0xB ∧
      t.get F.DT_GUAR_EVT_unit_index = 648 * dir + 18 * group + lane ∧
      ((s.idlFailed dir group).length = 2 → t.flag F.DT_GUAR_EVT_cover_lost = true) ∧
      ((s.idlFailed dir group).length < 2 →
        t.flag F.DT_GUAR_EVT_cover_lost = s.flag F.DT_GUAR_EVT_cover_lost) ∧
      RegsBut [regAddr R.DT_GUAR_EVT 0 0] s t) := by
  have hm : TRAIN ≤ s.mode := le_trans (by decide) (of_decide_eq_true hl)
  refine answers_okIf (exec_idlLaneFault dir group lane s) (by simp [hm, hd, hg, hlane, hn]) ⟨?_, ?_, ?_, ?_, ?_, ?_⟩
  · obtain ⟨regs, hu⟩ := (s.laneFailed dir group lane).unitFault_keeps 0xB (648 * dir + 18 * group + lane) true
      (s.laneCover dir group)
    rw [State.idlFailed, State.settle_idl, hu]
    exact tget_tset_self _ _ _ _
  · rw [State.get_settle_high _ (by decide), State.unit_kind_unitFault _ _ _ _ (by decide)]
  · rw [State.get_settle_high _ (by decide), State.unit_index_unitFault _ _ _ _ (by omega)]
  · intro h2
    have hc : s.laneCover dir group = false := by rw [State.laneCover, h2]; rfl
    rw [State.flag, State.get_settle_high _ (by decide), hc, State.cover_lost_unitFault]
    rfl
  · intro h2
    have hc : s.laneCover dir group = true := decide_eq_true (.inl (by omega))
    rw [State.flag, State.get_settle_high _ (by decide), hc, State.cover_lost_unitFault_covered]
    rfl
  · exact regsBut_settle_of (regsBut_trans (u := State.unitFault _ _ _ _ _) (fun _ _ _ _ _ => rfl)
      (regsBut_unitFault (s.laneFailed dir group lane) _ _ _ _))

/-- Settles O57: the faults by `callIn_settle` and `pipeFaultDetect_spare`, the steps by `spare_step` and the checks'
outcomes, a lane by `idlLaneFault_recorded`. -/
theorem sparesAreCalledInAndLaneFaultsRecorded : Obligations.SparesAreCalledInAndLaneFaultsRecorded := by
  refine ⟨?_, ?_, ?_, ?_, ?_, ?_, ?_, ?_, ?_⟩
  · intro cl pos eg s hl hcl hp hf h0 hen
    have hm : RAISE ≤ s.mode := le_trans (by decide) (of_decide_eq_true hl)
    exact answers_okIf (exec_pipeFaultDetect_called hp h0 hen) (by simp [hm, hcl, hp, hf]) (callIn_settle _ hcl hp)
  · intro cl eg s hl hcl h
    exact pipeFaultDetect_spare hl hcl h
  · intro cl eg s hcl h
    exact spare_step rfl (by decide) hcl h
  · intro cl eg s hcl h
    exact spare_step rfl (by decide) hcl h
  · intro cl eg pass s hcl h
    cases pass with
    | true => exact spareCheckDone_passed hcl h
    | false => exact spareCheckDone_failed hcl h
  · intro cl eg s hcl h
    exact spareReleaseDone_cold hcl h
  · intro en s ha
    exact sparesEnWrite_shows en ha
  · intro dir group lane s hl hd hg hlane hn
    exact idlLaneFault_recorded hl hd hg hlane hn
  · intro dir group s
    exact answers_ok rfl (OnlyRegs.refl _ s).settle

end Sys2Proof.Machine
end

section
/-! PROOFS. Ranges of registers that an operation leaves alone, and what a count leaves in its own register (R60, R776). -/

namespace Sys2Proof.Machine

/-- Two states hold the same words at the register addresses from `lo` up to below `hi`. -/
def RegsIn (lo hi : Nat) (s t : State) : Prop := ∀ a, lo ≤ a → a < hi → tget? t.regs a = tget? s.regs a

namespace RegsIn

variable {lo hi : Nat} {s t u : State}

theorem refl (s : State) : RegsIn lo hi s s := fun _ _ _ => rfl

theorem trans (h : RegsIn lo hi s t) (k : RegsIn lo hi t u) : RegsIn lo hi s u :=
  fun a h1 h2 => (k a h1 h2).trans (h a h1 h2)

theorem of_regs (h : t.regs = s.regs) : RegsIn lo hi s t := fun _ _ _ => by rw [h]

theorem of_kvSame (h : KvSame s t) (hhi : hi ≤ kvEnd) : RegsIn lo hi s t :=
  fun a _ h2 => h a (lt_of_lt_of_le h2 hhi)

theorem mono {lo' hi' : Nat} (h : RegsIn lo hi s t) (h1 : lo ≤ lo') (h2 : hi' ≤ hi) : RegsIn lo' hi' s t :=
  fun a ha hb => h a (le_trans h1 ha) (lt_of_lt_of_le hb h2)

/-- A write of a register outside the range. -/
theorem wr (s : State) {r : RegD} {i j : Nat} (w : Word) (h : regAddr r i j < lo ∨ hi ≤ regAddr r i j) :
    RegsIn lo hi s (s.wr r w i j) := fun _ h1 h2 => wr_tget s r w i j (by omega)

theorem put (s : State) {f : Fld} {i j : Nat} (v : Nat) (h : regAddr f.reg i j < lo ∨ hi ≤ regAddr f.reg i j) :
    RegsIn lo hi s (s.put f v i j) := wr s _ h

/-- A write of a register whose array begins above the range. -/
theorem wr_above (s : State) {r : RegD} (w : Word) (i j : Nat) (h : hi ≤ r.base) : RegsIn lo hi s (s.wr r w i j) :=
  wr s w (.inr (by unfold regAddr; omega))

theorem put_above (s : State) {f : Fld} (v i j : Nat) (h : hi ≤ f.reg.base) : RegsIn lo hi s (s.put f v i j) :=
  wr_above s _ i j h

theorem foldl {α : Type} {step : State → α → State} (h : ∀ s x, RegsIn lo hi s (step s x)) (l : List α) (s : State) :
    RegsIn lo hi s (l.foldl step s) := by
  induction l generalizing s with
  | nil => exact refl s
  | cons x l ih => exact (h s x).trans (ih _)

theorem rd (h : RegsIn lo hi s t) {r : RegD} {i j : Nat} (h1 : lo ≤ regAddr r i j) (h2 : regAddr r i j < hi) :
    t.rd r i j = s.rd r i j := by
  unfold State.rd tget
  rw [h _ h1 h2]

theorem get (h : RegsIn lo hi s t) {f : Fld} {i j : Nat} (h1 : lo ≤ regAddr f.reg i j) (h2 : regAddr f.reg i j < hi) :
    t.get f i j = s.get f i j := by
  unfold State.get
  rw [h.rd h1 h2]

/-- A count leaves a range apart from the telemetry's registers alone. -/
theorem countsKeep (s : State) (h : hi ≤ 0x20000 ∨ 0x20200 ≤ lo) : CountsKeep (RegsIn lo hi s) where
  windows _ _ h := h
  late t w ht := ht.trans (wr t w (by rw [show regAddr R.KV_TLM_CNT 2 0 = 0x20110 from rfl]; omega))
  event t ht := ht.trans (put t 1 (by rw [show regAddr F.KV_TLM_EVT_late_attr.reg 0 0 = 0x20010 from rfl]; omega))

/-- What follows every command leaves a range apart from `KV_MODE` and the event registers alone. -/
theorem settle (s : State) (h : 0x18 ≤ lo ∧ hi ≤ 0x20000 ∨ 0x20200 ≤ lo) : RegsIn lo hi s s.settle := by
  have h0 : regAddr R.KV_MODE 0 0 = 0x10 := rfl
  have h1 : regAddr R.KV_EVT 0 0 = 0x20020 := rfl
  have h2 : regAddr R.KV_EVT_ARM 0 0 = 0x20038 := rfl
  intro a ha hb
  exact settle_tget s (by omega) (by omega) (by omega)

end RegsIn

/-! ### A count and its own register -/

/-- A counter outside the telemetry's registers holds one count more, whatever window the count falls in. -/
theorem State.rd_countAt_self (s : State) (g : CntGroup) (i k n t : Nat) (hg : 0x20200 ≤ g.reg.base) :
    (s.countAt g i k n t).rd g.reg (cntPlace g i k).1 (cntPlace g i k).2 =
      cntAdd (s.rd g.reg (cntPlace g i k).1 (cntPlace g i k).2) n := by
  have h := (RegsIn.countsKeep (lo := 0x20200) (hi := regAddr g.reg (cntPlace g i k).1 (cntPlace g i k).2 + 1)
    (s.wr g.reg (cntAdd (s.rd g.reg (cntPlace g i k).1 (cntPlace g i k).2) n) (cntPlace g i k).1 (cntPlace g i k).2)
    (.inr le_rfl)).windowCount (RegsIn.refl _) g.grp (i * g.per + k) n t
  exact (h.rd (by unfold regAddr; omega) (Nat.lt_succ_self _)).trans (State.rd_wr_self _ _ _ _ _)

/-- A register outside the telemetry's that is not the counter's reads as before. -/
theorem State.rd_countAt_ne (s : State) (g : CntGroup) (i k n t : Nat) {r : RegD} {a b : Nat}
    (hr : regAddr r a b < 0x20000 ∨ 0x20200 ≤ regAddr r a b)
    (hne : regAddr r a b ≠ regAddr g.reg (cntPlace g i k).1 (cntPlace g i k).2) :
    (s.countAt g i k n t).rd r a b = s.rd r a b :=
  ((RegsIn.countsKeep (lo := regAddr r a b) (hi := regAddr r a b + 1) s (by omega)).countAt
    (fun u w hu => hu.trans (RegsIn.wr u w (by omega))) (RegsIn.refl s) n t).rd le_rfl (Nat.lt_succ_self _)

theorem State.get_countAt_ne (s : State) (g : CntGroup) (i k n t : Nat) {f : Fld} {a b : Nat}
    (hr : regAddr f.reg a b < 0x20000 ∨ 0x20200 ≤ regAddr f.reg a b)
    (hne : regAddr f.reg a b ≠ regAddr g.reg (cntPlace g i k).1 (cntPlace g i k).2) :
    (s.countAt g i k n t).get f a b = s.get f a b := by
  unfold State.get
  rw [s.rd_countAt_ne g i k n t hr hne]

end Sys2Proof.Machine
end

section
/-! PROOFS. Block reset: what stopping, starting and resuming a block leave of its own two registers (R69, R690 to R695). -/

namespace Sys2Proof.Machine

/-! ### The registers of the blocks -/

theorem regAddr_blkStat (i : Nat) : regAddr R.KV_BLK_STAT i 0 = 0x3008 + i * 0x10 := rfl

theorem regAddr_blkCtl (i : Nat) : regAddr R.KV_BLK_CTL i 0 = 0x3000 + i * 0x10 := rfl

theorem blkStat_ne_blkCtl (i j : Nat) : regAddr R.KV_BLK_STAT i 0 ≠ regAddr R.KV_BLK_CTL j 0 := by
  rw [regAddr_blkStat, regAddr_blkCtl]
  omega

theorem State.get_ctl_put_stat (s : State) {f g : Fld} (v i : Nat) (hf : f.reg = R.KV_BLK_STAT) (hg : g.reg = R.KV_BLK_CTL) :
    (s.put f v i).get g i = s.get g i := s.get_put_reg v (by rw [hf, hg]; exact (blkStat_ne_blkCtl i i).symm)

theorem State.get_stat_put_ctl (s : State) {f g : Fld} (v i : Nat) (hf : f.reg = R.KV_BLK_CTL) (hg : g.reg = R.KV_BLK_STAT) :
    (s.put f v i).get g i = s.get g i := s.get_put_reg v (by rw [hf, hg]; exact blkStat_ne_blkCtl i i)

/-- A field of a register of block i. -/
structure BlkFld (f : Fld) (i : Nat) : Prop where
  reg : f.reg = R.KV_BLK_STAT ∨ f.reg = R.KV_BLK_CTL
  idx : i < 68

theorem BlkFld.stat {f : Fld} {i : Nat} (hi : i < 68) (h : f.reg = R.KV_BLK_STAT := by rfl) : BlkFld f i := ⟨.inl h, hi⟩

theorem BlkFld.ctl {f : Fld} {i : Nat} (hi : i < 68) (h : f.reg = R.KV_BLK_CTL := by rfl) : BlkFld f i := ⟨.inr h, hi⟩

theorem BlkFld.addr {f : Fld} {i : Nat} (h : BlkFld f i) : 0x3000 ≤ regAddr f.reg i 0 ∧ regAddr f.reg i 0 < 0x3440 := by
  obtain ⟨h | h, hi⟩ := h <;> rw [h]
  · rw [regAddr_blkStat]; omega
  · rw [regAddr_blkCtl]; omega

/-- Two states hold the same words in the registers of the blocks. -/
abbrev BlkSame (s t : State) : Prop := RegsIn 0x3000 0x3440 s t

theorem BlkFld.get {f : Fld} {i : Nat} (h : BlkFld f i) {s t : State} (hs : BlkSame s t) : t.get f i = s.get f i :=
  RegsIn.get hs h.addr.1 h.addr.2

theorem BlkFld.settle {f : Fld} {i : Nat} (h : BlkFld f i) (s : State) : s.settle.get f i = s.get f i :=
  h.get (RegsIn.settle s (by omega))

theorem BlkFld.ne {f : Fld} {i : Nat} (h : BlkFld f i) {r : RegD} {a b : Nat}
    (hr : regAddr r a b < 0x3000 ∨ 0x3440 ≤ regAddr r a b) : regAddr f.reg i 0 ≠ regAddr r a b := by
  have := h.addr
  omega

/-! ### A block that stops (R690, R691, R724) -/

theorem blkSame_xingPeerReset (s : State) (i : Nat) : BlkSame s (s.xingPeerReset i) := by
  have ha : ∀ (t : State) x c, BlkSame t (t.xingPeerAbort x c) := fun t x c => by
    unfold State.xingPeerAbort State.raise State.addSat
    split
    · exact ((RegsIn.put_above _ _ _ _ (by decide)).trans (RegsIn.put_above _ _ _ _ (by decide))).trans
        (RegsIn.put_above _ _ _ _ (by decide))
    · exact RegsIn.refl t
  refine RegsIn.foldl (fun t e => ?_) _ s
  split
  · exact RegsIn.trans (t := t.setXing e.1 xing0) (RegsIn.of_regs rfl) (ha _ _ _)
  · exact RegsIn.refl t

theorem State.setPeer_regs (s : State) (m : Nat) (p : Peer) : (s.setPeer m p).regs = s.regs := rfl

theorem State.setTxs_regs (s : State) (m st : Nat) (x : TxStream) : (s.setTxs m st x).regs = s.regs := rfl

theorem kvSame_noteShare (s : State) (n b : Nat) (d : Bool) : KvSame s (s.noteShare n b d) :=
  KvSame.trans (t := if !d && !s.underShare n then s.raise F.DT_FAB_EVT_ctl_over else s)
    (State.ite_ind (P := KvSame s) (fun _ => KvSame.put s _ _ _ (by decide)) fun _ => KvSame.refl s) (KvSame.of_regs rfl)

theorem kvSame_sendOn (s : State) (n : Nat) (c : Cell) : KvSame s (s.sendOn n c) := by
  unfold State.sendOn
  dsimp only
  refine KvSame.trans ?_ (kvSame_noteShare _ _ _ _)
  exact KvSame.of_regs rfl

/-- A cell sent again is counted in the fabric's registers. -/
theorem kvSame_resendRec (s : State) (m st k : Nat) (r : Tether) : KvSame s (s.resendRec m st k r) := by
  unfold State.resendRec
  split
  · exact KvSame.refl s
  · next n _ =>
    have h : KvSame s ((s.sprayOn m n (retxCell r.cell)).count cgFab k) :=
      ((kvSame_sendOn s n _).trans (KvSame.of_regs (State.setPeer_regs _ _ _))).trans (KvSame.count _ k 0 1 (by decide))
    exact h.trans (KvSame.of_regs (State.setTxs_regs _ _ _ _))

/-- A plane that leaves the spray maps touches the fabric's registers. -/
theorem kvSame_mapChange (s old : State) : KvSame s (s.mapChange old false) := by
  have h1 : KvSame s (if ((List.range 8).filter (fun k => (tkeys s.fab.peers).any (fun m =>
      (planesLost old s m).contains k))).isEmpty then s else s.raise F.DT_FAB_EVT_plane_lost) :=
    State.ite_ind (fun _ => KvSame.refl s) fun _ => KvSame.put s _ _ _ (by decide)
  have h2 : ∀ (t : State) m, KvSame t (t.retxLost m) := fun t m =>
    KvSame.foldl (fun u _ => KvSame.foldl (fun v r => kvSame_resendRec v _ _ _ r) _ u) _ t
  exact (KvSame.trans (t := State.mendPlanes _) h1 (KvSame.of_regs rfl)).trans
    (KvSame.foldl (fun t m => State.ite_ind (fun _ => KvSame.refl t) fun _ => h2 t m) _ _)

theorem blkSame_setRole (s : State) (m role : Nat) : BlkSame s (s.setRole m role) := by
  have hp : BlkSame s (s.put (roleF m) role) := RegsIn.put s _ (.inl (by unfold roleF; split <;> decide))
  exact State.ite_ind (fun _ => hp) fun _ => hp.trans (RegsIn.of_regs rfl)

/-- The block's own registers as it begins to stop. -/
def State.blockIsolated (s : State) (i : Nat) : State :=
  ((s.blkSince i).put F.KV_BLK_STAT_state 1 i).put F.KV_BLK_STAT_isolated 1 i

/-- A stop writes the block's `state`, `isolated` and `errored`, and nothing more in the registers of the blocks. -/
theorem blkSame_stopBlock (s : State) (i : Nat) : BlkSame
    ((((s.blockIsolated i).xingPeerReset i).put F.KV_BLK_STAT_errored (min (s.xingErrored i) 65535) i)) (s.stopBlock i) := by
  unfold State.stopBlock
  dsimp only
  split
  · exact RegsIn.of_kvSame (kvSame_mapChange _ _) (by decide)
  · split
    · next h =>
      have hr : regAddr F.KV_MC_HEALTH_ready.reg (i - 28) 0 < 0x3000 := by
        rcases h with rfl | rfl <;> decide
      exact ((blkSame_setRole _ _ _).trans (RegsIn.put _ _ (.inl hr))).trans (RegsIn.of_regs rfl)
    · exact RegsIn.refl _

theorem stopBlock_stat (s : State) {i : Nat} (hi : i < 68) : (s.stopBlock i).get F.KV_BLK_STAT_state i = 1 ∧
    (s.stopBlock i).get F.KV_BLK_STAT_isolated i = 1 ∧
    (s.stopBlock i).get F.KV_BLK_STAT_result i = s.get F.KV_BLK_STAT_result i := by
  have h : ∀ f : Fld, f.reg = R.KV_BLK_STAT → f.lo + f.w ≤ 16 →
      (s.stopBlock i).get f i = (s.blockIsolated i).get f i := fun f hf h16 => by
    have hb := BlkFld.stat hi hf
    rw [hb.get (blkSame_stopBlock s i), State.get_put_fld _ _ hf (by decide) (.inr h16),
      hb.get (blkSame_xingPeerReset _ i)]
  rw [h _ rfl (by decide), h _ rfl (by decide), h _ rfl (by decide), State.blockIsolated]
  simp (disch := decide) only [State.get_put_fld, State.get_put_self]
  exact ⟨by decide, by decide, rfl⟩

theorem stopBlock_ctl (s : State) {i : Nat} (hi : i < 68) {f : Fld} (hf : f.reg = R.KV_BLK_CTL) :
    (s.stopBlock i).get f i = s.get f i := by
  have hb := BlkFld.ctl hi hf
  rw [hb.get (blkSame_stopBlock s i), State.get_ctl_put_stat _ _ _ rfl hf, hb.get (blkSame_xingPeerReset _ i),
    State.blockIsolated, State.get_ctl_put_stat _ _ _ rfl hf, State.get_ctl_put_stat _ _ _ rfl hf]
  rfl

/-! ### A block in service again (R96, R123, R562) -/

theorem kvSame_retrainChans (s : State) (i : Nat) : KvSame s (s.retrainChans i) := by
  have hb : ∀ (f g : Fld) c, kvEnd ≤ f.reg.base → kvEnd ≤ g.reg.base → kvEnd ≤ (side c f g).reg.base := fun f g c hf hg => by
    unfold side
    split <;> assumption
  refine KvSame.foldl (fun t c => State.ite_ind (fun _ => ?_) fun _ => KvSame.refl t) _ s
  exact (KvSame.trans (KvSame.of_regs rfl) (KvSame.put _ _ _ _ (hb _ _ _ (by decide) (by decide)))).trans
    (KvSame.put _ _ _ _ (hb _ _ _ (by decide) (by decide)))

theorem kvSame_blockResumes (s : State) (i : Nat) : KvSame s (s.blockResumes i) :=
  State.ite_ind (fun _ => KvSame.of_regs ((State.passFrames_keeps _ _).1.trans (State.passFrames_keeps _ _).1)) fun _ =>
    State.ite_ind (fun _ => KvSame.foldl KvSame.tryStart _ s) fun _ => kvSame_retrainChans s i

/-- The registers of a block that has started, before it takes up what waits for it. -/
def State.blockStarted (s : State) (i : Nat) : State :=
  ((s.blockOn i).zero F.KV_BLK_CTL_reset_req i).raise F.KV_RST_EVT_block_done

theorem blockStarted_fields (s : State) {i : Nat} (hi : i < 68) : (s.blockStarted i).get F.KV_BLK_STAT_state i = 0 ∧
    (s.blockStarted i).get F.KV_BLK_STAT_isolated i = 0 ∧ (s.blockStarted i).get F.KV_BLK_CTL_reset_req i = 0 ∧
    (s.blockStarted i).get F.KV_BLK_CTL_enable i = s.get F.KV_BLK_CTL_enable i ∧
    (s.blockStarted i).get F.KV_RST_EVT_block_done = 1 := by
  have hisl : 0x3440 ≤ regAddr R.KV_ISL_STAT i 0 := by
    rw [show regAddr R.KV_ISL_STAT i 0 = 0x5008 + i * 0x10 from rfl]
    omega
  have hon : BlkSame (((s.put F.KV_BLK_STAT_state 0 i).put F.KV_BLK_STAT_isolated 0 i).put F.KV_BLK_STAT_clk_lock 1 i)
      (s.blockOn i) := by
    have hf := RegsIn.put (lo := 0x3000) (((s.put F.KV_BLK_STAT_state 0 i).put F.KV_BLK_STAT_isolated 0 i).put
      F.KV_BLK_STAT_clk_lock 1 i) (f := F.KV_ISL_STAT_f_mhz) (j := 0) (nominalMHz i) (.inr hisl)
    refine hf.trans (State.setIslMv_cases (P := BlkSame _) _ i 750 fun t ht _ => ?_)
    exact RegsIn.trans (RegsIn.put _ (f := F.KV_ISL_STAT_v_mv) _ (.inr hisl)) (RegsIn.of_regs ht)
  have hev : ∀ {f : Fld}, BlkFld f i → (s.blockStarted i).get f i = ((s.blockOn i).zero F.KV_BLK_CTL_reset_req i).get f i :=
    fun hf => State.get_raise_reg _ (hf.ne (.inl (by decide)))
  have hst : ∀ f : Fld, f.reg = R.KV_BLK_STAT → (s.blockStarted i).get f i = (((s.put F.KV_BLK_STAT_state 0 i).put
      F.KV_BLK_STAT_isolated 0 i).put F.KV_BLK_STAT_clk_lock 1 i).get f i := fun f hf => by
    rw [hev (BlkFld.stat hi hf), State.get_zero_reg _ (by rw [hf]; exact blkStat_ne_blkCtl i i), (BlkFld.stat hi hf).get hon]
  rw [hst _ rfl, hst _ rfl, hev (BlkFld.ctl hi), hev (BlkFld.ctl hi), State.get_zero_self _ _ _ _ (by decide),
    State.get_zero_fld _ (by rfl) (by decide) (by decide), (BlkFld.ctl hi).get hon]
  simp (disch := decide) only [State.get_put_fld, State.get_put_self, State.get_ctl_put_stat]
  exact ⟨by decide, by decide, trivial, trivial, State.get_raise_self _ _ _ _ (by decide) (by decide)⟩

end Sys2Proof.Machine
end

section
/-! PROOFS. The commands of a block reset (R69, R690 to R695). -/

namespace Sys2Proof.Machine

variable {s : State} {i : Nat}

theorem exec_blockResetReq (i : Nat) (s : State) :
    exec (.blockResetReq i) s = okIf (s.awake && decide (i < 68)) s (s.resetBlock i) := rfl

theorem exec_blockEnableWrite (i : Nat) (en : Bool) (s : State) : exec (.blockEnableWrite i en) s =
    okIf (s.awake && decide (i < 68)) s (if en then s.enableBlock i else s.disableBlock i) := rfl

/-- A block whose stop is done, before it starts again or goes OFF: its contents and registers restored, its wrapper's
transfers and the reset counted (R691). -/
def State.blockInReset (s : State) (i errored : Nat) : State :=
  ((((s.resetContents i).restoreBlock i).blockReset i).put F.KV_BLK_STAT_errored
    (min 65535 (s.get F.KV_BLK_STAT_errored i + errored)) i).addSat F.KV_BLK_STAT_resets 1 i

/-- A block out of its stop starts again under its enable and is OFF without it. -/
def State.blockLeavesReset (u : State) (i : Nat) : State :=
  if u.flag F.KV_BLK_CTL_enable i then u.startBlock i else u.put F.KV_BLK_STAT_state 4 i

theorem exec_blockStopDone (i errored : Nat) (s : State) : exec (.blockStopDone i errored) s =
    okIf (s.awake && decide (i < 68) && (s.blk i == 1 || s.blk i == 5) && !s.planeNamed i) s
      ((s.blockInReset i errored).blockLeavesReset i) := rfl

theorem exec_blockStartDone (i : Nat) (s : State) : exec (.blockStartDone i) s =
    okIf (s.awake && decide (i < 68) && s.blk i == 3) s
      (if ((s.blockStarted i).blockResumes i).flag F.KV_BLK_CTL_enable i then (s.blockStarted i).blockResumes i
        else ((s.blockStarted i).blockResumes i).stopBlock i) := rfl

theorem exec_blockLockTimeout (i : Nat) (s : State) : exec (.blockLockTimeout i) s =
    okIf (s.awake && decide (i < 68) && s.blk i == 3 && s.blkFor i 1000000) s
      (if s.flag F.KV_BLK_CTL_force_rel i then s.forceRelease i
        else ((s.put F.KV_BLK_STAT_state 2 i).put F.KV_BLK_STAT_result 4 i).raise F.KV_RST_EVT_lock_fail) := rfl

theorem exec_quiesceTimeout (i : Nat) (s : State) : exec (.quiesceTimeout i) s =
    okIf (s.awake && decide (i < 68) && (s.blk i == 1 || s.blk i == 5) && s.flag F.KV_BLK_CTL_quiesce i &&
        s.blkFor i (1000 * max 1 (s.get F.KV_BLK_CTL_quiesce_us i))) s
      ((s.put F.KV_BLK_STAT_result 3 i).raise F.KV_RST_EVT_quiesce_timeout) := rfl

theorem State.get_blkSince (s : State) (i : Nat) (f : Fld) (j k : Nat) : (s.blkSince i).get f j k = s.get f j k := rfl

theorem State.flag_eq_true {s : State} {f : Fld} {i j : Nat} : s.flag f i j = true ↔ s.get f i j = 1 := beq_iff_eq

/-- What a settled field of block i shows. -/
theorem BlkFld.flag_settle {f : Fld} (h : BlkFld f i) (s : State) : s.settle.flag f i = s.flag f i := by
  rw [State.flag, h.settle, State.flag]

theorem State.blockRefusal_lt (s : State) (i : Nat) : s.blockRefusal i < 8 := by
  unfold State.blockRefusal
  repeat' split
  all_goals decide

theorem blockResetReq_stops (ha : s.awake = true) (hi : i < 68) (hr : s.blockRuns i = true) (h0 : s.blockRefusal i = 0) :
    Answers (.blockResetReq i) s (fun t => t.blk i = 1 ∧ t.flag F.KV_BLK_STAT_isolated i = true ∧
      t.get F.KV_BLK_STAT_result i = 0 ∧ t.flag F.KV_BLK_CTL_reset_req i = true) := by
  have he : s.resetBlock i = ((s.put F.KV_BLK_STAT_result 0 i).put F.KV_BLK_CTL_reset_req 1 i).stopBlock i := by
    simp only [State.resetBlock, hr, h0, if_true]
  refine answers_okIf (exec_blockResetReq i s) (by simp [ha, hi]) ?_
  obtain ⟨hst, hiso, hres⟩ := stopBlock_stat ((s.put F.KV_BLK_STAT_result 0 i).put F.KV_BLK_CTL_reset_req 1 i) hi
  rw [he]
  refine ⟨((BlkFld.stat hi).settle _).trans hst, ?_, ?_, ?_⟩
  · rw [(BlkFld.stat hi).flag_settle, State.flag_eq_true, hiso]
  · rw [(BlkFld.stat hi).settle, hres, State.get_stat_put_ctl _ _ _ (by rfl) (by rfl), State.get_put_self _ _ _ _ _ (by decide)]
    rfl
  · rw [(BlkFld.ctl hi).flag_settle, State.flag_eq_true, stopBlock_ctl _ hi rfl, State.get_put_self _ _ _ _ _ (by decide)]
    rfl

theorem blockResetReq_refused (ha : s.awake = true) (hi : i < 68) (hr : s.blockRuns i = true)
    (h0 : s.blockRefusal i ≠ 0) :
    Answers (.blockResetReq i) s (fun t => t.blk i = s.blk i ∧ t.get F.KV_BLK_STAT_result i = s.blockRefusal i ∧
      t.get F.KV_BLK_CTL_reset_req i = 0 ∧ OnlyRegs [regAddr R.KV_BLK_STAT i 0, regAddr R.KV_BLK_CTL i 0] s t) := by
  have he : s.resetBlock i = (s.put F.KV_BLK_STAT_result (s.blockRefusal i) i).zero F.KV_BLK_CTL_reset_req i := by
    simp only [State.resetBlock, hr, h0, if_true, if_false]
  refine answers_okIf (exec_blockResetReq i s) (by simp [ha, hi]) ?_
  rw [he]
  refine ⟨?_, ?_, ?_, OnlyRegs.settle (OnlyRegs.put (OnlyRegs.put (OnlyRegs.refl _ s) _ (.head _)) _ (.tail _ (.head _)))⟩
  · rw [State.blk, (BlkFld.stat hi).settle, State.zero, State.get_stat_put_ctl _ _ _ (by rfl) (by rfl), State.get_put_fld _ _ (by rfl) (by decide) (by decide)]
    rfl
  · rw [(BlkFld.stat hi).settle, State.zero, State.get_stat_put_ctl _ _ _ (by rfl) (by rfl), State.get_put_self _ _ _ _ _ (by decide)]
    exact Nat.mod_eq_of_lt (s.blockRefusal_lt i)
  · rw [(BlkFld.ctl hi).settle, State.get_zero_self _ _ _ _ (by decide)]

theorem blockEnableWrite_starts (ha : s.awake = true) (hi : i < 68) (h4 : s.blk i = 4) :
    Answers (.blockEnableWrite i true) s (fun t => t.blk i = 3 ∧ t.flag F.KV_BLK_CTL_enable i = true ∧
      t = { s.settled t with rst := { s.rst with blkAt := tset s.rst.blkAt i s.up } } ∧
      RegsBut [regAddr R.KV_BLK_STAT i 0, regAddr R.KV_BLK_CTL i 0] s t) := by
  have he : s.enableBlock i = (s.put F.KV_BLK_CTL_enable 1 i).startBlock i := by
    have hb : ¬(s.blk i = 1 ∧ s.flag F.KV_BLK_CTL_enable i = false) := by omega
    simp only [State.enableBlock, if_neg hb, if_pos h4]
  refine answers_okIf (exec_blockEnableWrite i true s) (by simp [ha, hi]) ?_
  rw [if_pos rfl, he]
  have hr : RegsBut [regAddr R.KV_BLK_STAT i 0, regAddr R.KV_BLK_CTL i 0] s ((s.put F.KV_BLK_CTL_enable 1 i).blkSince i) :=
    regsBut_put (t := s.blkSince i) (regsBut_refl _ s) (.tail _ (.head _))
  have hset : ∀ t : State, ((s.put F.KV_BLK_CTL_enable 1 i).startBlock i).settled t =
      { s.settled t with rst := { s.rst with blkAt := tset s.rst.blkAt i s.up } } := fun _ => rfl
  refine ⟨?_, ?_, (settled_settle _).trans (hset _), regsBut_settle_of (regsBut_put (regsBut_put hr (.head _)) (.head _))⟩
  · rw [State.blk, (BlkFld.stat hi).settle, State.startBlock]
    simp (disch := decide) only [State.get_put_fld, State.get_put_self]
    rfl
  · rw [(BlkFld.ctl hi).flag_settle, State.flag_eq_true, State.startBlock,
      State.get_ctl_put_stat _ _ _ (by rfl) (by rfl), State.get_ctl_put_stat _ _ _ (by rfl) (by rfl)]
    exact State.get_put_self s F.KV_BLK_CTL_enable 1 i 0 (by decide)

theorem blockEnableWrite_off (ha : s.awake = true) (hi : i < 68) (h2 : s.blk i = 2) :
    Answers (.blockEnableWrite i false) s (fun t => t.blk i = 4 ∧ t.flag F.KV_BLK_CTL_enable i = false ∧
      OnlyRegs [regAddr R.KV_BLK_STAT i 0, regAddr R.KV_BLK_CTL i 0] s t) := by
  have he : s.disableBlock i = (s.put F.KV_BLK_CTL_enable 0 i).put F.KV_BLK_STAT_state 4 i := by
    have hb : s.blockRuns i = false := by simp [State.blockRuns, h2]
    simp [State.disableBlock, hb, h2]
  refine answers_okIf (exec_blockEnableWrite i false s) (by simp [ha, hi]) ?_
  rw [if_neg Bool.false_ne_true, he]
  refine ⟨?_, ?_, OnlyRegs.settle (OnlyRegs.put (OnlyRegs.put (OnlyRegs.refl _ s) _ (.tail _ (.head _))) _ (.head _))⟩
  · rw [State.blk, (BlkFld.stat hi).settle, State.get_put_self _ _ _ _ _ (by decide)]
    rfl
  · rw [(BlkFld.ctl hi).flag_settle, State.flag, State.get_ctl_put_stat _ _ _ (by rfl) (by rfl), State.get_put_self _ _ _ _ _ (by decide)]
    rfl

/-- The registers of a block whose stop is done do not depend on what it held: the wrapper keeps it isolated (R691). -/
theorem blockInReset_fields (s : State) (i errored : Nat) :
    (s.blockInReset i errored).get F.KV_BLK_STAT_errored i = min 65535 (s.get F.KV_BLK_STAT_errored i + errored) ∧
      (s.blockInReset i errored).get F.KV_BLK_STAT_isolated i = 1 := by
  have hisl : regAddr R.KV_BLK_STAT i 0 ≠ regAddr R.KV_ISL_STAT i 0 := by
    rw [regAddr_blkStat, show regAddr R.KV_ISL_STAT i 0 = 0x5008 + i * 0x10 from rfl]
    omega
  have hp : ∀ (t : State) (f : Fld) v, f.reg = R.KV_ISL_STAT →
      (t.put f v i).get F.KV_BLK_STAT_isolated i = t.get F.KV_BLK_STAT_isolated i := fun t f v hf =>
    t.get_put_reg v (by rw [hf]; exact hisl)
  rw [State.blockInReset, State.addSat]
  simp (disch := decide) only [State.get_put_fld, State.get_put_self]
  refine ⟨Nat.mod_eq_of_lt (lt_of_le_of_lt (min_le_left _ _) (by decide)), ?_⟩
  rw [State.blockReset, hp _ _ _ rfl, hp _ _ _ rfl]
  simp (disch := decide) only [State.get_put_fld, State.get_put_self]
  rfl

theorem blockLeavesReset_fields (u : State) (i : Nat) :
    (u.blockLeavesReset i).get F.KV_BLK_STAT_errored i = u.get F.KV_BLK_STAT_errored i ∧
      (u.blockLeavesReset i).get F.KV_BLK_STAT_isolated i = u.get F.KV_BLK_STAT_isolated i ∧
      (u.blockLeavesReset i).flag F.KV_BLK_CTL_enable i = u.flag F.KV_BLK_CTL_enable i ∧
      (u.blockLeavesReset i).blk i = if u.flag F.KV_BLK_CTL_enable i then 3 else 4 := by
  unfold State.blockLeavesReset State.blk
  split
  · rw [State.startBlock, State.flag]
    simp (disch := decide) only [State.get_put_fld, State.get_put_self, State.get_ctl_put_stat, State.get_blkSince]
    exact ⟨trivial, trivial, rfl, rfl⟩
  · rw [State.flag]
    simp (disch := decide) only [State.get_put_fld, State.get_put_self, State.get_ctl_put_stat]
    exact ⟨trivial, trivial, rfl, rfl⟩

theorem blockStopDone_leaves (errored : Nat) (ha : s.awake = true) (hi : i < 68) (h1 : s.blk i = 1)
    (hp : s.planeNamed i = false) :
    Answers (.blockStopDone i errored) s (fun t => t.get F.KV_BLK_STAT_errored i =
        min 65535 (s.get F.KV_BLK_STAT_errored i + errored) ∧
      t.flag F.KV_BLK_STAT_isolated i = true ∧
      ((t.flag F.KV_BLK_CTL_enable i = true ∧ t.blk i = 3) ∨ (t.flag F.KV_BLK_CTL_enable i = false ∧ t.blk i = 4))) := by
  obtain ⟨herr, hiso⟩ := blockInReset_fields s i errored
  obtain ⟨herr', hiso', hen, hst⟩ := blockLeavesReset_fields (s.blockInReset i errored) i
  refine answers_okIf (exec_blockStopDone i errored s) (by rw [ha, h1, hp, decide_eq_true hi]; rfl) ?_
  rw [(BlkFld.stat hi).settle, (BlkFld.stat hi).flag_settle, State.flag_eq_true (f := F.KV_BLK_STAT_isolated),
    (BlkFld.ctl hi).flag_settle, State.blk, (BlkFld.stat hi).settle]
  refine ⟨herr'.trans herr, hiso'.trans hiso, ?_⟩
  rw [hen, ← State.blk, hst]
  cases (s.blockInReset i errored).flag F.KV_BLK_CTL_enable i with
  | true => exact .inl ⟨rfl, if_pos rfl⟩
  | false => exact .inr ⟨rfl, if_neg Bool.false_ne_true⟩

theorem blockStartDone_on (ha : s.awake = true) (hi : i < 68) (h3 : s.blk i = 3)
    (hen : s.flag F.KV_BLK_CTL_enable i = true) :
    Answers (.blockStartDone i) s (fun t => t.isOn i = true ∧ t.get F.KV_BLK_CTL_reset_req i = 0 ∧
      t.flag F.KV_RST_EVT_block_done = true ∧ t.flag F.KV_BLK_STAT_isolated i = false) := by
  obtain ⟨hst, hiso, hreq, hen', hev⟩ := blockStarted_fields s hi
  have hk := kvSame_blockResumes (s.blockStarted i) i
  have hb : BlkSame (s.blockStarted i) ((s.blockStarted i).blockResumes i) := RegsIn.of_kvSame hk (by decide)
  have he : ((s.blockStarted i).blockResumes i).flag F.KV_BLK_CTL_enable i = true := by
    rw [State.flag_eq_true, (BlkFld.ctl hi).get hb, hen', State.flag_eq_true.1 hen]
  refine answers_okIf (exec_blockStartDone i s) (by simp [ha, hi, h3]) ?_
  rw [if_pos he]
  refine ⟨?_, ?_, ?_, ?_⟩
  · rw [State.isOn, beq_iff_eq, State.blk, (BlkFld.stat hi).settle, (BlkFld.stat hi).get hb, hst]
  · rw [(BlkFld.ctl hi).settle, (BlkFld.ctl hi).get hb, hreq]
  · rw [State.flag_eq_true, State.get_settle _ (by decide) (by decide) (by decide), hk.get (by decide), hev]
  · rw [(BlkFld.stat hi).flag_settle, State.flag, (BlkFld.stat hi).get hb, hiso]
    rfl

/-- The block's status and the reset events are apart. -/
theorem blkStat_ne_rstEvt (i : Nat) : regAddr R.KV_BLK_STAT i 0 ≠ regAddr R.KV_RST_EVT 0 0 := by
  rw [regAddr_blkStat, show regAddr R.KV_RST_EVT 0 0 = 0x2038 from rfl]
  omega

/-- A reset event raised last is shown. -/
theorem rstEvt_settle (s : State) {f : Fld} (hf : f.reg = R.KV_RST_EVT) (h64 : f.lo + f.w ≤ 64) (hw : 0 < f.w) :
    (s.raise f).settle.flag f = true := by
  rw [State.flag_eq_true, State.get_settle _ (by rw [hf]; decide) (by rw [hf]; decide) (by rw [hf]; decide),
    State.get_raise_self _ _ _ _ h64 hw]

theorem blockLockTimeout_fails (ha : s.awake = true) (hi : i < 68) (h3 : s.blk i = 3)
    (hf : s.blkFor i 1000000 = true) :
    Answers (.blockLockTimeout i) s (fun t =>
      (s.flag F.KV_BLK_CTL_force_rel i = false → t.blk i = 2 ∧ t.get F.KV_BLK_STAT_result i = 4 ∧
        t.flag F.KV_RST_EVT_lock_fail = true) ∧
      (s.flag F.KV_BLK_CTL_force_rel i = true → t.blk i = 6 ∧ t.flag F.KV_RST_EVT_unstable = true) ∧
      OnlyRegs [regAddr R.KV_BLK_STAT i 0, regAddr R.KV_RST_EVT 0 0] s t) := by
  have hs := OnlyRegs.refl [regAddr R.KV_BLK_STAT i 0, regAddr R.KV_RST_EVT 0 0] s
  have hne : ∀ {f : Fld}, f.reg = R.KV_BLK_STAT → regAddr f.reg i 0 ≠ regAddr R.KV_RST_EVT 0 0 := fun h => by
    rw [h]
    exact blkStat_ne_rstEvt i
  refine answers_okIf (exec_blockLockTimeout i s) (by simp [ha, hi, h3, hf]) ?_
  cases hr : s.flag F.KV_BLK_CTL_force_rel i with
  | true =>
    rw [if_pos rfl]
    refine ⟨fun h => absurd h (by simp), fun _ => ⟨?_, rstEvt_settle _ rfl (by decide) (by decide)⟩,
      OnlyRegs.settle (OnlyRegs.put (OnlyRegs.put hs _ (.head _)) _ (.tail _ (.head _)))⟩
    rw [State.blk, (BlkFld.stat hi).settle, State.forceRelease, State.get_raise_reg _ (hne rfl),
      State.get_put_self _ _ _ _ _ (by decide)]
    rfl
  | false =>
    rw [if_neg Bool.false_ne_true]
    refine ⟨fun _ => ⟨?_, ?_, rstEvt_settle _ rfl (by decide) (by decide)⟩, fun h => absurd h (by simp),
      OnlyRegs.settle (OnlyRegs.put (OnlyRegs.put (OnlyRegs.put hs _ (.head _)) _ (.head _)) _ (.tail _ (.head _)))⟩
    · rw [State.blk, (BlkFld.stat hi).settle, State.get_raise_reg _ (hne rfl)]
      simp (disch := decide) only [State.get_put_fld, State.get_put_self]
      rfl
    · rw [(BlkFld.stat hi).settle, State.get_raise_reg _ (hne rfl), State.get_put_self _ _ _ _ _ (by decide)]
      rfl

theorem quiesceTimeout_shown (ha : s.awake = true) (hi : i < 68) (h1 : s.blk i = 1)
    (hq : s.flag F.KV_BLK_CTL_quiesce i = true)
    (hf : s.blkFor i (1000 * max 1 (s.get F.KV_BLK_CTL_quiesce_us i)) = true) :
    Answers (.quiesceTimeout i) s (fun t => t.blk i = 1 ∧ t.get F.KV_BLK_STAT_result i = 3 ∧
      t.flag F.KV_RST_EVT_quiesce_timeout = true ∧
      OnlyRegs [regAddr R.KV_BLK_STAT i 0, regAddr R.KV_RST_EVT 0 0] s t) := by
  refine answers_okIf (exec_quiesceTimeout i s) (by simp [ha, hi, h1, hq, hf])
    ⟨?_, ?_, rstEvt_settle _ rfl (by decide) (by decide),
      OnlyRegs.settle (OnlyRegs.put (OnlyRegs.put (OnlyRegs.refl _ s) _ (.head _)) _ (.tail _ (.head _)))⟩
  · rw [State.blk, (BlkFld.stat hi).settle, State.get_raise_reg _ (blkStat_ne_rstEvt i),
      State.get_put_fld _ _ (by rfl) (by decide) (by decide)]
    exact h1
  · rw [(BlkFld.stat hi).settle, State.get_raise_reg _ (blkStat_ne_rstEvt i), State.get_put_self _ _ _ _ _ (by decide)]
    rfl

/-- Settles O26: each clause is the lemma about its command; what a stop, a restart and the contents of a block touch
beside its own two registers is apart from them. -/
theorem blocksStopStartAndTimeOut : Obligations.BlocksStopStartAndTimeOut :=
  ⟨fun _ _ => blockResetReq_stops, fun _ _ => blockResetReq_refused, fun _ _ => blockEnableWrite_starts,
    fun _ _ => blockEnableWrite_off, fun _ errored _ => blockStopDone_leaves errored, fun _ _ => blockStartDone_on,
    fun _ _ => blockLockTimeout_fails, fun _ _ => quiesceTimeout_shown⟩

end Sys2Proof.Machine
end

section
/-! PROOFS. Repairs from the ballast and faults of table banks (R61 to R67, R252 to R256, R306). -/

namespace Sys2Proof.Machine

theorem exec_tableRepair (s : State) : exec .tableRepair s = okIf s.live s s.repairOldest.runWaiting := rfl

theorem exec_tableScrub (b : Nat) (routes : Bool) (s : State) : exec (.tableScrub b (some routes)) s =
    okIf (s.live && decide (b < 1024) && true) s (s.bankFault b routes) := rfl

/-! ### The repair itself -/

theorem State.runWaiting_none {s : State} (h : s.eng.waiting = none) : s.runWaiting = s := by
  unfold State.runWaiting
  rw [h]

theorem State.repairOldest_nil {s : State} (h : s.tbl.poison = []) : s.repairOldest = s := by
  unfold State.repairOldest
  rw [h]

/-- Anything but a bucket leaves the list once it is read from the ballast; r is what is left of it. -/
def State.nodeMended (s : State) (r : List (Nat × Nat)) : State :=
  { s.ballastTx 1 shadowRegion false with tbl := { s.tbl with poison := r } }

theorem State.nodeMended_keeps (s : State) (r : List (Nat × Nat)) : (s.nodeMended r).tbl.poison = r ∧
    (s.nodeMended r).eng.owed = s.eng.owed ∧ (s.nodeMended r).inact = s.inact ∧ (s.nodeMended r).act = s.act ∧
    (s.nodeMended r).engV = s.engV ∧ (s.nodeMended r).regs = s.regs := ⟨rfl, rfl, rfl, rfl, rfl, rfl⟩

theorem State.repairOldest_node {s : State} {p : Nat × Nat} {r} (h : s.tbl.poison = p :: r) (hp : p.1 ≠ pkEm) :
    s.repairOldest = s.nodeMended r := by
  unfold State.repairOldest
  rw [h]
  exact if_neg hp

theorem State.repairOldest_bucket {s : State} {b : Nat} {r} (h : s.tbl.poison = (pkEm, b) :: r) :
    s.repairOldest = (s.ballastTx 1 shadowRegion false).emRepair b := by
  unfold State.repairOldest
  rw [h]
  exact if_pos rfl

theorem State.ballastTx_keeps (s : State) (rank : Nat) (r : Nat × Nat) (w : Bool) :
    s.ballastTx rank r w = { s with mem := { s.mem with
      bq := (s.ballastTx rank r w).mem.bq, bseq := (s.ballastTx rank r w).mem.bseq } } := rfl

theorem State.ballastTx_regs (s : State) (rank : Nat) (r : Nat × Nat) (w : Bool) :
    (s.ballastTx rank r w).regs = s.regs := rfl

/-- The views and the list of what is poisoned once bucket b is rewritten, before it is counted. -/
def State.bucketMended (s : State) (b : Nat) : State :=
  { s.setAll (fun v => v.setEm (stampBucket b s.ageTick)) with
    tbl := { s.tbl with poison := s.tbl.poison.filter (fun p => decide (p ≠ (pkEm, b))) } }

theorem State.emRepair_eq (s : State) (b : Nat) :
    s.emRepair b = ((s.bucketMended b).count cgEm 7).raise F.TF_EM_EVT_mismatch := rfl

theorem State.bucketMended_keeps (s : State) (b : Nat) : (s.bucketMended b).regs = s.regs ∧
    (s.bucketMended b).eng = s.eng ∧ (s.bucketMended b).act.em = stampBucket b s.ageTick s.act.em ∧
    (s.bucketMended b).tbl.poison = s.tbl.poison.filter (fun p => decide (p ≠ (pkEm, b))) := ⟨rfl, rfl, rfl, rfl⟩

/-- A transaction to the ballast changes nothing that a repair reads. -/
theorem State.ballastTx_read (s : State) (rank : Nat) (r : Nat × Nat) (w : Bool) :
    (s.ballastTx rank r w).eng = s.eng ∧ (s.ballastTx rank r w).ageTick = s.ageTick ∧
      (s.ballastTx rank r w).act = s.act := ⟨rfl, rfl, rfl⟩

theorem tableRepair_empty {s : State} (hl : s.live = true) (hw : s.eng.waiting = none) (hp : s.tbl.poison = []) :
    Answers .tableRepair s (OnlyRegs [] s) := by
  refine answers_okIf (exec_tableRepair s) hl ?_
  rw [State.repairOldest_nil hp, State.runWaiting_none hw]
  exact (OnlyRegs.refl _ s).settle

theorem tableRepair_node {s : State} (hl : s.live = true) (hw : s.eng.waiting = none) (p : Nat × Nat) (r)
    (hp : s.tbl.poison = p :: r) (hk : p.1 ≠ pkEm) :
    Answers .tableRepair s (fun t => t = { s.settled t with
        tbl := { s.tbl with poison := r }, mem := { s.mem with bq := t.mem.bq, bseq := t.mem.bseq } } ∧
      RegsBut [] s t) := by
  refine answers_okIf (exec_tableRepair s) hl ?_
  rw [State.repairOldest_node hp hk, State.runWaiting_none (s := s.nodeMended r) hw]
  have h : ∀ t, (s.nodeMended r).settled t = { s.settled t with
      tbl := { s.tbl with poison := r }
      mem := { s.mem with bq := (s.nodeMended r).mem.bq, bseq := (s.nodeMended r).mem.bseq } } := fun _ => rfl
  simp only [State.settle_mem]
  exact ⟨(settled_settle _).trans (h _), regsBut_settle_of_regs (t := s.nodeMended r) rfl⟩

theorem tableRepair_bucket {s : State} (hl : s.live = true) (hw : s.eng.waiting = none) (b : Nat) (r)
    (hp : s.tbl.poison = (pkEm, b) :: r) :
    Answers .tableRepair s (fun t => t.poisoned pkEm b = false ∧ t.act.em = stampBucket b s.ageTick s.act.em ∧
      t.rd R.TF_EM_CNT 7 = cntAdd (s.rd R.TF_EM_CNT 7) 1 ∧ t.flag F.TF_EM_EVT_mismatch = true ∧ t.eng = s.eng) := by
  obtain ⟨hbe, hbt, hba⟩ := s.ballastTx_read 1 shadowRegion false
  obtain ⟨hregs, heng, hem, hpoison⟩ := (s.ballastTx 1 shadowRegion false).bucketMended_keeps b
  have hr : s.repairOldest = (((s.ballastTx 1 shadowRegion false).bucketMended b).count cgEm 7).raise
      F.TF_EM_EVT_mismatch := (State.repairOldest_bucket hp).trans (State.emRepair_eq _ b)
  rw [State.ballastTx_regs] at hregs
  rw [hbe] at heng
  rw [hbt, hba] at hem
  generalize (s.ballastTx 1 shadowRegion false).bucketMended b = u at *
  have he : s.repairOldest.eng = s.eng := by rw [hr, State.raise_eng, State.count_eng, heng]
  refine answers_okIf (exec_tableRepair s) hl ?_
  rw [State.runWaiting_none (he ▸ hw)]
  refine ⟨?_, ?_, ?_, ?_, by rw [State.settle_eng, he]⟩
  · rw [State.poisoned, State.settle_tbl, hr, State.raise_tbl, State.count_tbl, hpoison]
    simp
  · rw [State.settle_act, hr, State.raise_act, State.count_act, hem]
  · rw [State.rd_settle _ (by decide) (by decide) (by decide), hr, State.raise, State.rd_put_ne _ _ (by decide),
      ← State.rd_congr hregs]
    exact u.rd_countAt_self cgEm 0 7 1 _ (by decide)
  · rw [State.flag_eq_true, State.get_settle_high _ (by decide), hr, State.get_raise_self _ _ _ _ (by decide) (by decide)]

/-! ### The command that waited (R255) -/

theorem State.commitBit_keeps (s : State) (c : TCmd) :
    ∃ r, s.commitBit c = { s with eng := { s.eng with ready := r } } := by
  unfold State.commitBit
  split
  · exact ⟨true, rfl⟩
  · exact ⟨s.eng.ready, rfl⟩

/-- A deletion that nothing poisoned holds up changes the inactive view. -/
theorem applyRouteDelete_taken {c : TCmd} {s : State} (hok : rpOk c false = true) (hp : s.tbl.poison = [])
    (hk : thas s.inact.routes (rpKey c) = true) : applyRouteDelete c s =
      .change (s.setInact (fun v => v.setRoutes (fun m => tdel m (rpKey c)))) := by
  have hr : s.routePoisoned (rpKey c) = false := by
    rw [State.routePoisoned, hp]
    rfl
  simp [applyRouteDelete, hok, hr, hk]

/-- The engine with nothing waiting. -/
def State.waitOver (s : State) : State := { s with eng := { s.eng with waiting := none } }

/-- A view changed by what had waited. -/
theorem State.waitOver_setInact (s : State) (f : View → View) : (s.waitOver.setInact f).tbl = s.tbl ∧
    (s.waitOver.setInact f).eng.waiting = none ∧ (s.waitOver.setInact f).eng.owed = s.eng.owed ∧
    (s.waitOver.setInact f).inact = f s.inact ∧ (s.waitOver.setInact f).act = s.act ∧
    (s.waitOver.setInact f).engV = s.engV ∧ (s.waitOver.setInact f).regs = s.regs := ⟨rfl, rfl, rfl, rfl, rfl, rfl, rfl⟩

theorem State.runWaiting_delete {s : State} {c : TCmd} (hw : s.eng.waiting = some (0x11, c)) :
    s.runWaiting = s.waitOver.answer 0x11 c (applyRouteDelete c s.waitOver) := by
  unfold State.runWaiting
  rw [hw]
  rfl

/-- The batch with a command that has changed a view in it. -/
def State.joined (t : State) (c : TCmd) : State := ((t.owes c).ballastTx 2 shadowRegion true).commitBit c

theorem State.answer_change (s t : State) (op : Nat) (c : TCmd) : s.answer op c (.change t) = t.joined c := rfl

theorem State.joined_keeps (t : State) (c : TCmd) : ∃ mem ready, t.joined c = { t with mem := mem, eng :=
    { t.eng with batchQ := some c.q, owed := t.eng.owed ++ [(c.q, c.tag, none)], ready := ready } } := by
  obtain ⟨ready, hc⟩ := ((t.owes c).ballastTx 2 shadowRegion true).commitBit_keeps c
  exact ⟨(t.ballastTx 2 shadowRegion true).mem, ready, hc⟩

/-- The queue's batch open with the command, which its completion is owed for. -/
theorem State.joined_eng (t : State) (c : TCmd) : (t.joined c).eng.waiting = t.eng.waiting ∧
    (t.joined c).eng.batchQ = some c.q ∧ (t.joined c).eng.owed = t.eng.owed ++ [(c.q, c.tag, none)] := by
  obtain ⟨mem, ready, h⟩ := t.joined_keeps c
  rw [h]
  exact ⟨rfl, rfl, rfl⟩

theorem State.joined_tables (t : State) (c : TCmd) : (t.joined c).tbl = t.tbl ∧ (t.joined c).inact = t.inact ∧
    (t.joined c).act = t.act ∧ (t.joined c).engV = t.engV ∧ (t.joined c).regs = t.regs := by
  obtain ⟨mem, ready, h⟩ := t.joined_keeps c
  rw [h]
  exact ⟨rfl, rfl, rfl, rfl, rfl⟩

theorem tableRepair_runsDelete (p : Nat × Nat) (c : TCmd) (s : State) (hl : s.live = true) (hp : s.tbl.poison = [p])
    (hk : p.1 = pkRoute) (hw : s.eng.waiting = some (0x11, c)) (hok : rpOk c false = true)
    (hin : thas s.inact.routes (rpKey c) = true) :
    Answers .tableRepair s (fun t => t.tbl.poison = [] ∧ t.eng.waiting = none ∧ t.eng.batchQ = some c.q ∧
      t.eng.owed = s.eng.owed ++ [(c.q, c.tag, none)] ∧ t.inact = s.inact.setRoutes (fun m => tdel m (rpKey c)) ∧
      t.act = s.act ∧ t.engV = s.engV ∧ RegsBut [] s t) := by
  refine answers_okIf (exec_tableRepair s) hl ?_
  obtain ⟨hpoison, howed, hin', hact, hengV, hregs⟩ := s.nodeMended_keeps []
  rw [← hin'] at hin
  rw [State.repairOldest_node hp (by rw [hk]; decide)]
  generalize hm : s.nodeMended [] = m at *
  have hmw : m.eng.waiting = some (0x11, c) := by rw [← hm]; exact hw
  rw [State.runWaiting_delete hmw, applyRouteDelete_taken (s := m.waitOver) hok hpoison hin, State.answer_change]
  obtain ⟨htbl, hwait, howed', hinact, hact', hengV', hregs'⟩ :=
    m.waitOver_setInact (fun v => v.setRoutes (fun m => tdel m (rpKey c)))
  generalize m.waitOver.setInact (fun v => v.setRoutes (fun m => tdel m (rpKey c))) = u at *
  obtain ⟨ujwait, ujq, ujowed⟩ := u.joined_eng c
  obtain ⟨ujtbl, ujinact, ujact, ujengV, ujregs⟩ := u.joined_tables c
  rw [State.settle_tbl, State.settle_eng, State.settle_inact, State.settle_act, State.settle_engV, ujtbl, ujwait, ujq,
    ujowed, ujinact, ujact, ujengV, htbl, hwait, howed', hinact, hact', hengV', hpoison, howed, hin', hact, hengV]
  exact ⟨rfl, rfl, rfl, rfl, rfl, rfl, rfl, regsBut_settle_of_regs (ujregs.trans (hregs'.trans hregs))⟩

/-! ### Faults of a bank (R67, R256) -/

/-- The fault of bank b is recorded, before it is known whether the bank is retired. -/
def State.bankFaulted (s : State) (b : Nat) : State :=
  { s.unitFault 3 b s.bankCover s.bankCover with
    tbl := { s.tbl with bankFaults := tset s.tbl.bankFaults b (s.recentFaults b ++ [s.up]) } }

theorem State.bankFaulted_keeps (s : State) (b : Nat) : ∃ regs, s.bankFaulted b = { s with
    regs := regs, tbl := { s.tbl with bankFaults := tset s.tbl.bankFaults b (s.recentFaults b ++ [s.up]) } } := by
  obtain ⟨regs, h⟩ := s.unitFault_keeps 3 b s.bankCover s.bankCover
  exact ⟨regs, by rw [State.bankFaulted, h]⟩

theorem State.get_bankFaulted (s : State) (b : Nat) (f : Fld) (i j : Nat) :
    (s.bankFaulted b).get f i j = (s.unitFault 3 b s.bankCover s.bankCover).get f i j := rfl

/-- A retired bank is marked, and what it held of the route tables moves away. -/
def State.bankRetired (s : State) (b : Nat) (routes : Bool) : State :=
  if routes then (((s.put F.TF_BANK_STAT_retired 1 b).raise F.TF_ROUTE_EVT_bank_retired).vacate b).spaceLost
  else s.put F.TF_BANK_STAT_retired 1 b

theorem State.bankFault_eq {s : State} {b : Nat} (h : s.flag F.TF_BANK_STAT_retired b = false) (routes : Bool) :
    s.bankFault b routes =
      if 2 ≤ (s.recentFaults b).length then (s.bankFaulted b).bankRetired b routes else s.bankFaulted b := by
  obtain ⟨regs, hu⟩ := s.unitFault_keeps 3 b s.bankCover s.bankCover
  have hl : (s.recentFaults b ++ [s.up]).length = (s.recentFaults b).length + 1 := List.length_append
  have h3 : (3 ≤ (s.recentFaults b).length + 1) = (2 ≤ (s.recentFaults b).length) := by simp
  rw [State.bankFault, h, if_neg Bool.false_ne_true]
  dsimp only
  rw [hl, State.bankFaulted, State.bankRetired, hu]
  simp only [h3]

theorem State.bankFault_retired {s : State} {b : Nat} (h : s.flag F.TF_BANK_STAT_retired b = true) (routes : Bool) :
    s.bankFault b routes = s := if_pos h

theorem State.spaceLost_keeps (s : State) : s.spaceLost = s ∨ s.spaceLost = s.raise F.TF_ROUTE_EVT_space_low := by
  unfold State.spaceLost
  split
  · exact .inr rfl
  · exact .inl rfl

theorem State.vacate_get (s : State) (b : Nat) (f : Fld) (i j : Nat) : (s.vacate b).get f i j = s.get f i j := rfl

/-- A register that space lost does not touch reads on. -/
theorem State.get_spaceLost (s : State) {f : Fld} {i j : Nat}
    (h : regAddr f.reg i j ≠ regAddr R.TF_ROUTE_EVT 0 0 ∨ f = F.TF_ROUTE_EVT_bank_retired ∧ i = 0 ∧ j = 0) :
    s.spaceLost.get f i j = s.get f i j := by
  rcases s.spaceLost_keeps with hs | hs <;> rw [hs]
  rcases h with h | ⟨rfl, rfl, rfl⟩
  · exact State.get_raise_reg _ h
  · exact State.get_raise_fld _ rfl (by decide) (by decide)

/-- What a retirement leaves of the other registers. -/
theorem State.get_bankRetired (s : State) (b : Nat) (routes : Bool) {f : Fld} {i j : Nat}
    (hb : regAddr f.reg i j ≠ regAddr R.TF_BANK_STAT b 0) (he : regAddr f.reg i j ≠ regAddr R.TF_ROUTE_EVT 0 0) :
    (s.bankRetired b routes).get f i j = s.get f i j := by
  unfold State.bankRetired
  split
  · rw [State.get_spaceLost _ (.inl he), State.vacate_get, State.get_raise_reg _ he, State.get_put_reg _ _ hb]
  · exact State.get_put_reg _ _ hb

theorem regAddr_bankStat (b : Nat) : regAddr R.TF_BANK_STAT b 0 = 0x1210000 + b * 8 := rfl

theorem State.retired_bankRetired (s : State) (b : Nat) (routes : Bool) :
    (s.bankRetired b routes).get F.TF_BANK_STAT_retired b = 1 := by
  have hne : regAddr R.TF_BANK_STAT b 0 ≠ regAddr R.TF_ROUTE_EVT 0 0 := by
    rw [regAddr_bankStat, show regAddr R.TF_ROUTE_EVT 0 0 = 0x1200028 from rfl]
    omega
  have hp : (s.put F.TF_BANK_STAT_retired 1 b).get F.TF_BANK_STAT_retired b = 1 :=
    State.get_put_self _ _ _ _ _ (by decide)
  unfold State.bankRetired
  split
  · rw [State.get_spaceLost _ (.inl hne), State.vacate_get, State.get_raise_reg _ hne, hp]
  · exact hp

theorem State.bankRetired_tbl (s : State) (b : Nat) (routes : Bool) :
    (s.bankRetired b routes).tbl.bankFaults = s.tbl.bankFaults := by
  unfold State.bankRetired
  split
  · generalize hu : State.vacate _ b = u
    have ht : u.spaceLost.tbl = u.tbl := by
      rcases u.spaceLost_keeps with h | h <;> rw [h]
      rfl
    rw [ht, ← hu]
    rfl
  · rfl

/-- Retiring a bank that held routes raises the event, and its contents move at the engine's own commit. -/
theorem State.bankRetired_routes (s : State) (b : Nat) :
    (s.bankRetired b true).get F.TF_ROUTE_EVT_bank_retired = 1 ∧
      (s.bankRetired b true).eng = { s.eng with dirty := true } ∧
      ∃ m : NodeMove, (s.bankRetired b true).tbl.moves = s.tbl.moves ++ [m] ∧ m.bank = b ∧ 1 ≤ m.n ∧ m.live = false := by
  rw [State.bankRetired, if_pos rfl]
  refine ⟨?_, ?_⟩
  · rw [State.get_spaceLost _ (.inr ⟨rfl, rfl, rfl⟩), State.vacate_get, State.get_raise_self _ _ _ _ (by decide) (by decide)]
  · generalize hu : State.vacate _ b = u
    have ht : u.spaceLost.tbl = u.tbl ∧ u.spaceLost.eng = u.eng := by
      rcases u.spaceLost_keeps with h | h <;> rw [h]
      · exact ⟨rfl, rfl⟩
      · exact ⟨rfl, rfl⟩
    rw [ht.1, ht.2, ← hu]
    exact ⟨rfl, _, rfl, rfl, Nat.le_add_right 1 _, rfl⟩

theorem State.unit_faults_unitFault (s : State) (kind idx : Nat) (a b : Bool) :
    (s.unitFault kind idx a b).get F.DT_GUAR_EVT_unit_faults =
      satAdd (2 ^ F.DT_GUAR_EVT_unit_faults.w - 1) (s.get F.DT_GUAR_EVT_unit_faults) 1 := by
  have hlt : ∀ x, satAdd (2 ^ F.DT_GUAR_EVT_unit_faults.w - 1) x 1 < 2 ^ F.DT_GUAR_EVT_unit_faults.w := fun x => by
    rw [show F.DT_GUAR_EVT_unit_faults.w = 32 from rfl, satAdd]
    split <;> omega
  rw [State.get_unitFault _ _ _ _ _ (.inr ⟨rfl, rfl, rfl, by decide⟩), State.faultNamed, State.addSat,
    State.get_put_self _ _ _ _ _ (by decide),
    State.get_put_fld (f := F.DT_GUAR_EVT_unit_index) (g := F.DT_GUAR_EVT_unit_faults) _ _ rfl (by decide) (.inl (by decide)),
    State.get_put_fld (f := F.DT_GUAR_EVT_unit_kind) (g := F.DT_GUAR_EVT_unit_faults) _ _ rfl (by decide) (.inl (by decide))]
  exact Nat.mod_eq_of_lt (hlt _)

/-- The record of a bank's fault is that of the unit fault, retired or not. -/
theorem State.get_bankFault_guar {s : State} {b : Nat} (hb : b < 1024) (h : s.flag F.TF_BANK_STAT_retired b = false)
    (routes : Bool) {f : Fld} (hf : f.reg = R.DT_GUAR_EVT) :
    (s.bankFault b routes).settle.get f = (s.unitFault 3 b s.bankCover s.bankCover).get f := by
  have hg : regAddr f.reg 0 0 = 0x2c00100 := by rw [hf]; rfl
  have he : regAddr R.TF_ROUTE_EVT 0 0 = 0x1200028 := rfl
  rw [State.get_settle_high _ (by rw [hf]; decide), State.bankFault_eq h]
  split
  · rw [State.get_bankRetired _ _ _ (by rw [hg, regAddr_bankStat]; omega) (by rw [hg, he]; decide), State.get_bankFaulted]
  · exact State.get_bankFaulted _ _ _ _ _

/-- The third fault in 24 hours retires the bank, and no earlier one. -/
theorem State.retired_bankFault {s : State} {b : Nat} (hb : b < 1024) (h : s.flag F.TF_BANK_STAT_retired b = false)
    (routes : Bool) : (s.bankFault b routes).settle.flag F.TF_BANK_STAT_retired b = true ↔
      2 ≤ (s.recentFaults b).length := by
  rw [State.flag_eq_true, State.get_settle_high _ (by decide), State.bankFault_eq h]
  split
  · next h2 => exact ⟨fun _ => h2, fun _ => State.retired_bankRetired _ _ _⟩
  · next h2 =>
    have hne : regAddr R.TF_BANK_STAT b 0 ≠ regAddr R.DT_GUAR_EVT 0 0 := by
      rw [regAddr_bankStat, show regAddr R.DT_GUAR_EVT 0 0 = 0x2c00100 from rfl]
      omega
    rw [State.get_bankFaulted, State.get_unitFault_reg _ _ _ _ _ hne, ← State.flag_eq_true, h]
    exact ⟨fun h => absurd h Bool.false_ne_true, fun h => absurd h h2⟩

/-- A bank that is not retired, or held no routes, changes its faults and registers alone. -/
theorem State.bankFault_keeps {s : State} {b : Nat} {routes : Bool} (h : s.flag F.TF_BANK_STAT_retired b = false)
    (hr : routes = false ∨ (s.recentFaults b).length < 2) : ∃ regs, s.bankFault b routes = { s with
      regs := regs, tbl := { s.tbl with bankFaults := tset s.tbl.bankFaults b (s.recentFaults b ++ [s.up]) } } := by
  obtain ⟨regs, hk⟩ := s.bankFaulted_keeps b
  rw [State.bankFault_eq h, hk]
  split
  · next h2 =>
    obtain rfl : routes = false := hr.resolve_right (by omega)
    exact ⟨_, rfl⟩
  · exact ⟨regs, rfl⟩

/-- What settles from a change of registers and tables alone. -/
theorem settle_of_regs_tbl (s : State) (regs : Tab Word) (tbl : TblSt) :
    { s with regs := regs, tbl := tbl }.settle =
      { s.settled { s with regs := regs, tbl := tbl }.settle with tbl := tbl } := by
  have h : ∀ t, { s with regs := regs, tbl := tbl }.settled t = { s.settled t with tbl := tbl } := fun _ => rfl
  exact (settled_settle _).trans (h _)

theorem tableScrub_fault (b : Nat) (routes : Bool) (s : State) (hl : s.live = true) (hb : b < 1024)
    (h : s.flag F.TF_BANK_STAT_retired b = false) :
    Answers (.tableScrub b (some routes)) s (fun t => tget? t.tbl.bankFaults b = some (s.recentFaults b ++ [s.up]) ∧
      (t.flag F.TF_BANK_STAT_retired b = true ↔ 2 ≤ (s.recentFaults b).length) ∧
      t.get F.DT_GUAR_EVT_unit_kind = 3 ∧ t.get F.DT_GUAR_EVT_unit_index = b ∧
      t.get F.DT_GUAR_EVT_unit_faults = satAdd (2 ^ F.DT_GUAR_EVT_unit_faults.w - 1) (s.get F.DT_GUAR_EVT_unit_faults) 1 ∧
      (s.bankCover = false → t.flag F.DT_GUAR_EVT_double_fault = true ∧ t.flag F.DT_GUAR_EVT_cover_lost = true) ∧
      ((routes = false ∨ (s.recentFaults b).length < 2) →
        t = { s.settled t with tbl := { s.tbl with bankFaults := t.tbl.bankFaults } }) ∧
      (routes = true → 2 ≤ (s.recentFaults b).length → t.flag F.TF_ROUTE_EVT_bank_retired = true ∧
        t.eng = { s.eng with dirty := true } ∧
        ∃ m : NodeMove, t.tbl.moves = s.tbl.moves ++ [m] ∧ m.bank = b ∧ 1 ≤ m.n ∧ m.live = false)) := by
  have hg : ∀ {f : Fld}, f.reg = R.DT_GUAR_EVT → (s.bankFault b routes).settle.get f =
      (s.unitFault 3 b s.bankCover s.bankCover).get f := fun hf => State.get_bankFault_guar hb h routes hf
  refine answers_okIf (exec_tableScrub b routes s) (by rw [hl, decide_eq_true hb]; rfl)
    ⟨?_, State.retired_bankFault hb h routes, ?_, ?_, ?_, fun hc => ⟨?_, ?_⟩, fun hr => ?_, fun hr h2 => ?_⟩
  · have hf : (s.bankFaulted b).tbl.bankFaults = tset s.tbl.bankFaults b (s.recentFaults b ++ [s.up]) := rfl
    rw [State.settle_tbl, State.bankFault_eq h]
    split
    · rw [State.bankRetired_tbl, hf, tget?_tset_self]
    · rw [hf, tget?_tset_self]
  · rw [hg rfl, State.unit_kind_unitFault _ _ _ _ (by decide)]
  · rw [hg rfl, State.unit_index_unitFault _ _ _ _ (by omega)]
  · rw [hg rfl, State.unit_faults_unitFault]
  · rw [State.flag_eq_true, hg rfl, hc, State.double_fault_unitFault]
  · rw [State.flag_eq_true, hg rfl, hc, State.cover_lost_unitFault]
  · obtain ⟨regs, hk⟩ := State.bankFault_keeps h hr
    simp only [State.settle_tbl]
    rw [hk]
    exact settle_of_regs_tbl s regs _
  · subst hr
    have hne : F.TF_ROUTE_EVT_bank_retired.reg.base = 0x1200028 := rfl
    have hk : (s.bankFaulted b).eng = s.eng ∧ (s.bankFaulted b).tbl.moves = s.tbl.moves := by
      obtain ⟨regs, hk⟩ := s.bankFaulted_keeps b
      rw [hk]
      exact ⟨rfl, rfl⟩
    obtain ⟨hev, he, m, hm⟩ := (s.bankFaulted b).bankRetired_routes b
    rw [State.flag_eq_true, State.get_settle_high _ (by rw [hne]; decide), State.settle_eng, State.settle_tbl,
      State.bankFault_eq h, if_pos h2]
    rw [hk.1] at he
    rw [hk.2] at hm
    exact ⟨hev, he, m, hm⟩

/-- A retired bank has no more faults. -/
theorem tableScrub_retired (b : Nat) (routes : Bool) (s : State) (hl : s.live = true) (hb : b < 1024)
    (h : s.flag F.TF_BANK_STAT_retired b = true) : Answers (.tableScrub b (some routes)) s (OnlyRegs [] s) := by
  refine answers_okIf (exec_tableScrub b routes s) (by rw [hl, decide_eq_true hb]; rfl) ?_
  rw [State.bankFault_retired h]
  exact (OnlyRegs.refl _ s).settle

/-- Settles O35: a repair is that of the oldest of the list, and a bank's fault is the unit fault recorded, with the
retirement behind it when it is the third. -/
theorem tableBanksAreRepairedScrubbedAndRetired : Obligations.TableBanksAreRepairedScrubbedAndRetired :=
  ⟨fun _ hl hw => ⟨tableRepair_empty hl hw, tableRepair_node hl hw, tableRepair_bucket hl hw⟩, tableRepair_runsDelete,
    tableScrub_fault, tableScrub_retired⟩

end Sys2Proof.Machine
end

section
/-! PROOFS. The admission loop (R381, R382). -/

namespace Sys2Proof.Machine

theorem exec_admissionLoopStep (s : State) : exec .admissionLoopStep s =
    okIf s.live s ((List.range 8).foldl (State.loopProfile s.sharedUsed s.sharedSize) s).xonAll := rfl

/-! ### Signed fields -/

theorem sgn_five_bounds (n : Nat) : -16 ≤ sgn 5 n ∧ sgn 5 n ≤ 15 := by
  unfold sgn
  split <;> omega

theorem sgn_unsgn_five {x : Int} (h1 : -16 ≤ x) (h2 : x ≤ 15) : sgn 5 (unsgn 5 x % 2 ^ 5) = x := by
  unfold sgn unsgn
  split <;> omega

/-! ### XON leaves the registers apart from its own (R384) -/

/-- XON touches DT_BUF_CNT[7] and DT_LOSSLESS. -/
theorem RegsIn.checkXon {lo hi : Nat} (s : State) (lc : Nat) (hk : hi ≤ 0x20000 ∨ 0x20200 ≤ lo)
    (h : hi ≤ 0x2800238 ∨ 0x2800240 ≤ lo ∧ hi ≤ 0x2810000) : RegsIn lo hi s (s.checkXon lc) := by
  have hc : regAddr cgBuf.reg (cntPlace cgBuf 0 7).1 (cntPlace cgBuf 0 7).2 = 0x2800238 := by decide
  unfold State.checkXon
  dsimp only
  split
  · exact (RegsIn.countsKeep s hk).count (fun t w ht => ht.trans (RegsIn.wr t w (by rw [hc]; omega)))
      (RegsIn.put_above _ _ _ _ (by rw [show F.DT_LOSSLESS_xoff.reg.base = 0x2810000 from rfl]; omega)) _
  · exact RegsIn.refl s

theorem RegsIn.xonAll {lo hi : Nat} (s : State) (hk : hi ≤ 0x20000 ∨ 0x20200 ≤ lo)
    (h : hi ≤ 0x2800238 ∨ 0x2800240 ≤ lo ∧ hi ≤ 0x2810000) : RegsIn lo hi s s.xonAll :=
  RegsIn.foldl (fun t lc => RegsIn.checkXon t lc hk h) _ s

theorem State.xonAll_buf (s : State) : s.xonAll.buf = s.buf := by
  refine State.xonAll_ind (P := fun t => t.buf = s.buf) (fun t lc _ ht => ?_) rfl
  unfold State.checkXon
  dsimp only
  split
  · rw [State.count_buf, State.putBit, State.put_buf, ht]
  · exact ht

/-! ### What a step for one profile leaves of another -/

/-- The count of refusals starts again. -/
def State.refsCleared (s : State) (c : Nat) : State :=
  { s with buf := { s.buf with thrRef := tdel s.buf.thrRef c } }

/-- The outcomes of a profile's step: its k is written, and the move is counted or the floor reported. -/
theorem State.loopProfile_ind {P : State → Prop} {s : State} {c : Nat} (used size : Nat) (h0 : P (s.refsCleared c))
    (hput : ∀ v, P ((s.refsCleared c).put F.DT_ADM_PROF_k v c))
    (hfloor : ∀ v, P (((s.refsCleared c).put F.DT_ADM_PROF_k v c).raise F.DT_BUF_EVT_loop_floor))
    (hcount : ∀ v, ∀ k < 16, P (((s.refsCleared c).put F.DT_ADM_PROF_k v c).count cgBuf k)) :
    P (s.loopProfile used size c) := by
  unfold State.loopProfile
  refine State.ite_ind (fun _ => State.ite_ind (fun _ => State.ite_ind (fun _ => hfloor _) fun _ => ?_) fun _ =>
    State.ite_ind (fun _ => ?_) fun _ => hput _) fun _ => h0
  · exact hcount _ 11 (by decide)
  · exact hcount _ 12 (by decide)

theorem regAddr_admProf (c : Nat) : regAddr R.DT_ADM_PROF c 0 = 0x2800100 + c * 8 := rfl

/-- What the loop reads for profile c: its register, the loop's, and its refused copies. The event of its floor stays. -/
structure LoopKeeps (c : Nat) (s t : State) : Prop where
  prof : t.rd R.DT_ADM_PROF c = s.rd R.DT_ADM_PROF c
  loop : t.rd R.DT_ADM_LOOP = s.rd R.DT_ADM_LOOP
  floor : s.get F.DT_BUF_EVT_loop_floor = 1 → t.get F.DT_BUF_EVT_loop_floor = 1
  ref : tget t.buf.thrRef c 0 = tget s.buf.thrRef c 0

namespace LoopKeeps

variable {c : Nat} {s t u : State}

theorem refl (s : State) : LoopKeeps c s s := ⟨rfl, rfl, id, rfl⟩

theorem trans (h : LoopKeeps c s t) (k : LoopKeeps c t u) : LoopKeeps c s u :=
  ⟨k.prof.trans h.prof, k.loop.trans h.loop, k.floor ∘ h.floor, k.ref.trans h.ref⟩

/-- Registers outside the configuration of admission do not matter. -/
theorem of_regsIn (hc : c < 8) (h : RegsIn 0x2800000 0x2800180 s t)
    (hr : tget t.buf.thrRef c 0 = tget s.buf.thrRef c 0) : LoopKeeps c s t where
  prof := h.rd (by rw [regAddr_admProf]; omega) (by rw [regAddr_admProf]; omega)
  loop := h.rd (by decide) (by decide)
  floor hs := (h.get (by decide) (by decide)).trans hs
  ref := hr

theorem count (hc : c < 8) (s : State) (k : Nat) (hk : k < 16) : LoopKeeps c s (s.count cgBuf k) := by
  have ha : regAddr cgBuf.reg (cntPlace cgBuf 0 k).1 (cntPlace cgBuf 0 k).2 = 0x2800200 + k * 8 := rfl
  refine of_regsIn hc ((RegsIn.countsKeep s (.inr (by decide))).count (fun t w ht => ht.trans (RegsIn.wr t w ?_))
    (RegsIn.refl s) _) (by rw [State.count_buf])
  rw [ha]
  omega

/-- A write of the k of another profile. -/
theorem putK (s : State) {d : Nat} (hd : d < 8) (h : d ≠ c) (v : Nat) :
    LoopKeeps c s (s.put F.DT_ADM_PROF_k v d) where
  prof := State.rd_put_ne _ _ (by
    rw [show F.DT_ADM_PROF_k.reg = R.DT_ADM_PROF from rfl, regAddr_admProf, regAddr_admProf]
    omega)
  loop := State.rd_put_ne _ _ (by
    rw [show F.DT_ADM_PROF_k.reg = R.DT_ADM_PROF from rfl, regAddr_admProf, show regAddr R.DT_ADM_LOOP 0 0 = 0x2800028 from rfl]
    omega)
  floor hs := (State.get_put_reg _ _ (by
    rw [show F.DT_ADM_PROF_k.reg = R.DT_ADM_PROF from rfl, regAddr_admProf,
      show regAddr F.DT_BUF_EVT_loop_floor.reg 0 0 = 0x2800038 from rfl]
    omega)).trans hs
  ref := rfl

theorem raiseFloor (s : State) : LoopKeeps c s (s.raise F.DT_BUF_EVT_loop_floor) where
  prof := State.rd_put_ne _ _ (by
    rw [regAddr_admProf, show regAddr F.DT_BUF_EVT_loop_floor.reg 0 0 = 0x2800038 from rfl]
    omega)
  loop := State.rd_put_ne _ _ (by decide)
  floor _ := State.get_raise_self _ _ _ _ (by decide) (by decide)
  ref := rfl

theorem refsCleared (s : State) {d : Nat} (h : d ≠ c) : LoopKeeps c s (s.refsCleared d) where
  prof := rfl
  loop := rfl
  floor := id
  ref := by simp only [State.refsCleared, tget, tget?_tdel_ne _ (Ne.symm h)]

theorem loopProfile (hc : c < 8) (used size : Nat) (s : State) {d : Nat} (hd : d < 8) (h : d ≠ c) :
    LoopKeeps c s (s.loopProfile used size d) := by
  have h0 := refsCleared s h
  have hp : ∀ v, LoopKeeps c s ((s.refsCleared d).put F.DT_ADM_PROF_k v d) := fun v => h0.trans (putK _ hd h v)
  exact State.loopProfile_ind used size h0 hp (fun v => (hp v).trans (raiseFloor _))
    fun v k hk => (hp v).trans (count hc _ k hk)

theorem loopProfiles (hc : c < 8) (used size : Nat) (l : List Nat) (hl : ∀ d ∈ l, d < 8 ∧ d ≠ c) (s : State) :
    LoopKeeps c s (l.foldl (State.loopProfile used size) s) := by
  induction l generalizing s with
  | nil => exact refl s
  | cons d l ih =>
    obtain ⟨hd, hne⟩ := hl d List.mem_cons_self
    exact (loopProfile hc used size s hd hne).trans (ih (fun e he => hl e (List.mem_cons_of_mem _ he)) _)

theorem xonAll (hc : c < 8) (s : State) : LoopKeeps c s s.xonAll :=
  of_regsIn hc (RegsIn.xonAll s (.inr (by decide)) (.inl (by decide))) (by rw [State.xonAll_buf])

theorem settle (hc : c < 8) (s : State) : LoopKeeps c s s.settle :=
  of_regsIn hc (RegsIn.settle s (.inr (by decide))) (by rw [State.settle_buf])

/-- A field of the profile. -/
theorem get (h : LoopKeeps c s t) {f : Fld} (hf : f.reg = R.DT_ADM_PROF := by rfl) : t.get f c = s.get f c := by
  unfold State.get
  rw [hf, h.prof]

theorem profK (h : LoopKeeps c s t) {f : Fld} (hf : f.reg = R.DT_ADM_PROF := by rfl) : t.profK f c = s.profK f c := by
  unfold State.profK
  rw [h.get hf]

theorem flag (h : LoopKeeps c s t) {f : Fld} (hf : f.reg = R.DT_ADM_PROF := by rfl) : t.flag f c = s.flag f c := by
  unfold State.flag
  rw [h.get hf]

/-- A field of the loop's register. -/
theorem getLoop (h : LoopKeeps c s t) {f : Fld} (hf : f.reg = R.DT_ADM_LOOP := by rfl) : t.get f = s.get f := by
  unfold State.get
  rw [hf, h.loop]

end LoopKeeps

/-- The loop's pass over the profiles is, for profile c, its own step between steps that leave it alone. -/
theorem loopProfiles_at {c : Nat} (hc : c < 8) (used size : Nat) (s : State) :
    ∃ u, LoopKeeps c s u ∧ LoopKeeps c (u.loopProfile used size c)
      ((List.range 8).foldl (State.loopProfile used size) s) := by
  obtain ⟨a, b, hab⟩ := List.append_of_mem (List.mem_range.2 hc)
  have hnd : (a ++ c :: b).Nodup := hab ▸ List.nodup_range
  have hlt : ∀ d ∈ a ++ c :: b, d < 8 := fun d hd => List.mem_range.1 (hab ▸ hd)
  rw [hab, List.foldl_append, List.foldl_cons]
  refine ⟨a.foldl (State.loopProfile used size) s, LoopKeeps.loopProfiles hc used size a (fun d hd => ⟨?_, ?_⟩) s,
    LoopKeeps.loopProfiles hc used size b (fun d hd => ⟨?_, ?_⟩) _⟩
  · exact hlt d (List.mem_append_left _ hd)
  · rintro rfl
    exact (List.disjoint_of_nodup_append hnd) hd List.mem_cons_self
  · exact hlt d (List.mem_append_right _ (List.mem_cons_of_mem _ hd))
  · rintro rfl
    exact (List.nodup_cons.1 (List.Nodup.of_append_right hnd)).1 hd

/-! ### The step for a profile -/

/-- A profile's own step, from what it reads. -/
structure LoopInput (s : State) (c : Nat) : Prop where
  en : s.flag F.DT_ADM_PROF_loop_en c = true
  top : s.profK F.DT_ADM_PROF_k c ≤ s.profK F.DT_ADM_PROF_k_max c
  bottom : s.profK F.DT_ADM_PROF_k_min c ≤ s.profK F.DT_ADM_PROF_k c
  order : s.get F.DT_ADM_LOOP_u_low < s.get F.DT_ADM_LOOP_u_high

theorem State.profK_putK (s : State) (c : Nat) {x : Int} (h1 : -16 ≤ x) (h2 : x ≤ 15) :
    (s.put F.DT_ADM_PROF_k (unsgn 5 x) c).profK F.DT_ADM_PROF_k c = x := by
  rw [State.profK, State.get_put_self _ _ _ _ _ (by decide)]
  exact sgn_unsgn_five h1 h2

theorem State.profK_count (s : State) {c k : Nat} (hc : c < 8) (hk : k < 16) (f : Fld) (hf : f.reg = R.DT_ADM_PROF) :
    (s.count cgBuf k).profK f c = s.profK f c := (LoopKeeps.count hc s k hk).profK hf

theorem loopProfile_high {s : State} {c used size : Nat} (hc : c < 8) (h : LoopInput s c)
    (hu : s.get F.DT_ADM_LOOP_u_high * size ≤ used * 100) :
    (s.profK F.DT_ADM_PROF_k_min c < s.profK F.DT_ADM_PROF_k c →
      (s.loopProfile used size c).profK F.DT_ADM_PROF_k c = s.profK F.DT_ADM_PROF_k c - 1) ∧
    (s.profK F.DT_ADM_PROF_k_min c = s.profK F.DT_ADM_PROF_k c →
      (s.loopProfile used size c).profK F.DT_ADM_PROF_k c = s.profK F.DT_ADM_PROF_k c ∧
      (s.loopProfile used size c).get F.DT_BUF_EVT_loop_floor = 1) := by
  obtain ⟨hen, htop, hbot, hord⟩ := h
  obtain ⟨hk1, hk2⟩ := sgn_five_bounds (s.get F.DT_ADM_PROF_k c)
  obtain ⟨hm1, hm2⟩ := sgn_five_bounds (s.get F.DT_ADM_PROF_k_min c)
  rw [← State.profK] at hk1 hk2 hm1 hm2
  unfold State.loopProfile
  dsimp only
  rw [min_eq_right htop, max_eq_right hbot, if_pos hen, if_pos hu]
  refine ⟨fun hlt => ?_, fun heq => ?_⟩
  · rw [if_neg (not_le.2 hlt), State.profK_count _ hc (by decide) _ rfl, State.profK_putK _ _ (by omega) (by omega)]
  · rw [if_pos heq.ge]
    exact ⟨((LoopKeeps.raiseFloor _).profK rfl).trans (State.profK_putK _ _ hk1 hk2),
      State.get_raise_self _ _ _ _ (by decide) (by decide)⟩

theorem loopProfile_low {s : State} {c used size : Nat} (hc : c < 8) (h : LoopInput s c)
    (hu : used * 100 < s.get F.DT_ADM_LOOP_u_low * size) (hr : 0 < tget s.buf.thrRef c 0)
    (hk : s.profK F.DT_ADM_PROF_k c < s.profK F.DT_ADM_PROF_k_max c) :
    (s.loopProfile used size c).profK F.DT_ADM_PROF_k c = s.profK F.DT_ADM_PROF_k c + 1 := by
  obtain ⟨hen, htop, hbot, hord⟩ := h
  obtain ⟨hk1, hk2⟩ := sgn_five_bounds (s.get F.DT_ADM_PROF_k c)
  obtain ⟨hm1, hm2⟩ := sgn_five_bounds (s.get F.DT_ADM_PROF_k_max c)
  rw [← State.profK] at hk1 hk2 hm1 hm2
  have hhi : ¬ s.get F.DT_ADM_LOOP_u_high * size ≤ used * 100 :=
    not_le.2 (lt_of_lt_of_le hu (Nat.mul_le_mul_right _ hord.le))
  have hlo : (used * 100 : Int) < (s.get F.DT_ADM_LOOP_u_low : Int) * size := by exact_mod_cast hu
  unfold State.loopProfile
  dsimp only
  rw [min_eq_right htop, max_eq_right hbot, if_pos hen, if_neg hhi, if_pos hord, if_pos ⟨hr, hlo, hk⟩,
    State.profK_count _ hc (by decide) _ rfl, State.profK_putK _ _ (by omega) (by omega)]

theorem loopProfile_off {s : State} {c : Nat} (used size : Nat) (h : s.flag F.DT_ADM_PROF_loop_en c = false) :
    (s.loopProfile used size c).profK F.DT_ADM_PROF_k c = s.profK F.DT_ADM_PROF_k c := by
  unfold State.loopProfile
  dsimp only
  rw [h, if_neg Bool.false_ne_true]
  rfl

/-- Every step starts the count of refusals of its profile again. -/
theorem loopProfile_ref (s : State) (used size c : Nat) : tget (s.loopProfile used size c).buf.thrRef c 0 = 0 := by
  have h0 : tget (s.refsCleared c).buf.thrRef c 0 = 0 := by
    simp only [State.refsCleared, tget, tget?_tdel_self, Option.getD_none]
  exact State.loopProfile_ind (P := fun t => tget t.buf.thrRef c 0 = 0) used size h0 (fun _ => h0) (fun _ => h0)
    fun v k _ => by rw [State.count_buf]; exact h0

theorem admissionLoopStep_moves (s : State) (hl : s.live = true) :
    Answers .admissionLoopStep s (fun t => ∀ c < 8, tget t.buf.thrRef c 0 = 0 ∧
      (s.flag F.DT_ADM_PROF_loop_en c = true → s.profK F.DT_ADM_PROF_k c ≤ s.profK F.DT_ADM_PROF_k_max c →
        s.get F.DT_ADM_LOOP_u_low < s.get F.DT_ADM_LOOP_u_high →
        (s.get F.DT_ADM_LOOP_u_high * s.sharedSize ≤ s.sharedUsed * 100 →
          (s.profK F.DT_ADM_PROF_k_min c < s.profK F.DT_ADM_PROF_k c →
            t.profK F.DT_ADM_PROF_k c = s.profK F.DT_ADM_PROF_k c - 1) ∧
          (s.profK F.DT_ADM_PROF_k_min c = s.profK F.DT_ADM_PROF_k c →
            t.profK F.DT_ADM_PROF_k c = s.profK F.DT_ADM_PROF_k c ∧ t.flag F.DT_BUF_EVT_loop_floor = true)) ∧
        (s.sharedUsed * 100 < s.get F.DT_ADM_LOOP_u_low * s.sharedSize → 0 < tget s.buf.thrRef c 0 →
          s.profK F.DT_ADM_PROF_k_min c ≤ s.profK F.DT_ADM_PROF_k c →
          s.profK F.DT_ADM_PROF_k c < s.profK F.DT_ADM_PROF_k_max c →
          t.profK F.DT_ADM_PROF_k c = s.profK F.DT_ADM_PROF_k c + 1)) ∧
      (s.flag F.DT_ADM_PROF_loop_en c = false → t.profK F.DT_ADM_PROF_k c = s.profK F.DT_ADM_PROF_k c)) := by
  refine answers_okIf (exec_admissionLoopStep s) hl fun c hc => ?_
  obtain ⟨u, hu, hv⟩ := loopProfiles_at hc s.sharedUsed s.sharedSize s
  have ht := (hv.trans (LoopKeeps.xonAll hc _)).trans (LoopKeeps.settle hc _)
  have hin : s.flag F.DT_ADM_PROF_loop_en c = true → s.profK F.DT_ADM_PROF_k c ≤ s.profK F.DT_ADM_PROF_k_max c →
      s.get F.DT_ADM_LOOP_u_low < s.get F.DT_ADM_LOOP_u_high →
      s.profK F.DT_ADM_PROF_k_min c ≤ s.profK F.DT_ADM_PROF_k c → LoopInput u c := fun h1 h2 h3 h4 =>
    ⟨hu.flag.trans h1, by rwa [hu.profK, hu.profK], by rwa [hu.profK, hu.profK], by rwa [hu.getLoop, hu.getLoop]⟩
  rw [State.flag_eq_true (f := F.DT_BUF_EVT_loop_floor), ht.profK]
  refine ⟨ht.ref.trans (loopProfile_ref _ _ _ _), fun hen htop hord => ⟨fun hhi => ⟨fun hlt => ?_, fun heq => ?_⟩,
    fun hlo hr hbot hk => ?_⟩, fun hen => ?_⟩
  · rw [← hu.getLoop (f := F.DT_ADM_LOOP_u_high)] at hhi
    have h := (loopProfile_high hc (hin hen htop hord hlt.le) hhi).1
    rw [hu.profK, hu.profK] at h
    exact h hlt
  · rw [← hu.getLoop (f := F.DT_ADM_LOOP_u_high)] at hhi
    have h := (loopProfile_high hc (hin hen htop hord heq.le) hhi).2
    rw [hu.profK, hu.profK] at h
    exact ⟨(h heq).1, ht.floor (h heq).2⟩
  · rw [← hu.getLoop (f := F.DT_ADM_LOOP_u_low)] at hlo
    have h := loopProfile_low hc (hin hen htop hord hbot) hlo (by rwa [hu.ref])
    rw [hu.profK, hu.profK] at h
    exact h hk
  · rw [loopProfile_off _ _ (hu.flag.trans hen), hu.profK]

end Sys2Proof.Machine
end

section
/-! PROOFS. Frames that the host injects, and failed macros of the buffer (R61 to R65, R639, R653 to R657). -/

namespace Sys2Proof.Machine

theorem exec_injectDescriptor (q : Nat) (w0 w1 : Word) (bytes : List Byte) (s : State) :
    exec (.injectDescriptor q w0 w1 bytes) s = okIf (s.live && decide (64 ≤ q ∧ q < 128) && s.qRuns q &&
      s.mayIssue 1 && s.injNext == some (q - 64)) s ((s.injTurn (q - 64)).inject q w1.toNat bytes) := rfl

theorem exec_bufferMacroFault (m : Nat) (s : State) : exec (.bufferMacroFault m) s =
    okIf (decide (RAISE ≤ s.mode) && decide (m < 544) && !s.buf.badMacros.contains m) s
      ({ s with buf := { s.buf with badMacros := s.buf.badMacros ++ [m] } }.unitFault 4 m
        (!s.buf.badMacros.any (fun n => n / 34 == m / 34)) false) := rfl

/-! ### The answer to a descriptor (R639, R653) -/

theorem State.qAdvance_keeps (s : State) (q n : Nat) :
    ∃ out host, s.qAdvance q n = { s with out := s.out ++ out, host := host } := by
  have hm : ∀ (t : State) v, ∃ out host, t.msixEvent v = { t with out := t.out ++ out, host := host } := fun t v => by
    unfold State.msixEvent
    split
    · exact ⟨_, _, rfl⟩
    · split
      · exact ⟨[], _, by rw [List.append_nil]⟩
      · exact ⟨[], t.host, by rw [List.append_nil]⟩
  unfold State.qAdvance
  dsimp only
  split
  · split
    · unfold State.qVector
      obtain ⟨out, host, h⟩ := hm { s with host := _ } (s.get F.TF_QCTX_CFG_vector q)
      exact ⟨out, host, h⟩
    · exact ⟨[], _, by rw [List.append_nil]⟩
  · exact ⟨[], s.host, by rw [List.append_nil]⟩

/-- A produced entry moves the device index; the rest is what is sent and the host's side. -/
theorem State.qProduced_keeps (s : State) (q n : Nat) :
    ∃ out host, s.qProduced q n = { s.addWrap F.TF_QCTX_STAT_dev_idx n q with out := s.out ++ out, host := host } := by
  obtain ⟨out, host, h⟩ := ((s.addWrap F.TF_QCTX_STAT_dev_idx n q).qWriteback q).qAdvance_keeps q n
  rw [State.qProduced, h, State.qWriteback]
  exact ⟨_, host, by rw [State.emit_out, List.append_assoc]; rfl⟩

theorem State.get_producedIdx (s : State) (out : List Out) (host : HostSt) (q n : Nat) :
    ({ s.addWrap F.TF_QCTX_STAT_dev_idx n q with out := out, host := host } : State).get F.TF_QCTX_STAT_dev_idx q =
      (s.get F.TF_QCTX_STAT_dev_idx q + n) % 2 ^ 32 :=
  s.get_put_self F.TF_QCTX_STAT_dev_idx (s.get F.TF_QCTX_STAT_dev_idx q + n) q 0 (by decide)

/-- The words that answer a descriptor (R653). -/
def injectWord (status refusal : Nat) : Word := BitVec.ofNat 64 (status + refusal * 256 + 2 ^ 63)

/-- A descriptor answered: its word is sent, its queue's index moves on, and nothing else but the host's side changes. -/
theorem State.injectDone_answers (s : State) (q status refusal : Nat) :
    .dmaWrite 1 (s.slotAddr q (s.get F.TF_QCTX_STAT_dev_idx q) + 16) [injectWord status refusal, 0] ∈
        (s.injectDone q status refusal).settle.out ∧
      (s.injectDone q status refusal).settle.get F.TF_QCTX_STAT_dev_idx q =
        (s.get F.TF_QCTX_STAT_dev_idx q + 1) % 2 ^ 32 ∧
      (s.injectDone q status refusal).settle.port = s.port ∧ (s.injectDone q status refusal).settle.buf = s.buf ∧
      ∀ (r : RegD) (i j : Nat), 0x30000 ≤ r.base → regAddr r i j ≠ regAddr R.TF_QCTX_STAT q 0 →
        (s.injectDone q status refusal).settle.rd r i j = s.rd r i j := by
  obtain ⟨out, host, h⟩ := (s.emit (.dmaWrite 1 (s.slotAddr q (s.get F.TF_QCTX_STAT_dev_idx q) + 16)
    [injectWord status refusal, 0])).qProduced_keeps q 1
  have hd : s.injectDone q status refusal = (s.emit (.dmaWrite 1 (s.slotAddr q (s.get F.TF_QCTX_STAT_dev_idx q) + 16)
    [injectWord status refusal, 0])).qProduced q 1 := rfl
  rw [hd, h]
  refine ⟨State.mem_out_settle ?_, ?_, ?_, ?_, fun r i j hr hne => ?_⟩
  · rw [State.emit_out]
    exact List.mem_append_left _ List.mem_append_cons_self
  · rw [State.get_settle_high _ (by decide)]
    exact (State.get_producedIdx (s.emit _) out host q 1).trans (by rw [State.emit_get])
  · rw [State.settle_port]
    rfl
  · rw [State.settle_buf]
    rfl
  · have ha : ∀ a < 0x30000, regAddr r i j ≠ a := fun a ha => by unfold regAddr; omega
    rw [State.rd_settle _ (ha _ (by decide)) (ha _ (by decide)) (ha _ (by decide))]
    exact State.rd_put_ne (s.emit _) _ hne

/-- Two states hold the same words in the registers of the queues. -/
def QueueRegs (s t : State) : Prop := ∀ (r : RegD) (i j : Nat), 0x100000000 ≤ r.base → t.rd r i j = s.rd r i j

theorem QueueRegs.of_regs {s t : State} (h : t.regs = s.regs) : QueueRegs s t := fun _ _ _ _ => State.rd_congr h _ _ _

theorem QueueRegs.trans {s t u : State} (h : QueueRegs s t) (k : QueueRegs t u) : QueueRegs s u :=
  fun r i j hr => (k r i j hr).trans (h r i j hr)

theorem QueueRegs.put (s : State) {f : Fld} {i j : Nat} (v : Nat) (h : regAddr f.reg i j < 0x100000000) :
    QueueRegs s (s.put f v i j) := fun r a b hr => State.rd_put_ne _ _ (by
  have : r.base ≤ regAddr r a b := by unfold regAddr; omega
  omega)

theorem QueueRegs.count (s : State) {g : CntGroup} (k : Nat) (hg : regAddr g.reg (cntPlace g 0 k).1 (cntPlace g 0 k).2 < 0x100000000) :
    QueueRegs s (s.count g k) := fun r a b hr => by
  have : r.base ≤ regAddr r a b := by unfold regAddr; omega
  exact State.rd_countAt_ne _ _ _ _ _ _ (.inr (by omega)) (by omega)

/-- The word of a descriptor goes where the queue's registers say. -/
theorem State.injectDone_out {s t : State} (h : QueueRegs s t) (q status refusal : Nat) :
    .dmaWrite 1 (s.slotAddr q (s.get F.TF_QCTX_STAT_dev_idx q) + 16) [injectWord status refusal, 0] ∈
      (t.injectDone q status refusal).settle.out := by
  obtain ⟨hout, -⟩ := t.injectDone_answers q status refusal
  have hs : ∀ idx, t.slotAddr q idx = s.slotAddr q idx := fun idx => by
    unfold State.slotAddr State.qSize State.qLog State.get
    rw [h _ _ _ (by decide), h _ _ _ (by decide)]
  have hi : t.get F.TF_QCTX_STAT_dev_idx q = s.get F.TF_QCTX_STAT_dev_idx q := by
    unfold State.get
    rw [h _ _ _ (by decide)]
  rwa [hs, hi] at hout

/-! ### A turn, and what the descriptor asks for -/

/-- A turn is the host's side alone. -/
theorem State.injTurn_keeps (s : State) (k : Nat) : ∃ host, s.injTurn k = { s with host := host } := by
  unfold State.injTurn
  dsimp only
  split
  · exact ⟨_, rfl⟩
  · exact ⟨_, rfl⟩

/-- Blocks are asked for of pools 0 to 2, one at least. -/
theorem blkReqs_cons {n : Nat} (h : 0 < n) : ∃ p r, blkReqs n = p :: r ∧ p < 3 := by
  cases hb : blkReqs n with
  | nil =>
    have hl := congrArg List.length hb
    simp [blkReqs] at hl
    omega
  | cons p r =>
    refine ⟨p, r, rfl, ?_⟩
    have hm : p ∈ blkReqs n := hb ▸ List.mem_cons_self
    simp only [blkReqs, List.mem_append, List.mem_replicate] at hm
    omega

section
/-! The kernel evaluates what a `match` is on before it compares two of them, and the size of a pool in blocks is a product
that it cannot evaluate on a state that it does not know. So a function here is first set equal to a variable, which its
own definition then gives, and what it matches on is made a variable in its turn. -/

variable {s : State} {e : Bool}

theorem State.take1_none (h : s.takeUp 1 e = none) (hc : s.takeCells 4 = none) : s.take1 e = none := by
  obtain ⟨f, hf⟩ : ∃ f, f = State.take1 := exists_eq
  obtain ⟨up, hup⟩ : ∃ up, up = State.takeUp := exists_eq
  rw [← hf]
  delta State.take1 at hf
  rw [← hup] at hf h
  subst hf
  dsimp only
  rw [h]
  exact hc

theorem State.takeKibs_none (n : Nat) (h : s.take1 e = none) : s.takeKibs e (n + 1) = none := by
  obtain ⟨f, hf⟩ : ∃ f, f = State.takeKibs := exists_eq
  obtain ⟨body, hbody⟩ : ∃ g, g = State.takeKibs._f := exists_eq
  obtain ⟨one, hone⟩ : ∃ one, one = State.take1 := exists_eq
  rw [← hf]
  delta State.takeKibs at hf
  rw [← hbody] at hf
  delta State.takeKibs._f at hbody
  rw [← hone] at hbody h
  subst hf hbody
  dsimp only
  rw [h]

theorem State.takeReq_none {p : Nat} (h : s.takeUp p e = none) (hk : s.takeKibs e 4 = none)
    (hc : s.takeCells 4 = none) : s.takeReq e p = none := by
  obtain ⟨f, hf⟩ : ∃ f, f = State.takeReq := exists_eq
  obtain ⟨up, hup⟩ : ∃ up, up = State.takeUp := exists_eq
  rw [← hf]
  delta State.takeReq at hf
  rw [← hup] at hf h
  subst hf
  dsimp only
  rw [h]
  dsimp only
  split
  · exact hk
  · split
    · exact hc
    · rfl

theorem State.takeAll_none (p : Nat) (r : List Nat) (h : s.takeReq e p = none) : s.takeAll e (p :: r) = none := by
  obtain ⟨f, hf⟩ : ∃ f, f = State.takeAll := exists_eq
  obtain ⟨body, hbody⟩ : ∃ g, g = State.takeAll._f := exists_eq
  obtain ⟨req, hreq⟩ : ∃ req, req = State.takeReq := exists_eq
  rw [← hf]
  delta State.takeAll at hf
  rw [← hbody] at hf
  delta State.takeAll._f at hbody
  rw [← hreq] at hbody h
  subst hf hbody
  dsimp only
  rw [h]

/-- A frame to send that finds no block is refused under NO_CELL. -/
theorem State.injectOut_none {bytes : List Byte} (q l w1 : Nat) (h : s.takeAll false (blkReqs (bytes.length + 4)) = none) :
    s.injectOut q l w1 bytes = ((s.raise F.DT_BUF_EVT_no_cell).count cgHost 3).injectDone q 3 2 := by
  obtain ⟨f, hf⟩ : ∃ f, f = State.injectOut := exists_eq
  obtain ⟨all, hall⟩ : ∃ all, all = State.takeAll := exists_eq
  rw [← hf]
  delta State.injectOut at hf
  rw [← hall] at hf h
  subst hf
  dsimp only
  rw [h]

end

/-- With no block and no part in any pool, no frame finds its blocks. -/
theorem State.takeAll_empty {s : State} (h : ∀ k < 3, s.poolHas k = false) {n : Nat} (hn : 0 < n) (e : Bool) :
    s.takeAll e (blkReqs n) = none := by
  have hfree : ∀ k < 3, s.poolFree k = 0 := fun k hk => by
    have := h k hk
    simp only [State.poolHas, Bool.or_eq_false_iff, decide_eq_false_iff_not] at this
    omega
  have hup : ∀ p < 3, s.takeUp p e = none := fun p hp => by
    have hl : s.larger p = none := by simp [State.larger, hfree 1 (by decide), hfree 2 (by decide)]
    rw [State.takeUp, h p hp, if_neg Bool.false_ne_true, hl]
  have hc : s.takeCells 4 = none := by rw [State.takeCells, h 0 (by decide), if_neg Bool.false_ne_true]
  obtain ⟨p, r, hr, hp⟩ := blkReqs_cons hn
  rw [hr]
  exact State.takeAll_none p r (State.takeReq_none (hup p hp) (State.takeKibs_none 3 (State.take1_none (hup 1 (by decide)) hc)) hc)

/-! ### The MAC's buffer does not see the host's side -/

theorem State.passOne_host (s : State) (host : HostSt) (p : Nat) :
    { s with host := host }.passOne p = { s.passOne p with host := host } := by
  have hp : ∀ n, { s with host := host }.pickPipe p n = s.pickPipe p n := fun _ => rfl
  have hx : { s with host := host }.phys p = s.phys p := rfl
  unfold State.passOne
  dsimp only
  rw [hx]
  split
  · rfl
  · rw [hp]
    split <;> rfl

theorem State.passFrames_host (s : State) (host : HostSt) (p : Nat) :
    { s with host := host }.passFrames p = { s.passFrames p with host := host } := by
  have hf : ∀ (l : List RxFrame) (t : State), l.foldl (fun t _ => t.passOne p) { t with host := host } =
      { l.foldl (fun t _ => t.passOne p) t with host := host } := fun l => by
    induction l with
    | nil => exact fun _ => rfl
    | cons f l ih =>
      intro t
      rw [List.foldl_cons, List.foldl_cons, State.passOne_host, ih]
  have hs : { s with host := host }.stampHigh p = { s.stampHigh p with host := host } := by
    unfold State.stampHigh
    split
    · next hb =>
      rw [if_pos]
      exact hb
    · next hb =>
      rw [if_neg]
      exact hb
  have hx : { s with host := host }.phys p = s.phys p := rfl
  rw [State.passFrames, State.passFrames, hs, hf, hx]

/-- A frame that fits enters the buffer of its port. -/
theorem State.intoMac_fits {s : State} {l : Nat} {f : RxFrame} (h : rxBytes (s.phys (l / 8)).inbuf + rxLen f ≤ 524288) :
    (s.intoMac l f).2 = (s.setPhys (l / 8) { s.phys (l / 8) with
      inbuf := (s.phys (l / 8)).inbuf ++ [f] }).passFrames (l / 8) := by
  unfold State.intoMac
  dsimp only
  rw [if_pos h]

theorem State.intoMac_host {s : State} {l : Nat} {f : RxFrame} (host : HostSt)
    (h : rxBytes (s.phys (l / 8)).inbuf + rxLen f ≤ 524288) :
    ({ s with host := host }.intoMac l f).2 = { (s.intoMac l f).2 with host := host } := by
  rw [State.intoMac_fits h, State.intoMac_fits (s := { s with host := host }) h, ← State.passFrames_host]
  rfl

/-! ### The clauses -/

/-- A command has one answer. -/
theorem Answers.of_next {c : Instr} {s t : State} {P : State → Prop} (h : Answers c s P) (ht : exec c s = .next t) : P t := by
  obtain ⟨u, hu, hP⟩ := h
  rw [ht] at hu
  cases hu
  exact hP

section
variable {q : Nat} {w0 w1 : Word} {bytes : List Byte} {s : State} (hl : s.live = true) (hq : 64 ≤ q) (hq' : q < 128)
  (hr : s.qRuns q = true) (hi : s.mayIssue 1 = true) (hn : s.injNext = some (q - 64))
include hl hq hq' hr hi hn

theorem answers_inject {P : State → Prop} (h : P ((s.injTurn (q - 64)).inject q w1.toNat bytes).settle) :
    Answers (.injectDescriptor q w0 w1 bytes) s P :=
  answers_okIf (exec_injectDescriptor q w0 w1 bytes s) (by rw [hl, hr, hi, hn, decide_eq_true ⟨hq, hq'⟩]; simp) h

/-- A frame of a wrong length, or for an absent port, is answered and nothing is injected. -/
theorem inject_badFrame (hb : bits w1.toNat 0 14 < 60 ∨ 15996 < bits w1.toNat 0 14 ∨ s.present (bits w1.toNat 15 8) = false) :
    Answers (.injectDescriptor q w0 w1 bytes) s (fun t =>
      .dmaWrite 1 (s.slotAddr q (s.get F.TF_QCTX_STAT_dev_idx q) + 16) [BitVec.ofNat 64 (1 + 2 ^ 63), 0] ∈ t.out ∧
        t.get F.TF_QCTX_STAT_dev_idx q = (s.get F.TF_QCTX_STAT_dev_idx q + 1) % 2 ^ 32 ∧
        t.port = s.port ∧ t.buf = s.buf) := by
  obtain ⟨host, ht⟩ := s.injTurn_keeps (q - 64)
  refine answers_inject hl hq hq' hr hi hn ?_
  have hd : (s.injTurn (q - 64)).inject q w1.toNat bytes = ({ s with host := host } : State).injectDone q 1 0 := by
    rw [ht]
    exact if_pos hb
  obtain ⟨hout, hidx, hport, hbuf, -⟩ := ({ s with host := host } : State).injectDone_answers q 1 0
  rw [hd]
  exact ⟨hout, hidx, hport, hbuf⟩

/-- A frame to send without a free block or part anywhere. -/
theorem inject_noCell (hlo : 60 ≤ bits w1.toNat 0 14) (hhi : bits w1.toNat 0 14 ≤ 15996)
    (hp : s.present (bits w1.toNat 15 8) = true) (hlen : bytes.length = bits w1.toNat 0 14)
    (hm : bitOf w1.toNat 14 = true) (hk : ∀ k < 3, s.poolHas k = false) :
    Answers (.injectDescriptor q w0 w1 bytes) s (fun t =>
      .dmaWrite 1 (s.slotAddr q (s.get F.TF_QCTX_STAT_dev_idx q) + 16)
        [BitVec.ofNat 64 (3 + 2 * 256 + 2 ^ 63), 0] ∈ t.out ∧
      t.flag F.DT_BUF_EVT_no_cell = true ∧ t.port = s.port ∧ t.buf = s.buf) := by
  obtain ⟨host, ht⟩ := s.injTurn_keeps (q - 64)
  have hnone : ({ s with host := host } : State).takeAll false (blkReqs (bytes.length + 4)) = none :=
    State.takeAll_empty (s := { s with host := host }) hk (by omega) false
  have hb : ¬(bits w1.toNat 0 14 < 60 ∨ 15996 < bits w1.toNat 0 14 ∨ s.present (bits w1.toNat 15 8) = false) := by
    rw [hp]
    simp only [Bool.true_eq_false, or_false]
    omega
  refine answers_inject hl hq hq' hr hi hn ?_
  rw [ht]
  generalize hu : ({ s with host := host } : State) = u at hnone
  have hd : u.inject q w1.toNat bytes = ((u.raise F.DT_BUF_EVT_no_cell).count cgHost 3).injectDone q 3 2 := by
    have hpu : u.present (bits w1.toNat 15 8) = s.present (bits w1.toNat 15 8) := by rw [← hu]; rfl
    rw [← hpu] at hb
    refine (if_neg hb).trans ((if_pos hm).trans ?_)
    rw [← hlen, List.take_length]
    exact State.injectOut_none q _ _ hnone
  have hport : u.port = s.port ∧ u.buf = s.buf ∧ u.regs = s.regs := by rw [← hu]; exact ⟨rfl, rfl, rfl⟩
  obtain ⟨-, -, hport', hbuf', hrd⟩ := ((u.raise F.DT_BUF_EVT_no_cell).count cgHost 3).injectDone_answers q 3 2
  rw [hd]
  refine ⟨State.injectDone_out ((QueueRegs.of_regs hport.2.2).trans ((QueueRegs.put u 1 (by decide)).trans
    (QueueRegs.count _ 3 (by decide)))) q 3 2, ?_, ?_, ?_⟩
  · have hne : regAddr R.DT_BUF_EVT 0 0 ≠ regAddr R.TF_QCTX_STAT q 0 := by
      rw [show regAddr R.TF_QCTX_STAT q 0 = 0x100010020 + q * 0x40 from rfl, show regAddr R.DT_BUF_EVT 0 0 = 0x2800038 from rfl]
      omega
    rw [State.flag_eq_true, State.get, show F.DT_BUF_EVT_no_cell.reg = R.DT_BUF_EVT from rfl, hrd _ _ _ (by decide) hne,
      State.count, State.rd_countAt_ne _ _ _ _ _ _ (.inr (by decide)) (by decide)]
    exact State.get_raise_self u F.DT_BUF_EVT_no_cell 0 0 (by decide) (by decide)
  · rw [hport', State.count_port, State.raise_port, hport.1]
  · rw [hbuf', State.count_buf, State.raise_buf, hport.2.1]

/-- A received frame that fits enters its port's MAC buffer. -/
theorem inject_received (l : Nat) (he : l = bits w1.toNat 15 8) (hlo : 60 ≤ bits w1.toNat 0 14)
    (hhi : bits w1.toNat 0 14 ≤ 15996) (hp : s.present l = true) (hlen : bytes.length = bits w1.toNat 0 14)
    (hm : bitOf w1.toNat 14 = false) (hfit : rxBytes (s.phys (l / 8)).inbuf + (bytes.length + 4) ≤ 524288) :
    Answers (.injectDescriptor q w0 w1 bytes) s (fun t =>
      .dmaWrite 1 (s.slotAddr q (s.get F.TF_QCTX_STAT_dev_idx q) + 16) [BitVec.ofNat 64 (2 ^ 63), 0] ∈ t.out ∧
      t.port = ((s.intoMac l ⟨l, 0, s.time, bytes, decide (s.maxFrame l < bytes.length + 4)⟩).2).port ∧
      t.rd R.TF_HOST_CNT 2 = cntAdd (s.rd R.TF_HOST_CNT 2) 1) := by
  subst he
  obtain ⟨host, ht⟩ := s.injTurn_keeps (q - 64)
  refine answers_inject hl hq hq' hr hi hn ?_
  generalize hf : (⟨bits w1.toNat 15 8, 0, s.time, bytes,
    decide (s.maxFrame (bits w1.toNat 15 8) < bytes.length + 4)⟩ : RxFrame) = f
  have hfit' : rxBytes (s.phys (bits w1.toNat 15 8 / 8)).inbuf + rxLen f ≤ 524288 := by rw [← hf]; exact hfit
  have hb : ¬(bits w1.toNat 0 14 < 60 ∨ 15996 < bits w1.toNat 0 14 ∨ s.present (bits w1.toNat 15 8) = false) := by
    rw [hp]
    simp only [Bool.true_eq_false, or_false]
    omega
  have hd : ({ s with host := host } : State).inject q w1.toNat bytes =
      ((({ s with host := host } : State).intoMac (bits w1.toNat 15 8) f).2.count cgHost 2).injectDone q 0 0 := by
    refine (if_neg hb).trans ((if_neg (by rw [hm]; exact Bool.false_ne_true)).trans ?_)
    rw [← hlen, List.take_length, ← hf]
    exact if_pos hfit
  rw [ht, hd, State.intoMac_host host hfit']
  have hregs : (s.intoMac (bits w1.toNat 15 8) f).2.regs = s.regs := by
    rw [State.intoMac_fits hfit', (State.passFrames_keeps _ _).1]
    rfl
  generalize (s.intoMac (bits w1.toNat 15 8) f).2 = m at hregs ⊢
  generalize hu : ({ m with host := host } : State) = u
  have hu' : u.regs = s.regs ∧ u.port = m.port := by rw [← hu]; exact ⟨hregs, rfl⟩
  obtain ⟨-, -, hport', -, hrd⟩ := (u.count cgHost 2).injectDone_answers q 0 0
  refine ⟨State.injectDone_out ((QueueRegs.of_regs hu'.1).trans (QueueRegs.count _ 2 (by decide))) q 0 0, ?_, ?_⟩
  · rw [hport', State.count_port, hu'.2]
  · have hne : regAddr R.TF_HOST_CNT 2 0 ≠ regAddr R.TF_QCTX_STAT q 0 := by
      rw [show regAddr R.TF_QCTX_STAT q 0 = 0x100010020 + q * 0x40 from rfl, show regAddr R.TF_HOST_CNT 2 0 = 0x1600110 from rfl]
      omega
    rw [hrd _ _ _ (by decide) hne, ← State.rd_congr hu'.1]
    exact u.rd_countAt_self cgHost 0 2 1 _ (by decide)

end

/-- What cover a stripe of the buffer had is gone when a part of it fails. -/
theorem bufferMacroFault_recorded (m : Nat) (s : State) (hl : s.live = true) (hm : m < 544) (hn : m ∉ s.buf.badMacros) :
    Answers (.bufferMacroFault m) s (fun t => t.buf = { s.buf with badMacros := s.buf.badMacros ++ [m] } ∧
      t.get F.DT_GUAR_EVT_unit_kind = 4 ∧ t.get F.DT_GUAR_EVT_unit_index = m ∧
      t.get F.DT_GUAR_EVT_unit_faults = min (2 ^ 32 - 1) (s.get F.DT_GUAR_EVT_unit_faults + 1) ∧
      t.flag F.DT_GUAR_EVT_cover_lost = true ∧
      ((∃ n ∈ s.buf.badMacros, n / 34 = m / 34) → t.flag F.DT_GUAR_EVT_double_fault = true) ∧
      RegsBut [regAddr R.DT_GUAR_EVT 0 0] s t) := by
  have hr : RAISE ≤ s.mode := le_trans (by decide) (of_decide_eq_true hl)
  generalize hc : (!s.buf.badMacros.any (fun n => n / 34 == m / 34)) = single
  generalize hu : ({ s with buf := { s.buf with badMacros := s.buf.badMacros ++ [m] } } : State) = u
  have hus : u.regs = s.regs ∧ u.buf = { s.buf with badMacros := s.buf.badMacros ++ [m] } := by
    rw [← hu]
    exact ⟨rfl, rfl⟩
  have he : exec (.bufferMacroFault m) s = okIf (decide (RAISE ≤ s.mode) && decide (m < 544) &&
      !s.buf.badMacros.contains m) s (u.unitFault 4 m single false) := by
    rw [← hu, ← hc]
    exact exec_bufferMacroFault m s
  refine answers_okIf he (by simp [hr, hm, hn]) ⟨?_, ?_, ?_, ?_, ?_, fun ⟨n, hmem, hst⟩ => ?_, ?_⟩
  · obtain ⟨regs, hk⟩ := u.unitFault_keeps 4 m single false
    rw [State.settle_buf, hk]
    exact hus.2
  · rw [State.get_settle_high _ (by decide), State.unit_kind_unitFault _ _ _ _ (by decide)]
  · rw [State.get_settle_high _ (by decide), State.unit_index_unitFault _ _ _ _ (by omega)]
  · rw [State.get_settle_high _ (by decide), State.unit_faults_unitFault, State.get_congr hus.1, satAdd,
      show F.DT_GUAR_EVT_unit_faults.w = 32 from rfl]
    split <;> omega
  · rw [State.flag_eq_true, State.get_settle_high _ (by decide), State.cover_lost_unitFault]
  · have hs : single = false := by
      rw [← hc, Bool.not_eq_false', List.any_eq_true]
      exact ⟨n, hmem, by simpa using hst⟩
    rw [hs, State.flag_eq_true, State.get_settle_high _ (by decide), State.double_fault_unitFault]
  · refine regsBut_settle_of (regsBut_trans ?_ (regsBut_unitFault u 4 m single false))
    exact fun a _ _ _ _ => by rw [hus.1]

/-- Settles O48: the loop's step for one profile stands between steps that leave it alone; a descriptor's answer is that of
its queue's registers, which nothing before it writes; the loss of a part of the buffer is a unit fault. -/
theorem admissionLoopInjectionAndBufferMacros : Obligations.AdmissionLoopInjectionAndBufferMacros :=
  ⟨admissionLoopStep_moves,
    fun q w0 w1 bytes s hl hq hq' hr hi hn => by
      obtain ⟨t, ht, -⟩ := answers_inject (w0 := w0) (w1 := w1) (bytes := bytes) (P := fun _ => True) hl hq hq' hr hi hn trivial
      exact ⟨t, ht, fun hb => (inject_badFrame hl hq hq' hr hi hn hb).of_next ht, fun hlo hhi hp hlen hm hk =>
        (inject_noCell hl hq hq' hr hi hn hlo hhi hp hlen hm hk).of_next ht⟩,
    fun q l w0 w1 bytes s hl hq hq' hr hi hn he hlo hhi hp hlen hm hfit =>
      inject_received hl hq hq' hr hi hn l he hlo hhi hp hlen hm hfit,
    bufferMacroFault_recorded⟩

end Sys2Proof.Machine
end

section
/-! PROOFS. What charging, freeing and reading bodies leaves of the rest of the state (R58, R369 to R375, R384, R394). -/

namespace Sys2Proof.Machine

/-- A count leaves a range apart from its own counter alone. -/
theorem RegsIn.countAt {lo hi : Nat} (s : State) (g : CntGroup) (i k n t : Nat) (hk : hi ≤ 0x20000 ∨ 0x20200 ≤ lo)
    (h : regAddr g.reg (cntPlace g i k).1 (cntPlace g i k).2 < lo ∨ hi ≤ regAddr g.reg (cntPlace g i k).1 (cntPlace g i k).2) :
    RegsIn lo hi s (s.countAt g i k n t) :=
  (RegsIn.countsKeep s hk).countAt (fun _ w hu => hu.trans (RegsIn.wr _ w h)) (RegsIn.refl s) n t

/-- A state without its registers, telemetry and free values, the transactions of its memories, and what the buffer holds
its bodies in: what storing and freeing bodies leaves. -/
def State.sansStore (s : State) : State :=
  { s with
    regs := [], tlm := tlm0, fv := 0, mem := memSt0
    buf := { s.buf with bodies := [], nextBody := 0, used := [], splits := [], nextSplit := 0, reseqUse := []
                        tether := 0, shared := 0, loss := [] } }

/-- An address outside the registers of the buffer that storing and freeing bodies leave alone: its configuration and its
events, and its counters but that of XON. -/
def OffStore (a : Nat) : Prop := a < 0x2800000 ∨ 0x2800238 ≤ a ∧ a < 0x2800240 ∨ 0x2810000 ≤ a

/-- Only what holds bodies changes, and registers off the buffer's configuration. -/
structure StoreKeeps (s t : State) : Prop where
  rest : t.sansStore = s.sansStore
  cfg : RegsIn 0x2800000 0x2800238 s t
  cnt : RegsIn 0x2800240 0x2810000 s t

namespace StoreKeeps

variable {s t u : State}

theorem refl (s : State) : StoreKeeps s s := ⟨rfl, RegsIn.refl s, RegsIn.refl s⟩

theorem trans (h : StoreKeeps s t) (k : StoreKeeps t u) : StoreKeeps s u :=
  ⟨k.rest.trans h.rest, h.cfg.trans k.cfg, h.cnt.trans k.cnt⟩

theorem of_regs (h : t.sansStore = s.sansStore) (hr : t.regs = s.regs) : StoreKeeps s t :=
  ⟨h, RegsIn.of_regs hr, RegsIn.of_regs hr⟩

theorem foldl {α : Type} {step : State → α → State} (h : ∀ s x, StoreKeeps s (step s x)) (l : List α) (s : State) :
    StoreKeeps s (l.foldl step s) := by
  induction l generalizing s with
  | nil => exact refl s
  | cons x l ih => exact (h s x).trans (ih _)

theorem of_sansCounts (h : t.sansCounts = s.sansCounts) : t.sansStore = s.sansStore :=
  (congrArg State.sansStore h : t.sansCounts.sansStore = s.sansCounts.sansStore)

theorem put (s : State) {f : Fld} {i j : Nat} (v : Nat) (h : OffStore (regAddr f.reg i j)) :
    StoreKeeps s (s.put f v i j) where
  rest := of_sansCounts (State.sansCounts_put s f v i j)
  cfg := RegsIn.put s v (by unfold OffStore at h; omega)
  cnt := RegsIn.put s v (by unfold OffStore at h; omega)

theorem countAt (s : State) (g : CntGroup) (i k n t : Nat)
    (h : OffStore (regAddr g.reg (cntPlace g i k).1 (cntPlace g i k).2)) : StoreKeeps s (s.countAt g i k n t) where
  rest := of_sansCounts (State.sansCounts_countAt s g i k n t)
  cfg := RegsIn.countAt s g i k n t (.inr (by decide)) (by unfold OffStore at h; omega)
  cnt := RegsIn.countAt s g i k n t (.inr (by decide)) (by unfold OffStore at h; omega)

theorem offStore_above {r : RegD} (h : 0x2810000 ≤ r.base) (i j : Nat) : OffStore (regAddr r i j) :=
  .inr (.inr (by unfold regAddr; omega))

theorem checkXon (s : State) (lc : Nat) : StoreKeeps s (s.checkXon lc) := by
  unfold State.checkXon
  dsimp only
  split
  · exact (put s _ (offStore_above (by decide) _ _)).trans (countAt _ cgBuf 0 7 1 _ (.inr (.inl (by decide))))
  · exact refl s

theorem xonAll (s : State) : StoreKeeps s s.xonAll := foldl checkXon _ s

theorem xonAfter (s : State) (b : BufSt) (h : ({ s with buf := b } : State).sansStore = s.sansStore) :
    StoreKeeps s ({ s with buf := b } : State).xonAll := (of_regs h rfl).trans (xonAll _)

theorem uncharge (s : State) (c : Charge) (n : Nat) : StoreKeeps s (s.uncharge c n) := by
  cases c with
  | reseq p => exact xonAfter s _ rfl
  | shared => exact xonAfter s _ rfl
  | tether => exact xonAfter s _ rfl
  | lossless lc => exact xonAfter s _ rfl
  | free => exact refl s

theorem freeBlk (s : State) (b : Blk) : StoreKeeps s (s.freeBlk b) := by
  unfold State.freeBlk
  split
  · exact of_regs rfl rfl
  · split
    · exact refl s
    · split
      · exact of_regs rfl rfl
      · exact of_regs rfl rfl

theorem freeBlks (s : State) (l : List Blk) : StoreKeeps s (s.freeBlks l) := foldl freeBlk l s

theorem setBody (s : State) (h : Nat) (b : Body) : StoreKeeps s (s.setBody h b) := of_regs rfl rfl

theorem newBody (s : State) (b : Body) : StoreKeeps s (s.newBody b).2 := of_regs rfl rfl

theorem dropBody (s : State) (h : Nat) :
    StoreKeeps s { s with buf := { s.buf with bodies := tdel s.buf.bodies h } } := of_regs rfl rfl

theorem freeBody (s : State) (h : Nat) : StoreKeeps s (s.freeBody h) :=
  ((freeBlks s (s.body h).blks).trans (uncharge _ (s.body h).charge (blksSize (s.body h).blks))).trans (dropBody _ h)

theorem resolve (s : State) (h : Nat) : StoreKeeps s (s.resolve h) := by
  unfold State.resolve
  split
  · exact refl s
  · split
    · exact freeBody s h
    · exact setBody s h _

/-- The counters of losses lie apart from the buffer's. -/
theorem lossAt (s : State) (k l a : Nat) : StoreKeeps s (s.lossAt k l a) :=
  (countAt s cgLoss 0 k 1 _ (offStore_above (by decide) _ _)).trans (countAt _ cgPort l k 1 _ (offStore_above (by decide) _ _))

theorem pktCount (s : State) (k : Nat) (x : Pkt) : StoreKeeps s (s.pktCount k x) := by
  unfold State.pktCount
  split
  · exact lossAt s k _ _
  · exact countAt s cgLoss 0 k 1 _ (offStore_above (by decide) _ _)

theorem lostCopy (s : State) (x : Pkt) : StoreKeeps s (s.lostCopy x) :=
  ((pktCount s 0x19 x).trans (put _ 1 (offStore_above (by decide) _ _))).trans (resolve _ _)

theorem external (s : State) (x : Pkt) : StoreKeeps s (s.external x) := by
  have h : StoreKeeps s (if x.best = 3 then s else s.pktCount (if x.best = 2 then 0x13 else 0x10) x) :=
    State.ite_ind (fun _ => refl s) fun _ => pktCount s _ x
  exact h.trans (resolve _ _)

theorem readOk (s : State) : StoreKeeps s s.readOk.2 := by
  unfold State.readOk
  split
  · exact of_regs rfl rfl
  · exact refl s

/-! ### The tail (R394, R554, R567) -/

theorem bodyToTail (s : State) (h : Nat) : StoreKeeps s (s.bodyToTail h).2 := by
  unfold State.bodyToTail
  dsimp only
  split
  · exact ((freeBlks s (s.body h).blks).trans (uncharge _ (s.body h).charge (blksSize (s.body h).blks))).trans (setBody _ h _)
  · exact (setBody s h _).trans (newBody _ _)

theorem settleStaged (s : State) (n : Nat) (l : List VPkt) : StoreKeeps s (settleStaged s n l).1 := by
  induction l generalizing s with
  | nil => exact refl s
  | cons e r ih =>
    unfold Machine.settleStaged
    dsimp only
    split
    · split
      · exact ((readOk s).trans (bodyToTail _ _)).trans (ih _)
      · exact ((readOk s).trans (lostCopy _ _)).trans (ih _)
    · exact ih s

theorem setMemq (s : State) (ch : Nat) (q : MemQ) : StoreKeeps s (s.setMemq ch q) := by
  unfold State.setMemq
  split
  · exact of_regs rfl rfl
  · exact of_regs rfl rfl

theorem tailUnit (s : State) (rank grp row : Nat) (w : Bool) (pos : Nat) : StoreKeeps s (s.tailUnit rank grp row w pos) := by
  unfold State.tailUnit
  dsimp only
  split
  · exact setMemq s _ _
  · exact refl s

theorem rowWrite (s : State) (grp row : Nat) : StoreKeeps s (s.rowWrite grp row) := foldl (fun t p => tailUnit t _ _ _ _ p) _ s

theorem setChan (s : State) (ch : Nat) (c : MemCh) :
    StoreKeeps s { s with mem := { s.mem with chans := tset s.mem.chans ch c } } := of_regs rfl rfl

theorem logSkipped (s : State) (g seg : Nat) : StoreKeeps s (s.logSkipped g seg) :=
  foldl (fun t i => (setChan t (13 * g + i) _).trans (put _ _ (offStore_above (by decide) _ _))) _ s

/-! ### What that keeps -/

theorem voqs (h : StoreKeeps s t) : t.buf.voqs = s.buf.voqs := (congrArg (fun u => u.buf.voqs) h.rest :)
theorem views (h : StoreKeeps s t) : t.buf.views = s.buf.views := (congrArg (fun u => u.buf.views) h.rest :)
theorem badMacros (h : StoreKeeps s t) : t.buf.badMacros = s.buf.badMacros := (congrArg (fun u => u.buf.badMacros) h.rest :)
theorem ctOff (h : StoreKeeps s t) : t.buf.ctOff = s.buf.ctOff := (congrArg (fun u => u.buf.ctOff) h.rest :)
theorem sch (h : StoreKeeps s t) : t.sch = s.sch := (congrArg State.sch h.rest :)
theorem port (h : StoreKeeps s t) : t.port = s.port := (congrArg State.port h.rest :)
theorem fab (h : StoreKeeps s t) : t.fab = s.fab := (congrArg State.fab h.rest :)
theorem act (h : StoreKeeps s t) : t.act = s.act := (congrArg State.act h.rest :)
theorem out (h : StoreKeeps s t) : t.out = s.out := (congrArg State.out h.rest :)

theorem voq (h : StoreKeeps s t) (v : Nat) : t.voq v = s.voq v := by rw [State.voq, h.voqs, State.voq]

theorem deadStripe (h : StoreKeeps s t) : t.deadStripe = s.deadStripe := by rw [State.deadStripe, h.badMacros, State.deadStripe]

end StoreKeeps

end Sys2Proof.Machine
end

section
/-! PROOFS. Rows of the tail, read-back, and what an expired hold does to queues (R72, R391 to R400, R554, R555). -/

namespace Sys2Proof.Machine

theorem exec_tailRowWrite (v : Nat) (s : State) : exec (.tailRowWrite v) s =
    okIf (s.live && decide ((s.voq v).written + s.rowSize ≤ (s.voq v).wOff)) s
      (s.writeRows v ((s.voq v).written + s.rowSize)) := rfl

theorem exec_tailRowTimeout (v : Nat) (s : State) : exec (.tailRowTimeout v) s =
    okIf (s.live && decide ((s.voq v).written < (s.voq v).wOff ∧
      (s.voq v).wOff < (s.voq v).written + s.rowSize ∧ (s.voq v).fedAt + 100000 ≤ s.up)) s (s.padRow v) := rfl

theorem exec_tailReadback (v : Nat) (s : State) : exec (.tailReadback v) s =
    okIf (s.live && (s.voq v).spilling && decide (2 * voqDie (s.voq v) < s.spillAt v) &&
      decide (segSize ≤ s.freeShared ∧ 0 < voqTail (s.voq v))) s ((s.readBack v).voqSync v) := rfl

/-! ### VOQs by id -/

theorem State.voq_setVoq_self (s : State) (v : Nat) (x : Voq) : (s.setVoq v x).voq v = x := tget_tput_self _ _ _ _

theorem State.voq_setVoq_ne (s : State) {v k : Nat} (x : Voq) (h : k ≠ v) : (s.setVoq v x).voq k = s.voq k :=
  tget_tput_ne _ _ _ _ h

theorem State.voq_congr {s t : State} (h : t.buf.voqs = s.buf.voqs) (v : Nat) : t.voq v = s.voq v := by
  rw [State.voq, h, State.voq]

theorem State.voq_settle (s : State) (v : Nat) : s.settle.voq v = s.voq v := State.voq_congr (by rw [State.settle_buf]) v

/-- A chain whose tail holds bytes goes on. -/
theorem State.closeChain_of_tail {s : State} {v : Nat} (h : 0 < voqTail (s.voq v)) : s.closeChain v = s := if_pos h

/-! ### Rows written (R394, R555) -/

/-- The bytes of entries in the tail, staging included. -/
def tailBytes (l : List VPkt) : Nat := ((l.filter (fun e => decide (e.place ≠ .die))).map (fun e => e.pkt.a)).sum

theorem voqTail_eq (x : Voq) : voqTail x = tailBytes x.q := rfl

theorem tailBytes_cons (e : VPkt) (l : List VPkt) :
    tailBytes (e :: l) = (if e.place = .die then 0 else e.pkt.a) + tailBytes l := by
  unfold tailBytes
  by_cases h : e.place = .die <;> simp [h]

/-- While every body can be read, an entry below the written offset moves to the tail and none is lost. -/
theorem settleStaged_list (n : Nat) (l : List VPkt) (s : State) (hd : s.deadStripe = false) :
    tailBytes (settleStaged s n l).2 = tailBytes l ∧
      ∀ e ∈ (settleStaged s n l).2, e.place = .staged → n < e.off + e.pkt.a := by
  induction l generalizing s with
  | nil => exact ⟨rfl, fun _ h => absurd h List.not_mem_nil⟩
  | cons e r ih =>
    have hok : s.readOk = (true, s) := by rw [State.readOk, hd, if_neg Bool.false_ne_true]
    unfold settleStaged
    dsimp only
    split
    · next hs =>
      rw [hok, if_pos rfl]
      dsimp only
      obtain ⟨hsum, hall⟩ := ih (s.bodyToTail e.pkt.body).2 ((StoreKeeps.bodyToTail s _).deadStripe.trans hd)
      refine ⟨?_, fun x hx hst => ?_⟩
      · rw [tailBytes_cons, tailBytes_cons, hsum, hs.1]
        rfl
      · rcases List.mem_cons.1 hx with rfl | hx
        · exact Place.noConfusion hst
        · exact hall x hx hst
    · next hs =>
      obtain ⟨hsum, hall⟩ := ih s hd
      refine ⟨by rw [tailBytes_cons, tailBytes_cons, hsum], fun x hx hst => ?_⟩
      rcases List.mem_cons.1 hx with rfl | hx
      · exact not_le.1 fun h => hs ⟨hst, h⟩
      · exact hall x hx hst

/-- What rows written up to an offset leave of a queue whose tail holds bytes. -/
structure RowsWritten (s t : State) (v upto : Nat) : Prop where
  written : (t.voq v).written = upto
  wOff : (t.voq v).wOff = max (s.voq v).wOff upto
  segs : (t.voq v).segs = (s.voq v).segs
  staged : ∀ e ∈ (t.voq v).q, e.place = .staged → upto < e.off + e.pkt.a
  others : ∀ k, k ≠ v → t.voq k = s.voq k

theorem writeRows_written {s : State} {v : Nat} (upto : Nat) (hd : s.deadStripe = false) (ht : 0 < voqTail (s.voq v)) :
    RowsWritten s (s.writeRows v upto).settle v upto := by
  unfold State.writeRows
  dsimp only
  have hw := (StoreKeeps.logSkipped s ((s.voq v).segs.getD ((s.voq v).written / segSize - (s.voq v).segBase) 0 / 524288)
    ((s.voq v).segs.getD ((s.voq v).written / segSize - (s.voq v).segBase) 0)).trans (StoreKeeps.rowWrite _
      ((s.voq v).segs.getD ((s.voq v).written / segSize - (s.voq v).segBase) 0 / 524288)
      (s.rowAt ((s.voq v).segs.getD ((s.voq v).written / segSize - (s.voq v).segBase) 0) (s.voq v).written))
  generalize State.rowWrite _ _ _ = u at hw ⊢
  obtain ⟨hsum, hall⟩ := settleStaged_list upto (s.voq v).q u (hw.deadStripe.trans hd)
  have hk := hw.trans (StoreKeeps.settleStaged u upto (s.voq v).q)
  generalize settleStaged u upto (s.voq v).q = r at hsum hall hk ⊢
  generalize hy : ({ s.voq v with q := r.2, written := upto, wOff := max (s.voq v).wOff upto } : Voq) = y
  have hc : (r.1.setVoq v y).closeChain v = r.1.setVoq v y := State.closeChain_of_tail (by
    rw [State.voq_setVoq_self, ← hy, voqTail_eq, hsum]
    exact ht)
  rw [hc]
  refine ⟨?_, ?_, ?_, ?_, fun k hne => ?_⟩
  · rw [State.voq_settle, State.voq_setVoq_self, ← hy]
  · rw [State.voq_settle, State.voq_setVoq_self, ← hy]
  · rw [State.voq_settle, State.voq_setVoq_self, ← hy]
  · rw [State.voq_settle, State.voq_setVoq_self, ← hy]
    exact hall
  · rw [State.voq_settle, State.voq_setVoq_ne _ _ hne, hk.voq]

theorem tailRowWrite_writes (v : Nat) (s : State) (hl : s.live = true) (hr : (s.voq v).written + s.rowSize ≤ (s.voq v).wOff)
    (hd : s.deadStripe = false) (ht : 0 < voqTail (s.voq v)) :
    Answers (.tailRowWrite v) s (fun t => (t.voq v).written = (s.voq v).written + s.rowSize ∧
      (t.voq v).wOff = (s.voq v).wOff ∧ (t.voq v).segs = (s.voq v).segs ∧
      (∀ e ∈ (t.voq v).q, e.place = .staged → (s.voq v).written + s.rowSize < e.off + e.pkt.a) ∧
      (∀ k, k ≠ v → t.voq k = s.voq k)) := by
  obtain ⟨hw, hoff, hsegs, hst, hoth⟩ := writeRows_written ((s.voq v).written + s.rowSize) hd ht
  exact answers_okIf (exec_tailRowWrite v s) (by simp [hl, hr]) ⟨hw, hoff.trans (max_eq_left hr), hsegs, hst, hoth⟩

/-- The end of the row in which an offset lies. -/
theorem rowEnd_spec {w r : Nat} (hr : 0 < r) : w ≤ (w + r - 1) / r * r ∧ (w + r - 1) / r * r % r = 0 := by
  refine ⟨?_, Nat.mul_mod_left _ _⟩
  have h1 := Nat.div_add_mod (w + r - 1) r
  have h2 := Nat.mod_lt (w + r - 1) hr
  rw [Nat.mul_comm] at h1
  omega

theorem tailRowTimeout_writes (v : Nat) (s : State) (hl : s.live = true) (h1 : (s.voq v).written < (s.voq v).wOff)
    (h2 : (s.voq v).wOff < (s.voq v).written + s.rowSize) (hf : (s.voq v).fedAt + 100000 ≤ s.up)
    (hd : s.deadStripe = false) (ht : 0 < voqTail (s.voq v)) :
    Answers (.tailRowTimeout v) s (fun t => (t.voq v).wOff = (t.voq v).written ∧ (s.voq v).wOff ≤ (t.voq v).wOff ∧
      (t.voq v).written % s.rowSize = 0 ∧
      (∀ e ∈ (t.voq v).q, e.place = .staged → (t.voq v).written < e.off + e.pkt.a)) := by
  have hp : s.padRow v = s.writeRows v (((s.voq v).wOff + s.rowSize - 1) / s.rowSize * s.rowSize) := if_pos h1
  obtain ⟨hle, hmod⟩ := rowEnd_spec (w := (s.voq v).wOff) (r := s.rowSize) (by omega)
  obtain ⟨hw, hoff, -, hst, -⟩ := writeRows_written (((s.voq v).wOff + s.rowSize - 1) / s.rowSize * s.rowSize) hd ht
  rw [max_eq_right hle] at hoff
  refine answers_okIf (exec_tailRowTimeout v s) (by simp [hl, h1, h2, hf]) ?_
  rw [hp]
  exact ⟨hoff.trans hw.symm, by rw [hoff]; exact hle, by rw [hw]; exact hmod, by rw [hw]; exact hst⟩

/-! ### What hold expiry and requests leave alone -/

/-- The views of ports stay, and the registers of the buffer that storing leaves. -/
structure HoldKeeps (s t : State) : Prop where
  views : t.buf.views = s.buf.views
  cfg : RegsIn 0x2800000 0x2800238 s t
  cnt : RegsIn 0x2800240 0x2810000 s t

namespace HoldKeeps

variable {s t u : State}

theorem refl (s : State) : HoldKeeps s s := ⟨rfl, RegsIn.refl s, RegsIn.refl s⟩

theorem trans (h : HoldKeeps s t) (k : HoldKeeps t u) : HoldKeeps s u :=
  ⟨k.views.trans h.views, h.cfg.trans k.cfg, h.cnt.trans k.cnt⟩

theorem of_store (h : StoreKeeps s t) : HoldKeeps s t := ⟨h.views, h.cfg, h.cnt⟩

theorem of_regs (h : t.buf.views = s.buf.views) (hr : t.regs = s.regs) : HoldKeeps s t :=
  ⟨h, RegsIn.of_regs hr, RegsIn.of_regs hr⟩

theorem foldl {α : Type} {step : State → α → State} (h : ∀ s x, HoldKeeps s (step s x)) (l : List α) (s : State) :
    HoldKeeps s (l.foldl step s) := by
  induction l generalizing s with
  | nil => exact refl s
  | cons x l ih => exact (h s x).trans (ih _)

theorem setVoq (s : State) (v : Nat) (x : Voq) : HoldKeeps s (s.setVoq v x) := of_regs rfl rfl

theorem countSched (s : State) (k i n : Nat) : HoldKeeps s (s.count cgSched k i n) :=
  of_store (StoreKeeps.countAt s _ _ _ _ _ (StoreKeeps.offStore_above (by decide) _ _))

theorem setMsgs (s : State) (m : Nat) (q : MsgQ) : HoldKeeps s (s.setMsgs m q) := of_regs rfl rfl

theorem releaseResv (s : State) (src l c n : Nat) : HoldKeeps s (s.releaseResv src l c n) := by
  have h : ∀ r, HoldKeeps s { s with buf := { s.buf with resv := r } } := fun r => of_regs rfl rfl
  exact (h _).trans (of_store (StoreKeeps.xonAll _))

theorem creditReq (s : State) (src : Nat) (w : Word) : HoldKeeps s (s.creditReq src w) := by
  have h : ∀ r, HoldKeeps s { s with sch := { s.sch with reqs := r } } := fun r => of_regs rfl rfl
  unfold State.creditReq
  exact State.ite_ind (fun _ => h _) fun _ => (h _).trans (releaseResv _ _ _ _ _)

theorem sendReq (s : State) (v : Nat) (on : Bool) (ret : Nat) : HoldKeeps s (s.sendReq v on ret) := by
  have h : HoldKeeps s (if 0 < ret then s.count cgSched 4 else s) :=
    State.ite_ind (fun _ => countSched s 4 0 1) fun _ => refl s
  unfold State.sendReq
  exact State.ite_ind (fun _ => h.trans (creditReq _ _ _)) fun _ =>
    h.trans ((setMsgs _ _ _).trans (countSched _ _ _ _))

theorem voqSync (s : State) (v : Nat) : HoldKeeps s (s.voqSync v) := by
  unfold State.voqSync
  exact State.ite_ind (fun _ => (setVoq s _ _).trans (sendReq _ _ _ _)) fun _ =>
    State.ite_ind (fun _ => refl s) fun _ => (setVoq s _ _).trans (sendReq _ _ _ _)

theorem dropSegs (s : State) (l : List Nat) : HoldKeeps s (l.foldl State.dropSeg s) := foldl (fun t k => of_regs (t := t.dropSeg k) rfl rfl) l s

theorem closeChain (s : State) (v : Nat) : HoldKeeps s (s.closeChain v) := by
  unfold State.closeChain
  exact State.ite_ind (fun _ => refl s) fun _ => (dropSegs s _).trans (setVoq _ _ _)

theorem writeRows (s : State) (v upto : Nat) : HoldKeeps s (s.writeRows v upto) := by
  unfold State.writeRows
  exact (((of_store (StoreKeeps.logSkipped s _ _)).trans (of_store (StoreKeeps.rowWrite _ _ _))).trans
    (of_store (StoreKeeps.settleStaged _ _ _))).trans ((setVoq _ _ _).trans (closeChain _ _))

theorem padRow (s : State) (v : Nat) : HoldKeeps s (s.padRow v) := by
  unfold State.padRow
  exact State.ite_ind (fun _ => writeRows s v _) fun _ => refl s

theorem external (s : State) (x : Pkt) : HoldKeeps s (s.external x) := of_store (StoreKeeps.external s x)

theorem pktCount (s : State) (k : Nat) (x : Pkt) : HoldKeeps s (s.pktCount k x) := of_store (StoreKeeps.pktCount s k x)

theorem flushVoq (s : State) (v : Nat) : HoldKeeps s (s.flushVoq v) := by
  have h0 : HoldKeeps s ((s.voq v).q.foldl (fun (t : State) e => t.external e.pkt) s) :=
    foldl (fun t (e : VPkt) => external t e.pkt) _ s
  unfold State.flushVoq
  dsimp only
  generalize (s.voq v).q.foldl (fun (t : State) e => t.external e.pkt) s = u at h0 ⊢
  exact ((h0.trans (setVoq u v _)).trans (closeChain _ v)).trans (voqSync _ v)

theorem moveVoq (s : State) (v m l : Nat) : HoldKeeps s (s.moveVoq v m l) := by
  have h0 : HoldKeeps s ((s.voq v).q.foldl (fun (t : State) e =>
      if e.pkt.moved then t.external e.pkt else t.pktCount 0x11 e.pkt) s) :=
    foldl (fun t e => State.ite_ind (fun _ => external t _) fun _ => pktCount t _ _) _ s
  have hs : ∀ (t : State) r, HoldKeeps t { t with buf := { t.buf with segsUsed := r } } := fun t r => of_regs rfl rfl
  unfold State.moveVoq
  exact State.ite_ind (fun _ => refl s) fun _ => h0.trans ((setVoq _ _ _).trans ((closeChain _ _).trans ((padRow _ _).trans
    ((padRow _ _).trans ((hs _ _).trans ((setVoq _ _ _).trans ((setVoq _ _ _).trans ((voqSync _ _).trans (voqSync _ _)))))))))

theorem appendVoq (s : State) (v : Nat) (l : List Pkt) : HoldKeeps s (s.appendVoq v l) := (setVoq s _ _).trans (voqSync _ _)

end HoldKeeps

/-! ### Requests of a VOQ (R438) -/

theorem State.releaseResv_voqs (s : State) (src l c n : Nat) : (s.releaseResv src l c n).buf.voqs = s.buf.voqs := by
  rw [State.releaseResv, State.xonAll_buf]

theorem State.creditReq_voqs (s : State) (src : Nat) (w : Word) : (s.creditReq src w).buf.voqs = s.buf.voqs := by
  unfold State.creditReq
  exact State.ite_ind (P := fun t => t.buf.voqs = s.buf.voqs) (fun _ => rfl) fun _ => State.releaseResv_voqs _ _ _ _ _

theorem State.setMsgs_buf (s : State) (m : Nat) (q : MsgQ) : (s.setMsgs m q).buf = s.buf := rfl

theorem State.sendReq_voqs (s : State) (v : Nat) (on : Bool) (ret : Nat) : (s.sendReq v on ret).buf.voqs = s.buf.voqs := by
  have h : (if 0 < ret then s.count cgSched 4 else s).buf = s.buf :=
    State.ite_ind (P := fun t => t.buf = s.buf) (fun _ => State.count_buf _ _ _ _ _) fun _ => rfl
  unfold State.sendReq
  refine State.ite_ind (P := fun t => t.buf.voqs = s.buf.voqs) (fun _ => ?_) fun _ => ?_
  · rw [State.creditReq_voqs, h]
  · rw [State.count_buf, State.setMsgs_buf, h]

/-- A queue that holds packets keeps them and its balance; only its last request follows it. -/
theorem State.voqSync_nonempty {s : State} {v : Nat} (h : (s.voq v).q ≠ []) :
    ∃ r, (s.voqSync v).voq v = { s.voq v with reqOn := r } := by
  have he : (s.voq v).q.isEmpty = false := by simpa using h
  unfold State.voqSync
  dsimp only
  rw [if_neg (by rw [he]; simp)]
  split
  · exact ⟨_, rfl⟩
  · exact ⟨_, (State.voq_congr (State.sendReq_voqs _ _ _ _) v).trans (State.voq_setVoq_self _ _ _)⟩

/-- An emptied queue keeps no balance. -/
theorem State.voqSync_empty {s : State} {v : Nat} (h : (s.voq v).q = []) :
    ((s.voqSync v).voq v).q = [] ∧ ((s.voqSync v).voq v).balance = 0 := by
  have hs : ∀ (t : State) on ret, (t.sendReq v on ret).voq v = t.voq v := fun t on ret =>
    State.voq_congr (State.sendReq_voqs _ _ _ _) v
  unfold State.voqSync
  dsimp only
  split
  · rw [hs, State.voq_setVoq_self]
    exact ⟨h, rfl⟩
  · next hb =>
    have h0 : (s.voq v).balance = 0 := by
      rw [h] at hb
      simpa using hb
    split
    · exact ⟨h, h0⟩
    · rw [hs, State.voq_setVoq_self]
      exact ⟨h, h0⟩

theorem State.voqSync_others (s : State) {v k : Nat} (h : k ≠ v) : (s.voqSync v).voq k = s.voq k := by
  have hs : ∀ x on ret, ((s.setVoq v x).sendReq v on ret).voq k = s.voq k := fun x on ret =>
    (State.voq_congr (State.sendReq_voqs _ _ _ _) k).trans (State.voq_setVoq_ne _ _ h)
  unfold State.voqSync
  exact State.ite_ind (P := fun t => t.voq k = s.voq k) (fun _ => hs _ _ _) fun _ =>
    State.ite_ind (P := fun t => t.voq k = s.voq k) (fun _ => rfl) fun _ => hs _ _ _

/-! ### Read-back (R391, R395) -/

theorem State.rowRead_keeps (s : State) (grp row : Nat) (l : List Nat) :
    (s.rowRead grp row l).buf = s.buf ∧ (s.rowRead grp row l).regs = s.regs := by
  have h : ∀ (t : State) a b c d e, (t.tailUnit a b c d e).buf = t.buf ∧ (t.tailUnit a b c d e).regs = t.regs := by
    intro t a b c d e
    have hm : ∀ ch q, (t.setMemq ch q).buf = t.buf ∧ (t.setMemq ch q).regs = t.regs := fun ch q => by
      unfold State.setMemq
      split <;> exact ⟨rfl, rfl⟩
    unfold State.tailUnit
    exact State.ite_ind (P := fun u => u.buf = t.buf ∧ u.regs = t.regs) (fun _ => hm _ _) fun _ => ⟨rfl, rfl⟩
  exact ⟨foldl_fixes (·.buf) (fun t x _ => (h t _ _ _ _ x).1) _, foldl_fixes (·.regs) (fun t x _ => (h t _ _ _ _ x).2) _⟩

theorem State.segRead_keeps (s : State) (x : Voq) (k : Nat) : (s.segRead x k).buf = s.buf ∧ (s.segRead x k).regs = s.regs := by
  unfold State.segRead
  exact State.ite_ind (P := fun u => u.buf = s.buf ∧ u.regs = s.regs) (fun _ => ⟨rfl, rfl⟩) fun _ =>
    ⟨foldl_fixes (·.buf) (fun t r _ => (t.rowRead_keeps _ r _).1) _, foldl_fixes (·.regs) (fun t r _ => (t.rowRead_keeps _ r _).2) _⟩

/-- A staged entry above the written offset comes back with the blocks it has. -/
theorem State.readEntry_staged {s : State} {x : Voq} {e : VPkt} (hp : e.place = .staged) (hw : x.written ≤ e.off) :
    s.readEntry x e = some (s, some { e with place := .die }) := by
  have hl : s.tailLost x e = false := by
    have hf : ¬ e.off < min (e.off + e.pkt.a) x.written := by omega
    rw [State.tailLost]
    simp only [hf, decide_false, Bool.false_and]
  rw [State.readEntry, hl, if_neg Bool.false_ne_true, if_pos hp]

theorem State.readEntries_one {s : State} {x : Voq} {e d : VPkt} {n : Nat} (h : s.readEntry x e = some (s, some d))
    (hp : e.place ≠ .die) (hn : e.off + e.pkt.a ≤ n) : s.readEntries x n [e] = (s, [d]) := by
  rw [State.readEntries, if_pos ⟨hp, hn⟩, h]
  rfl

/-- Segments freed are the buffer's list of them alone. -/
theorem State.dropSegs_keeps (s : State) (l : List Nat) :
    (l.foldl State.dropSeg s).buf.voqs = s.buf.voqs ∧ (l.foldl State.dropSeg s).regs = s.regs :=
  ⟨foldl_fixes (step := State.dropSeg) (fun t => t.buf.voqs) (fun _ _ _ => rfl) s,
    foldl_fixes (step := State.dropSeg) State.regs (fun _ _ _ => rfl) s⟩

theorem State.setVoq_regs (s : State) (v : Nat) (x : Voq) : (s.setVoq v x).regs = s.regs := rfl

theorem State.trimChain_keeps (s : State) (v : Nat) : ((s.trimChain v).voq v).q = (s.voq v).q ∧
    ((s.trimChain v).voq v).balance = (s.voq v).balance ∧ (s.trimChain v).regs = s.regs := by
  unfold State.trimChain
  dsimp only
  rw [State.voq_setVoq_self, State.setVoq_regs, (State.dropSegs_keeps _ _).2]
  exact ⟨rfl, rfl, rfl⟩

/-- A chain without a tail ends. -/
theorem State.closeChain_ends {s : State} {v : Nat} (h : voqTail (s.voq v) = 0) :
    ((s.closeChain v).voq v).q = (s.voq v).q ∧ ((s.closeChain v).voq v).balance = (s.voq v).balance ∧
      ((s.closeChain v).voq v).spilling = false ∧ ((s.closeChain v).voq v).segs = [] ∧ (s.closeChain v).regs = s.regs := by
  unfold State.closeChain
  dsimp only
  rw [if_neg (by omega), State.voq_setVoq_self, State.setVoq_regs, (State.dropSegs_keeps _ _).2]
  exact ⟨rfl, rfl, rfl, rfl, rfl⟩

theorem State.closeChain_others (s : State) {v k : Nat} (h : k ≠ v) : (s.closeChain v).voq k = s.voq k := by
  unfold State.closeChain
  refine State.ite_ind (P := fun t => t.voq k = s.voq k) (fun _ => rfl) fun _ => ?_
  rw [State.voq_setVoq_ne _ _ h]
  exact State.voq_congr (State.dropSegs_keeps _ _).1 k

/-- Read-back of a queue's only entry, staged: it comes back on die, and the chain ends. -/
theorem State.readBack_staged {s : State} {v : Nat} {e : VPkt} (hq : (s.voq v).q = [e]) (hp : e.place = .staged)
    (hw : (s.voq v).written ≤ e.off) : ∃ u : State, s.readBack v = u.count cgBuf 5 ∧
      u.regs = s.regs ∧ (u.voq v).q = [{ e with place := .die }] ∧ (u.voq v).balance = (s.voq v).balance ∧
      (u.voq v).spilling = false ∧ (u.voq v).segs = [] := by
  have hne : e.place ≠ .die := by rw [hp]; exact Place.noConfusion
  have hseg : 0 < segSize := by decide
  have hend : e.off + e.pkt.a ≤ ((e.off + e.pkt.a - 1) / segSize + 1) * segSize := by
    have h1 := Nat.lt_mul_div_succ (e.off + e.pkt.a - 1) hseg
    rw [Nat.mul_comm] at h1
    omega
  obtain ⟨-, hregs⟩ := s.segRead_keeps (s.voq v) ((e.off + e.pkt.a - 1) / segSize)
  have hr := State.readEntries_one (State.readEntry_staged (s := s.segRead (s.voq v) ((e.off + e.pkt.a - 1) / segSize))
    hp hw) hne hend
  have hf : (s.voq v).q.find? (fun e => decide (e.place ≠ .die)) = some e := by
    rw [hq, List.find?_cons_of_pos (by simpa using hne)]
  rw [State.readBack]
  dsimp only
  rw [hf]
  dsimp only
  rw [hq, hr]
  dsimp only
  generalize s.segRead (s.voq v) ((e.off + e.pkt.a - 1) / segSize) = w at hregs ⊢
  generalize hy : ({ s.voq v with q := [{ e with place := .die }] } : Voq) = y
  obtain ⟨htq, htb, htr⟩ := (w.setVoq v y).trimChain_keeps v
  rw [State.voq_setVoq_self] at htq htb
  obtain ⟨hcq, hcb, hcs, hcg, hcr⟩ := State.closeChain_ends (s := (w.setVoq v y).trimChain v) (v := v) (by
    rw [voqTail_eq, htq, ← hy]
    rfl)
  refine ⟨((w.setVoq v y).trimChain v).closeChain v, rfl, ?_, ?_, ?_, hcs, hcg⟩
  · rw [hcr, htr, State.setVoq_regs, hregs]
  · rw [hcq, htq, ← hy]
  · rw [hcb, htb, ← hy]

theorem tailReadback_staged (v : Nat) (e : VPkt) (s : State) (hl : s.live = true) (hs : (s.voq v).spilling = true)
    (hq : (s.voq v).q = [e]) (hp : e.place = .staged) (hw : (s.voq v).written ≤ e.off) (ha : 0 < e.pkt.a)
    (hspill : 0 < s.spillAt v) (hfree : segSize ≤ s.freeShared) :
    Answers (.tailReadback v) s (fun t => (t.voq v).q = [{ e with place := .die }] ∧ (t.voq v).spilling = false ∧
      (t.voq v).segs = [] ∧ (t.voq v).balance = (s.voq v).balance ∧
      t.rd R.DT_BUF_CNT 5 = cntAdd (s.rd R.DT_BUF_CNT 5) 1) := by
  have hdie : voqDie (s.voq v) = 0 := by simp [voqDie, hq, hp]
  have htail : 0 < voqTail (s.voq v) := by simpa [voqTail, hq, hp] using ha
  obtain ⟨u, hu, hregs, huq, hub, hus, hug⟩ := State.readBack_staged hq hp hw
  have hcv : (u.count cgBuf 5).voq v = u.voq v := State.voq_congr (by rw [State.count_buf]) v
  obtain ⟨r, hr⟩ := State.voqSync_nonempty (s := u.count cgBuf 5) (v := v) (by rw [hcv, huq]; exact List.cons_ne_nil _ _)
  refine answers_okIf (exec_tailReadback v s) (by simp [hl, hs, hdie, hspill, hfree, htail]) ?_
  rw [hu, State.voq_settle, hr, hcv]
  refine ⟨huq, hus, hug, hub, ?_⟩
  rw [State.rd_settle _ (by decide) (by decide) (by decide), (HoldKeeps.voqSync _ v).cfg.rd (by decide) (by decide),
    ← State.rd_congr hregs]
  exact u.rd_countAt_self cgBuf 0 5 1 _ (by decide)

end Sys2Proof.Machine
end

section
/-! PROOFS. The hold of a port that expires: its view, its VOQs and its egress queues (R72, R397, R398, R400). -/

namespace Sys2Proof.Machine

/-- The port's view when its hold expires, counted and reported, before its queues move. -/
def State.holdEnded (s : State) (m l : Nat) : State :=
  ((s.setView m l (if (s.protectOf l).isSome then .prot else .down)).count cgBuf 10).raise F.DT_BUF_EVT_hold_expired

theorem exec_holdExpiry (m l : Nat) (s : State) : exec (.holdExpiry m l) s = okIf (s.live && s.holdOver m l) s
    (if m = s.myId then ((s.holdEnded m l).clearVoqs m l (s.protectOf l)).clearQueues l (fun _ => true) (s.protectOf l)
      else (s.holdEnded m l).clearVoqs m l (s.protectOf l)) := rfl

theorem exec_pauseHoldExpiry (l c : Nat) (s : State) : exec (.pauseHoldExpiry l c) s =
    okIf (decide (s.mode = DRAIN ∨ s.mode = QUIESCED) && decide (l < 256 ∧ c < 8) &&
      bitOf (s.get F.TF_LPORT_STAT_rx_paused l) c &&
      decide ((s.lp l).since.getD c 0 + s.holdMs l * 1000000 < s.up)) s
    (s.clearQueues l (fun q => decide (q % 4 = s.qmap l c)) (s.protectOf l)) := rfl

/-! ### Egress queues (R413, R417) -/

/-- A state without the nodes of the hierarchy: what waking and resting them leaves. -/
def State.sansNodes (s : State) : State := { s with sch := { s.sch with nodes := [] } }

theorem State.sansNodes_setNode (s : State) (lvl n : Nat) (x : Node) : (s.setNode lvl n x).sansNodes = s.sansNodes := rfl

theorem State.sansNodes_wake (s : State) (lvl n : Nat) : (s.wake lvl n).sansNodes = s.sansNodes := by
  unfold State.wake
  refine State.ite_ind (P := fun t => t.sansNodes = s.sansNodes) (fun _ => ?_) fun _ => State.sansNodes_setNode _ _ _ _
  rw [State.sansNodes_setNode, State.sansNodes_setNode]

theorem State.sansNodes_refreshActive (s : State) (lvl n : Nat) : (s.refreshActive lvl n).sansNodes = s.sansNodes := by
  unfold State.refreshActive
  exact State.ite_ind (P := fun t => t.sansNodes = s.sansNodes) (fun _ => rfl) fun _ => State.sansNodes_setNode _ _ _ _

theorem State.sansNodes_wakeUp (s : State) (q : Nat) : (s.wakeUp q).sansNodes = s.sansNodes := by
  have h : ∀ (b : Bool) (t : State) lvl n, (if b then t else t.wake lvl n).sansNodes = t.sansNodes := fun b t lvl n =>
    State.ite_ind (P := fun u => u.sansNodes = t.sansNodes) (fun _ => rfl) fun _ => State.sansNodes_wake t lvl n
  unfold State.wakeUp
  dsimp only
  rw [State.sansNodes_setNode, h, h, State.sansNodes_wake]

theorem State.sansNodes_deactivateUp (s : State) (q : Nat) : (s.deactivateUp q).sansNodes = s.sansNodes := by
  unfold State.deactivateUp
  dsimp only
  rw [State.sansNodes_refreshActive, State.sansNodes_refreshActive, State.sansNodes_refreshActive,
    State.sansNodes_refreshActive]

/-- A queue stored wakes its nodes or lets them rest; the rest of the state is as it was. -/
theorem State.sansNodes_putQueue (s : State) (q : Nat) (l : List Pkt) :
    (s.putQueue q l).sansNodes = (s.setEqueue q l).sansNodes := by
  unfold State.putQueue
  exact State.ite_ind (P := fun t => t.sansNodes = (s.setEqueue q l).sansNodes) (fun _ => State.sansNodes_wakeUp _ _) fun _ =>
    State.ite_ind (P := fun t => t.sansNodes = (s.setEqueue q l).sansNodes) (fun _ => State.sansNodes_deactivateUp _ _)
      fun _ => rfl

theorem State.putQueue_regs (s : State) (q : Nat) (l : List Pkt) : (s.putQueue q l).regs = s.regs :=
  (congrArg State.regs (s.sansNodes_putQueue q l) :)

theorem State.putQueue_buf (s : State) (q : Nat) (l : List Pkt) : (s.putQueue q l).buf = s.buf :=
  (congrArg State.buf (s.sansNodes_putQueue q l) :)

theorem State.putQueue_queues (s : State) (q : Nat) (l : List Pkt) :
    (s.putQueue q l).sch.queues = tput s.sch.queues q l [] :=
  (congrArg (fun t => t.sch.queues) (s.sansNodes_putQueue q l) :)

theorem State.equeue_putQueue_self (s : State) (q : Nat) (l : List Pkt) : (s.putQueue q l).equeue q = l := by
  rw [State.equeue, State.putQueue_queues, tget_tput_self]

theorem State.equeue_putQueue_ne (s : State) {q k : Nat} (l : List Pkt) (h : k ≠ q) :
    (s.putQueue q l).equeue k = s.equeue k := by
  rw [State.equeue, State.putQueue_queues, tget_tput_ne _ _ _ _ h, State.equeue]

theorem State.equeue_congr {s t : State} (h : t.sch = s.sch) (q : Nat) : t.equeue q = s.equeue q := by
  rw [State.equeue, h, State.equeue]

namespace HoldKeeps

theorem putQueue (s : State) (q : Nat) (l : List Pkt) : HoldKeeps s (s.putQueue q l) :=
  of_regs (by rw [State.putQueue_buf]) (State.putQueue_regs _ _ _)

theorem protectPkt (s : State) (x : Pkt) (m l : Nat) : HoldKeeps s (s.protectPkt x m l) := by
  unfold State.protectPkt
  exact State.ite_ind (fun _ => external s x) fun _ => State.ite_ind (fun _ => (pktCount s _ _).trans (external _ _)) fun _ =>
    State.ite_ind (fun _ => (pktCount s _ _).trans (putQueue _ _ _)) fun _ => (pktCount s _ _).trans (appendVoq _ _ _)

theorem clearQueues (s : State) (l : Nat) (p : Nat → Bool) (dest : Option (Nat × Nat)) :
    HoldKeeps s (s.clearQueues l p dest) := by
  refine foldl (fun t q => State.ite_ind (P := HoldKeeps t) (fun _ => ?_) fun _ => refl t) _ s
  refine (putQueue t q _).trans (foldl (fun u x => ?_) _ _)
  cases dest with
  | none => exact external u x
  | some d => exact protectPkt u x d.1 d.2

theorem clearVoqs (s : State) (m l : Nat) (dest : Option (Nat × Nat)) : HoldKeeps s (s.clearVoqs m l dest) := by
  refine foldl (fun t c => ?_) _ s
  cases dest with
  | none => exact flushVoq t _
  | some d => exact moveVoq t _ d.1 d.2

end HoldKeeps

/-! ### Queues that are flushed -/

/-- Copies taken from the state one by one leave the queues and VOQs as they are. -/
theorem StoreKeeps.externals (s : State) (l : List Pkt) : StoreKeeps s (l.foldl State.external s) := foldl external l s

/-- A queue's packets of port l leave it and are flushed. -/
def State.flushQueue (s : State) (q l : Nat) : State :=
  ((s.equeue q).filter (fun x => decide (x.dl = l))).foldl State.external
    (s.putQueue q ((s.equeue q).filter (fun x => !decide (x.dl = l))))

theorem State.clearQueues_none (s : State) (l : Nat) (p : Nat → Bool) : s.clearQueues l p none =
    (tkeys s.sch.queues).foldl (fun t q => if p q then t.flushQueue q l else t) s := rfl

theorem State.equeue_flushQueue_self (s : State) (q l : Nat) :
    (s.flushQueue q l).equeue q = (s.equeue q).filter (fun x => !decide (x.dl = l)) := by
  rw [State.flushQueue, State.equeue_congr (StoreKeeps.externals _ _).sch, State.equeue_putQueue_self]

theorem State.equeue_flushQueue_ne (s : State) {q k : Nat} (l : Nat) (h : k ≠ q) :
    (s.flushQueue q l).equeue k = s.equeue k := by
  rw [State.flushQueue, State.equeue_congr (StoreKeeps.externals _ _).sch, State.equeue_putQueue_ne _ _ h]

theorem State.flushQueue_voqs (s : State) (q l : Nat) : (s.flushQueue q l).buf.voqs = s.buf.voqs := by
  rw [State.flushQueue, (StoreKeeps.externals _ _).voqs, State.putQueue_buf]

/-- Flushing a list of queues takes the packets of the port from those that the test names. -/
theorem State.equeue_flushQueues (l : Nat) (p : Nat → Bool) (ks : List Nat) (s : State) (q : Nat) :
    (ks.foldl (fun t q => if p q then t.flushQueue q l else t) s).equeue q =
      if p q = true ∧ q ∈ ks then (s.equeue q).filter (fun x => !decide (x.dl = l)) else s.equeue q := by
  induction ks generalizing s with
  | nil => simp
  | cons k ks ih =>
    have hk : (if p k then s.flushQueue k l else s).equeue q =
        if p q = true ∧ q = k then (s.equeue q).filter (fun x => !decide (x.dl = l)) else s.equeue q := by
      by_cases hq : q = k
      · subst hq
        by_cases hp : p q = true
        · rw [if_pos hp, if_pos ⟨hp, rfl⟩, State.equeue_flushQueue_self]
        · rw [if_neg hp, if_neg (fun h => hp h.1)]
      · rw [if_neg (c := p q = true ∧ q = k) (fun h => hq h.2)]
        by_cases hp : p k = true
        · rw [if_pos hp, State.equeue_flushQueue_ne _ _ hq]
        · rw [if_neg hp]
    rw [List.foldl_cons, ih, hk]
    have hff : ((s.equeue q).filter (fun x => !decide (x.dl = l))).filter (fun x => !decide (x.dl = l)) =
        (s.equeue q).filter (fun x => !decide (x.dl = l)) := by simp [List.filter_filter]
    by_cases hp : p q = true
    · by_cases hm : q ∈ ks
      · rw [if_pos ⟨hp, hm⟩, if_pos (c := p q = true ∧ q ∈ k :: ks) ⟨hp, List.mem_cons_of_mem _ hm⟩]
        split
        · exact hff
        · rfl
      · simp only [hp, hm, List.mem_cons, true_and, or_false, if_false]
    · simp [hp]

theorem tget?_none_of_not_mem_tkeys {α : Type} {t : Tab α} {k : Nat} (h : k ∉ tkeys t) : tget? t k = none := by
  induction t with
  | nil => rfl
  | cons e t ih =>
    obtain ⟨a, v⟩ := e
    have hm : k ≠ a ∧ k ∉ tkeys t := by simpa [tkeys] using h
    rw [tget?, if_neg (Ne.symm hm.1), ih hm.2]

/-- A queue that is not listed is empty. -/
theorem State.equeue_of_not_mem {s : State} {q : Nat} (h : q ∉ tkeys s.sch.queues) : s.equeue q = [] := by
  rw [State.equeue, tget, tget?_none_of_not_mem_tkeys h]
  rfl

theorem State.equeue_clearQueues (s : State) (l : Nat) (p : Nat → Bool) (q : Nat) : (s.clearQueues l p none).equeue q =
    if p q = true then (s.equeue q).filter (fun x => !decide (x.dl = l)) else s.equeue q := by
  rw [State.clearQueues_none, State.equeue_flushQueues]
  by_cases hm : q ∈ tkeys s.sch.queues
  · simp [hm]
  · simp [hm, State.equeue_of_not_mem hm]

theorem State.clearQueues_voqs (s : State) (l : Nat) (p : Nat → Bool) :
    (s.clearQueues l p none).buf.voqs = s.buf.voqs := by
  rw [State.clearQueues_none]
  refine foldl_fixes (fun t => t.buf.voqs) (fun t q _ => ?_) s
  exact State.ite_ind (P := fun u => u.buf.voqs = t.buf.voqs) (fun _ => State.flushQueue_voqs _ _ _) fun _ => rfl

/-! ### VOQs that are flushed -/

/-- A VOQ that holds no packet and no credit. -/
def State.voqDone (s : State) (v : Nat) : Prop := (s.voq v).q = [] ∧ (s.voq v).balance = 0

theorem State.flushVoq_done (s : State) (v : Nat) : (s.flushVoq v).voqDone v := by
  unfold State.flushVoq
  dsimp only
  generalize (s.voq v).q.foldl (fun (t : State) e => t.external e.pkt) s = u
  obtain ⟨hq, -⟩ := State.closeChain_ends (s := u.setVoq v { s.voq v with q := [] }) (v := v) (by
    rw [State.voq_setVoq_self]
    rfl)
  rw [State.voq_setVoq_self] at hq
  exact State.voqSync_empty hq

theorem State.flushVoq_others (s : State) {v k : Nat} (h : k ≠ v) : (s.flushVoq v).voq k = s.voq k := by
  have hu : StoreKeeps s ((s.voq v).q.foldl (fun (t : State) e => t.external e.pkt) s) :=
    StoreKeeps.foldl (fun t (e : VPkt) => StoreKeeps.external t e.pkt) _ s
  unfold State.flushVoq
  dsimp only
  rw [State.voqSync_others _ h, State.closeChain_others _ h, State.voq_setVoq_ne _ _ h, hu.voq]

theorem State.flushVoq_keepsDone {s : State} {v : Nat} (h : s.voqDone v) (k : Nat) : (s.flushVoq k).voqDone v := by
  by_cases hv : v = k
  · subst hv
    exact s.flushVoq_done v
  · unfold State.voqDone
    rw [State.flushVoq_others _ hv]
    exact h

/-- Flushing the VOQs of a port leaves every one of its classes without packet and credit. -/
theorem State.clearVoqs_done (s : State) (m l : Nat) {c : Nat} (hc : c < 8) :
    (s.clearVoqs m l none).voqDone (voqId m l c) := by
  have hkeep : ∀ (ks : List Nat) (t : State), t.voqDone (voqId m l c) →
      (ks.foldl (fun u k => u.flushVoq (voqId m l k)) t).voqDone (voqId m l c) := fun ks => by
    induction ks with
    | nil => exact fun _ h => h
    | cons k ks ih => exact fun t h => ih _ (State.flushVoq_keepsDone h _)
  obtain ⟨a, b, hab⟩ := List.append_of_mem (List.mem_range.2 hc)
  rw [State.clearVoqs, hab, List.foldl_append, List.foldl_cons]
  exact hkeep b _ (State.flushVoq_done _ _)

/-! ### The clauses -/

theorem holdExpiry_ends (m l : Nat) (s : State) (hl : s.live = true) (hv : s.view m l = .hold)
    (hold : tget s.buf.holdAt (viewKey m l) 0 + s.holdMs l * 1000000 ≤ s.up) :
    Answers (.holdExpiry m l) s (fun t =>
      t.view m l = (if (s.protectOf l).isSome = true then .prot else .down) ∧
      t.flag F.DT_BUF_EVT_hold_expired = true ∧ t.rd R.DT_BUF_CNT 10 = cntAdd (s.rd R.DT_BUF_CNT 10) 1 ∧
      (s.protectOf l = none → ∀ c < 8, (t.voq (voqId m l c)).q = [] ∧ (t.voq (voqId m l c)).balance = 0) ∧
      (s.protectOf l = none → m = s.myId → ∀ q, ∀ x ∈ t.equeue q, x.dl ≠ l)) := by
  have hover : s.holdOver m l = true := decide_eq_true ⟨hv, hold⟩
  have hview : (s.holdEnded m l).view m l = if (s.protectOf l).isSome then .prot else .down := by
    rw [State.holdEnded, State.view, State.raise_buf, State.count_buf]
    exact tget_tput_self _ _ _ _
  have hcnt : (s.holdEnded m l).rd R.DT_BUF_CNT 10 = cntAdd (s.rd R.DT_BUF_CNT 10) 1 := by
    rw [State.holdEnded, State.raise, State.rd_put_ne _ _ (by decide)]
    exact (s.setView m l _).rd_countAt_self cgBuf 0 10 1 _ (by decide)
  have hev : (s.holdEnded m l).get F.DT_BUF_EVT_hold_expired = 1 := State.get_raise_self _ _ _ _ (by decide) (by decide)
  have hx := exec_holdExpiry m l s
  generalize s.holdEnded m l = e at *
  have hc := HoldKeeps.clearVoqs e m l (s.protectOf l)
  have hk : HoldKeeps e (if m = s.myId then (e.clearVoqs m l (s.protectOf l)).clearQueues l (fun _ => true) (s.protectOf l)
      else e.clearVoqs m l (s.protectOf l)) :=
    State.ite_ind (fun _ => hc.trans (HoldKeeps.clearQueues _ _ _ _)) fun _ => hc
  have hvoq : s.protectOf l = none → ∀ c < 8, ((if m = s.myId then
      (e.clearVoqs m l (s.protectOf l)).clearQueues l (fun _ => true) (s.protectOf l)
      else e.clearVoqs m l (s.protectOf l)).voqDone (voqId m l c)) := fun hd c hc => by
    rw [hd]
    have hdone := e.clearVoqs_done m l hc
    split
    · unfold State.voqDone
      rw [State.voq_congr (State.clearQueues_voqs _ _ _)]
      exact hdone
    · exact hdone
  refine answers_okIf hx (by rw [hl, hover]; rfl) ⟨?_, ?_, ?_, fun hd c hc => ?_, fun hd hm q x hx => ?_⟩
  · rw [← hview, State.view, State.settle_buf, hk.views, State.view]
  · rw [State.flag_eq_true, State.get_settle_high _ (by decide), hk.cfg.get (by decide) (by decide), hev]
  · rw [State.rd_settle _ (by decide) (by decide) (by decide), hk.cnt.rd (by decide) (by decide), hcnt]
  · rw [State.voq_settle]
    exact hvoq hd c hc
  · rw [State.equeue, State.settle_sch, hd, if_pos hm, ← State.equeue, State.equeue_clearQueues, if_pos rfl,
      List.mem_filter] at hx
    simpa using hx.2

theorem pauseHoldExpiry_flushes (l c : Nat) (s : State) (hm : s.mode = DRAIN ∨ s.mode = QUIESCED) (hl : l < 256) (hc : c < 8)
    (hp : bitOf (s.get F.TF_LPORT_STAT_rx_paused l) c = true) (hd : s.protectOf l = none)
    (ht : (s.lp l).since.getD c 0 + s.holdMs l * 1000000 < s.up) :
    Answers (.pauseHoldExpiry l c) s (fun t =>
      (∀ q, q % 4 = s.qmap l c → t.equeue q = (s.equeue q).filter (fun x => !decide (x.dl = l))) ∧
      (∀ q, q % 4 ≠ s.qmap l c → t.equeue q = s.equeue q) ∧ t.buf.views = s.buf.views) := by
  refine answers_okIf (exec_pauseHoldExpiry l c s) (by
    rw [decide_eq_true hm, decide_eq_true (And.intro hl hc), hp, decide_eq_true ht]
    rfl) ?_
  have he : ∀ q, (s.clearQueues l (fun q => decide (q % 4 = s.qmap l c)) none).settle.equeue q =
      if decide (q % 4 = s.qmap l c) = true then (s.equeue q).filter (fun x => !decide (x.dl = l)) else s.equeue q := fun q => by
    rw [State.equeue, State.settle_sch, ← State.equeue, State.equeue_clearQueues]
  rw [hd]
  refine ⟨fun q hq => ?_, fun q hq => ?_, ?_⟩
  · rw [he, if_pos (decide_eq_true hq)]
  · rw [he, if_neg (by simpa using hq)]
  · rw [State.settle_buf, (HoldKeeps.clearQueues s l _ none).views]

/-- Settles O50: rows written keep what is staged above them, read-back of the last staged entry ends its chain, and an
expired hold leaves the views and its count to what moves or flushes the queues. -/
theorem tailRowsReadBackAndHoldExpiry : Obligations.TailRowsReadBackAndHoldExpiry :=
  ⟨tailRowWrite_writes, tailRowTimeout_writes, tailReadback_staged, fun m l s hl _ hv hold => holdExpiry_ends m l s hl hv hold,
    pauseHoldExpiry_flushes⟩

end Sys2Proof.Machine
end

section
/-! PROOFS. The egress MAC: what it keeps of the egress pipelines, and what it does with a single copy (R513 to R515, R541). -/

namespace Sys2Proof.Machine

/-! ### Physical ports -/

theorem State.phys_setPhys_self (s : State) (p : Nat) (x : PhysPort) : (s.setPhys p x).phys p = x := tget_tput_self _ _ _ _

theorem State.phys_setPhys_ne (s : State) {p k : Nat} (x : PhysPort) (h : k ≠ p) : (s.setPhys p x).phys k = s.phys k :=
  tget_tput_ne _ _ _ _ h

theorem State.phys_congr {s t : State} (h : t.port = s.port) (p : Nat) : t.phys p = s.phys p := by
  rw [State.phys, h, State.phys]

theorem State.phys_settle (s : State) (p : Nat) : s.settle.phys p = s.phys p := State.phys_congr (State.settle_port s) p

theorem egFifo_egPop (x : PhysPort) (b : Bool) : egFifo (egPop x b) b = (egFifo x b).drop 1 := by
  cases b <;> rfl

/-- The MAC's side of a port does not see its pipelines give up a unit. -/
theorem egPop_mac (x : PhysPort) (b : Bool) : (egPop x b).tx = x.tx ∧ (egPop x b).nextEseq = x.nextEseq := by
  cases b <;> exact ⟨rfl, rfl⟩

/-! ### What leaves the egress pipelines alone -/

/-- The units of every egress pipeline stay. -/
def FifosKept (s t : State) : Prop := ∀ p b, egFifo (t.phys p) b = egFifo (s.phys p) b

/-- A frame that the buffer of its port has no room for is counted as overrun. -/
theorem State.intoMac_over {s : State} {l : Nat} {f : RxFrame}
    (h : ¬ rxBytes (s.phys (l / 8)).inbuf + rxLen f ≤ 524288) : (s.intoMac l f).2 =
      (((s.passFrames (l / 8)).countBacked 0 9 1 f.time).countAt cgPort l 9 1 f.time).countAt cgPort l 0x1C 1 f.time := by
  unfold State.intoMac
  dsimp only
  rw [if_neg h]

theorem State.countBacked_keeps (s : State) (g k n t : Nat) :
    ∃ regs tlm, s.countBacked g k n t = { s with regs := regs, tlm := tlm } := by
  obtain ⟨regs, tlm, h⟩ := State.windowCount_keeps (s := { s with tlm := { s.tlm with accum := tinc s.tlm.accum (cntKey g k) n } }) g k n t
  exact ⟨regs, tlm, by rw [State.countBacked, h]⟩

namespace FifosKept

variable {s t u : State}

theorem refl (s : State) : FifosKept s s := fun _ _ => rfl

theorem trans (h : FifosKept s t) (k : FifosKept t u) : FifosKept s u := fun p b => (k p b).trans (h p b)

theorem of_port (h : t.port = s.port) : FifosKept s t := fun p b => by rw [State.phys_congr h]

theorem foldl {α : Type} {step : State → α → State} (h : ∀ s x, FifosKept s (step s x)) (l : List α) (s : State) :
    FifosKept s (l.foldl step s) := by
  induction l generalizing s with
  | nil => exact refl s
  | cons x l ih => exact (h s x).trans (ih _)

/-- A port stored with the units it had. -/
theorem setPhys (s : State) (p : Nat) (x : PhysPort) (ha : x.egA = (s.phys p).egA) (hb : x.egB = (s.phys p).egB) :
    FifosKept s (s.setPhys p x) := fun k b => by
  by_cases hk : k = p
  · subst hk
    rw [State.phys_setPhys_self]
    cases b
    · exact ha
    · exact hb
  · rw [State.phys_setPhys_ne _ _ hk]

theorem countAt (s : State) (g : CntGroup) (i k n t : Nat) : FifosKept s (s.countAt g i k n t) := of_port (by
  obtain ⟨regs, tlm, h⟩ := s.countAt_keeps g i k n t
  rw [h])

theorem countBacked (s : State) (g k n t : Nat) : FifosKept s (s.countBacked g k n t) := of_port (by
  obtain ⟨regs, tlm, h⟩ := s.countBacked_keeps g k n t
  rw [h])

theorem passOne (s : State) (p : Nat) : FifosKept s (s.passOne p) := by
  unfold State.passOne
  dsimp only
  split
  · exact refl s
  · split
    · exact refl s
    · exact setPhys s p _ rfl rfl

theorem stampHigh (s : State) (p : Nat) : FifosKept s (s.stampHigh p) :=
  State.ite_ind (P := FifosKept s) (fun _ => of_port rfl) fun _ => refl s

theorem passFrames (s : State) (p : Nat) : FifosKept s (s.passFrames p) :=
  (stampHigh s p).trans (foldl (fun t _ => passOne t p) _ _)

theorem intoMac (s : State) (l : Nat) (f : RxFrame) : FifosKept s (s.intoMac l f).2 := by
  by_cases h : rxBytes (s.phys (l / 8)).inbuf + rxLen f ≤ 524288
  · rw [State.intoMac_fits h]
    exact (setPhys s (l / 8) { s.phys (l / 8) with inbuf := (s.phys (l / 8)).inbuf ++ [f] } rfl rfl).trans (passFrames _ _)
  · rw [State.intoMac_over h]
    exact (((passFrames s _).trans (countBacked _ _ _ _ _)).trans (countAt _ _ _ _ _ _)).trans (countAt _ _ _ _ _ _)

theorem rateSeen (s : State) (p : Nat) : FifosKept s (s.rateSeen p) := of_port rfl

theorem macReceive (s : State) (l n : Nat) (bytes : List Byte) (ok bad : Bool) (f1 f2 : Nat) :
    FifosKept s (s.macReceive l n bytes ok bad f1 f2) := by
  have hm : ∀ (u : State) (f : RxFrame), FifosKept u ((if (u.intoMac l f).1 then (u.intoMac l f).2.countAt cgMac l 13 1 s.time
      else (u.intoMac l f).2).rateSeen (l / 8)) := fun u f => by
    refine FifosKept.trans ?_ (rateSeen _ _)
    exact State.ite_ind (P := FifosKept u) (fun _ => (intoMac u l f).trans (countAt _ _ _ _ _ _)) fun _ => intoMac u l f
  unfold State.macReceive
  dsimp only
  refine FifosKept.trans ?_ (hm _ _)
  exact ((((((((countAt s _ _ _ _ _).trans (countAt _ _ _ _ _ _)).trans (countAt _ _ _ _ _ _)).trans
    (countAt _ _ _ _ _ _)).trans (countAt _ _ _ _ _ _)).trans (countAt _ _ _ _ _ _)).trans
    (countAt _ _ _ _ _ _)).trans (countAt _ _ _ _ _ _))

theorem frameIn (s : State) (l : Nat) (bytes : List Byte) (ok bad : Bool) (f1 f2 : Nat) :
    FifosKept s (s.frameIn l bytes ok bad f1 f2) := by
  unfold State.frameIn
  exact State.ite_ind (P := FifosKept s) (fun _ => State.ite_ind (P := FifosKept s) (fun _ => countAt s _ _ _ _ _) fun _ =>
    macReceive s _ _ _ _ _ _ _) fun _ => refl s

theorem abortFrame (s : State) (c : TxCopy) : FifosKept s (s.abortFrame c) := by
  have h : FifosKept s ((s.emit (.frame c.lport [] false)).count cgMac 10 c.lport) :=
    FifosKept.trans (t := s.emit _) (of_port rfl) (countAt _ _ _ _ _ _)
  unfold State.abortFrame
  dsimp only
  generalize (s.emit (.frame c.lport [] false)).count cgMac 10 c.lport = u at h ⊢
  split
  · exact (h.trans (of_port (t := u.fresh.2) rfl)).trans (frameIn _ _ _ _ _ _ _)
  · exact h

theorem mapTx (s : State) (p : Nat) (f : TxCopy → TxCopy) : FifosKept s (s.mapTx p f) := setPhys s p _ rfl rfl

theorem passEseq (s : State) (p : Nat) : FifosKept s (s.passEseq p) := setPhys s p _ rfl rfl

theorem advance (s : State) (p n : Nat) : FifosKept s (s.advance p n) := by
  induction n generalizing s with
  | zero => exact refl s
  | succ n ih =>
    unfold State.advance
    dsimp only
    split
    · exact refl s
    · next c _ =>
      have hm := mapTx s p (fun y => if sameCopy y c then { y with stage := 3 } else y)
      generalize s.mapTx p (fun y => if sameCopy y c then { y with stage := 3 } else y) = u at hm ⊢
      have hd : ∀ (t : State), FifosKept t (t.setPhys p { t.phys p with
          tx := (t.phys p).tx.filter (fun y => decide (y.handle ≠ c.handle ∨ y.stage ≠ 0)) }) := fun t => setPhys t p _ rfl rfl
      split
      · exact refl s
      · exact (hm.trans (abortFrame u c)).trans (hd _)
      · exact ((hm.trans (hd u)).trans (passEseq _ _)).trans (ih _)
      · split
        · exact (hm.trans (passEseq _ _)).trans (ih _)
        · exact hm.trans (ih _)

theorem addReport (s : State) (r : List Report) : FifosKept s { s with port := { s.port with reports := r } } := fun _ _ => rfl

theorem flushRun (s : State) (p : Nat) : FifosKept s (s.flushRun p) := by
  unfold State.flushRun
  dsimp only
  split
  · exact refl s
  · exact (setPhys s p { s.phys p with run := [] } rfl rfl).trans (addReport _ _)

theorem reportOne (s : State) (p : Nat) (r : Report) : FifosKept s (s.reportOne p r) := (flushRun s p).trans (addReport _ _)

theorem reportCopy (s : State) (p : Nat) (c : TxCopy) : FifosKept s (s.reportCopy p c) := by
  have hr : ∀ (t : State) r, FifosKept t (t.setPhys p { t.phys p with run := r }) := fun t r => setPhys t p _ rfl rfl
  have hj : ∀ t : State, FifosKept s t → FifosKept s (if 64 ≤ (t.phys p).run.length then t.flushRun p else t) := fun t h =>
    State.ite_ind (P := FifosKept s) (fun _ => h.trans (flushRun t p)) fun _ => h
  unfold State.reportCopy
  dsimp only
  split
  · refine hj _ (FifosKept.trans ?_ (hr _ _))
    split
    · exact State.ite_ind (P := FifosKept s) (fun _ => refl s) fun _ => flushRun s p
    · exact refl s
  · exact reportOne s p _

theorem flushEnded (s : State) (p n : Nat) : FifosKept s (s.flushEnded p n) := by
  induction n generalizing s with
  | zero => exact refl s
  | succ n ih =>
    unfold State.flushEnded
    dsimp only
    split
    · exact refl s
    · split
      · exact refl s
      · refine FifosKept.trans ?_ (ih _)
        refine FifosKept.trans ?_ (reportCopy _ p _)
        exact setPhys s p _ rfl rfl

theorem macSync (s : State) (p : Nat) : FifosKept s (s.macSync p) := (advance s p _).trans (flushEnded _ _ _)

end FifosKept

end Sys2Proof.Machine
end

section
/-! PROOFS. The egress MAC with a single copy, and what its commands answer: a unit rewritten, started, delivered, cut off
and reported (R54, R513 to R518, R863). -/

namespace Sys2Proof.Machine

/-! ### What the MAC's reports leave -/

/-- Nothing but the ports changes. -/
def PortOnly (s t : State) : Prop := ∃ x, t = { s with port := x }

namespace PortOnly

variable {s t u : State}

theorem refl (s : State) : PortOnly s s := ⟨s.port, rfl⟩

theorem trans (h : PortOnly s t) (k : PortOnly t u) : PortOnly s u := by
  obtain ⟨x, rfl⟩ := h
  obtain ⟨y, rfl⟩ := k
  exact ⟨y, rfl⟩

theorem regs (h : PortOnly s t) : t.regs = s.regs := by
  obtain ⟨x, rfl⟩ := h
  rfl

theorem out (h : PortOnly s t) : t.out = s.out := by
  obtain ⟨x, rfl⟩ := h
  rfl

theorem buf (h : PortOnly s t) : t.buf = s.buf := by
  obtain ⟨x, rfl⟩ := h
  rfl

theorem mode (h : PortOnly s t) : t.mode = s.mode := (KvSame.of_regs h.regs).mode

theorem rd (h : PortOnly s t) (r : RegD) (i j : Nat) : t.rd r i j = s.rd r i j := by
  obtain ⟨x, rfl⟩ := h
  rfl

theorem setPhys (s : State) (p : Nat) (x : PhysPort) : PortOnly s (s.setPhys p x) := ⟨_, rfl⟩

theorem mapTx (s : State) (p : Nat) (f : TxCopy → TxCopy) : PortOnly s (s.mapTx p f) := setPhys s p _

theorem passEseq (s : State) (p : Nat) : PortOnly s (s.passEseq p) := setPhys s p _

theorem flushRun (s : State) (p : Nat) : PortOnly s (s.flushRun p) := by
  unfold State.flushRun
  dsimp only
  split
  · exact refl s
  · exact (setPhys s p { s.phys p with run := [] }).trans ⟨_, rfl⟩

theorem reportOne (s : State) (p : Nat) (r : Report) : PortOnly s (s.reportOne p r) := (flushRun s p).trans ⟨_, rfl⟩

theorem reportCopy (s : State) (p : Nat) (c : TxCopy) : PortOnly s (s.reportCopy p c) := by
  have hj : ∀ t : State, PortOnly s t → PortOnly s (if 64 ≤ (t.phys p).run.length then t.flushRun p else t) := fun t h =>
    State.ite_ind (P := PortOnly s) (fun _ => h.trans (flushRun t p)) fun _ => h
  unfold State.reportCopy
  dsimp only
  split
  · refine hj _ (PortOnly.trans ?_ (setPhys _ p _))
    split
    · exact State.ite_ind (P := PortOnly s) (fun _ => refl s) fun _ => flushRun s p
    · exact refl s
  · exact reportOne s p _

end PortOnly

theorem State.passEseq_phys (s : State) (p : Nat) : (s.passEseq p).phys p = { s.phys p with
    nextEseq := ((s.phys p).nextEseq + 1) % 2 ^ 16
    tx := (s.phys p).tx.filter (fun c => decide (c.stage ≠ 4)) } := State.phys_setPhys_self _ _ _

theorem State.mapTx_phys (s : State) (p : Nat) (f : TxCopy → TxCopy) :
    (s.mapTx p f).phys p = { s.phys p with tx := (s.phys p).tx.map f } := State.phys_setPhys_self _ _ _

/-- Reports on their way are no part of a physical port. -/
theorem State.phys_reports (s : State) (r : List Report) (p : Nat) :
    State.phys { s with port := { s.port with reports := r } } p = s.phys p := rfl

/-- A run that goes out empties it and leaves the rest of the port. -/
theorem State.flushRun_phys (s : State) (p : Nat) : (s.flushRun p).phys p = { s.phys p with run := [] } := by
  unfold State.flushRun
  dsimp only
  split
  · next h => rw [← h]
  · rw [State.phys_reports, State.phys_setPhys_self]

/-- A report of one copy goes out at once, and leaves the copies at the MAC. -/
theorem State.reportOne_reports (s : State) (p : Nat) (r : Report) : r ∈ (s.reportOne p r).port.reports :=
  List.mem_append_right (s.flushRun p).port.reports (List.mem_singleton.2 rfl)

theorem State.reportOne_tx (s : State) (p : Nat) (r : Report) : ((s.reportOne p r).phys p).tx = (s.phys p).tx := by
  rw [State.reportOne, State.phys_reports, State.flushRun_phys]

/-! ### A single copy at the MAC -/

theorem sameCopy_refl (c : TxCopy) : sameCopy c c = true := decide_eq_true ⟨rfl, rfl, rfl⟩

/-- A copy to be sent waits for its start, and one that has started or ended is not moved on. -/
theorem State.advance_single {s : State} {p : Nat} {c : TxCopy} (h : (s.phys p).tx = [c])
    (hc : c.stage ≠ 0 ∨ ∃ b, c.fate = .send b) (n : Nat) : s.advance p n = s := by
  cases n with
  | zero => rfl
  | succ n =>
    unfold State.advance
    dsimp only
    rw [h]
    split
    · rfl
    · next d hd =>
      obtain ⟨hm, hp⟩ := And.intro (List.mem_of_find?_eq_some hd) (List.find?_some hd)
      obtain rfl := List.mem_singleton.1 hm
      obtain ⟨b, hb⟩ := hc.resolve_left (fun h0 => h0 (of_decide_eq_true hp).2)
      rw [hb]

/-- A copy that has not ended is not reported. -/
theorem State.macSync_underWay {s : State} {p : Nat} {c : TxCopy} (h : (s.phys p).tx = [c])
    (hc : c.stage = 1 ∨ c.stage = 0 ∧ ∃ b, c.fate = .send b) : s.macSync p = s := by
  have hs : c.stage ≤ 1 := by omega
  unfold State.macSync
  dsimp only
  rw [State.advance_single h (hc.imp (fun h1 h0 => by omega) And.right), h]
  unfold State.flushEnded
  dsimp only
  rw [h, show firstUnreported [c] = some c from if_neg (by omega)]
  exact if_pos hs

/-- The copies left when one that has ended is reported: it stands while its unit is the next, unless it was aborted. -/
def txReported (x : PhysPort) (c : TxCopy) : List TxCopy :=
  if c.eseq == x.nextEseq && c.fate != .abort && c.fate != .down then [{ c with stage := 4 }] else []

/-- A copy that has ended is reported. -/
theorem State.macSync_ended {s : State} {p : Nat} {c : TxCopy} (h : (s.phys p).tx = [c]) (hc : c.stage = 2 ∨ c.stage = 3) :
    s.macSync p = (s.setPhys p { s.phys p with tx := txReported (s.phys p) c }).reportCopy p c := by
  have htx : (if (c.eseq == (s.phys p).nextEseq && c.fate != .abort && c.fate != .down) = true
      then [c].map (fun y => if sameCopy y c then { y with stage := 4 } else y)
      else [c].filter (fun y => !sameCopy y c)) = txReported (s.phys p) c := by
    unfold txReported
    rw [List.map_singleton, List.filter_singleton, sameCopy_refl]
    rfl
  unfold State.macSync
  dsimp only
  rw [State.advance_single h (.inl (by omega)), h, ← htx]
  unfold State.flushEnded
  dsimp only
  rw [h, show firstUnreported [c] = some c from if_neg (by omega)]
  exact if_neg (by omega)

/-! ### EGRESS_PROCESS -/

theorem exec_egressProcess (p : Nat) (b : Bool) (bad : Option Nat) (s : State) :
    exec (.egressProcess p b bad) s = execEgressProcess p b bad s := rfl

/-- What a pipeline makes of the unit that it takes. -/
def State.egTaken (s : State) (p : Nat) (b : Bool) (bad : Option Nat) (u : EgUnit) : State :=
  let s1 := s.setPhys p (egPop (s.phys p) b)
  if !u.hdrOk || (badBank bad 0).isSome then s1.raise F.TF_EG_EVT_hdr_bad
  else (s1.egUnitCopies bad p b u).2.toMac p u (s1.egUnitCopies bad p b u).1

theorem execEgressProcess_of_fifo {p : Nat} {b : Bool} {bad : Option Nat} {u : EgUnit} {rest : List EgUnit} {s : State}
    (hl : s.live = true) (hp : p < 32) (hok : s.egPipeOk p b = true) (hf : egFifo (s.phys p) b = u :: rest) :
    execEgressProcess p b bad s = ok (s.egTaken p b bad u) := by
  unfold execEgressProcess State.egTaken
  rw [hl, decide_eq_true hp, hok, Bool.and_self, Bool.and_self, if_pos rfl, hf]
  dsimp only
  split
  · rfl
  · rfl

/-- A unit without list and without bytes to come whose port is up has one copy, sent as it is when it asks for that. -/
theorem State.egUnitCopies_raw {s : State} {p : Nat} {b : Bool} {bad : Option Nat} {u : EgUnit} (hr : u.ts.raw = true)
    (he : u.egList = none) (hct : u.ct = false) (hv : s.viewUp s.myId u.lport = true) :
    s.egUnitCopies bad p b u = ([s.txCopy u 0 true ⟨.send u.bytes, u.sample, []⟩], s) := by
  have hc : s.egCopy bad p b u u.bytes u.rw = (⟨.send u.bytes, u.sample, []⟩, s) := by
    unfold State.egCopy
    rw [hr]
    rfl
  unfold State.egUnitCopies
  dsimp only
  rw [hct, he]
  dsimp only [Bool.false_and, Bool.false_eq_true, ite_false]
  rw [if_pos hv]
  exact congrArg (fun o : CopyOut × State => ([o.2.txCopy u 0 true o.1], o.2)) hc

/-- The copies of a unit whose number has passed are reported delivered. -/
theorem State.toMac_passed {s : State} {p : Nat} {u : EgUnit} {c : TxCopy}
    (h : serBefore 16 u.eseq (s.phys p).nextEseq = true) :
    s.toMac p u [c] = s.reportOne p (.one c.handle c.copy 0 0 s.time [] none) := by
  unfold State.toMac
  dsimp only
  exact if_pos h

/-- The first copy at an empty MAC. -/
theorem State.toMac_first {s : State} {p : Nat} {u : EgUnit} {c : TxCopy}
    (h : serBefore 16 u.eseq (s.phys p).nextEseq = false) (hx : (s.phys p).tx = []) :
    s.toMac p u [c] = (s.setPhys p { s.phys p with tx := [c] }).macSync p := by
  have hd : txDone (s.phys p) = 0 := by
    unfold txDone
    rw [hx]
    rfl
  have hn : [c].filter (fun c => !(s.phys p).tx.any (fun y => sameCopy y c) &&
      !(c.eseq == (s.phys p).nextEseq && decide (c.copy < txDone (s.phys p)))) = [c] := by
    rw [hx, hd]
    simp
  unfold State.toMac
  dsimp only
  rw [h, hn, hx]
  rfl

theorem FifosKept.toMac (s : State) (p : Nat) (u : EgUnit) (cs : List TxCopy) : FifosKept s (s.toMac p u cs) := by
  unfold State.toMac
  dsimp only
  split
  · split
    · exact FifosKept.reportOne s p _
    · exact FifosKept.refl s
  · refine FifosKept.trans ?_ (FifosKept.macSync _ p)
    exact FifosKept.setPhys s p _ rfl rfl

theorem egressProcess_takes (p : Nat) (b : Bool) (bad : Option Nat) (u : EgUnit) (rest : List EgUnit) (s : State)
    (hl : s.live = true) (hp : p < 32) (hok : s.egPipeOk p b = true) (hf : egFifo (s.phys p) b = u :: rest) :
    Answers (.egressProcess p b bad) s (fun t =>
      (u.hdrOk = false → egFifo (t.phys p) b = rest ∧ t.flag F.TF_EG_EVT_hdr_bad = true ∧ (t.phys p).tx = (s.phys p).tx) ∧
      (u.hdrOk = true → bad = none → u.ts.raw = true → u.egList = none → u.ct = false →
        s.viewUp s.myId u.lport = true → egFifo (t.phys p) b = rest ∧
        ((s.phys p).tx = [] → serBefore 16 u.eseq (s.phys p).nextEseq = false → ∃ c : TxCopy,
          (t.phys p).tx = [c] ∧ c.fate = .send u.bytes ∧ c.handle = u.handle ∧ c.eseq = u.eseq ∧
          c.lport = u.lport ∧ c.last = true ∧ c.stage = 0) ∧
        (serBefore 16 u.eseq (s.phys p).nextEseq = true → (t.phys p).tx = (s.phys p).tx ∧
          .one u.handle 0 0 0 s.time [] none ∈ t.port.reports))) := by
  obtain ⟨htx, hne⟩ := egPop_mac (s.phys p) b
  have hfifo : egFifo ((s.setPhys p (egPop (s.phys p) b)).phys p) b = rest := by
    rw [State.phys_setPhys_self, egFifo_egPop, hf]
    rfl
  have hphys := s.phys_setPhys_self p (egPop (s.phys p) b)
  have hview : (s.setPhys p (egPop (s.phys p) b)).viewUp (s.setPhys p (egPop (s.phys p) b)).myId u.lport =
      s.viewUp s.myId u.lport := rfl
  have htime : (s.setPhys p (egPop (s.phys p) b)).time = s.time := rfl
  refine answers_ok ((exec_egressProcess p b bad s).trans (execEgressProcess_of_fifo hl hp hok hf)) ?_
  unfold State.egTaken
  dsimp only
  generalize s.setPhys p (egPop (s.phys p) b) = e at *
  rw [← hphys] at htx hne
  refine ⟨fun hh => ?_, fun hh hb hr he hct hv => ?_⟩
  · rw [hh, Bool.not_false, Bool.true_or, if_pos rfl, State.phys_settle, State.phys_congr (e.raise_port _ 0 0)]
    refine ⟨hfifo, ?_, htx⟩
    rw [State.flag_eq_true, State.get_settle_high _ (by decide)]
    exact State.get_raise_self _ _ _ _ (by decide) (by decide)
  · subst hb
    rw [hh, State.egUnitCopies_raw hr he hct (hview.trans hv)]
    have hcond : (!true || (badBank none 0).isSome) = false := rfl
    rw [hcond, if_neg Bool.false_ne_true, State.phys_settle, State.settle_port]
    refine ⟨(FifosKept.toMac e p u _ p b).trans hfifo, fun hx hs => ?_, fun hs => ?_⟩
    · have hc : ((e.setPhys p { e.phys p with tx := [e.txCopy u 0 true ⟨.send u.bytes, u.sample, []⟩] }).phys p).tx =
          [e.txCopy u 0 true ⟨.send u.bytes, u.sample, []⟩] := congrArg PhysPort.tx (e.phys_setPhys_self p _)
      rw [State.toMac_first (by rw [hne, hs]) (htx.trans hx), State.macSync_underWay hc (.inr ⟨rfl, _, rfl⟩)]
      exact ⟨_, hc, rfl, rfl, rfl, rfl, rfl, rfl⟩
    · rw [State.toMac_passed (by rw [hne, hs]), ← htime]
      exact ⟨(State.reportOne_tx e p _).trans htx, State.reportOne_reports e p _⟩

/-! ### TX_UNIT_START -/

theorem exec_txUnitStart (p : Nat) (s : State) : exec (.txUnitStart p) s =
    okIf (s.live && decide (p < 32)) s
      (match (s.macSync p).startable p with
       | none => s.macSync p
       | some (c, b) => ((s.macSync p).startCopy p c b).macSync p) := rfl

/-- The next copy may start when its port is up and free and its class is not paused. -/
theorem State.startable_single {s : State} {p : Nat} {c : TxCopy} {b : List Byte} (h : (s.phys p).tx = [c])
    (he : c.eseq = (s.phys p).nextEseq) (hs : c.stage = 0) (hf : c.fate = .send b) (hl : s.link c.lport = 4)
    (hp : bitOf (s.get F.TF_LPORT_STAT_rx_paused c.lport) c.cls = false) : s.startable p = some (c, b) := by
  have hfree : (!(s.phys p).tx.any (fun y => decide (y.lport = c.lport ∧ y.stage = 1))) = true := by
    rw [h]
    simp [hs]
  unfold State.startable
  dsimp only
  rw [show (s.phys p).tx.find? (fun c => decide (c.eseq = (s.phys p).nextEseq ∧ c.stage = 0)) = some c by
    rw [h, List.find?_singleton, if_pos (decide_eq_true ⟨he, hs⟩)]]
  dsimp only
  rw [hf]
  exact if_pos ⟨hl, hp, hfree⟩

/-- A single last copy without timestamp starts as it is, and the next number's turn comes. -/
theorem State.startCopy_single {s : State} {p : Nat} {c : TxCopy} {b : List Byte} (h : (s.phys p).tx = [c])
    (hf : c.fate = .send b) (hlast : c.last = true) (ht : c.ts.req = 0) :
    PortOnly s (s.startCopy p c b) ∧ (s.startCopy p c b).phys p =
      { s.phys p with nextEseq := ((s.phys p).nextEseq + 1) % 2 ^ 16, tx := [{ c with stage := 1 }] } := by
  have hc : ({ c with stage := 1, fate := .send b } : TxCopy) = { c with stage := 1 } := by rw [← hf]
  have hm : s.startCopy p c b =
      (s.mapTx p (fun y => if sameCopy y c then { y with stage := 1, fate := .send b } else y)).passEseq p := by
    unfold State.startCopy
    dsimp only
    rw [ht, hlast]
    rfl
  rw [hm]
  refine ⟨(PortOnly.mapTx s p _).trans (PortOnly.passEseq _ p), ?_⟩
  rw [State.passEseq_phys, State.mapTx_phys]
  dsimp only
  rw [h, List.map_singleton, sameCopy_refl, if_pos rfl, hc]
  rfl

theorem txUnitStart_starts (p : Nat) (c : TxCopy) (b : List Byte) (s : State) (hl : s.live = true) (hp : p < 32)
    (h : (s.phys p).tx = [c]) (he : c.eseq = (s.phys p).nextEseq) (hs : c.stage = 0) (hf : c.fate = .send b)
    (hlast : c.last = true) (ht : c.ts.req = 0) (hu : s.link c.lport = 4)
    (hps : bitOf (s.get F.TF_LPORT_STAT_rx_paused c.lport) c.cls = false) :
    Answers (.txUnitStart p) s (fun t => (t.phys p).tx = [{ c with stage := 1 }] ∧
      (t.phys p).nextEseq = ((s.phys p).nextEseq + 1) % 2 ^ 16 ∧ t.buf = s.buf ∧ RegsBut [] s t) := by
  obtain ⟨honly, hphys⟩ := State.startCopy_single h hf hlast ht
  have htx : ((s.startCopy p c b).phys p).tx = [{ c with stage := 1 }] := by rw [hphys]
  have hx := exec_txUnitStart p s
  rw [State.macSync_underWay h (.inr ⟨hs, b, hf⟩), State.startable_single h he hs hf hu hps] at hx
  dsimp only at hx
  rw [State.macSync_underWay htx (.inl rfl)] at hx
  refine answers_okIf hx (by rw [hl, decide_eq_true hp]; rfl) ?_
  rw [State.phys_settle, State.settle_buf]
  exact ⟨htx, by rw [hphys], honly.buf, regsBut_settle_of_regs honly.regs⟩

/-! ### FRAME_DELIVERED -/

/-- A frame that has left, emitted and counted. -/
def State.frameLeft (s : State) (c : TxCopy) (b : List Byte) : State :=
  (((s.emit (.frame c.lport b true)).count cgMac 8 c.lport).count cgMac 9 c.lport (b.length + 4)).count cgEg 0

theorem State.frameLeft_port (s : State) (c : TxCopy) (b : List Byte) : (s.frameLeft c b).port = s.port := by
  rw [State.frameLeft, State.count_port, State.count_port, State.count_port, State.emit_port]

theorem State.frameLeft_mode (s : State) (c : TxCopy) (b : List Byte) : (s.frameLeft c b).mode = s.mode :=
  ((((KvSame.of_regs rfl : KvSame s (s.emit (.frame c.lport b true))).trans (KvSame.count _ (g := cgMac) 8 c.lport 1 (by decide))).trans
    (KvSame.count _ (g := cgMac) 9 c.lport (b.length + 4) (by decide))).trans (KvSame.count _ (g := cgEg) 0 0 1 (by decide))).mode

theorem State.frameLeft_out (s : State) (c : TxCopy) (b : List Byte) : .frame c.lport b true ∈ (s.frameLeft c b).out := by
  rw [State.frameLeft, State.count_out, State.count_out, State.count_out, State.emit_out]
  exact List.mem_append_right _ (List.mem_singleton.2 rfl)

/-- The counters of a port's MAC, as addresses. -/
theorem regAddr_macCnt (l k : Nat) : regAddr R.TF_MAC_CNT l k = 0x1090000 + l * 0x80 + k * 8 := rfl

theorem State.frameLeft_counts (s : State) {c : TxCopy} (b : List Byte) (hl : c.lport < 256) :
    (s.frameLeft c b).rd R.TF_MAC_CNT c.lport 8 = cntAdd (s.rd R.TF_MAC_CNT c.lport 8) 1 ∧
    (s.frameLeft c b).rd R.TF_MAC_CNT c.lport 9 = cntAdd (s.rd R.TF_MAC_CNT c.lport 9) (b.length + 4) ∧
    (s.frameLeft c b).rd R.TF_EG_CNT 0 = cntAdd (s.rd R.TF_EG_CNT 0) 1 := by
  have hm : ∀ k, regAddr cgMac.reg (cntPlace cgMac c.lport k).1 (cntPlace cgMac c.lport k).2 = 0x1090000 + c.lport * 0x80 + k * 8 :=
    regAddr_macCnt c.lport
  have hg : regAddr cgEg.reg (cntPlace cgEg 0 0).1 (cntPlace cgEg 0 0).2 = 0x1300100 := rfl
  have h0 : regAddr R.TF_EG_CNT 0 0 = 0x1300100 := rfl
  have h8 := regAddr_macCnt c.lport 8
  have h9 := regAddr_macCnt c.lport 9
  have hm8 := hm 8
  have hm9 := hm 9
  rw [← s.emit_rd (.frame c.lport b true), ← s.emit_rd (.frame c.lport b true), ← s.emit_rd (.frame c.lport b true)]
  unfold State.frameLeft
  generalize s.emit (.frame c.lport b true) = e
  unfold State.count
  refine ⟨?_, ?_, ?_⟩
  · rw [State.rd_countAt_ne _ cgEg _ _ _ _ (by omega) (by omega), State.rd_countAt_ne _ cgMac _ _ _ _ (by omega) (by omega)]
    exact e.rd_countAt_self cgMac c.lport 8 1 _ (by decide)
  · rw [State.rd_countAt_ne _ cgEg _ _ _ _ (by omega) (by omega),
      ← e.rd_countAt_ne cgMac c.lport 8 1 e.time (r := R.TF_MAC_CNT) (a := c.lport) (b := 9) (by omega) (by omega)]
    exact State.rd_countAt_self _ cgMac c.lport 9 _ _ (by decide)
  · rw [← e.rd_countAt_ne cgMac c.lport 8 1 e.time (r := R.TF_EG_CNT) (a := 0) (b := 0) (by omega) (by omega),
      ← (e.countAt cgMac c.lport 8 1 e.time).rd_countAt_ne cgMac c.lport 9 (b.length + 4)
        (e.countAt cgMac c.lport 8 1 e.time).time (r := R.TF_EG_CNT) (a := 0) (b := 0) (by omega) (by omega)]
    exact State.rd_countAt_self _ cgEg 0 0 1 _ (by decide)

theorem exec_frameDelivered (l : Nat) (s : State) : exec (.frameDelivered l) s = execFrameDelivered l s := rfl

theorem State.looped_eq_false {s : State} (h : s.mode ≠ MAINTENANCE) (l : Nat) : s.looped l = false := by
  unfold State.looped
  rw [beq_eq_false_iff_ne.2 h, Bool.false_and]

/-- A single last copy is reported when its frame has left and the port is not looped. -/
theorem State.delivered_single {s : State} {c : TxCopy} {b : List Byte} (h : (s.phys (c.lport / 8)).tx = [c])
    (hlast : c.last = true) (hmode : s.mode ≠ MAINTENANCE) : ∃ u, PortOnly (s.frameLeft c b) u ∧
      s.delivered c b = u.reportCopy (c.lport / 8) { c with stage := 2, sentAt := s.time } := by
  have hunfold : s.delivered c b = (fun v : State => if (v.macSync (c.lport / 8)).looped c.lport
      then (v.macSync (c.lport / 8)).frameIn c.lport b true false 0 0 else v.macSync (c.lport / 8))
      ((s.frameLeft c b).mapTx (c.lport / 8) (fun y => if sameCopy y c then { y with stage := 2, sentAt := s.time } else y)) := by
    unfold State.delivered
    dsimp only
    rw [hlast]
    rfl
  have hphys := State.phys_congr (s.frameLeft_port c b) (c.lport / 8)
  have hmd := s.frameLeft_mode c b
  rw [hunfold]
  generalize s.frameLeft c b = e at *
  have htx : ((e.mapTx (c.lport / 8) (fun y => if sameCopy y c then { y with stage := 2, sentAt := s.time } else y)).phys
      (c.lport / 8)).tx = [{ c with stage := 2, sentAt := s.time }] := by
    rw [State.mapTx_phys, hphys]
    dsimp only
    rw [h, List.map_singleton, sameCopy_refl, if_pos rfl]
  have honly := PortOnly.mapTx e (c.lport / 8) (fun y => if sameCopy y c then { y with stage := 2, sentAt := s.time } else y)
  generalize e.mapTx (c.lport / 8) (fun y => if sameCopy y c then { y with stage := 2, sentAt := s.time } else y) = v at *
  have hsync := State.macSync_ended htx (.inl rfl)
  have hu := honly.trans (PortOnly.setPhys v (c.lport / 8) { v.phys (c.lport / 8) with
    tx := txReported (v.phys (c.lport / 8)) { c with stage := 2, sentAt := s.time } })
  generalize v.setPhys (c.lport / 8) { v.phys (c.lport / 8) with
    tx := txReported (v.phys (c.lport / 8)) { c with stage := 2, sentAt := s.time } } = u at *
  refine ⟨u, hu, ?_⟩
  dsimp only
  rw [hsync, State.looped_eq_false]
  · rfl
  · rw [(hu.trans (PortOnly.reportCopy u _ _)).mode, hmd]
    exact hmode

/-- A delivered copy that a list named is reported at once. -/
theorem State.reportCopy_listed {s : State} {p : Nat} {c : TxCopy} (h : c.listed = true) (hs : c.stage = 2) :
    .one c.handle c.copy 0 0 c.sentAt c.exported c.tr ∈ (s.reportCopy p c).port.reports := by
  have hst : copyStatus c = (0, 0) := if_pos hs
  have hr : s.reportCopy p c = s.reportOne p (.one c.handle c.copy 0 0 c.sentAt c.exported c.tr) := by
    unfold State.reportCopy
    rw [if_neg (by rw [h]; exact fun k => Bool.noConfusion k.2), hst]
  rw [hr]
  exact s.reportOne_reports p _

theorem frameDelivered_reports (l : Nat) (c : TxCopy) (b : List Byte) (s : State) (hl : s.live = true) (h256 : l < 256)
    (hmode : s.mode ≠ MAINTENANCE) (h : (s.phys (l / 8)).tx = [c]) (hc : c.lport = l) (hs : c.stage = 1)
    (hf : c.fate = .send b) (hlast : c.last = true) :
    Answers (.frameDelivered l) s (fun t => .frame l b true ∈ t.out ∧
      t.rd R.TF_MAC_CNT l 8 = cntAdd (s.rd R.TF_MAC_CNT l 8) 1 ∧
      t.rd R.TF_MAC_CNT l 9 = cntAdd (s.rd R.TF_MAC_CNT l 9) (b.length + 4) ∧
      t.rd R.TF_EG_CNT 0 = cntAdd (s.rd R.TF_EG_CNT 0) 1 ∧
      (c.listed = true → .one c.handle c.copy 0 0 s.time c.exported c.tr ∈ t.port.reports)) := by
  subst hc
  have hx : exec (.frameDelivered c.lport) s = ok (s.delivered c b) := by
    rw [exec_frameDelivered]
    unfold execFrameDelivered
    rw [if_pos hl, h, List.find?_singleton, if_pos (decide_eq_true ⟨rfl, hs⟩)]
    dsimp only
    rw [hf]
  obtain ⟨u, hu, hd⟩ := State.delivered_single (b := b) h hlast hmode
  obtain ⟨h8, h9, h0⟩ := s.frameLeft_counts b h256
  have hout := s.frameLeft_out c b
  have hk := hu.trans (PortOnly.reportCopy u (c.lport / 8) { c with stage := 2, sentAt := s.time })
  have hrep := fun hli : c.listed = true =>
    State.reportCopy_listed (s := u) (p := c.lport / 8) (c := { c with stage := 2, sentAt := s.time }) hli rfl
  rw [hd] at hx
  generalize u.reportCopy (c.lport / 8) { c with stage := 2, sentAt := s.time } = v at *
  have hm : ∀ k n, n < 0x1000000 → regAddr R.TF_MAC_CNT c.lport k ≠ n := fun k n hn => by rw [regAddr_macCnt]; omega
  have hrd : ∀ k, v.settle.rd R.TF_MAC_CNT c.lport k = (s.frameLeft c b).rd R.TF_MAC_CNT c.lport k := fun k => by
    rw [State.rd_settle _ (hm _ _ (by decide)) (hm _ _ (by decide)) (hm _ _ (by decide)), hk.rd]
  refine answers_ok hx ⟨State.mem_out_settle (by rw [hk.out]; exact hout), (hrd 8).trans h8, (hrd 9).trans h9, ?_, fun hli => ?_⟩
  · rw [State.rd_settle _ (by decide) (by decide) (by decide), hk.rd]
    exact h0
  · rw [State.settle_port]
    exact hrep hli

/-! ### PORT_DOWN_ABORT -/

theorem exec_portDownAbort (l : Nat) (s : State) :
    exec (.portDownAbort l) s = okIf (s.live && decide (l < 256) && s.link l != 4) s (s.abortDown l) := rfl

/-- A frame cut off, emitted with a bad FCS and counted. -/
def State.frameCut (s : State) (l : Nat) : State := (s.emit (.frame l [] false)).count cgMac 10 l

/-- A copy that ends as cut off is reported as aborted and leaves the MAC. -/
theorem State.macSync_cut {s : State} {p : Nat} {c : TxCopy} (h : (s.phys p).tx = [c]) (hs : c.stage = 3) (hf : c.fate = .down) :
    PortOnly s (s.macSync p) ∧ ((s.macSync p).phys p).tx = [] ∧
      .one c.handle c.copy 3 0 c.sentAt c.exported c.tr ∈ (s.macSync p).port.reports := by
  have hst : copyStatus c = (3, 0) := by
    unfold copyStatus
    rw [if_neg (by omega), hf]
  have hn : txReported (s.phys p) c = [] := by
    unfold txReported
    rw [hf]
    simp
  have hr : ∀ t : State, t.reportCopy p c = t.reportOne p (.one c.handle c.copy 3 0 c.sentAt c.exported c.tr) := fun t => by
    unfold State.reportCopy
    rw [if_neg (fun k => by omega), hst]
  rw [State.macSync_ended h (.inr hs), hr, hn]
  refine ⟨(PortOnly.setPhys s p _).trans (PortOnly.reportOne _ p _), ?_, State.reportOne_reports _ p _⟩
  rw [State.reportOne_tx, State.phys_setPhys_self]

/-- The frame under way of a port that goes down is cut off, and its copy ends. -/
theorem State.abortDown_single {s : State} {l : Nat} {c : TxCopy} (h : (s.phys (l / 8)).tx = [c]) (hc : c.lport = l)
    (hs : c.stage = 1) : ∃ u, PortOnly (s.frameCut l) u ∧ (u.phys (l / 8)).tx = [{ c with fate := .down, stage := 3 }] ∧
      s.abortDown l = u.macSync (l / 8) := by
  have hbusy : (s.phys (l / 8)).tx.filter (fun c => decide (c.lport = l ∧ c.stage = 1)) = [c] := by
    rw [h, List.filter_singleton, decide_eq_true ⟨hc, hs⟩]
    rfl
  have hdown : downCopies l [] [c] = [{ c with fate := .down, stage := 3 }] := by
    unfold downCopies
    rw [if_pos ⟨hc, by omega⟩, if_pos hs]
    rfl
  have hfold : [c].foldl (fun (t : State) _ => (t.emit (.frame l [] false)).count cgMac 10 l) s = s.frameCut l := rfl
  unfold State.abortDown
  dsimp only
  rw [hbusy, hfold, h, hdown]
  have hphys := (s.frameCut l).phys_setPhys_self (l / 8)
    { s.phys (l / 8) with tx := [{ c with fate := .down, stage := 3 }] }
  have honly := PortOnly.setPhys (s.frameCut l) (l / 8) { s.phys (l / 8) with tx := [{ c with fate := .down, stage := 3 }] }
  generalize (s.frameCut l).setPhys (l / 8) { s.phys (l / 8) with tx := [{ c with fate := .down, stage := 3 }] } = v at *
  refine ⟨_, ?_, ?_, rfl⟩
  · exact State.ite_ind (P := PortOnly (s.frameCut l)) (fun _ => honly.trans (PortOnly.passEseq v _)) fun _ => honly
  · refine State.ite_ind (P := fun u : State => (u.phys (l / 8)).tx = [{ c with fate := .down, stage := 3 }]) (fun _ => ?_)
      fun _ => by rw [hphys]
    rw [State.passEseq_phys, hphys]
    rfl

theorem portDownAbort_cuts (l : Nat) (c : TxCopy) (s : State) (hl : s.live = true) (h256 : l < 256) (hu : s.link l ≠ 4)
    (h : (s.phys (l / 8)).tx = [c]) (hc : c.lport = l) (hs : c.stage = 1) :
    Answers (.portDownAbort l) s (fun t => .frame l [] false ∈ t.out ∧
      t.rd R.TF_MAC_CNT l 10 = cntAdd (s.rd R.TF_MAC_CNT l 10) 1 ∧ (t.phys (l / 8)).tx = [] ∧
      .one c.handle c.copy 3 0 c.sentAt c.exported c.tr ∈ t.port.reports) := by
  have hout : .frame l [] false ∈ (s.frameCut l).out := by
    rw [State.frameCut, State.count_out, State.emit_out]
    exact List.mem_append_right _ (List.mem_singleton.2 rfl)
  have hcnt : (s.frameCut l).rd R.TF_MAC_CNT l 10 = cntAdd (s.rd R.TF_MAC_CNT l 10) 1 :=
    (s.emit (.frame l [] false)).rd_countAt_self cgMac l 10 1 _ (by decide)
  obtain ⟨u, honly, htx, hx⟩ := State.abortDown_single h hc hs
  obtain ⟨hk, hnil, hrep⟩ := State.macSync_cut htx rfl rfl
  have hm : ∀ n, n < 0x1000000 → regAddr R.TF_MAC_CNT l 10 ≠ n := fun n hn => by rw [regAddr_macCnt]; omega
  have he := exec_portDownAbort l s
  rw [hx] at he
  have hk := honly.trans hk
  generalize u.macSync (l / 8) = v at *
  refine answers_okIf he (by rw [hl, decide_eq_true h256, bne_iff_ne.2 hu]; rfl) ⟨State.mem_out_settle (by rw [hk.out]; exact hout), ?_, ?_, ?_⟩
  · rw [State.rd_settle _ (hm _ (by decide)) (hm _ (by decide)) (hm _ (by decide)), hk.rd]
    exact hcnt
  · rw [State.phys_settle]
    exact hnil
  · rw [State.settle_port]
    exact hrep

/-! ### RUN_REPORT_FLUSH -/

theorem exec_runReportFlush (p : Nat) (s : State) :
    exec (.runReportFlush p) s = okIf (s.live && decide (p < 32)) s (s.flushRun p) := rfl

theorem runReportFlush_reports (p : Nat) (a : RunUnit) (r : List RunUnit) (s : State) (hl : s.live = true) (hp : p < 32)
    (h : (s.phys p).run = a :: r) :
    Answers (.runReportFlush p) s (fun t => (t.phys p).run = [] ∧
      t.port.reports = s.port.reports ++ [.run a.eseq p (r.length + 1)
        ((a :: r).map (fun u => (u.sentAt, u.exported, u.tr)))] ∧ RegsBut [] s t) := by
  refine answers_okIf (exec_runReportFlush p s) (by rw [hl, decide_eq_true hp]; rfl) ⟨?_, ?_, ?_⟩
  · rw [State.phys_settle, State.flushRun_phys]
  · rw [State.settle_port]
    unfold State.flushRun
    dsimp only
    rw [h]
    rfl
  · exact regsBut_settle_of_regs (PortOnly.flushRun s p).regs

end Sys2Proof.Machine
end

section
/-! PROOFS. Reports at DT: a unit settled, aborted in its place, and sent again to the other pipeline (R375, R390, R515,
R532, R540). -/

namespace Sys2Proof.Machine

theorem mem_of_tget? {α : Type} {t : Tab α} {k : Nat} {v : α} (h : tget? t k = some v) : (k, v) ∈ t := by
  induction t with
  | nil => exact absurd h (by simp [tget?])
  | cons e r ih =>
    obtain ⟨a, w⟩ := e
    rw [tget?] at h
    split at h
    · next hk =>
      obtain rfl := Option.some.inj h
      rw [hk]
      exact List.mem_cons_self
    · exact List.mem_cons_of_mem _ (ih h)

/-! ### A report that settles its unit -/

/-- A body's last copy resolved leaves no body. -/
theorem State.resolve_last {s : State} {h : Nat} (hr : (s.body h).refs ≤ 1) : thas (s.resolve h).buf.bodies h = false := by
  unfold State.resolve
  split
  · next hb => rw [thas, hb, Option.isSome_none]
  · next b hb =>
    rw [State.body, tget, hb, Option.getD_some] at hr
    rw [if_pos hr]
    unfold State.freeBody
    dsimp only
    rw [thas, tget?_tdel_self, Option.isSome_none]

theorem State.pktCount_buf (s : State) (k : Nat) (x : Pkt) : (s.pktCount k x).buf = s.buf := by
  unfold State.pktCount
  split
  · unfold State.lossAt
    dsimp only
    rw [State.countAt_buf, State.countAt_buf]
  · rw [State.loss, State.count_buf]

/-- DT no longer knows the unit; its packet is counted and its body resolved. -/
theorem State.settleUnit_settles (s : State) (h : Nat) (o : Outstanding) (best : Nat) :
    (s.settleUnit h o best).sch.outst = tdel s.sch.outst h ∧ (s.settleUnit h o best).port = s.port ∧
    ((s.body o.pkt.body).refs ≤ 1 → thas (s.settleUnit h o best).buf.bodies o.pkt.body = false) := by
  have hk : ∀ u v : State, v.buf = u.buf → StoreKeeps u v → (v.resolve o.pkt.body).sch.outst = u.sch.outst ∧
      (v.resolve o.pkt.body).port = u.port ∧
      ((u.body o.pkt.body).refs ≤ 1 → thas (v.resolve o.pkt.body).buf.bodies o.pkt.body = false) := fun u v hb hv => by
    have h := hv.trans (StoreKeeps.resolve v o.pkt.body)
    refine ⟨congrArg (fun x => x.outst) h.sch, h.port, fun hr => State.resolve_last ?_⟩
    rw [State.body, hb]
    exact hr
  have hu : ∀ u : State, u.sch.outst = tdel s.sch.outst h → u.port = s.port → u.buf = s.buf →
      ((if best = 3 then u else u.pktCount (if best = 2 then 0x13 else 0x12) o.pkt).resolve o.pkt.body).sch.outst =
        tdel s.sch.outst h ∧
      ((if best = 3 then u else u.pktCount (if best = 2 then 0x13 else 0x12) o.pkt).resolve o.pkt.body).port = s.port ∧
      ((s.body o.pkt.body).refs ≤ 1 → thas ((if best = 3 then u else u.pktCount (if best = 2 then 0x13 else 0x12) o.pkt).resolve
        o.pkt.body).buf.bodies o.pkt.body = false) := fun u h1 h2 h3 => by
    have hs : s.body o.pkt.body = u.body o.pkt.body := by rw [State.body, ← h3, State.body]
    rw [← h1, ← h2, hs]
    split
    · exact hk u u rfl (StoreKeeps.refl u)
    · exact hk u _ (State.pktCount_buf u _ _) (StoreKeeps.pktCount u _ _)
  exact hu _ rfl rfl rfl

theorem exec_deliveryReportReceive (s : State) : exec .deliveryReportReceive s = execDeliveryReportReceive s := rfl

/-- The oldest report, of one copy, reaches DT. -/
theorem execDeliveryReportReceive_one {s : State} (hl : s.live = true) {h c st rs a : Nat} {ex : List Byte} {tr : Option Trace}
    {rest : List Report} (hr : s.port.reports = .one h c st rs a ex tr :: rest) :
    execDeliveryReportReceive s = ok (State.copyReported { s with port := { s.port with reports := rest } } h c st rs a ex tr) := by
  unfold execDeliveryReportReceive
  rw [hr]
  dsimp only
  exact okIf_of hl _ _

/-- The copy is the last of its unit, delivered and without a trace: the unit is settled. -/
theorem State.copyReported_last {s : State} {h copy reason a : Nat} {ex : List Byte} {o : Outstanding}
    (ho : tget? s.sch.outst h = some o) (hc : s.unitCopies o.pkt ≤ copy + 1) : ∃ u : State, u.sch = s.sch ∧ u.port = s.port ∧
      u.buf = s.buf ∧ s.copyReported h copy 0 reason a ex none = u.settleUnit h o (max o.pkt.best 3) := by
  obtain ⟨r1, m1, h1⟩ := s.countBacked_keeps 15 (2 * o.queue) 1 s.time
  obtain ⟨r2, m2, h2⟩ := (s.countBacked 15 (2 * o.queue) 1 s.time).countBacked_keeps 15 (2 * o.queue + 1) o.pkt.length s.time
  refine ⟨(s.countBacked 15 (2 * o.queue) 1 s.time).countBacked 15 (2 * o.queue + 1) o.pkt.length s.time,
    by rw [h2, h1], by rw [h2, h1], by rw [h2, h1], ?_⟩
  unfold State.copyReported
  rw [ho]
  dsimp only [State.traceCopy]
  rw [if_neg (by decide), if_pos (.inl hc), if_pos rfl, if_pos rfl]

theorem deliveryReportReceive_settles (h copy sentAt reason : Nat) (ex : List Byte) (rest : List Report) (o : Outstanding)
    (s : State) (hl : s.live = true) (hr : s.port.reports = .one h copy 0 reason sentAt ex none :: rest)
    (ho : tget? s.sch.outst h = some o) (hc : s.unitCopies o.pkt ≤ copy + 1) :
    Answers .deliveryReportReceive s (fun t => thas t.sch.outst h = false ∧ t.port.reports = rest ∧
      (∀ k, k ≠ h → tget? t.sch.outst k = tget? s.sch.outst k) ∧
      ((s.body o.pkt.body).refs ≤ 1 → thas t.buf.bodies o.pkt.body = false)) := by
  have hx := (exec_deliveryReportReceive s).trans (execDeliveryReportReceive_one hl hr)
  obtain ⟨u, hsch, hport, hbuf, hu⟩ := State.copyReported_last (s := { s with port := { s.port with reports := rest } })
    (reason := reason) (a := sentAt) (ex := ex) ho hc
  obtain ⟨h1, h2, h3⟩ := u.settleUnit_settles h o (max o.pkt.best 3)
  rw [hu] at hx
  have hb : u.body o.pkt.body = s.body o.pkt.body := by rw [State.body, hbuf, State.body]
  rw [hsch] at h1
  rw [hport] at h2
  rw [hb] at h3
  dsimp only at h1 h2
  refine answers_ok hx ?_
  rw [State.settle_sch, State.settle_port, State.settle_buf, h1, h2]
  exact ⟨by rw [thas, tget?_tdel_self, Option.isSome_none], rfl, fun k hk => tget?_tdel_ne _ hk, h3⟩

/-! ### A report of an abort in place -/

/-- A unit cut off on its way whose bytes are not there yet waits for them, with cut-through held off. -/
theorem State.unitAborted_inPlace {s : State} {h : Nat} {o : Outstanding} (hd : o.down = false)
    (hb : (s.body o.pkt.body).complete = false) : ∃ e : State, e = (s.count cgBuf 9).raise F.DT_BUF_EVT_ct_underrun ∧
      s.unitAborted h o = { e with
        buf := { e.buf with ctOff := tset e.buf.ctOff (o.pkt.dl * 8 + o.pkt.cls) e.up }
        sch := { e.sch with resend := e.sch.resend ++ [h] } } := by
  refine ⟨_, rfl, ?_⟩
  unfold State.unitAborted
  dsimp only
  rw [hd, hb, if_neg (fun k => Bool.noConfusion k.1), if_neg Bool.false_ne_true]

theorem deliveryReportReceive_aborts (h copy sentAt reason : Nat) (ex : List Byte) (rest : List Report) (o : Outstanding)
    (s : State) (hl : s.live = true) (hr : s.port.reports = .one h copy 3 reason sentAt ex none :: rest)
    (ho : tget? s.sch.outst h = some o) (hd : o.down = false) (hb : (s.body o.pkt.body).complete = false) :
    Answers .deliveryReportReceive s (fun t => t.flag F.DT_BUF_EVT_ct_underrun = true ∧ h ∈ t.sch.resend ∧
      thas t.buf.ctOff (o.pkt.dl * 8 + o.pkt.cls) = true ∧ tget? t.sch.outst h = some o) := by
  have hx := (exec_deliveryReportReceive s).trans (execDeliveryReportReceive_one hl hr)
  have hu : State.copyReported { s with port := { s.port with reports := rest } } h copy 3 reason sentAt ex none =
      State.unitAborted { s with port := { s.port with reports := rest } } h o := by
    unfold State.copyReported
    dsimp only
    rw [ho]
    rfl
  obtain ⟨e, he, ha⟩ := State.unitAborted_inPlace (s := { s with port := { s.port with reports := rest } }) (h := h) hd hb
  rw [hu, ha] at hx
  have hsch : e.sch = s.sch := by rw [he, State.raise_sch, State.count_sch]
  have hev : e.get F.DT_BUF_EVT_ct_underrun = 1 := by
    rw [he]
    exact State.get_raise_self _ _ _ _ (by decide) (by decide)
  refine answers_ok hx ⟨?_, ?_, ?_, ?_⟩
  · rw [State.flag_eq_true, State.get_settle_high _ (by decide)]
    exact hev
  · rw [State.settle_sch]
    exact List.mem_append_right _ (List.mem_singleton.2 rfl)
  · rw [State.settle_buf, thas, tget?_tset_self, Option.isSome_some]
  · rw [State.settle_sch, hsch]
    exact ho

/-! ### EGRESS_RESEND_TIMEOUT -/

theorem exec_egressResendTimeout (h : Nat) (s : State) :
    exec (.egressResendTimeout h) s = execEgressResendTimeout h s := rfl

/-- DT knows a unit by the number and port of `o`, and can read every body. -/
def State.UnitAs (s : State) (h : Nat) (o : Outstanding) : Prop :=
  s.deadStripe = false ∧ ∃ q, tget? s.sch.outst h = some q ∧ q.eseq = o.eseq ∧ q.port = o.port

/-- The unit has been given to a pipeline again, under its number. -/
def State.GivenAgain (s : State) (h : Nat) (o : Outstanding) (b : Bool) : Prop :=
  s.deadStripe = false ∧ s.get F.TF_EG_EVT_resend = 1 ∧
    ∃ q, tget? s.sch.outst h = some q ∧ q.pipeB = b ∧ q.eseq = o.eseq ∧ q.port = o.port

theorem State.resendTo_readable {s : State} (hd : s.deadStripe = false) (k : Nat) (b : Bool) :
    s.resendTo k b = s.giveAgain k b := by
  have hr : s.readOk = (true, s) := by
    unfold State.readOk
    rw [hd]
    rfl
  unfold State.resendTo
  split
  · next hn =>
    unfold State.giveAgain
    rw [hn]
  · rw [hr]
    rfl

theorem State.giveAgain_deadStripe (s : State) (k : Nat) (b : Bool) : (s.giveAgain k b).deadStripe = s.deadStripe := by
  unfold State.giveAgain
  split
  · rfl
  · rfl

/-- A unit that DT knows is given to the pipeline, which raises the event; no other unit's record changes. -/
theorem State.giveAgain_of_some {s : State} {k : Nat} {q : Outstanding} (b : Bool) (hq : tget? s.sch.outst k = some q) :
    (s.giveAgain k b).get F.TF_EG_EVT_resend = 1 ∧ (s.giveAgain k b).sch.outst = tset s.sch.outst k
      { q with pipeB := b, sentAt := some s.up, pkt := { q.pkt with start := q.copies } } := by
  unfold State.giveAgain
  rw [hq]
  dsimp only
  exact ⟨State.get_raise_self _ _ _ _ (by decide) (by decide), rfl⟩

theorem State.giveAgain_of_none {s : State} {k : Nat} (b : Bool) (hq : tget? s.sch.outst k = none) : s.giveAgain k b = s := by
  unfold State.giveAgain
  rw [hq]

theorem State.giveAgain_outst_ne (s : State) {k j : Nat} (b : Bool) (h : j ≠ k) :
    tget? (s.giveAgain k b).sch.outst j = tget? s.sch.outst j := by
  cases hq : tget? s.sch.outst k with
  | none => rw [State.giveAgain_of_none b hq]
  | some q => rw [(State.giveAgain_of_some b hq).2, tget?_tset_ne _ _ h]

namespace State.UnitAs

variable {s : State} {h : Nat} {o : Outstanding}

/-- Another unit given again leaves this one known. -/
theorem giveAgain_ne (hu : s.UnitAs h o) {k : Nat} (hk : h ≠ k) (b : Bool) : (s.giveAgain k b).UnitAs h o := by
  obtain ⟨hd, q, hq, he, hp⟩ := hu
  exact ⟨by rw [State.giveAgain_deadStripe, hd], q, by rw [State.giveAgain_outst_ne _ _ hk, hq], he, hp⟩

theorem giveAgain_self (hu : s.UnitAs h o) (b : Bool) : (s.giveAgain h b).GivenAgain h o b := by
  obtain ⟨hd, q, hq, he, hp⟩ := hu
  obtain ⟨hev, hout⟩ := State.giveAgain_of_some b hq
  exact ⟨by rw [State.giveAgain_deadStripe, hd], hev,
    { q with pipeB := b, sentAt := some s.up, pkt := { q.pkt with start := q.copies } },
    by rw [hout, tget?_tset_self], rfl, he, hp⟩

end State.UnitAs

theorem State.GivenAgain.giveAgain {s : State} {h : Nat} {o : Outstanding} {b : Bool} (hg : s.GivenAgain h o b) (k : Nat) :
    (s.giveAgain k b).GivenAgain h o b := by
  obtain ⟨hd, hev, q, hq, hb, he, hp⟩ := hg
  by_cases hk : h = k
  · subst hk
    exact State.UnitAs.giveAgain_self ⟨hd, q, hq, he, hp⟩ b
  · refine ⟨by rw [State.giveAgain_deadStripe, hd], ?_, q, by rw [State.giveAgain_outst_ne _ _ hk, hq], hb, he, hp⟩
    cases hn : tget? s.sch.outst k with
    | none => rw [State.giveAgain_of_none b hn, hev]
    | some r => exact (State.giveAgain_of_some b hn).1

theorem State.GivenAgain.foldl {h : Nat} {o : Outstanding} {b : Bool} (l : List Nat) {s : State} (hg : s.GivenAgain h o b) :
    (l.foldl (fun (t : State) k => t.resendTo k b) s).GivenAgain h o b := by
  induction l generalizing s with
  | nil => exact hg
  | cons k l ih =>
    rw [List.foldl_cons, State.resendTo_readable hg.1]
    exact ih (hg.giveAgain k)

/-- A unit among those sent again has been given to the pipeline when all have been. -/
theorem State.UnitAs.foldl {h : Nat} {o : Outstanding} {b : Bool} {l : List Nat} {s : State} (hu : s.UnitAs h o) (hm : h ∈ l) :
    (l.foldl (fun (t : State) k => t.resendTo k b) s).GivenAgain h o b := by
  induction l generalizing s with
  | nil => exact absurd hm List.not_mem_nil
  | cons k l ih =>
    rw [List.foldl_cons, State.resendTo_readable hu.1]
    by_cases hk : h = k
    · subst hk
      exact (hu.giveAgain_self b).foldl l
    · exact ih (hu.giveAgain_ne hk b) ((List.mem_cons.1 hm).resolve_left hk)

/-- A unit that DT has sent and that does not wait for its bytes is among its pipeline's unreported ones. -/
theorem State.mem_unreported {s : State} {h : Nat} {o : Outstanding} (ho : tget? s.sch.outst h = some o)
    (hr : s.sch.resend.contains h = false) : h ∈ s.unreported o.port o.pipeB := by
  refine List.mem_map.2 ⟨(o.eseq, h), List.mem_mergeSort.2 (List.mem_map.2 ⟨(h, o), List.mem_filter.2 ⟨mem_of_tget? ho, ?_⟩, rfl⟩), rfl⟩
  rw [hr, beq_self_eq_true, beq_self_eq_true]
  rfl

theorem egressResendTimeout_resends (h sent : Nat) (o : Outstanding) (s : State) (hl : s.live = true)
    (ho : tget? s.sch.outst h = some o) (hr : h ∉ s.sch.resend) (hs : o.sentAt = some sent) (ht : sent + 100000 ≤ s.up)
    (hd : s.deadStripe = false) (hok : s.egPipeOk o.port (!o.pipeB) = true) :
    Answers (.egressResendTimeout h) s (fun t => t.flag F.TF_EG_EVT_resend = true ∧
      ∃ q : Outstanding, tget? t.sch.outst h = some q ∧ q.pipeB = !o.pipeB ∧ q.eseq = o.eseq ∧ q.port = o.port) := by
  have hc : s.sch.resend.contains h = false := by simpa using hr
  have hcond : (s.live && !s.sch.resend.contains h && o.sentAt.any (fun t => decide (t + 100000 ≤ s.up))) = true := by
    rw [hl, hc, hs, Option.any_some, decide_eq_true ht]
    rfl
  have hfold : s.resendPipe o.port o.pipeB =
      (s.unreported o.port o.pipeB).foldl (fun (t : State) k => t.resendTo k (!o.pipeB)) s := by
    unfold State.resendPipe
    rw [hok]
    rfl
  have hx : exec (.egressResendTimeout h) s = okIf (s.live && !s.sch.resend.contains h &&
      o.sentAt.any (fun t => decide (t + 100000 ≤ s.up))) s (s.resendPipe o.port o.pipeB) := by
    rw [exec_egressResendTimeout]
    unfold execEgressResendTimeout
    rw [ho]
  obtain ⟨_, hev, hq⟩ := State.UnitAs.foldl (b := !o.pipeB) ⟨hd, o, ho, rfl, rfl⟩ (State.mem_unreported ho hc)
  rw [hfold] at hx
  refine answers_okIf hx hcond ?_
  rw [State.flag_eq_true, State.get_settle_high _ (by decide), State.settle_sch]
  exact ⟨hev, hq⟩

/-- Settles O55: a pipeline, the MAC and DT each by what they do with the one unit or copy that is next, and the units of a
pipeline by induction on their list. -/
theorem unitsAreRewrittenTransmittedReportedAndSettled : Obligations.UnitsAreRewrittenTransmittedReportedAndSettled :=
  ⟨egressProcess_takes, txUnitStart_starts, frameDelivered_reports, portDownAbort_cuts, runReportFlush_reports,
    deliveryReportReceive_settles, deliveryReportReceive_aborts, egressResendTimeout_resends⟩

end Sys2Proof.Machine
end

section
/-! PROOFS. A stalled pipeline, and a unit of the other one that waits for blocks (R362, R363, R371). -/

namespace Sys2Proof.Machine

theorem exec_pipeStall (p : Nat) (b : Bool) (s : State) : exec (.pipeStall p b) s =
    okIf (s.live && decide (p < 32) && !stalledOn (s.reseq p) b && !s.creditHeld p b) s
      (((s.setReseq p (if b then { s.reseq p with stallB := true } else { s.reseq p with stallA := true })).raise
        F.DT_BUF_EVT_stalled).runReseq p) := rfl

/-- A PACKET of port 0's pipeline A with the number 5, whose `seq_chk` passes. -/
def packetFive : IdlUnit := ⟨0, false, .packet, BitVec.ofNat 64 (5 + seqChk 5 * 2 ^ 40), 0, 0, 0, [], none⟩

/-- RUN, with that unit waiting for blocks at DT, the numbers 0 to 4 missing before it, and no unit held. -/
def waitsAtFive : State :=
  (State.reset.put F.KV_MODE_mode RUN).setReseq 0 { reseq0 with waiting := [packetFive] }

/-- That state once pipeline B is stalled, before `settle`. -/
def stallsAtFive : State :=
  ((waitsAtFive.setReseq 0 { waitsAtFive.reseq 0 with stallB := true }).raise F.DT_BUF_EVT_stalled).runReseq 0

theorem waitsAtFive_stalls : exec (.pipeStall 0 true) waitsAtFive = ok stallsAtFive := by
  rw [exec_pipeStall]
  exact okIf_of (by decide) _ _

/-- The stall closes the gap up to the number that waits: a unit has arrived under it, though none is held (R363). -/
theorem stallsAtFive_next : (stallsAtFive.settle.reseq 0).next = 5 := by
  rw [State.reseq, State.settle_buf]
  decide +kernel

/-- Refutes O47: with nothing held, the stall of a pipeline does not always leave the next number as it was. A unit of the
other pipeline that waits for blocks has arrived too, and the gap before it closes (R363, R371). -/
theorem not_pipelinesEmitAndResequencersReleaseInOrder : ¬ Obligations.PipelinesEmitAndResequencersReleaseInOrder := by
  unfold Obligations.PipelinesEmitAndResequencersReleaseInOrder
  rintro ⟨-, -, -, hstall, -, -⟩
  obtain ⟨t, ht, hempty, -⟩ := hstall 0 true waitsAtFive (by decide) (by decide) (by decide) (by decide)
  obtain ⟨-, hkept, -⟩ := hempty (by decide)
  rw [next_unique ht waitsAtFive_stalls, stallsAtFive_next] at hkept
  exact absurd hkept (by decide)

end Sys2Proof.Machine
end

section
/-! PROOFS. One nanosecond of the reference: what it leaves of the clocks (R114, R164, R742, R773; log 115). -/

namespace Sys2Proof.Machine

/-- The clocks of a state and its queue: device time, the reference, the fraction gathered, the commands that wait. -/
def State.clocks (s : State) : Nat × Nat × Nat × List Instr := (s.time, s.up, s.frac, s.pending)

theorem State.clocks_put (s : State) (f : Fld) (v i j : Nat) : (s.put f v i j).clocks = s.clocks := by
  obtain ⟨regs, h⟩ := s.put_keeps f v i j
  rw [h]
  rfl

theorem State.clocks_count (s : State) (g : CntGroup) (k i n : Nat) : (s.count g k i n).clocks = s.clocks := by
  simp [State.clocks]

theorem State.clocks_settle (s : State) : s.settle.clocks = s.clocks := by simp [State.clocks]

/-! ### The parts of a nanosecond that leave the clocks alone -/

theorem State.clocks_raise (s : State) (f : Fld) (i j : Nat) : (s.raise f i j).clocks = s.clocks := State.clocks_put ..

theorem State.clocks_zero (s : State) (f : Fld) (i j : Nat) : (s.zero f i j).clocks = s.clocks := State.clocks_put ..

theorem State.clocks_addSat (s : State) (f : Fld) (n i j : Nat) : (s.addSat f n i j).clocks = s.clocks := State.clocks_put ..

theorem State.clocks_emit (s : State) (o : Out) : (s.emit o).clocks = s.clocks := rfl

theorem State.clocks_setLp (s : State) (l : Nat) (x : LPort) : (s.setLp l x).clocks = s.clocks := rfl

/-- A choice between two states with one reading of the clocks. -/
theorem State.clocks_ite {c : Prop} [Decidable c] {a b s : State} (ha : a.clocks = s.clocks) (hb : b.clocks = s.clocks) :
    (if c then a else b).clocks = s.clocks :=
  State.ite_ind (P := fun t => t.clocks = s.clocks) (fun _ => ha) fun _ => hb

theorem State.clocks_setFrm (s : State) (l : Nat) (f : FrmSt) : (s.setFrm l f).clocks = s.clocks := by
  unfold State.setFrm
  simp only [State.clocks_put]
  exact State.clocks_ite (s := s) rfl rfl

theorem State.clocks_txFrame (s : State) (l : Nat) : (s.txFrame l).clocks = s.clocks := by
  have hp (t : State) (f : Fld) (v : Nat) (o : Out) (n : Nat) :
      ({ (t.put f v l).emit o with fv := n } : State).clocks = t.clocks := t.clocks_put f v l 0
  exact (hp _ _ _ _ _).trans (s.clocks_setFrm l _)

theorem State.clocks_txFrames (s : State) : s.txFrames.clocks = s.clocks := by
  refine State.clocks_ite rfl ?_
  exact foldl_fixes State.clocks (fun t l _ => State.clocks_ite (t.clocks_txFrame l) rfl) s

theorem State.clocks_windowClocks (s : State) : s.windowClocks.clocks = s.clocks :=
  State.clocks_ite (s.clocks_count ..) rfl

theorem State.clocks_ageMs (s : State) (m : Nat) : (s.ageMs m).clocks = s.clocks :=
  (State.clocks_ite (State.clocks_zero _ _ _ _) rfl).trans (s.clocks_addSat F.KV_MC_HEALTH_age_ms 1 m 0)

theorem State.clocks_leaveUpdraft (s : State) (c : Nat) : (s.leaveUpdraft c).clocks = s.clocks := by
  have hp (t : State) (p : PwrSt) : ({ t with pwr := p } : State).clocks = t.clocks := rfl
  unfold State.leaveUpdraft
  split
  · rw [State.clocks_put, hp, State.clocks_zero]
  · rfl

theorem State.clocks_ageSecond (s : State) : s.ageSecond.clocks = s.clocks := by
  refine (foldl_fixes State.clocks (fun t c _ => ?_) (s.addSat F.KV_AGE_ON_on_s 1)).trans (State.clocks_addSat _ _ _ _ _)
  refine State.clocks_ite ?_ (State.clocks_ite (State.clocks_zero _ _ _ _) rfl)
  refine (State.clocks_ite (s := t.addSat F.KV_AGE_UPD_upd_s 1 c) rfl ?_).trans (State.clocks_addSat _ _ _ _ _)
  rw [State.clocks_raise, State.clocks_raise, State.clocks_leaveUpdraft]

theorem State.clocks_probationSecond (s : State) : s.probationSecond.clocks = s.clocks := by
  unfold State.probationSecond
  split
  · rfl
  · exact State.clocks_ite (State.clocks_put _ _ _ _ _) rfl

theorem State.clocks_secondTick (s : State) : s.secondTick.clocks = s.clocks :=
  s.ageSecond.clocks_probationSecond.trans s.clocks_ageSecond

/-! ### The nanosecond -/

theorem State.tick_off {s : State} (h : s.mode = OFF) : s.tick = s := if_pos h

/-- The milliseconds and seconds that end with the nanosecond. -/
def State.ages (s : State) : State :=
  let t := if s.up % 1000000 = 0 then (s.ageMs 0).ageMs 1 else s
  if t.up % 1000000000 = 0 then t.secondTick else t

theorem State.clocks_ages (s : State) : s.ages.clocks = s.clocks :=
  (State.clocks_ite (State.clocks_secondTick _) rfl).trans
    (State.clocks_ite ((State.clocks_ageMs _ 1).trans (s.clocks_ageMs 0)) rfl)

/-- Outside OFF: device time, the frames that begin, the reference's own count, and what ages. -/
theorem State.tick_eq {s : State} (h : s.mode ≠ OFF) : s.tick =
    State.ages { (if s.timeRuns then s.timeTick else s).windowClocks.txFrames with
      up := (if s.timeRuns then s.timeTick else s).windowClocks.up + 1 } := if_neg h

/-- Outside OFF the reference counts on, and the other clocks are those that `timeTick` leaves. -/
theorem State.clocks_tick {s : State} (h : s.mode ≠ OFF) : s.tick.clocks =
    ((if s.timeRuns then s.timeTick else s).time, s.up + 1, (if s.timeRuns then s.timeTick else s).frac, s.pending) := by
  have hup : (if s.timeRuns then s.timeTick else s).up = s.up := by split <;> rfl
  have hq : (if s.timeRuns then s.timeTick else s).pending = s.pending := by split <;> rfl
  rw [State.tick_eq h, State.clocks_ages]
  generalize (if s.timeRuns then s.timeTick else s) = u at hup hq ⊢
  have hf : u.windowClocks.txFrames.clocks = u.clocks := (State.clocks_txFrames _).trans (State.clocks_windowClocks _)
  have hw : u.windowClocks.up = u.up := congrArg (·.2.1) u.clocks_windowClocks
  simp only [State.clocks, Prod.mk.injEq] at hf ⊢
  obtain ⟨htime, -, hfrac, hpend⟩ := hf
  exact ⟨htime, by rw [hw, hup], hfrac, hpend.trans hq⟩

/-- Without a rate correction device time gains the nanosecond, and what the fraction holds of whole ones (R114). -/
theorem State.timeTick_uncorrected {s : State} (h : s.get F.TF_TIME_ADJ_freq_adj = 0) :
    s.timeTick.time = (s.time + 1 + s.frac / adjUnit) % 2 ^ 64 ∧ s.timeTick.frac = s.frac % adjUnit := by
  have ha : (adjUnit : Int) + s.frac + sgn 32 (s.get F.TF_TIME_ADJ_freq_adj) = ((adjUnit + s.frac : Nat) : Int) := by
    rw [h]
    simp [sgn]
  unfold State.timeTick State.setTime
  dsimp only
  rw [ha]
  have hd : (((adjUnit + s.frac : Nat) : Int) / (adjUnit : Int)).toNat = 1 + s.frac / adjUnit := by
    rw [← Int.natCast_ediv, Int.toNat_natCast, Nat.add_div_left _ (by decide : 0 < adjUnit)]
    omega
  have hm : (((adjUnit + s.frac : Nat) : Int) % (adjUnit : Int)).toNat = s.frac % adjUnit := by
    rw [← Int.natCast_emod, Int.toNat_natCast, Nat.add_mod_left]
  rw [hd, hm]
  exact ⟨by rw [Nat.add_assoc], rfl⟩

/-- Settles O2: the step is a nanosecond, and every part of it but `timeTick` and the reference's own count leaves the clocks
alone. -/
theorem anEmptyQueueLetsOneNanosecondPass : Obligations.AnEmptyQueueLetsOneNanosecondPass := by
  intro s hq
  have hstep : step s = ok s.tick := by
    unfold step
    rw [hq]
  refine ⟨s.tick.settle, hstep, ?_⟩
  rcases eq_or_ne s.mode OFF with ho | ho
  · rw [State.tick_off ho]
    simp [hq, ho]
  · have hc := s.tick.clocks_settle.trans (State.clocks_tick ho)
    simp only [State.clocks, Prod.mk.injEq] at hc
    obtain ⟨htime, hup, hfrac, hpend⟩ := hc
    refine ⟨hpend.trans hq, fun h => absurd h ho, fun _ => hup, fun _ hr hz => ?_⟩
    rw [hr, if_pos rfl] at htime hfrac
    obtain ⟨ht, hf⟩ := State.timeTick_uncorrected hz
    exact ⟨htime.trans ht, hfrac.trans hf⟩

end Sys2Proof.Machine
end

section
/-! PROOFS. The release of a reset source and the steps of the exit sequence (R114, R683, R684, R686, R689, R697, R747;
log 95). -/

namespace Sys2Proof.Machine

/-! ### A source that releases (R684) -/

section
variable {s : State} {x : RSrc}

theorem State.rst_releaseSource (h : x ∈ s.rst.asserted) : (s.releaseSource x).rst = { s.rst with
    asserted := s.rst.asserted.filter (· ≠ x)
    exit := if (s.rst.asserted.filter (· ≠ x)).isEmpty then some 0 else none
    exitAt := s.up } := by
  unfold State.releaseSource
  rw [if_pos (List.contains_iff_mem.mpr h)]
  dsimp only
  split <;> rfl

theorem State.regs_releaseSource (s : State) (x : RSrc) : (s.releaseSource x).regs = s.regs := by
  unfold State.releaseSource
  dsimp only
  split
  · split <;> rfl
  · rfl

theorem State.out_releaseRipcord (h : .ripcord ∈ s.rst.asserted) :
    (s.releaseSource .ripcord).out = s.out ++ [.thermtrip false] := by
  unfold State.releaseSource
  rw [if_pos (List.contains_iff_mem.mpr h)]
  rfl

/-- The one source asserted leaves none behind, and the exit sequence begins. -/
theorem State.releaseSource_last (hx : x ∈ s.rst.asserted) (ha : ∀ y ∈ s.rst.asserted, y = x) :
    (s.releaseSource x).rst.asserted = [] ∧ (s.releaseSource x).rst.exit = some 0 := by
  have hl : s.rst.asserted.filter (· ≠ x) = [] := List.filter_eq_nil_iff.mpr fun y hy => by simp [ha y hy]
  rw [State.rst_releaseSource hx, hl]
  exact ⟨rfl, rfl⟩

/-- Another source still asserted holds the exit sequence back. -/
theorem State.releaseSource_other {y : RSrc} (hx : x ∈ s.rst.asserted) (hy : y ∈ s.rst.asserted) (hne : y ≠ x) :
    x ∉ (s.releaseSource x).rst.asserted ∧ y ∈ (s.releaseSource x).rst.asserted ∧ (s.releaseSource x).rst.exit = none := by
  have hm : y ∈ s.rst.asserted.filter (· ≠ x) := List.mem_filter.mpr ⟨hy, by simpa using hne⟩
  have he : (s.rst.asserted.filter (· ≠ x)).isEmpty = false := by
    rw [List.isEmpty_eq_false_iff]
    exact List.ne_nil_of_mem hm
  rw [State.rst_releaseSource hx]
  exact ⟨by simp, hm, by rw [he]; rfl⟩

theorem State.powerHeld_last (hx : x ∈ s.rst.asserted) (ha : ∀ y ∈ s.rst.asserted, y = x) :
    s.powerHeld = decide (srcReach x = 3) := by
  unfold State.powerHeld
  rw [Bool.eq_iff_iff, List.any_eq_true]
  constructor
  · rintro ⟨y, hy, h⟩
    rwa [ha y hy] at h
  · exact fun h => ⟨x, hx, h⟩

end

/-! ### The straps (R697) -/

theorem State.rst_sampleStraps (s : State) (raw : Nat) : (s.sampleStraps raw).rst = s.rst := by
  simp [State.sampleStraps]

theorem State.raw_sampleStraps (s : State) (raw : Nat) : (s.sampleStraps raw).get F.KV_STRAP_raw = raw % 32 := by
  unfold State.sampleStraps
  simp (disch := decide) only [State.get_put_fld, State.get_put_self]
  rfl

theorem regsBut_sampleStraps (s : State) (raw : Nat) : RegsBut [regAddr R.KV_STRAP 0 0] s (s.sampleStraps raw) := by
  have hm : regAddr R.KV_STRAP 0 0 ∈ [regAddr R.KV_STRAP 0 0] := List.mem_singleton_self _
  exact regsBut_put (regsBut_put (regsBut_put (regsBut_put (regsBut_put (regsBut_refl _ s) hm) hm) hm) hm) hm

theorem exec_resetSourceRelease (x : RSrc) (straps : Nat) (s : State) :
    exec (.resetSourceRelease ⟨x, straps⟩) s = okIf (s.mode ≠ OFF) s
      (if s.powerHeld && !(s.releaseSource x).powerHeld then (s.releaseSource x).sampleStraps straps
       else s.releaseSource x) := rfl

theorem lastRelease_answers {x : RSrc} (straps : Nat) {s : State} (hm : s.mode ≠ OFF) (hx : x ∈ s.rst.asserted)
    (ha : ∀ y ∈ s.rst.asserted, y = x) :
    Answers (.resetSourceRelease ⟨x, straps⟩) s (fun t => t.rst.asserted = [] ∧ t.rst.exit = some 0 ∧
      (srcReach x = 3 → t.get F.KV_STRAP_raw = straps % 32 ∧ RegsBut [regAddr R.KV_STRAP 0 0] s t) ∧
      (srcReach x ≠ 3 → RegsBut [] s t)) := by
  obtain ⟨hl, he⟩ := State.releaseSource_last hx ha
  have hr (l : List Nat) : RegsBut l s (s.releaseSource x) := fun _ _ _ _ _ => by rw [s.regs_releaseSource x]
  have hp : (s.releaseSource x).powerHeld = false := by
    unfold State.powerHeld
    rw [hl]
    rfl
  refine answers_okIf (exec_resetSourceRelease x straps s) (decide_eq_true hm) ?_
  rw [hp, State.powerHeld_last hx ha]
  by_cases h3 : srcReach x = 3
  · rw [if_pos (by simpa using h3)]
    refine ⟨?_, ?_, fun _ => ⟨?_, regsBut_settle_of ?_⟩, fun h => absurd h3 h⟩
    · rw [State.settle_rst, State.rst_sampleStraps, hl]
    · rw [State.settle_rst, State.rst_sampleStraps, he]
    · rw [State.get_settle _ (by decide) (by decide) (by decide), State.raw_sampleStraps]
    · exact regsBut_trans (hr _) (regsBut_sampleStraps _ _)
  · rw [if_neg (by simpa using h3)]
    refine ⟨?_, ?_, fun h => absurd h h3, fun _ => regsBut_settle_of (hr _)⟩
    · rw [State.settle_rst, hl]
    · rw [State.settle_rst, he]

theorem release_waits {x y : RSrc} (straps : Nat) {s : State} (hm : s.mode ≠ OFF) (hx : x ∈ s.rst.asserted)
    (hy : y ∈ s.rst.asserted) (hne : y ≠ x) :
    Answers (.resetSourceRelease ⟨x, straps⟩) s
      (fun t => x ∉ t.rst.asserted ∧ y ∈ t.rst.asserted ∧ t.rst.exit = none) := by
  refine answers_okIf (exec_resetSourceRelease x straps s) (decide_eq_true hm) ?_
  have hrst : (if s.powerHeld && !(s.releaseSource x).powerHeld then (s.releaseSource x).sampleStraps straps
      else s.releaseSource x).rst = (s.releaseSource x).rst := by
    split
    · exact State.rst_sampleStraps _ _
    · rfl
  rw [State.settle_rst, hrst]
  exact State.releaseSource_other hx hy hne

theorem ripcordRelease_answers {s : State} (hx : .ripcord ∈ s.rst.asserted) :
    Answers .ripcordRelease s (fun t => .ripcord ∉ t.rst.asserted ∧ t.get F.KV_THERM_STAT_state = 1 ∧
      .thermtrip false ∈ t.out ∧ RegsBut [regAddr R.KV_THERM_STAT 0 0] s t) := by
  refine answers_okIf (t := (s.releaseSource .ripcord).put F.KV_THERM_STAT_state 1) rfl
    (List.contains_iff_mem.mpr hx) ⟨?_, ?_, State.mem_out_settle ?_, regsBut_settle_of (regsBut_put ?_ ?_)⟩
  · rw [State.settle_rst, State.put_rst, State.rst_releaseSource hx]
    simp
  · rw [State.get_settle _ (by decide) (by decide) (by decide), State.get_put_self _ _ _ _ _ (by decide)]
    rfl
  · rw [State.put_out, State.out_releaseRipcord hx]
    simp
  · exact fun _ _ _ _ _ => by rw [State.regs_releaseSource]
  · exact List.mem_singleton_self _

/-! ### The exit sequence (R686, R689) -/

theorem exec_exitSequenceStep {s : State} {k : Nat} (low high : Nat) (h : s.rst.exit = some k) :
    exec (.exitSequenceStep low high) s = ok (if s.rst.reach = 1 then s.coreExit else s.exitStep (islandMask low high) k) := by
  show execExitSequenceStep low high s = _
  unfold execExitSequenceStep
  rw [h]

/-- Of system or power-on reach the step is that of its number. -/
theorem exitStep_answers {s : State} {k : Nat} {P : State → Prop} (low high : Nat) (h2 : 2 ≤ s.rst.reach)
    (h : s.rst.exit = some k) (hP : P (s.exitStep (islandMask low high) k).settle) :
    Answers (.exitSequenceStep low high) s P := by
  have he := exec_exitSequenceStep low high h
  rw [if_neg (by omega)] at he
  exact answers_ok he hP

theorem State.exitStep_zero (s : State) (u : Nat) : (s.exitStep u 0).time = 0 ∧ (s.exitStep u 0).rst.exit = some 1 ∧
    (s.exitStep u 0).rec0.inc = (if s.rst.incDone then s.rec0.inc else (s.rec0.inc + 1) % 2 ^ 16) := by
  by_cases h : s.rst.incDone = true <;> simp [State.exitStep, h]

theorem State.settle_inc (s : State) : s.settle.rec0.inc = s.rec0.inc := by
  obtain ⟨_, _, _, _, _, h⟩ := State.settle_keeps s; rw [h]

theorem State.exitStep_one (s : State) (u : Nat) : (s.exitStep u 1).rst.exit = some 2 ∧
    (s.exitStep u 1).sram = (if s.rst.reach = 3 then [] else s.sram) := by
  by_cases h : s.rst.reach = 3 <;> simp [State.exitStep, h]

theorem State.mode_recordLost (s : State) : s.recordLost.mode = s.mode := by
  unfold State.recordLost
  split
  · exact State.get_raise_reg _ (by decide)
  · rfl

theorem State.mode_enterLoad (s : State) : s.enterLoad.mode = LOAD := by
  have hm (t : State) (r : RstSt) (b : BootSt) (v : Nat) :
      (({ t with rst := r, boot := b } : State).put F.KV_BOOT_STAT_src v).mode = t.mode :=
    (State.mode_put { t with rst := r, boot := b } v (by decide)).trans
      (State.get_congr (s := t) (t := { t with rst := r, boot := b }) rfl F.KV_MODE_mode 0 0)
  have he (t : State) (o : List Out) : (t.emits o).mode = t.mode := State.get_congr (t := t.emits o) rfl F.KV_MODE_mode 0 0
  unfold State.enterLoad
  dsimp only
  rw [hm, he, State.mode_recordLost, State.mode_enterMode _ (by decide)]

theorem State.episode_enterLoad (s : State) : s.enterLoad.rst.reach = 0 ∧ s.enterLoad.rst.exit = none := by
  unfold State.enterLoad
  simp

theorem exitEnd_answers {s : State} (low high : Nat) (h2 : 2 ≤ s.rst.reach) (h : s.rst.exit = some 3) :
    Answers (.exitSequenceStep low high) s (fun t => t.mode = LOAD ∧ t.rst.reach = 0 ∧ t.rst.exit = none) := by
  have hm : (s.exitStep (islandMask low high) 3).mode = LOAD := s.mode_enterLoad
  refine exitStep_answers low high h2 h ⟨?_, ?_⟩
  · exact (State.mode_settle_of_ne _ (by rw [hm]; decide) (by rw [hm]; decide)).trans hm
  · rw [State.settle_rst]
    exact s.episode_enterLoad

/-! ### The exit of core reach (R594, R677) -/

theorem State.isOn_blockOn (s : State) {i : Nat} (hi : i < 68) : (s.blockOn i).get F.KV_BLK_STAT_state i = 0 := by
  obtain ⟨h, -⟩ := blockStarted_fields s hi
  unfold State.blockStarted at h
  rwa [State.get_raise_reg _ ((BlkFld.stat hi).ne (.inl (by decide))),
    State.get_zero_reg _ (blkStat_ne_blkCtl i i)] at h

/-- Block 29 in service leaves the state of block 28. -/
theorem regsIn_blockOn_second (s : State) : RegsIn 0x31C8 0x31D0 s (s.blockOn 29) := by
  unfold State.blockOn
  refine State.setIslMv_cases (P := RegsIn 0x31C8 0x31D0 s) _ 29 750 fun t ht _ => ?_
  have hstat (u : State) (f : Fld) (v : Nat) (hf : regAddr f.reg 29 0 < 0x31C8 ∨ 0x31D0 ≤ regAddr f.reg 29 0) :
      RegsIn 0x31C8 0x31D0 u (u.put f v 29) := RegsIn.put u v hf
  exact ((((hstat _ _ _ (by decide)).trans (hstat _ _ _ (by decide))).trans (hstat _ _ _ (by decide))).trans
    (hstat _ _ _ (by decide))).trans ((hstat _ _ _ (by decide)).trans (RegsIn.of_regs ht))

/-- The controllers in service, before their roles are shown. -/
def State.coreOn (s : State) : State := (s.blockOn 28).blockOn 29

theorem State.get_coreOn (s : State) :
    s.coreOn.get F.KV_BLK_STAT_state 28 = 0 ∧ s.coreOn.get F.KV_BLK_STAT_state 29 = 0 :=
  ⟨((regsIn_blockOn_second _).get (by decide) (by decide)).trans (s.isOn_blockOn (by decide)),
    State.isOn_blockOn _ (by decide)⟩

theorem blkSame_coreExit (s : State) : BlkSame s.coreOn s.coreExit := by
  have hr := (blkSame_setRole s.coreOn 0 2).trans (blkSame_setRole _ 1 2)
  have hc (t : State) (n : Nat) : BlkSame t (t.addSat F.KV_RESET_CAUSE_core_episodes n) := RegsIn.put t _ (.inl (by decide))
  have hd (t : State) : BlkSame t (t.raise F.KV_RST_EVT_core_done) := RegsIn.put t _ (.inl (by decide))
  have hs (t : State) (r : RstSt) (m : McSt) : BlkSame t { t with rst := r, mc := m } := RegsIn.of_regs rfl
  exact ((hr.trans (hc _ 1)).trans (hs _ _ _)).trans (hd _)

theorem State.coreExit_episode (s : State) : s.coreExit.rst.reach = 0 ∧ s.coreExit.rst.exit = none ∧
    s.coreExit.mc.starting = true := by
  unfold State.coreExit
  simp

theorem coreExit_answers {s : State} {k : Nat} (low high : Nat) (h1 : s.rst.reach = 1) (h : s.rst.exit = some k) :
    Answers (.exitSequenceStep low high) s (fun t => t.rst.reach = 0 ∧ t.rst.exit = none ∧
      t.mc.starting = true ∧ t.isOn 28 = true ∧ t.isOn 29 = true) := by
  have he := exec_exitSequenceStep low high h
  rw [if_pos h1] at he
  have hon (i : Nat) (hi : i < 68) (h0 : s.coreOn.get F.KV_BLK_STAT_state i = 0) : s.coreExit.settle.isOn i = true := by
    have hb : s.coreExit.settle.get F.KV_BLK_STAT_state i = 0 := by
      rw [(BlkFld.stat hi).settle, (BlkFld.stat hi).get (blkSame_coreExit s), h0]
    exact beq_iff_eq.mpr hb
  obtain ⟨hr, hx, hs⟩ := s.coreExit_episode
  obtain ⟨h28, h29⟩ := s.get_coreOn
  refine answers_ok he ⟨?_, ?_, ?_, hon 28 (by decide) h28, hon 29 (by decide) h29⟩
  · rw [State.settle_rst, hr]
  · rw [State.settle_rst, hx]
  · rw [State.settle_mc, hs]

/-- Settles O11: the releases, then each step of the exit sequence by its number. -/
theorem theExitSequenceFollowsTheLastRelease : Obligations.TheExitSequenceFollowsTheLastRelease := by
  refine ⟨fun x straps s hm hx ha => lastRelease_answers straps hm hx ha,
    fun x y straps s hm hx hy hne => release_waits straps hm hx hy hne, fun s hx => ripcordRelease_answers hx, ?_, ?_,
    fun low high s h2 h => exitEnd_answers low high h2 h, fun low high k s h1 h => coreExit_answers low high h1 h⟩
  · intro low high s h2 h
    refine exitStep_answers low high h2 h ?_
    rw [State.settle_time, State.settle_rst, State.settle_inc]
    exact s.exitStep_zero _
  · intro low high s h2 h
    refine exitStep_answers low high h2 h ?_
    rw [State.settle_rst, State.settle_sram]
    exact s.exitStep_one _

end Sys2Proof.Machine
end

section
/-! PROOFS. Arrays of registers: where one lies, what a write to one array leaves of another, and a field that saturates
(R838). -/

namespace Sys2Proof.Machine

/-- The first address past the last register of an array. -/
def RegD.past (r : RegD) : Nat := r.base + (r.n - 1) * r.stride + 1

theorem regAddr_bounds {r : RegD} {i : Nat} (h : i < r.n) : r.base ≤ regAddr r i 0 ∧ regAddr r i 0 < r.past := by
  have hm : i * r.stride ≤ (r.n - 1) * r.stride := Nat.mul_le_mul_right _ (by omega)
  unfold regAddr RegD.past
  omega

/-- Registers of two arrays apart. -/
theorem regAddr_ne {q r : RegD} {i k : Nat} (hi : i < q.n) (hk : k < r.n) (h : q.past ≤ r.base ∨ r.past ≤ q.base) :
    regAddr q i 0 ≠ regAddr r k 0 := by
  have := regAddr_bounds hi
  have := regAddr_bounds hk
  omega

/-- Two registers of one array. -/
theorem regAddr_ne_of_ne {r : RegD} {i k : Nat} (h : i ≠ k) (hs : 0 < r.stride) : regAddr r i 0 ≠ regAddr r k 0 := by
  unfold regAddr
  intro he
  exact h (Nat.eq_of_mul_eq_mul_right hs (by omega))

namespace RegsIn

variable {lo hi : Nat} {s t : State}

/-- A field of an array within a range that stays. -/
theorem get_of (h : RegsIn lo hi s t) {f : Fld} {i : Nat} (hn : i < f.reg.n) (hr : lo ≤ f.reg.base ∧ f.reg.past ≤ hi) :
    t.get f i = s.get f i := by
  have := regAddr_bounds hn
  exact h.get (by omega) (by omega)

theorem flag_of (h : RegsIn lo hi s t) {f : Fld} {i : Nat} (hn : i < f.reg.n) (hr : lo ≤ f.reg.base ∧ f.reg.past ≤ hi) :
    t.flag f i = s.flag f i := by
  unfold State.flag
  rw [h.get_of hn hr]

/-- A write to an array outside the range. -/
theorem put_of (s : State) {f : Fld} {i : Nat} (v : Nat) (hn : i < f.reg.n) (hr : f.reg.past ≤ lo ∨ hi ≤ f.reg.base) :
    RegsIn lo hi s (s.put f v i) := by
  have := regAddr_bounds hn
  exact RegsIn.put s v (by omega)

end RegsIn

/-- A field of another array. -/
theorem State.get_put_of (s : State) {f g : Fld} {i k : Nat} (v : Nat) (hi : i < f.reg.n) (hk : k < g.reg.n)
    (h : g.reg.past ≤ f.reg.base ∨ f.reg.past ≤ g.reg.base) : (s.put f v i).get g k = s.get g k :=
  s.get_put_reg v (regAddr_ne hk hi h)

/-- A field of another register of the array. -/
theorem State.get_put_ne (s : State) {f g : Fld} {i k : Nat} (v : Nat) (hr : g.reg = f.reg) (h : k ≠ i)
    (hs : 0 < f.reg.stride) : (s.put f v i).get g k = s.get g k :=
  s.get_put_reg v (by rw [hr]; exact regAddr_ne_of_ne h hs)

/-- A field that saturates. -/
theorem State.get_addSat_self (s : State) (f : Fld) (n i j : Nat) (hf : f.lo + f.w ≤ 64) :
    (s.addSat f n i j).get f i j = min (2 ^ f.w - 1) (s.get f i j + n) := by
  have hp : 0 < 2 ^ f.w := Nat.two_pow_pos _
  have hs : satAdd (2 ^ f.w - 1) (s.get f i j) n = min (2 ^ f.w - 1) (s.get f i j + n) := by
    unfold satAdd
    split <;> omega
  rw [State.addSat, State.get_put_self _ _ _ _ _ hf, hs, Nat.mod_eq_of_lt (by omega)]

end Sys2Proof.Machine
end

section
/-! PROOFS. An auto-negotiation to another rate (R99, R100, R102). -/

namespace Sys2Proof.Machine

theorem State.present_lt {s : State} {l : Nat} (h : s.present l = true) : l < 256 :=
  of_decide_eq_true (Bool.and_eq_true_iff.1 h).1

/-- The record of a partner as a page resolves (R99). -/
def State.partnerShown (s : State) (l : Nat) (page : Word) (rate : Nat) : State :=
  ((((s.put F.TF_LINK_PARTNER_base_page (bits page.toNat 0 48) l).put F.TF_LINK_PARTNER_next_pages
    (bits page.toNat 48 8) l).put F.TF_LINK_PARTNER_resolved rate l).put F.TF_LINK_PARTNER_partner_rf
    (bits page.toNat 13 1) l).put F.TF_LINK_PARTNER_valid 1 l

theorem exec_anResolved (l rate : Nat) (page : Word) (s : State) : exec (.anResolved l page rate) s =
    okIf (s.live && s.present l && decide (s.link l = 1)) s
      (if rate = portSpeed (s.breakout (l / 8)) then (s.partnerShown l page rate).setLink l 2
       else ((s.partnerShown l page rate).anRestart l).raise F.TF_LPORT_EVT_an_fail l) := rfl

theorem partnerShown_onlyRegs {m : List Nat} (s : State) {l : Nat} (page : Word) (rate : Nat)
    (hm : regAddr R.TF_LINK_PARTNER l 0 ∈ m) : OnlyRegs m s (s.partnerShown l page rate) :=
  (((((OnlyRegs.refl _ s).put _ hm).put _ hm).put _ hm).put _ hm).put _ hm

/-- Only the record of the partner changes. -/
theorem regsIn_partnerShown {lo hi : Nat} (s : State) {l : Nat} (page : Word) (rate : Nat) (hl : l < 256)
    (h : 0x1024000 ≤ lo ∨ hi ≤ 0x1020000) : RegsIn lo hi s (s.partnerShown l page rate) := by
  have hr : R.TF_LINK_PARTNER.past ≤ lo ∨ hi ≤ R.TF_LINK_PARTNER.base :=
    h.imp (le_trans (by decide)) fun h => h
  have hp (t : State) (f : Fld) (v : Nat) (hf : f.reg = R.TF_LINK_PARTNER) : RegsIn lo hi t (t.put f v l) :=
    RegsIn.put_of t v (by rw [hf]; exact hl) (by rw [hf]; exact hr)
  exact ((((hp s _ _ rfl).trans (hp _ _ _ rfl)).trans (hp _ _ _ rfl)).trans (hp _ _ _ rfl)).trans (hp _ _ _ rfl)

/-- Settles O41: the record of the partner, one restart more, and the event. -/
theorem anToAnotherRateStaysInAn : Obligations.AnToAnotherRateStaysInAn := by
  intro l rate page s hlive hp h1 hne
  have hl := State.present_lt hp
  have he := exec_anResolved l rate page s
  rw [if_neg hne] at he
  have hk : RegsIn 0x1018000 0x1020000 s (s.partnerShown l page rate) := regsIn_partnerShown s page rate hl (.inr le_rfl)
  have hget (f : Fld) (hf : f.reg = R.TF_LPORT_STAT) : (s.partnerShown l page rate).get f l = s.get f l :=
    hk.get_of (by rw [hf]; exact hl) (by rw [hf]; decide)
  have hev (t : State) (f : Fld) (hf : f.reg = R.TF_LPORT_STAT) : (t.raise F.TF_LPORT_EVT_an_fail l).get f l = t.get f l :=
    State.get_put_of t 1 hl (by rw [hf]; exact hl) (by rw [hf]; decide)
  refine answers_okIf he (by simp [hlive, hp, h1]) ⟨?_, ?_, ?_, ?_⟩
  · show State.get _ F.TF_LPORT_STAT_link_state l = 1
    rw [State.get_settle_high _ (by decide), hev _ _ rfl, State.anRestart, State.addSat]
    simp (disch := decide) only [State.get_put_fld]
    exact (hget _ rfl).trans h1
  · rw [State.get_settle_high _ (by decide), hev _ _ rfl, State.anRestart, State.get_addSat_self _ _ _ _ _ (by decide),
      hget _ rfl]
    rfl
  · rw [State.flag_eq_true, State.get_settle_high _ (by decide), State.get_raise_self _ _ _ _ (by decide) (by decide)]
  · exact (((partnerShown_onlyRegs s page rate (by simp)).put _ (by simp [F.TF_LPORT_STAT_an_restarts])).put _
      (by simp [F.TF_LPORT_EVT_an_fail])).settle

end Sys2Proof.Machine
end

section
/-! PROOFS. What a change of link state leaves alone: registers by their arrays, the logical ports, and everything beyond the
ports (R96, R97, R103, R127, R134, R139, R154). -/

namespace Sys2Proof.Machine

/-! ### The port's contents under register writes -/

theorem State.port_put (s : State) (f : Fld) (v i j : Nat) : (s.put f v i j).port = s.port := by
  obtain ⟨regs, h⟩ := s.put_keeps f v i j
  rw [h]

theorem State.lp_congr {s t : State} (h : t.port = s.port) (k : Nat) : t.lp k = s.lp k := by
  rw [State.lp, h, State.lp]

theorem State.lp_put (s : State) (f : Fld) (v i j k : Nat) : (s.put f v i j).lp k = s.lp k :=
  State.lp_congr (s.port_put f v i j) k

theorem State.lp_setLp_self (s : State) (l : Nat) (x : LPort) : (s.setLp l x).lp l = x := tget_tput_self _ _ _ _

theorem State.lp_setLp_ne (s : State) {l k : Nat} (x : LPort) (h : k ≠ l) : (s.setLp l x).lp k = s.lp k :=
  tget_tput_ne _ _ _ _ h

theorem State.lp_settle (s : State) (k : Nat) : s.settle.lp k = s.lp k := State.lp_congr s.settle_port k

/-- No port at all: what stands for the ports in a state without them. -/
def noPorts : PortSt := ⟨[], [], [], [], [], none, false, 0, none⟩

/-- A state without its registers, its telemetry and its ports: what a change of link state leaves. -/
def State.sansPort (s : State) : State := { s with regs := [], tlm := tlm0, port := noPorts }

theorem State.sansPort_of_sansCounts {s t : State} (h : t.sansCounts = s.sansCounts) : t.sansPort = s.sansPort :=
  (congrArg (fun u : State => { u with port := noPorts }) h : { t.sansCounts with port := noPorts } = { s.sansCounts with port := noPorts })

theorem State.sansPort_put (s : State) (f : Fld) (v i j : Nat) : (s.put f v i j).sansPort = s.sansPort :=
  State.sansPort_of_sansCounts (s.sansCounts_put f v i j)

theorem State.sansPort_setLp (s : State) (l : Nat) (x : LPort) : (s.setLp l x).sansPort = s.sansPort := rfl

/-- A state without its registers and its logical ports. -/
def State.sansLports (s : State) : State := { s with regs := [], port := { s.port with lports := [] } }

/-- A command that changes these alone, settled. -/
theorem settledLports {s t : State} (h : t.sansLports = s.sansLports) :
    t.settle = { s.settled t.settle with port := { s.port with lports := t.settle.port.lports } } := by
  have hu : t = { s with regs := t.regs, port := { s.port with lports := t.port.lports } } :=
    congrArg (fun u : State => { u with regs := t.regs, port := { u.port with lports := t.port.lports } }) h
  obtain ⟨regs, out, p, a, fails, hs⟩ := State.settle_keeps t
  rw [hs, hu]
  rfl

theorem State.sansLports_put (s : State) (f : Fld) (v i j : Nat) : (s.put f v i j).sansLports = s.sansLports := by
  obtain ⟨regs, h⟩ := s.put_keeps f v i j
  rw [h]
  rfl

theorem State.sansLports_setLp (s : State) (l : Nat) (x : LPort) : (s.setLp l x).sansLports = s.sansLports := rfl

/-! ### Lanes (R88) -/

theorem lane_lt {s : State} {l n : Nat} (hl : l < 256) (hn : n ∈ s.lanesOf l) : n < 256 := by
  obtain ⟨i, -, rfl⟩ := List.mem_map.1 hn
  have := bits_lt (s.get F.TF_PORT_LANEMAP_rx_map (l / 8)) (3 * (l % 8 + i)) 3
  omega

theorem RegsIn.foldl_mem {α : Type} {lo hi : Nat} {step : State → α → State} {m : List α}
    (h : ∀ s, ∀ x ∈ m, RegsIn lo hi s (step s x)) (s : State) : RegsIn lo hi s (m.foldl step s) := by
  induction m generalizing s with
  | nil => exact RegsIn.refl s
  | cons x m ih =>
    exact (h s x List.mem_cons_self).trans (ih (fun t y hy => h t y (List.mem_cons_of_mem _ hy)) _)

/-- A field of every lane of a port. -/
theorem RegsIn.putLanes {lo hi : Nat} (s : State) {f : Fld} (v : Nat) {l : Nat} (hl : l < 256) (hf : f.reg = R.TF_LANE_STAT)
    (hr : 0x1044000 ≤ lo ∨ hi ≤ 0x1040000) : RegsIn lo hi s (s.putLanes f v l) :=
  RegsIn.foldl_mem (fun t n hn => RegsIn.put_of t v (by rw [hf]; exact lane_lt hl hn)
    (by rw [hf]; exact hr.imp (le_trans (by decide)) fun h => h)) s

theorem State.port_putLanes (s : State) (f : Fld) (v l : Nat) : (s.putLanes f v l).port = s.port :=
  foldl_fixes (·.port) (fun t n _ => t.port_put f v n 0) s

theorem State.sansCounts_putLanes (s : State) (f : Fld) (v l : Nat) : (s.putLanes f v l).sansCounts = s.sansCounts :=
  foldl_fixes State.sansCounts (fun t n _ => t.sansCounts_put f v n 0) s

/-! ### Transmit taps (R103) -/

theorem State.imageTaps_cases {P : State → Prop} (s : State) (l : Nat) (h0 : P s)
    (h1 : ∀ taps, P (s.setTaps l taps)) : P (s.imageTaps l) := by
  unfold State.imageTaps
  split
  · exact State.ite_ind (fun _ => h1 _) fun _ => h0
  · exact h0

theorem State.regs_imageTaps (s : State) (l : Nat) : (s.imageTaps l).regs = s.regs :=
  State.imageTaps_cases (P := fun t => t.regs = s.regs) s l rfl fun _ => rfl

theorem State.lp_imageTaps (s : State) (l k : Nat) : (s.imageTaps l).lp k = s.lp k :=
  State.imageTaps_cases (P := fun t => t.lp k = s.lp k) s l rfl fun _ => rfl

theorem State.sansPort_imageTaps (s : State) (l : Nat) : (s.imageTaps l).sansPort = s.sansPort :=
  State.imageTaps_cases (P := fun t => t.sansPort = s.sansPort) s l rfl fun _ => rfl

/-! ### Framed receive paths (R133, R134, R139, R165) -/

/-- A framed port stored, before its status register shows it. -/
def State.frmStored (s : State) (l : Nat) (f : FrmSt) : State :=
  if f.demap then { s with port := { s.port with frm := tput s.port.frm l f frm0 } }
  else ({ s with port := { s.port with frm := tput s.port.frm l f frm0 } } : State).setLp l { s.lp l with locked := false }

/-- A framed port as its status register shows it. -/
def State.frmShown (s : State) (l : Nat) (f : FrmSt) : State :=
  ((((s.put F.TF_FRM_STAT_aligner f.aligner l).put F.TF_FRM_STAT_candidates f.cands.length l).put
    F.TF_FRM_STAT_demap_lock (b2n f.demap) l).put F.TF_FRM_STAT_aps_count f.apsCnt l).put
    F.TF_FRM_STAT_mfas f.lastMfas l

theorem State.setFrm_eq (s : State) (l : Nat) (f : FrmSt) : s.setFrm l f = (s.frmStored l f).frmShown l f := rfl

theorem State.port_frmShown (s : State) (l : Nat) (f : FrmSt) : (s.frmShown l f).port = s.port := by
  unfold State.frmShown
  rw [State.port_put, State.port_put, State.port_put, State.port_put, State.port_put]

theorem State.regs_frmStored (s : State) (l : Nat) (f : FrmSt) : (s.frmStored l f).regs = s.regs :=
  State.ite_ind (P := fun t => t.regs = s.regs) (fun _ => rfl) fun _ => rfl

theorem RegsIn.setFrm {lo hi : Nat} (s : State) (l : Nat) (f : FrmSt) (h : hi ≤ 0x1068000) :
    RegsIn lo hi s (s.setFrm l f) := by
  have hp (t : State) (g : Fld) (v : Nat) (hg : g.reg = R.TF_FRM_STAT) : RegsIn lo hi t (t.put g v l) :=
    RegsIn.put_above t v l 0 (by rw [hg]; exact h)
  rw [State.setFrm_eq, State.frmShown]
  exact (((((RegsIn.of_regs (s.regs_frmStored l f)).trans (hp _ _ _ rfl)).trans (hp _ _ _ rfl)).trans
    (hp _ _ _ rfl)).trans (hp _ _ _ rfl)).trans (hp _ _ _ rfl)

/-- The client PCS keeps its lock only while the demapper has one. -/
theorem State.lp_setFrm_self (s : State) (l : Nat) (f : FrmSt) :
    (s.setFrm l f).lp l = { s.lp l with locked := (s.lp l).locked && f.demap } := by
  rw [State.setFrm_eq, State.lp_congr (State.port_frmShown _ l f), State.frmStored]
  cases f.demap
  · rw [Bool.and_false]
    exact State.lp_setLp_self _ _ _
  · rw [Bool.and_true]
    rfl

theorem State.lp_setFrm_ne (s : State) {l k : Nat} (f : FrmSt) (h : k ≠ l) : (s.setFrm l f).lp k = s.lp k := by
  rw [State.setFrm_eq, State.lp_congr (State.port_frmShown _ l f)]
  exact State.ite_ind (P := fun t => t.lp k = s.lp k) (fun _ => rfl) fun _ => State.lp_setLp_ne _ _ h

theorem State.sansPort_setFrm (s : State) (l : Nat) (f : FrmSt) : (s.setFrm l f).sansPort = s.sansPort := by
  rw [State.setFrm_eq, State.frmShown, State.sansPort_put, State.sansPort_put, State.sansPort_put, State.sansPort_put,
    State.sansPort_put]
  exact State.ite_ind (P := fun t => t.sansPort = s.sansPort) (fun _ => rfl) fun _ => rfl

theorem State.port_count (s : State) (g : CntGroup) (k i n : Nat) : (s.count g k i n).port = s.port :=
  congrArg (·.port) (s.sansCounts_countAt g i k n s.time)

theorem State.frmOof_cases {P : State → Prop} (s : State) (l : Nat) (h0 : P (s.setFrm l (enterOof (s.frm l))))
    (h1 : P (((s.setFrm l (enterOof (s.frm l))).count cgFrm 2 l).raise F.TF_FRM_EVT_oof l)) : P (s.frmOof l) :=
  State.ite_ind (fun _ => h0) fun _ => h1

theorem RegsIn.count_above {lo hi : Nat} (s : State) {g : CntGroup} (k i n : Nat) (hlo : hi ≤ 0x20000 ∨ 0x20200 ≤ lo)
    (h : hi ≤ g.reg.base) : RegsIn lo hi s (s.count g k i n) :=
  (RegsIn.countsKeep s hlo).count (fun t w ht => ht.trans (RegsIn.wr_above t w _ _ h)) (RegsIn.refl s) n

theorem RegsIn.frmOof {lo hi : Nat} (s : State) (l : Nat) (hlo : hi ≤ 0x20000 ∨ 0x20200 ≤ lo) (h : hi ≤ 0x1068000) :
    RegsIn lo hi s (s.frmOof l) := by
  have hs := RegsIn.setFrm (lo := lo) s l (enterOof (s.frm l)) h
  refine State.frmOof_cases s l hs ?_
  exact (hs.trans (RegsIn.count_above _ _ _ _ hlo (h.trans (by decide)))).trans
    (RegsIn.put_above _ _ _ _ (h.trans (by decide)))

theorem State.frmOof_port {P : PortSt → Prop} (s : State) (l : Nat) (h : P (s.setFrm l (enterOof (s.frm l))).port) :
    P (s.frmOof l).port := by
  refine State.frmOof_cases (P := fun t => P t.port) s l h ?_
  rw [State.raise, State.port_put, State.port_count]
  exact h

theorem State.lp_frmOof_self (s : State) (l : Nat) :
    ∃ b, (s.frmOof l).lp l = { s.lp l with locked := (s.lp l).locked && b } :=
  ⟨_, s.frmOof_port (P := fun x => tget x.lports l lport0 = _) l (s.lp_setFrm_self l _)⟩

theorem State.lp_frmOof_ne (s : State) {l k : Nat} (h : k ≠ l) : (s.frmOof l).lp k = s.lp k :=
  s.frmOof_port (P := fun x => tget x.lports k lport0 = s.lp k) l (s.lp_setFrm_ne _ h)

theorem State.sansPort_frmOof (s : State) (l : Nat) : (s.frmOof l).sansPort = s.sansPort := by
  refine State.frmOof_cases (P := fun t => t.sansPort = s.sansPort) s l (s.sansPort_setFrm l _) ?_
  rw [State.raise, State.sansPort_put]
  exact (State.sansPort_of_sansCounts (State.sansCounts_countAt _ cgFrm l 2 1 _)).trans (s.sansPort_setFrm l _)

/-! ### Entering a link state (R96) -/

/-- The link state, the lanes that adapt with it, and the time of entry. -/
def State.linkMoved (s : State) (l st : Nat) : State :=
  let s2 := (s.put F.TF_LPORT_STAT_link_state st l).putLanes F.TF_LANE_STAT_adapting (b2n (decide (2 ≤ st))) l
  s2.setLp l { s2.lp l with locked := (s2.lp l).locked && st != 3 && st != 0, at' := s.up }

/-- What WAIT_LOCK takes up on entry. -/
def State.waitEntered (s : State) (l : Nat) (framed : Bool) : State :=
  if framed then (s.imageTaps l).setFrm l
    { (s.imageTaps l).frm l with mapAmp := (s.imageTaps l).flag F.TF_FRM_CTL_map_mode l }
  else s.imageTaps l

theorem State.setLink_one (s : State) (l : Nat) : s.setLink l 1 = (s.linkMoved l 1).zero F.TF_LINK_PARTNER_valid l := rfl

theorem State.setLink_three (s : State) (l : Nat) : s.setLink l 3 = (s.linkMoved l 3).waitEntered l (s.framed l) := rfl

theorem State.setLink_of_ne (s : State) (l : Nat) {st : Nat} (h1 : st ≠ 1) (h3 : st ≠ 3) : s.setLink l st = s.linkMoved l st :=
  (if_neg h1).trans (if_neg h3)

theorem State.setLink_ind {P : State → Prop} (s : State) (l st : Nat) (h1 : P ((s.linkMoved l st).zero F.TF_LINK_PARTNER_valid l))
    (h3 : st = 3 → P ((s.linkMoved l st).waitEntered l (s.framed l))) (h : P (s.linkMoved l st)) : P (s.setLink l st) :=
  State.ite_ind (fun _ => h1) fun _ => State.ite_ind (fun h => h3 h) fun _ => h

/-- The state before the port's own entry in `lports`. -/
theorem State.linkMoved_before (s : State) (l st : Nat) :
    ((s.put F.TF_LPORT_STAT_link_state st l).putLanes F.TF_LANE_STAT_adapting (b2n (decide (2 ≤ st))) l).port = s.port :=
  (State.port_putLanes _ _ _ _).trans (State.port_put _ _ _ _ _)

theorem State.lp_linkMoved_self (s : State) (l st : Nat) : (s.linkMoved l st).lp l =
    { s.lp l with locked := (s.lp l).locked && st != 3 && st != 0, at' := s.up } := by
  unfold State.linkMoved
  dsimp only
  rw [State.lp_setLp_self, State.lp_congr (s.linkMoved_before l st)]

theorem State.lp_linkMoved_ne (s : State) {l k : Nat} (st : Nat) (h : k ≠ l) : (s.linkMoved l st).lp k = s.lp k :=
  (State.lp_setLp_ne _ _ h).trans (State.lp_congr (s.linkMoved_before l st) k)

theorem State.lp_waitEntered_self (s : State) (l : Nat) (b : Bool) (h : (s.lp l).locked = false) :
    (s.waitEntered l b).lp l = s.lp l := by
  refine State.ite_ind (P := fun t => t.lp l = s.lp l) (fun _ => ?_) fun _ => s.lp_imageTaps l l
  rw [State.lp_setFrm_self, State.lp_imageTaps, h, Bool.false_and, ← h]

theorem State.lp_waitEntered_ne (s : State) {l k : Nat} (b : Bool) (h : k ≠ l) : (s.waitEntered l b).lp k = s.lp k :=
  State.ite_ind (P := fun t => t.lp k = s.lp k) (fun _ => (State.lp_setFrm_ne _ _ h).trans (s.lp_imageTaps l k))
    fun _ => s.lp_imageTaps l k

theorem State.lp_setLink_self (s : State) (l st : Nat) : (s.setLink l st).lp l =
    { s.lp l with locked := (s.lp l).locked && st != 3 && st != 0, at' := s.up } := by
  refine State.setLink_ind (P := fun t => t.lp l = _) s l st ?_ (fun h3 => ?_) (s.lp_linkMoved_self l st)
  · rw [State.zero, State.lp_put, State.lp_linkMoved_self]
  · rw [State.lp_waitEntered_self _ _ _ (by rw [State.lp_linkMoved_self, h3]; simp), State.lp_linkMoved_self]

theorem State.lp_setLink_ne (s : State) {l k : Nat} (st : Nat) (h : k ≠ l) : (s.setLink l st).lp k = s.lp k := by
  have hm := s.lp_linkMoved_ne st h
  refine State.setLink_ind (P := fun t => t.lp k = s.lp k) s l st ?_ (fun _ => ?_) hm
  · rw [State.zero, State.lp_put, hm]
  · rw [State.lp_waitEntered_ne _ _ h, hm]

theorem State.sansPort_linkMoved (s : State) (l st : Nat) : (s.linkMoved l st).sansPort = s.sansPort :=
  (State.sansPort_setLp _ _ _).trans ((State.sansPort_of_sansCounts (State.sansCounts_putLanes _ _ _ _)).trans
    (State.sansPort_put _ _ _ _ _))

theorem State.sansPort_setLink (s : State) (l st : Nat) : (s.setLink l st).sansPort = s.sansPort := by
  have hm := s.sansPort_linkMoved l st
  refine State.setLink_ind (P := fun t => t.sansPort = s.sansPort) s l st ?_ (fun _ => ?_) hm
  · rw [State.zero, State.sansPort_put, hm]
  · refine State.ite_ind (P := fun t => t.sansPort = s.sansPort) (fun _ => ?_) fun _ => ?_
    · rw [State.sansPort_setFrm, State.sansPort_imageTaps, hm]
    · rw [State.sansPort_imageTaps, hm]

/-- A range that holds no register of the lanes, of the partners or of the framed ports. -/
structure OffEntry (lo hi : Nat) : Prop where
  lanes : 0x1044000 ≤ lo ∨ hi ≤ 0x1040000
  partner : 0x1024000 ≤ lo ∨ hi ≤ 0x1020000
  framed : hi ≤ 0x1068000

theorem OffEntry.below {lo hi : Nat} (h : hi ≤ 0x1020000) : OffEntry lo hi :=
  ⟨.inr (h.trans (by decide)), .inr h, h.trans (by decide)⟩

theorem RegsIn.linkMoved {lo hi : Nat} (s : State) {l : Nat} (st : Nat) (hl : l < 256)
    (h : 0x1044000 ≤ lo ∨ hi ≤ 0x1040000) : RegsIn lo hi (s.put F.TF_LPORT_STAT_link_state st l) (s.linkMoved l st) :=
  (RegsIn.putLanes _ _ hl rfl h).trans (RegsIn.of_regs rfl)

/-- Past the write of the link state itself, only those registers change. -/
theorem RegsIn.setLink {lo hi : Nat} (s : State) {l : Nat} (st : Nat) (hl : l < 256) (h : OffEntry lo hi) :
    RegsIn lo hi (s.put F.TF_LPORT_STAT_link_state st l) (s.setLink l st) := by
  have hm := RegsIn.linkMoved s st hl h.lanes
  refine State.setLink_ind (P := RegsIn lo hi _) s l st ?_ (fun _ => ?_) hm
  · exact hm.trans (RegsIn.put_of _ 0 hl (h.partner.imp (le_trans (by decide)) fun h => h))
  · have hi := hm.trans (RegsIn.of_regs (State.regs_imageTaps _ l))
    exact State.ite_ind (fun _ => hi.trans (RegsIn.setFrm _ _ _ h.framed)) fun _ => hi

/-- The link state itself: that of the port, and no other's. -/
theorem State.link_setLink_self (s : State) {l st : Nat} (hl : l < 256) (hst : st < 8) : (s.setLink l st).link l = st := by
  have h := RegsIn.setLink (lo := 0x1018000) (hi := 0x1020000) s st hl (OffEntry.below le_rfl)
  unfold State.link
  rw [h.get_of hl (by decide), State.get_put_self _ _ _ _ _ (by decide)]
  exact Nat.mod_eq_of_lt hst

theorem State.link_setLink_ne (s : State) {l k st : Nat} (hl : l < 256) (hk : k < 256) (h : k ≠ l) :
    (s.setLink l st).link k = s.link k := by
  have hr := RegsIn.setLink (lo := 0x1018000) (hi := 0x1020000) s st hl (OffEntry.below le_rfl)
  unfold State.link
  rw [hr.get_of hk (by decide), State.get_put_ne _ _ rfl h (by decide)]

/-- Another field of the port's status. -/
theorem State.stat_setLink (s : State) {l : Nat} (st : Nat) {f : Fld} (hl : l < 256) (hf : f.reg = R.TF_LPORT_STAT) (h3 : 3 ≤ f.lo) :
    (s.setLink l st).get f l = s.get f l := by
  have hr := RegsIn.setLink (lo := 0x1018000) (hi := 0x1020000) s st hl (OffEntry.below le_rfl)
  rw [hr.get_of (by rw [hf]; exact hl) (by rw [hf]; decide),
    State.get_put_fld (f := F.TF_LPORT_STAT_link_state) _ _ hf (by decide) (.inl h3)]

/-- A field of an array that holds neither the link states nor what an entry writes. -/
theorem State.get_setLink (s : State) {l k : Nat} (st : Nat) {f : Fld} (hl : l < 256) (hk : k < f.reg.n)
    (hf : f.reg.past ≤ 0x1018000 ∨ 0x101C000 ≤ f.reg.base) (h : OffEntry f.reg.base f.reg.past) :
    (s.setLink l st).get f k = s.get f k := by
  rw [(RegsIn.setLink s st hl h).get_of hk ⟨le_rfl, le_rfl⟩]
  exact State.get_put_of s st hl hk (hf.imp (fun h => h) (le_trans (by decide)))

end Sys2Proof.Machine
end

section
/-! PROOFS. What the MAC leaves alone as it receives: registers by their arrays, and everything but the physical ports, the
counters and the power state (R92, R93, R116, R121 to R125). -/

namespace Sys2Proof.Machine

/-! ### Counts, as frames -/

namespace RegsIn

variable {lo hi : Nat}

theorem countAt_above (s : State) {g : CntGroup} (i k n t : Nat) (hlo : hi ≤ 0x20000 ∨ 0x20200 ≤ lo)
    (h : hi ≤ g.reg.base) : RegsIn lo hi s (s.countAt g i k n t) :=
  (RegsIn.countsKeep s hlo).countAt (fun u w hu => hu.trans (RegsIn.wr_above u w _ _ h)) (RegsIn.refl s) n t

/-- A counter of an array with one row for each port lies outside the range. -/
theorem countAt_off (s : State) {g : CntGroup} {i k : Nat} (n t : Nat) (h2 : g.reg.n2 ≠ 0)
    (hlo : hi ≤ 0x20000 ∨ 0x20200 ≤ lo) (h : regAddr g.reg i k < lo ∨ hi ≤ regAddr g.reg i k) :
    RegsIn lo hi s (s.countAt g i k n t) := by
  have hc : cntPlace g i k = (i, k) := if_neg h2
  exact (RegsIn.countsKeep s hlo).countAt (fun u w hu => hu.trans (RegsIn.wr u w (by rw [hc]; exact h))) (RegsIn.refl s) n t

theorem countBacked (s : State) (g k n t : Nat) (hlo : hi ≤ 0x20000 ∨ 0x20200 ≤ lo) :
    RegsIn lo hi s (s.countBacked g k n t) :=
  (RegsIn.countsKeep s hlo).windowCount ((RegsIn.countsKeep s hlo).windows s _ (RegsIn.refl s)) _ _ _ _

end RegsIn

theorem State.sansCounts_countBacked (s : State) (g k n t : Nat) : (s.countBacked g k n t).sansCounts = s.sansCounts := by
  obtain ⟨regs, tlm, h⟩ := s.countBacked_keeps g k n t
  rw [h]
  rfl

/-! ### Frames that pass on (R121, R123) -/

/-- A state without its registers, its counters, its power state and its physical ports: what the MAC leaves. -/
def State.sansMac (s : State) : State :=
  { s with regs := [], tlm := tlm0, pwr := pwr0, port := { s.port with phys := [] } }

theorem State.sansMac_of_sansCounts {s t : State} (h : t.sansCounts = s.sansCounts) : t.sansMac = s.sansMac :=
  (congrArg State.sansMac h : t.sansCounts.sansMac = s.sansCounts.sansMac)

theorem State.sansMac_passOne (s : State) (p : Nat) : (s.passOne p).sansMac = s.sansMac := by
  unfold State.passOne
  dsimp only
  split
  · rfl
  · split <;> rfl

theorem State.sansMac_passFrames (s : State) (p : Nat) : (s.passFrames p).sansMac = s.sansMac :=
  (foldl_fixes State.sansMac (fun t _ _ => t.sansMac_passOne p) _).trans
    (State.ite_ind (P := fun t => t.sansMac = s.sansMac) (fun _ => rfl) fun _ => rfl)

/-- A frame that the buffer has no room for, discarded and counted (R125). -/
def State.macLost (s : State) (l : Nat) (t : Nat) : State :=
  (((s.passFrames (l / 8)).countBacked 0 9 1 t).countAt cgPort l 9 1 t).countAt cgPort l 0x1C 1 t

theorem State.sansMac_macLost (s : State) (l t : Nat) : (s.macLost l t).sansMac = s.sansMac := by
  unfold State.macLost
  rw [State.sansMac_of_sansCounts (State.sansCounts_countAt _ cgPort l 0x1C 1 t),
    State.sansMac_of_sansCounts (State.sansCounts_countAt _ cgPort l 9 1 t),
    State.sansMac_of_sansCounts (State.sansCounts_countBacked _ _ _ _ _), State.sansMac_passFrames]

theorem RegsIn.macLost {lo hi : Nat} (s : State) (l t : Nat) (hlo : hi ≤ 0x20000 ∨ 0x20200 ≤ lo) (h : hi ≤ 0x2830000) :
    RegsIn lo hi s (s.macLost l t) :=
  (((RegsIn.of_regs (s.passFrames_keeps (l / 8)).1).trans (RegsIn.countBacked _ _ _ _ _ hlo)).trans
    (RegsIn.countAt_above _ _ _ _ _ hlo h)).trans (RegsIn.countAt_above _ _ _ _ _ hlo h)

/-! ### A frame from the wire (R92, R93, R116) -/

/-- The counters of a frame of n bytes. -/
def State.macCounted (s : State) (l n : Nat) (fcsOk pcsErr : Bool) (fecBad fecCorr : Nat) : State :=
  ((((((((s.countAt cgMac l 0 1 s.time).countAt cgMac l 1 n s.time).countAt cgMac l 2 (b2n !fcsOk) s.time).countAt cgMac l 3
    (if s.framed l then 0 else fecBad) s.time).countAt cgMac l 4 (b2n pcsErr) s.time).countAt cgMac l 5
    (b2n (decide (n < 64))) s.time).countAt cgMac l 6 (b2n (decide (s.maxFrame l < n))) s.time).countAt cgMac l 12
    (if s.framed l then 0 else fecCorr) s.time)

/-- The frame of n bytes as the MAC marks it. -/
def State.macFrame (s : State) (l n : Nat) (bytes : List Byte) (fcsOk pcsErr : Bool) (fecBad : Nat) : RxFrame :=
  ⟨l, 0, s.time, bytes, !fcsOk || pcsErr || decide (0 < fecBad) || decide (n < 64) || decide (s.maxFrame l < n)⟩

section
variable (s : State) (l n : Nat) (bytes : List Byte) (fcsOk pcsErr : Bool) (fecBad fecCorr : Nat)

theorem State.macReceive_eq : s.macReceive l n bytes fcsOk pcsErr fecBad fecCorr =
    (if ((s.macCounted l n fcsOk pcsErr fecBad fecCorr).intoMac l (s.macFrame l n bytes fcsOk pcsErr fecBad)).1 then
      (((s.macCounted l n fcsOk pcsErr fecBad fecCorr).intoMac l (s.macFrame l n bytes fcsOk pcsErr fecBad)).2).countAt
        cgMac l 13 1 s.time
    else ((s.macCounted l n fcsOk pcsErr fecBad fecCorr).intoMac l (s.macFrame l n bytes fcsOk pcsErr fecBad)).2).rateSeen
      (l / 8) := rfl

theorem State.sansCounts_macCounted :
    (s.macCounted l n fcsOk pcsErr fecBad fecCorr).sansCounts = s.sansCounts := by
  simp only [State.macCounted, State.sansCounts_countAt]

theorem State.port_macCounted : (s.macCounted l n fcsOk pcsErr fecBad fecCorr).port = s.port :=
  congrArg (·.port) (s.sansCounts_macCounted l n fcsOk pcsErr fecBad fecCorr)

/-- The counters of a frame lie among those of its port. -/
theorem RegsIn.macCounted {lo hi : Nat} (hlo : hi ≤ 0x20000 ∨ 0x20200 ≤ lo)
    (h : ∀ k < 13, regAddr R.TF_MAC_CNT l k < lo ∨ hi ≤ regAddr R.TF_MAC_CNT l k) :
    RegsIn lo hi s (s.macCounted l n fcsOk pcsErr fecBad fecCorr) := by
  have hc (t : State) (k m u : Nat) (hk : k < 13) : RegsIn lo hi t (t.countAt cgMac l k m u) :=
    RegsIn.countAt_off t m u (by decide) hlo (h k hk)
  exact (((((((hc _ _ _ _ (by decide)).trans (hc _ _ _ _ (by decide))).trans (hc _ _ _ _ (by decide))).trans
    (hc _ _ _ _ (by decide))).trans (hc _ _ _ _ (by decide))).trans (hc _ _ _ _ (by decide))).trans
    (hc _ _ _ _ (by decide))).trans (hc _ _ _ _ (by decide))

/-- A frame that fits its port's buffer enters it and passes on as it can. -/
theorem State.macReceive_fits (h : rxBytes (s.phys (l / 8)).inbuf + (bytes.length + 4) ≤ 524288) :
    s.macReceive l n bytes fcsOk pcsErr fecBad fecCorr = (((s.macCounted l n fcsOk pcsErr fecBad fecCorr).setPhys (l / 8)
      { s.phys (l / 8) with
        inbuf := (s.phys (l / 8)).inbuf ++ [s.macFrame l n bytes fcsOk pcsErr fecBad] }).passFrames (l / 8)).rateSeen
        (l / 8) := by
  have hp := State.phys_congr (s.port_macCounted l n fcsOk pcsErr fecBad fecCorr) (l / 8)
  have hf : rxBytes ((s.macCounted l n fcsOk pcsErr fecBad fecCorr).phys (l / 8)).inbuf +
      rxLen (s.macFrame l n bytes fcsOk pcsErr fecBad) ≤ 524288 := by rw [hp]; exact h
  have h1 : ((s.macCounted l n fcsOk pcsErr fecBad fecCorr).intoMac l (s.macFrame l n bytes fcsOk pcsErr fecBad)).1 = false := by
    unfold State.intoMac
    dsimp only
    rw [if_pos hf]
  rw [State.macReceive_eq, h1, if_neg Bool.false_ne_true, State.intoMac_fits hf, hp]

/-- One that does not fit is lost. -/
theorem State.macReceive_over (h : 524288 < rxBytes (s.phys (l / 8)).inbuf + (bytes.length + 4)) :
    s.macReceive l n bytes fcsOk pcsErr fecBad fecCorr =
      (((s.macCounted l n fcsOk pcsErr fecBad fecCorr).macLost l s.time).countAt cgMac l 13 1 s.time).rateSeen (l / 8) := by
  have hp := State.phys_congr (s.port_macCounted l n fcsOk pcsErr fecBad fecCorr) (l / 8)
  have hf : ¬ rxBytes ((s.macCounted l n fcsOk pcsErr fecBad fecCorr).phys (l / 8)).inbuf +
      rxLen (s.macFrame l n bytes fcsOk pcsErr fecBad) ≤ 524288 := by rw [hp]; exact not_le.2 h
  have h1 : ((s.macCounted l n fcsOk pcsErr fecBad fecCorr).intoMac l (s.macFrame l n bytes fcsOk pcsErr fecBad)).1 = true := by
    unfold State.intoMac
    dsimp only
    rw [if_neg hf]
  rw [State.macReceive_eq, h1, if_pos rfl, State.intoMac_over hf]
  rfl

theorem State.sansMac_macReceive : (s.macReceive l n bytes fcsOk pcsErr fecBad fecCorr).sansMac = s.sansMac := by
  have hc := State.sansMac_of_sansCounts (s.sansCounts_macCounted l n fcsOk pcsErr fecBad fecCorr)
  have hr (t : State) : (t.rateSeen (l / 8)).sansMac = t.sansMac := rfl
  rcases le_or_gt (rxBytes (s.phys (l / 8)).inbuf + (bytes.length + 4)) 524288 with h | h
  · rw [State.macReceive_fits _ _ _ _ _ _ _ _ h, hr, State.sansMac_passFrames]
    exact hc
  · rw [State.macReceive_over _ _ _ _ _ _ _ _ h, hr,
      State.sansMac_of_sansCounts (State.sansCounts_countAt _ cgMac l 13 1 s.time), State.sansMac_macLost, hc]

theorem State.regs_rateSeen (t : State) (p : Nat) : (t.rateSeen p).regs = t.regs := rfl

/-- Below the counters of the MAC no register changes, but those of the telemetry. -/
theorem RegsIn.macReceive {lo hi : Nat} (hlo : hi ≤ 0x20000 ∨ 0x20200 ≤ lo) (h : hi ≤ 0x1090000) :
    RegsIn lo hi s (s.macReceive l n bytes fcsOk pcsErr fecBad fecCorr) := by
  have hc : RegsIn lo hi s (s.macCounted l n fcsOk pcsErr fecBad fecCorr) :=
    RegsIn.macCounted s l n fcsOk pcsErr fecBad fecCorr hlo fun k _ => .inr (by unfold regAddr; exact h.trans (by
      rw [show R.TF_MAC_CNT.base = 0x1090000 from rfl]; omega))
  rcases le_or_gt (rxBytes (s.phys (l / 8)).inbuf + (bytes.length + 4)) 524288 with hf | hf
  · rw [State.macReceive_fits _ _ _ _ _ _ _ _ hf]
    exact hc.trans (RegsIn.of_regs ((State.regs_rateSeen _ _).trans (State.passFrames_keeps _ _).1))
  · rw [State.macReceive_over _ _ _ _ _ _ _ _ hf]
    exact ((hc.trans (RegsIn.macLost _ _ _ hlo (h.trans (by decide)))).trans
      (RegsIn.countAt_above _ _ _ _ _ hlo h)).trans (RegsIn.of_regs (State.regs_rateSeen _ _))

end

end Sys2Proof.Machine
end

section
/-! PROOFS. Bits of a field, and pause and PFC at the MAC: what pausing a class, obeying a frame and sending one leave (R94,
R108 to R112). -/

namespace Sys2Proof.Machine

/-! ### One bit of a field -/

theorem bitOf_eq_bits (x i : Nat) : bitOf x i = decide (bits x i 1 = 1) := rfl

theorem bits_b2n (x c : Nat) (b : Bool) : decide (bits (setBits x c 1 (b2n b)) c 1 = 1) = b := by
  rw [bits_setBits_self]
  cases b <;> rfl

section
variable (s : State) {f : Fld} (b : Bool) {c : Nat} (i : Nat)

theorem State.bitOf_putBit_self (hf : f.lo + f.w ≤ 64) (hc : c < f.w) : bitOf ((s.putBit f b c i).get f i) c = b := by
  rw [State.putBit, State.get_put_self _ _ _ _ _ hf, bitOf_eq_bits, bits_mod_two_pow (by omega), bits_b2n]

theorem State.bitOf_putBit_ne {k : Nat} (hf : f.lo + f.w ≤ 64) (hk : k < f.w) (h : k ≠ c) :
    bitOf ((s.putBit f b c i).get f i) k = bitOf (s.get f i) k := by
  rw [State.putBit, State.get_put_self _ _ _ _ _ hf, bitOf_eq_bits, bits_mod_two_pow (by omega), bits_setBits_ne (by omega)]
  rfl

end

/-! ### A class paused (R109, R110) -/

theorem getD_lset (xs : List Nat) (n v m : Nat) : (lset 0 xs n v).getD m 0 = if m = n then v else xs.getD m 0 := by
  induction xs, n, v using lset.induct generalizing m with
  | case1 v => cases m <;> simp [lset]
  | case2 n v ih => cases m with
    | zero => simp [lset]
    | succ m => simpa [lset] using ih m
  | case3 x r v => cases m <;> simp [lset]
  | case4 x r n v ih => cases m with
    | zero => simp [lset]
    | succ m => simpa [lset] using ih m

section
variable (s : State) (l c q : Nat)

theorem State.quanta_pauseClass (k : Nat) :
    ((s.pauseClass l c q).lp l).quanta.getD k 0 = if k = c then q else (s.lp l).quanta.getD k 0 := by
  unfold State.pauseClass
  rw [State.putBit, State.lp_put, State.lp_setLp_self]
  exact getD_lset _ _ _ _

theorem State.paused_pauseClass_self (hc : c < 8) :
    bitOf ((s.pauseClass l c q).get F.TF_LPORT_STAT_rx_paused l) c = decide (0 < q) :=
  State.bitOf_putBit_self _ _ _ (by decide) hc

theorem State.paused_pauseClass_ne {k : Nat} (hk : k < 8) (h : k ≠ c) :
    bitOf ((s.pauseClass l c q).get F.TF_LPORT_STAT_rx_paused l) k = bitOf (s.get F.TF_LPORT_STAT_rx_paused l) k :=
  State.bitOf_putBit_ne (s.setLp l _) _ _ (by decide) hk h

theorem State.sansPort_pauseClass : (s.pauseClass l c q).sansPort = s.sansPort :=
  (State.sansPort_put _ _ _ _ _).trans (State.sansPort_setLp _ _ _)

/-- Another field of the port's status. -/
theorem State.stat_pauseClass {f : Fld} (hf : f.reg = R.TF_LPORT_STAT) (h : 16 ≤ f.lo ∨ f.lo + f.w ≤ 8) :
    (s.pauseClass l c q).get f l = s.get f l :=
  State.get_put_fld (f := F.TF_LPORT_STAT_rx_paused) (s.setLp l _) _ hf (by decide) h

theorem regsBut_pauseClass {m : List Nat} (h : regAddr R.TF_LPORT_STAT l 0 ∈ m) : RegsBut m s (s.pauseClass l c q) :=
  regsBut_put (s := s) (t := s.setLp l _) (fun _ _ _ _ _ => rfl) h

end

/-- The classes of a list paused, each for its own time. -/
def State.pauseAll (s : State) (l : Nat) (q : Nat → Nat) (cs : List Nat) : State :=
  cs.foldl (fun t c => t.pauseClass l c (q c)) s

section
variable (l : Nat) (q : Nat → Nat) (cs : List Nat)

theorem State.quanta_pauseAll (s : State) (k : Nat) :
    ((s.pauseAll l q cs).lp l).quanta.getD k 0 = if k ∈ cs then q k else (s.lp l).quanta.getD k 0 := by
  induction cs generalizing s with
  | nil => simp [State.pauseAll]
  | cons c cs ih =>
    rw [State.pauseAll, List.foldl_cons, ← State.pauseAll, ih, State.quanta_pauseClass]
    by_cases hk : k ∈ cs
    · simp [hk]
    · by_cases hc : k = c <;> simp [hk, hc]

theorem State.paused_pauseAll (s : State) (h : ∀ c ∈ cs, c < 8) {k : Nat} (hk : k ∈ cs) :
    bitOf ((s.pauseAll l q cs).get F.TF_LPORT_STAT_rx_paused l) k = decide (0 < q k) := by
  have hkeep : ∀ (cs : List Nat) (t : State) (k : Nat), k < 8 → k ∉ cs →
      bitOf ((t.pauseAll l q cs).get F.TF_LPORT_STAT_rx_paused l) k = bitOf (t.get F.TF_LPORT_STAT_rx_paused l) k := by
    intro cs
    induction cs with
    | nil => exact fun t k _ _ => rfl
    | cons c cs ih =>
      intro t k h8 hm
      rw [List.mem_cons, not_or] at hm
      rw [State.pauseAll, List.foldl_cons, ← State.pauseAll, ih _ k h8 hm.2, State.paused_pauseClass_ne _ _ _ _ h8 hm.1]
  induction cs generalizing s with
  | nil => exact absurd hk List.not_mem_nil
  | cons c cs ih =>
    rw [State.pauseAll, List.foldl_cons, ← State.pauseAll]
    by_cases hm : k ∈ cs
    · exact ih _ (fun c hc => h c (List.mem_cons_of_mem _ hc)) hm
    · obtain rfl : k = c := (List.mem_cons.1 hk).resolve_right hm
      have h8 := h k List.mem_cons_self
      rw [hkeep cs _ k h8 hm, State.paused_pauseClass_self _ _ _ _ h8]

theorem State.sansPort_pauseAll (s : State) : (s.pauseAll l q cs).sansPort = s.sansPort :=
  foldl_fixes State.sansPort (fun t c _ => t.sansPort_pauseClass l c (q c)) s

theorem State.stat_pauseAll (s : State) {f : Fld} (hf : f.reg = R.TF_LPORT_STAT) (h : 16 ≤ f.lo ∨ f.lo + f.w ≤ 8) :
    (s.pauseAll l q cs).get f l = s.get f l :=
  foldl_fixes (·.get f l) (fun t c _ => t.stat_pauseClass l c (q c) hf h) s

theorem regsBut_pauseAll (s : State) {m : List Nat} (h : regAddr R.TF_LPORT_STAT l 0 ∈ m) :
    RegsBut m s (s.pauseAll l q cs) := by
  induction cs generalizing s with
  | nil => exact regsBut_refl _ _
  | cons c cs ih => exact regsBut_trans (regsBut_pauseClass s l c (q c) h) (ih _)

end

/-! ### A frame obeyed (R108 to R110) -/

/-- The classes that a PFC frame names and the port obeys. -/
def State.pfcObeyed (s : State) (l enable : Nat) : List Nat :=
  (List.range 8).filter (fun c => bitOf enable c && bitOf (s.get F.TF_LPORT_CTL_pfc_rx_en l) c)

section
variable (s : State) (l enable : Nat) (times : List Nat)

theorem State.pauseFrame_pfc (h : s.get F.TF_LPORT_CTL_fc_mode l = 1) : s.pauseFrame l true enable times =
    s.pauseAll l (fun c => times.getD c 0 % 65536) (s.pfcObeyed l enable) := if_pos ⟨h, rfl⟩

theorem State.pauseFrame_pause (h : s.get F.TF_LPORT_CTL_fc_mode l = 2) : s.pauseFrame l false enable times =
    s.pauseAll l (fun _ => times.getD 0 0 % 65536) (List.range 8) := by
  unfold State.pauseFrame
  dsimp only
  rw [if_neg (by simp), if_pos ⟨h, rfl⟩]
  rfl

theorem State.pauseFrame_ignored {pfc : Bool} (h1 : s.get F.TF_LPORT_CTL_fc_mode l ≠ 1 ∨ pfc = false)
    (h2 : s.get F.TF_LPORT_CTL_fc_mode l ≠ 2 ∨ pfc = true) : s.pauseFrame l pfc enable times = s := by
  have hn1 : ¬(s.get F.TF_LPORT_CTL_fc_mode l = 1 ∧ pfc = true) := fun h => by simp [h.1, h.2] at h1
  have hn2 : ¬(s.get F.TF_LPORT_CTL_fc_mode l = 2 ∧ pfc = false) := fun h => by simp [h.1, h.2] at h2
  exact (if_neg hn1).trans (if_neg hn2)

/-- What every set of classes paused keeps, a frame obeyed keeps. -/
theorem State.pauseFrame_ind {P : State → Prop} (pfc : Bool) (h0 : P s) (h : ∀ q cs, P (s.pauseAll l q cs)) :
    P (s.pauseFrame l pfc enable times) :=
  State.ite_ind (fun _ => h _ _) fun _ => State.ite_ind (fun _ => h (fun _ => times.getD 0 0 % 65536) _) fun _ => h0

end

/-! ### A frame received and sent (R94, R111) -/

section
variable (s : State) (l mask : Nat)

theorem State.pauseIn_ind {P : State → Prop} (pfc : Bool) (enable : Nat) (times : List Nat) (h0 : P (s.count cgMac 7 l))
    (h : ∀ q cs, P ((s.count cgMac 7 l).pauseAll l q cs)) : P (s.pauseIn l pfc enable times) :=
  State.pauseFrame_ind _ l enable times pfc h0 h

/-- The pause times that a PFC frame for the classes of a mask carries. -/
def State.pfcTimes : List Nat :=
  (List.range 8).map (fun c => if bitOf mask c && bitOf (s.get F.TF_LPORT_STAT_tx_xoff l) c then 0xFFFF else 0)

/-- The port with a PFC frame sent and counted. -/
def State.pfcSent : State :=
  ((s.setLp l { s.lp l with xoffAt := (List.range 8).map (fun c =>
    if (s.pfcTimes l mask).getD c 0 = 0 then (s.lp l).xoffAt.getD c 0 else s.up) }).emit
    (.pfc l mask (s.pfcTimes l mask))).count cgMac 11 l

theorem State.sendPfc_eq : s.sendPfc l mask = if (s.pfcSent l mask).looped l && (s.pfcSent l mask).receives l then
    (s.pfcSent l mask).pauseIn l true mask (s.pfcTimes l mask) else s.pfcSent l mask := rfl

theorem State.sendPfc_ind {P : State → Prop} (h : P (s.pfcSent l mask)) (h0 : P ((s.pfcSent l mask).count cgMac 7 l))
    (hp : ∀ q cs, P (((s.pfcSent l mask).count cgMac 7 l).pauseAll l q cs)) : P (s.sendPfc l mask) := by
  rw [State.sendPfc_eq]
  exact State.ite_ind (fun _ => State.pauseIn_ind _ l true mask _ h0 hp) fun _ => h

theorem State.sansPort_count (t : State) (g : CntGroup) (k i n : Nat) : (t.count g k i n).sansPort = t.sansPort :=
  State.sansPort_of_sansCounts (t.sansCounts_countAt g i k n t.time)

/-- Of the module beyond its ports, sending a PFC frame changes what has been sent alone. -/
theorem State.sansPort_sendPfc :
    (s.sendPfc l mask).sansPort = (s.emit (.pfc l mask (s.pfcTimes l mask))).sansPort := by
  have hs : (s.pfcSent l mask).sansPort = (s.emit (.pfc l mask (s.pfcTimes l mask))).sansPort :=
    (State.sansPort_count _ cgMac 11 l 1).trans rfl
  refine State.sendPfc_ind (P := fun t => t.sansPort = _) s l mask hs ?_ fun q cs => ?_
  · rw [State.sansPort_count, hs]
  · rw [State.sansPort_pauseAll, State.sansPort_count, hs]

theorem State.out_sendPfc : (s.sendPfc l mask).out = s.out ++ [.pfc l mask (s.pfcTimes l mask)] :=
  congrArg (·.out) (s.sansPort_sendPfc l mask)

theorem RegsIn.pfcSent {lo hi : Nat} (hlo : hi ≤ 0x20000 ∨ 0x20200 ≤ lo) (h : hi ≤ 0x1090000) :
    RegsIn lo hi s (s.pfcSent l mask) :=
  RegsIn.trans (t := (s.setLp l _).emit _) (RegsIn.of_regs rfl) (RegsIn.count_above _ _ _ _ hlo h)

/-- Sending a PFC frame leaves the registers of the link but the port's status. -/
theorem RegsIn.sendPfc {lo hi : Nat} (hl : l < 256) (hlo : hi ≤ 0x20000 ∨ 0x20200 ≤ lo) (h : hi ≤ 0x1090000)
    (h2 : 0x101C000 ≤ lo ∨ hi ≤ 0x1018000) : RegsIn lo hi s (s.sendPfc l mask) := by
  have hc : RegsIn lo hi s (s.pfcSent l mask) := RegsIn.pfcSent s l mask hlo h
  have hd : RegsIn lo hi s ((s.pfcSent l mask).count cgMac 7 l) := hc.trans (RegsIn.count_above _ _ _ _ hlo h)
  have hlp (t : State) (x : LPort) : RegsIn lo hi t (t.setLp l x) := RegsIn.of_regs rfl
  have hput (t : State) (v : Nat) : RegsIn lo hi t (t.put F.TF_LPORT_STAT_rx_paused v l) :=
    RegsIn.put_of t v hl (h2.imp (le_trans (by decide)) fun h => h)
  refine State.sendPfc_ind (P := RegsIn lo hi s) s l mask hc hd fun q cs => hd.trans ?_
  exact RegsIn.foldl_mem (fun t c _ => (hlp t _).trans (hput _ _)) _

/-- Sending a PFC frame leaves the port's status, apart from the classes paused. -/
theorem State.stat_sendPfc {f : Fld} (hl : l < 256) (hf : f.reg = R.TF_LPORT_STAT) (h : 16 ≤ f.lo ∨ f.lo + f.w ≤ 8) :
    (s.sendPfc l mask).get f l = s.get f l := by
  have hn : l < f.reg.n := by rw [hf]; exact hl
  have hb : 0x1018000 ≤ f.reg.base ∧ f.reg.past ≤ 0x1020000 := by rw [hf]; decide
  have hc : RegsIn 0x1018000 0x1020000 s (s.pfcSent l mask) := RegsIn.pfcSent s l mask (by decide) (by decide)
  have hd : RegsIn 0x1018000 0x1020000 s ((s.pfcSent l mask).count cgMac 7 l) :=
    hc.trans (RegsIn.count_above _ _ _ _ (by decide) (by decide))
  refine State.sendPfc_ind (P := fun t => t.get f l = s.get f l) s l mask (hc.get_of hn hb) (hd.get_of hn hb) fun q cs => ?_
  rw [State.stat_pauseAll _ _ _ _ hf h, hd.get_of hn hb]

end

end Sys2Proof.Machine
end

section
/-! PROOFS. Frames received, pause and PFC at the MAC (R93, R94, R108 to R112, R116, R121, R123, R125; log 15). -/

namespace Sys2Proof.Machine

/-! ### The pipeline that takes a frame (R123, R124) -/

theorem State.rd_settle_high (s : State) {r : RegD} {i j : Nat} (h : 0x30000 ≤ r.base) : s.settle.rd r i j = s.rd r i j :=
  (RegsIn.settle (lo := 0x30000) (hi := regAddr r i j + 1) s (.inr (by decide))).rd (by unfold regAddr; omega)
    (Nat.lt_succ_self _)

/-- What the choice of a pipeline reads. -/
structure SamePick (s t : State) (p : Nat) : Prop where
  served : ∀ b, t.inPipeOk p b = s.inPipeOk p b
  fifoA : (t.phys p).fifoA = (s.phys p).fifoA
  fifoB : (t.phys p).fifoB = (s.phys p).fifoB
  lastB : (t.phys p).lastB = (s.phys p).lastB

theorem SamePick.pickPipe {s t : State} {p : Nat} (h : SamePick s t p) (n : Nat) : t.pickPipe p n = s.pickPipe p n := by
  obtain ⟨ho, ha, hb, hl⟩ := h
  unfold State.pickPipe
  dsimp only
  rw [ho, ho, ha, hb, hl]

/-- Is a pipeline served: by the registers of its cluster and its spare. -/
theorem inPipeOk_congr {s t : State} {p : Nat} (hp : p < 32) (h1 : BlkSame s t) (h2 : RegsIn 0x1500000 0x1600000 s t)
    (b : Bool) : t.inPipeOk p b = s.inPipeOk p b := by
  have hspare (f : Fld) (hf : f.reg = R.TF_SPARE_STAT) : t.get f (p / 2) = s.get f (p / 2) := by
    have hn : p / 2 < R.TF_SPARE_STAT.n := by
      rw [show R.TF_SPARE_STAT.n = 16 from rfl]
      omega
    exact h2.get_of (by rw [hf]; exact hn) (by rw [hf]; decide)
  have hon : t.isOn (1 + p / 2) = s.isOn (1 + p / 2) := by
    unfold State.isOn State.blk
    rw [(BlkFld.stat (f := F.KV_BLK_STAT_state) (by omega)).get h1]
  unfold State.inPipeOk
  rw [hon, hspare _ rfl, hspare _ rfl, hspare _ rfl]

/-- A frame that a pipeline takes fits its FIFO. -/
theorem State.pickPipe_le {s : State} {p n : Nat} {b : Bool} (h : s.pickPipe p n = some b) : n ≤ 16384 := by
  unfold State.pickPipe at h
  obtain ⟨hc, -⟩ := Option.ite_none_right_eq_some.1 h
  obtain ⟨-, hn⟩ := Bool.and_eq_true_iff.1 hc
  have hle (c : Bool) (x y : Nat) : (if c then 16384 - x else 16384 - y) ≤ 16384 := by split <;> omega
  exact (of_decide_eq_true hn).trans (hle _ _ _)

/-! ### A frame that passes on, and one that cannot (R121) -/

theorem State.stampHigh_keeps (s : State) (p : Nat) : (s.stampHigh p).regs = s.regs ∧ (s.stampHigh p).port = s.port :=
  State.ite_ind (P := fun t => t.regs = s.regs ∧ t.port = s.port) (fun _ => ⟨rfl, rfl⟩) fun _ => ⟨rfl, rfl⟩

theorem State.pickPipe_stampHigh (s : State) (p n : Nat) : (s.stampHigh p).pickPipe p n = s.pickPipe p n :=
  State.ite_ind (P := fun t => t.pickPipe p n = s.pickPipe p n) (fun _ => rfl) fun _ => rfl

theorem State.port_passOne {s : State} {p : Nat} {f : RxFrame} {r : List RxFrame} {b : Bool} (hi : (s.phys p).inbuf = f :: r)
    (hb : s.pickPipe p (rxLen f) = some b) : (s.passOne p).port = (s.setPhys p { s.phys p with
      inbuf := r
      seq := ((s.phys p).seq + 1) % 2 ^ 32
      anySeq := true
      lastB := b
      fifoA := if b then (s.phys p).fifoA else (s.phys p).fifoA ++ [{ f with seq := (s.phys p).seq }]
      fifoB := if b then (s.phys p).fifoB ++ [{ f with seq := (s.phys p).seq }] else (s.phys p).fifoB }).port := by
  unfold State.passOne
  dsimp only
  rw [hi]
  dsimp only
  rw [hb]

theorem State.passOne_stuck {s : State} {p : Nat} (h : ∀ f r, (s.phys p).inbuf = f :: r → s.pickPipe p (rxLen f) = none) :
    s.passOne p = s := by
  unfold State.passOne
  dsimp only
  split
  · rfl
  · next f r hi => rw [h f r hi]

/-- With one frame in the buffer that a pipeline takes, the frame passes on. -/
theorem State.port_passFrames_one {s : State} {p : Nat} {f : RxFrame} {b : Bool} (hi : (s.phys p).inbuf = [f])
    (hb : s.pickPipe p (rxLen f) = some b) : (s.passFrames p).port = (s.setPhys p { s.phys p with
      inbuf := []
      seq := ((s.phys p).seq + 1) % 2 ^ 32
      anySeq := true
      lastB := b
      fifoA := if b then (s.phys p).fifoA else (s.phys p).fifoA ++ [{ f with seq := (s.phys p).seq }]
      fifoB := if b then (s.phys p).fifoB ++ [{ f with seq := (s.phys p).seq }] else (s.phys p).fifoB }).port := by
  obtain ⟨-, hp⟩ := s.stampHigh_keeps p
  have hx := State.phys_congr hp p
  have hone : s.passFrames p = (s.stampHigh p).passOne p := by
    unfold State.passFrames
    rw [hi]
    rfl
  rw [hone, State.port_passOne (by rw [hx]; exact hi) ((s.pickPipe_stampHigh p _).trans hb), hx, State.setPhys, State.setPhys, hp]

/-- With a head that no pipeline takes, nothing passes on. -/
theorem State.passFrames_stuck {s : State} {p : Nat}
    (h : ∀ f r, (s.phys p).inbuf = f :: r → s.pickPipe p (rxLen f) = none) : s.passFrames p = s.stampHigh p := by
  obtain ⟨-, hp⟩ := s.stampHigh_keeps p
  have hone : (s.stampHigh p).passOne p = s.stampHigh p := State.passOne_stuck fun f r hi => by
    rw [State.phys_congr hp] at hi
    rw [State.pickPipe_stampHigh, h f r hi]
  unfold State.passFrames
  induction (s.phys p).inbuf with
  | nil => rfl
  | cons f r ih => rw [List.foldl_cons, hone, ih]

/-! ### The counters of a port's MAC (R777) -/

theorem State.rd_mac_self (s : State) (l k n t : Nat) :
    (s.countAt cgMac l k n t).rd R.TF_MAC_CNT l k = cntAdd (s.rd R.TF_MAC_CNT l k) n :=
  s.rd_countAt_self cgMac l k n t (by decide)

theorem State.rd_mac_ne (s : State) (l n t : Nat) {k j : Nat} (h : j ≠ k) :
    (s.countAt cgMac l k n t).rd R.TF_MAC_CNT l j = s.rd R.TF_MAC_CNT l j := by
  have hj := regAddr_macCnt l j
  have hk := regAddr_macCnt l k
  refine s.rd_countAt_ne cgMac l k n t (by omega) ?_
  show regAddr R.TF_MAC_CNT l j ≠ regAddr R.TF_MAC_CNT l k
  omega

theorem regAddr_portCnt (l k : Nat) : regAddr R.DT_PORT_CNT l k = 0x2830000 + l * 0x100 + k * 8 := rfl

/-- The counters of a frame lie below those of the MAC's array's end. -/
theorem macCnt_off {lo hi l : Nat} (hl : l < 256) (h : 0x1098000 ≤ lo ∨ hi ≤ 0x1090000) :
    ∀ k < 13, regAddr R.TF_MAC_CNT l k < lo ∨ hi ≤ regAddr R.TF_MAC_CNT l k := fun k hk => by
  rw [regAddr_macCnt]
  omega

/-! ### FRAME_RECEIVE (R93, R94, R121, R125) -/

theorem exec_frameReceive (l : Nat) (bytes : List Byte) (fcsOk pcsErr : Bool) (fecBad fecCorr : Nat) (s : State) :
    exec (.frameReceive l bytes fcsOk pcsErr fecBad fecCorr) s = okIf (s.live && s.present l && decide (bytes ≠ [])) s
      (s.frameIn l bytes fcsOk pcsErr fecBad fecCorr) := rfl

theorem State.frameIn_data {s : State} {l : Nat} {bytes : List Byte} {fcsOk : Bool} (pcsErr : Bool) (fecBad fecCorr : Nat)
    (hr : s.receives l = true) (hc : (isMacCtl bytes && fcsOk) = false) : s.frameIn l bytes fcsOk pcsErr fecBad fecCorr =
    s.macReceive l (bytes.length + 4) bytes fcsOk pcsErr fecBad fecCorr := by
  unfold State.frameIn
  rw [if_pos hr, hc, if_neg Bool.false_ne_true]

section
variable (s : State) {l : Nat} (n : Nat) (bytes : List Byte) (fcsOk pcsErr : Bool) (fecBad fecCorr : Nat)

theorem samePick_macCounted (hl : l < 256) :
    SamePick s (s.macCounted l n fcsOk pcsErr fecBad fecCorr) (l / 8) where
  served := inPipeOk_congr (by omega)
    (RegsIn.macCounted s l n fcsOk pcsErr fecBad fecCorr (by decide) (macCnt_off hl (by decide)))
    (RegsIn.macCounted s l n fcsOk pcsErr fecBad fecCorr (by decide) (macCnt_off hl (by decide)))
  fifoA := by rw [State.phys_congr (s.port_macCounted ..)]
  fifoB := by rw [State.phys_congr (s.port_macCounted ..)]
  lastB := by rw [State.phys_congr (s.port_macCounted ..)]

/-- The port of a frame that a pipeline takes at once. -/
def State.taken (s : State) (l : Nat) (b : Bool) (g : RxFrame) : PhysPort :=
  { s.phys (l / 8) with
    seq := ((s.phys (l / 8)).seq + 1) % 2 ^ 32
    anySeq := true
    lastB := b
    fifoA := if b then (s.phys (l / 8)).fifoA else (s.phys (l / 8)).fifoA ++ [g]
    fifoB := if b then (s.phys (l / 8)).fifoB ++ [g] else (s.phys (l / 8)).fifoB }

theorem State.taken_of_empty {s : State} {l : Nat} (b : Bool) (g : RxFrame) (h : (s.phys (l / 8)).inbuf = []) :
    { s.taken l b g with inbuf := [] } = s.taken l b g := by
  rw [← show (s.taken l b g).inbuf = [] from h]

theorem State.phys_macReceive_taken {b : Bool} (hl : l < 256) (hi : (s.phys (l / 8)).inbuf = [])
    (hb : s.pickPipe (l / 8) (bytes.length + 4) = some b) :
    (s.macReceive l n bytes fcsOk pcsErr fecBad fecCorr).phys (l / 8) =
      s.taken l b { s.macFrame l n bytes fcsOk pcsErr fecBad with seq := (s.phys (l / 8)).seq } ∧
    ∀ p, p ≠ l / 8 → (s.macReceive l n bytes fcsOk pcsErr fecBad fecCorr).phys p = s.phys p := by
  have hlen : bytes.length + 4 ≤ 16384 := State.pickPipe_le hb
  have hfit : rxBytes (s.phys (l / 8)).inbuf + (bytes.length + 4) ≤ 524288 := by
    rw [hi]
    show 0 + (bytes.length + 4) ≤ 524288
    omega
  have hport := s.port_macCounted l n fcsOk pcsErr fecBad fecCorr
  have hsame := samePick_macCounted s n fcsOk pcsErr fecBad fecCorr hl
  rw [State.macReceive_fits _ _ _ _ _ _ _ _ hfit, hi, List.nil_append]
  generalize hu : (s.macCounted l n fcsOk pcsErr fecBad fecCorr).setPhys (l / 8) { s.phys (l / 8) with
    inbuf := [s.macFrame l n bytes fcsOk pcsErr fecBad] } = u
  have hx : u.phys (l / 8) = { s.phys (l / 8) with inbuf := [s.macFrame l n bytes fcsOk pcsErr fecBad] } := by
    rw [← hu, State.phys_setPhys_self]
  have hserved (d : Bool) : u.inPipeOk (l / 8) d = s.inPipeOk (l / 8) d := by
    rw [← hu]
    exact hsame.served d
  have hpick : u.pickPipe (l / 8) (bytes.length + 4) = some b :=
    (SamePick.pickPipe ⟨hserved, by rw [hx], by rw [hx], by rw [hx]⟩ _).trans hb
  have hone := State.port_passFrames_one (f := s.macFrame l n bytes fcsOk pcsErr fecBad) (by rw [hx]) hpick
  have hr (p : Nat) : ((u.passFrames (l / 8)).rateSeen (l / 8)).phys p = (u.passFrames (l / 8)).phys p := rfl
  constructor
  · rw [hr, State.phys_congr hone, State.phys_setPhys_self, hx]
    exact State.taken_of_empty b _ hi
  · intro p hp
    rw [hr, State.phys_congr hone, State.phys_setPhys_ne _ _ hp, ← hu, State.phys_setPhys_ne _ _ hp, State.phys_congr hport]

/-- The first two counters of a frame: frames, and bytes. -/
theorem State.rd_macCounted : (s.macCounted l n fcsOk pcsErr fecBad fecCorr).rd R.TF_MAC_CNT l 0 =
      cntAdd (s.rd R.TF_MAC_CNT l 0) 1 ∧
    (s.macCounted l n fcsOk pcsErr fecBad fecCorr).rd R.TF_MAC_CNT l 1 = cntAdd (s.rd R.TF_MAC_CNT l 1) n ∧
    (s.macCounted l n fcsOk pcsErr fecBad fecCorr).rd R.TF_MAC_CNT l 13 = s.rd R.TF_MAC_CNT l 13 := by
  unfold State.macCounted
  refine ⟨?_, ?_, ?_⟩ <;> simp (disch := decide) only [State.rd_mac_ne, State.rd_mac_self]

theorem frameReceive_taken {b : Bool} (hlive : s.live = true) (hp : s.present l = true) (hne : bytes ≠ [])
    (hr : s.receives l = true) (hc : (isMacCtl bytes && fcsOk) = false) (hi : (s.phys (l / 8)).inbuf = [])
    (hb : s.pickPipe (l / 8) (bytes.length + 4) = some b) :
    Answers (.frameReceive l bytes fcsOk pcsErr fecBad fecCorr) s (fun t => ∃ g : RxFrame,
      g = ⟨l, (s.phys (l / 8)).seq, s.time, bytes, !fcsOk || pcsErr || decide (0 < fecBad) ||
        decide (bytes.length + 4 < 64) || decide (s.maxFrame l < bytes.length + 4)⟩ ∧
      t.phys (l / 8) = s.taken l b g ∧ (∀ p, p ≠ l / 8 → t.phys p = s.phys p) ∧
      t.rd R.TF_MAC_CNT l 0 = cntAdd (s.rd R.TF_MAC_CNT l 0) 1 ∧
      t.rd R.TF_MAC_CNT l 1 = cntAdd (s.rd R.TF_MAC_CNT l 1) (bytes.length + 4)) := by
  obtain ⟨hx, ho⟩ := s.phys_macReceive_taken (bytes.length + 4) bytes fcsOk pcsErr fecBad fecCorr (State.present_lt hp) hi hb
  obtain ⟨h0, h1, -⟩ := s.rd_macCounted (l := l) (bytes.length + 4) fcsOk pcsErr fecBad fecCorr
  have hfit : rxBytes (s.phys (l / 8)).inbuf + (bytes.length + 4) ≤ 524288 := by
    have hlen : bytes.length + 4 ≤ 16384 := State.pickPipe_le hb
    rw [hi]
    show 0 + (bytes.length + 4) ≤ 524288
    omega
  have hregs : (s.macReceive l (bytes.length + 4) bytes fcsOk pcsErr fecBad fecCorr).regs =
      (s.macCounted l (bytes.length + 4) fcsOk pcsErr fecBad fecCorr).regs := by
    rw [State.macReceive_fits _ _ _ _ _ _ _ _ hfit, State.regs_rateSeen]
    exact (State.passFrames_keeps _ _).1
  refine answers_okIf (exec_frameReceive l bytes fcsOk pcsErr fecBad fecCorr s) (by simp [hlive, hp, hne]) ?_
  rw [State.frameIn_data pcsErr fecBad fecCorr hr hc]
  refine ⟨_, rfl, ?_, fun p hk => ?_, ?_, ?_⟩
  · rw [State.phys_settle, hx]
    rfl
  · rw [State.phys_settle, ho p hk]
  · rw [State.rd_settle_high _ (by decide), State.rd_congr hregs, h0]
  · rw [State.rd_settle_high _ (by decide), State.rd_congr hregs, h1]

/-- The counters that a frame lost leaves. -/
theorem State.rd_macLost (t : Nat) : (s.macLost l t).rd R.DT_PORT_CNT l 9 = cntAdd (s.rd R.DT_PORT_CNT l 9) 1 := by
  have h9 := regAddr_portCnt l 9
  have h28 := regAddr_portCnt l 0x1C
  have hb : RegsIn 0x20200 (regAddr R.DT_PORT_CNT l 9 + 1) s ((s.passFrames (l / 8)).countBacked 0 9 1 t) :=
    (RegsIn.of_regs (s.passFrames_keeps (l / 8)).1).trans (RegsIn.countBacked _ _ _ _ _ (.inr le_rfl))
  unfold State.macLost
  rw [State.rd_countAt_ne _ cgPort l 0x1C 1 t (by omega)
    (by show regAddr R.DT_PORT_CNT l 9 ≠ regAddr R.DT_PORT_CNT l 0x1C; omega)]
  exact (State.rd_countAt_self _ cgPort l 9 1 t (by decide)).trans (congrArg (cntAdd · 1)
    (hb.rd (r := R.DT_PORT_CNT) (i := l) (j := 9) (by omega) (Nat.lt_succ_self _)))

theorem frameReceive_lost (hlive : s.live = true) (hp : s.present l = true) (hne : bytes ≠ [])
    (hr : s.receives l = true) (hc : (isMacCtl bytes && fcsOk) = false)
    (ho : 524288 < rxBytes (s.phys (l / 8)).inbuf + (bytes.length + 4))
    (hstuck : ∀ f r, (s.phys (l / 8)).inbuf = f :: r → s.pickPipe (l / 8) (rxLen f) = none) :
    Answers (.frameReceive l bytes fcsOk pcsErr fecBad fecCorr) s (fun t => t.port = s.port ∧
      t.rd R.TF_MAC_CNT l 0 = cntAdd (s.rd R.TF_MAC_CNT l 0) 1 ∧
      t.rd R.TF_MAC_CNT l 13 = cntAdd (s.rd R.TF_MAC_CNT l 13) 1 ∧
      t.rd R.DT_PORT_CNT l 9 = cntAdd (s.rd R.DT_PORT_CNT l 9) 1) := by
  have hl := State.present_lt hp
  obtain ⟨h0, -, h13⟩ := s.rd_macCounted (l := l) (bytes.length + 4) fcsOk pcsErr fecBad fecCorr
  have hport := s.port_macCounted l (bytes.length + 4) fcsOk pcsErr fecBad fecCorr
  have hsame := samePick_macCounted s (bytes.length + 4) fcsOk pcsErr fecBad fecCorr hl
  have h9 : (s.macCounted l (bytes.length + 4) fcsOk pcsErr fecBad fecCorr).rd R.DT_PORT_CNT l 9 = s.rd R.DT_PORT_CNT l 9 := by
    have ha := regAddr_portCnt l 9
    exact (RegsIn.macCounted s l (bytes.length + 4) fcsOk pcsErr fecBad fecCorr (lo := 0x2830000)
      (hi := regAddr R.DT_PORT_CNT l 9 + 1) (.inr (by decide)) (macCnt_off hl (.inl (by decide)))).rd (by omega) (Nat.lt_succ_self _)
  refine answers_okIf (exec_frameReceive l bytes fcsOk pcsErr fecBad fecCorr s) (by simp [hlive, hp, hne]) ?_
  rw [State.frameIn_data pcsErr fecBad fecCorr hr hc, State.macReceive_over _ _ _ _ _ _ _ _ ho]
  generalize hu : s.macCounted l (bytes.length + 4) fcsOk pcsErr fecBad fecCorr = u at h0 h13 h9 hport hsame ⊢
  have hmac (k : Nat) (hk : k < 16) : (u.macLost l s.time).rd R.TF_MAC_CNT l k = u.rd R.TF_MAC_CNT l k := by
    have ha := regAddr_macCnt l k
    exact (RegsIn.macLost (lo := 0x20200) (hi := regAddr R.TF_MAC_CNT l k + 1) u l s.time (.inr le_rfl) (by omega)).rd
      (by omega) (Nat.lt_succ_self _)
  have hkeep : (u.macLost l s.time).port = s.port := by
    have hpass : (u.passFrames (l / 8)).port = s.port := by
      rw [State.passFrames_stuck fun f r hi => ?_, (u.stampHigh_keeps _).2, hport]
      rw [State.phys_congr hport] at hi
      rw [hsame.pickPipe, hstuck f r hi]
    have hcnt : (u.macLost l s.time).sansCounts = (u.passFrames (l / 8)).sansCounts := by
      unfold State.macLost
      rw [State.sansCounts_countAt, State.sansCounts_countAt, State.sansCounts_countBacked]
    exact (congrArg (·.port) hcnt).trans hpass
  have hrate (v : State) (k : Nat) : (v.rateSeen (l / 8)).settle.rd R.TF_MAC_CNT l k = v.rd R.TF_MAC_CNT l k :=
    (State.rd_settle_high _ (by decide)).trans (State.rd_congr (v.regs_rateSeen _) _ _ _)
  refine ⟨?_, ?_, ?_, ?_⟩
  · rw [State.settle_port]
    exact (congrArg (·.port) (State.sansCounts_countAt (u.macLost l s.time) cgMac l 13 1 s.time)).trans hkeep
  · rw [hrate, State.rd_mac_ne _ _ _ _ (by decide), hmac 0 (by decide), h0]
  · rw [hrate, State.rd_mac_self, hmac 13 (by decide), h13]
  · have ha := regAddr_portCnt l 9
    have hm := regAddr_macCnt l 13
    rw [State.rd_settle_high _ (by decide), State.rd_congr (State.regs_rateSeen _ _),
      State.rd_countAt_ne _ cgMac l 13 1 s.time (by omega)
        (by show regAddr R.DT_PORT_CNT l 9 ≠ regAddr R.TF_MAC_CNT l 13; omega), State.rd_macLost, h9]

end

theorem frameReceive_control {s : State} {l : Nat} {bytes : List Byte} (pcsErr : Bool) (fecBad fecCorr : Nat)
    (hlive : s.live = true) (hp : s.present l = true) (hne : bytes ≠ []) (hr : s.receives l = true)
    (hc : isMacCtl bytes = true) :
    Answers (.frameReceive l bytes true pcsErr fecBad fecCorr) s (fun t => t.port = s.port ∧ t.buf = s.buf ∧
      t.rd R.TF_MAC_CNT l 7 = cntAdd (s.rd R.TF_MAC_CNT l 7) 1) := by
  have hin : s.frameIn l bytes true pcsErr fecBad fecCorr = s.count cgMac 7 l := by
    unfold State.frameIn
    rw [if_pos hr, hc]
    rfl
  have hs := s.sansCounts_countAt cgMac l 7 1 s.time
  refine answers_okIf (exec_frameReceive l bytes true pcsErr fecBad fecCorr s) (by simp [hlive, hp, hne]) ?_
  rw [hin]
  refine ⟨?_, ?_, ?_⟩
  · rw [State.settle_port]
    exact congrArg (·.port) hs
  · rw [State.settle_buf]
    exact congrArg (·.buf) hs
  · rw [State.rd_settle_high _ (by decide)]
    exact s.rd_mac_self l 7 1 s.time

/-! ### PAUSE_FRAME_RX, PAUSE_TIMER_EXPIRY (R94, R108 to R110) -/

theorem exec_pauseFrameRx (l enable : Nat) (pfc : Bool) (times : List Nat) (s : State) :
    exec (.pauseFrameRx l pfc enable times) s =
    okIf (s.live && s.present l && s.receives l) s ((s.count cgMac 7 l).pauseFrame l pfc enable times) := rfl

/-- A field of the port's controls, as a frame is counted. -/
theorem State.get_ctl_counted (s : State) {l : Nat} {f : Fld} (hl : l < 256) (hf : f.reg = R.TF_LPORT_CTL) (k : Nat) :
    (s.count cgMac k l).get f l = s.get f l :=
  (RegsIn.count_above (lo := 0x1010000) (hi := 0x1018000) s k l 1 (by decide) (by decide)).get_of
    (by rw [hf]; exact hl) (by rw [hf]; decide)

theorem pauseFrameRx_answers {s : State} {l c : Nat} (enable : Nat) (pfc : Bool) (times : List Nat) (hlive : s.live = true)
    (hp : s.present l = true) (hr : s.receives l = true) (h8 : c < 8) :
    Answers (.pauseFrameRx l pfc enable times) s (fun t =>
      t.rd R.TF_MAC_CNT l 7 = cntAdd (s.rd R.TF_MAC_CNT l 7) 1 ∧ t.buf = s.buf ∧
      (s.get F.TF_LPORT_CTL_fc_mode l = 1 → pfc = true →
        bitOf enable c = true → bitOf (s.get F.TF_LPORT_CTL_pfc_rx_en l) c = true →
        (t.lp l).quanta.getD c 0 = times.getD c 0 % 65536 ∧
        bitOf (t.get F.TF_LPORT_STAT_rx_paused l) c = decide (0 < times.getD c 0 % 65536)) ∧
      (s.get F.TF_LPORT_CTL_fc_mode l = 1 → pfc = true →
        (bitOf enable c = false ∨ bitOf (s.get F.TF_LPORT_CTL_pfc_rx_en l) c = false) →
        (t.lp l).quanta.getD c 0 = (s.lp l).quanta.getD c 0) ∧
      (s.get F.TF_LPORT_CTL_fc_mode l = 2 → pfc = false →
        (t.lp l).quanta.getD c 0 = times.getD 0 0 % 65536) ∧
      ((s.get F.TF_LPORT_CTL_fc_mode l ≠ 1 ∨ pfc = false) → (s.get F.TF_LPORT_CTL_fc_mode l ≠ 2 ∨ pfc = true) →
        t.port = s.port)) := by
  have hl := State.present_lt hp
  have hmode := s.get_ctl_counted (f := F.TF_LPORT_CTL_fc_mode) hl rfl 7
  have hen := s.get_ctl_counted (f := F.TF_LPORT_CTL_pfc_rx_en) hl rfl 7
  have hport : (s.count cgMac 7 l).port = s.port := s.port_count cgMac 7 l 1
  have hmem : c ∈ (s.count cgMac 7 l).pfcObeyed l enable ↔
      bitOf enable c = true ∧ bitOf (s.get F.TF_LPORT_CTL_pfc_rx_en l) c = true := by
    rw [State.pfcObeyed, List.mem_filter, List.mem_range, hen, Bool.and_eq_true]
    exact and_iff_right h8
  have h7 : (s.count cgMac 7 l).rd R.TF_MAC_CNT l 7 = cntAdd (s.rd R.TF_MAC_CNT l 7) 1 := s.rd_mac_self l 7 1 s.time
  have hbuf : (s.count cgMac 7 l).buf = s.buf := congrArg (·.buf) (s.sansCounts_countAt cgMac l 7 1 s.time)
  refine answers_okIf (exec_pauseFrameRx l enable pfc times s) (by simp [hlive, hp, hr]) ?_
  generalize s.count cgMac 7 l = u at hmode hport hmem h7 hbuf ⊢
  refine ⟨?_, ?_, ?_, ?_, ?_, ?_⟩
  · rw [State.rd_settle_high _ (by decide), ← h7]
    have hm7 := regAddr_macCnt l 7
    have hst : regAddr R.TF_LPORT_STAT l 0 = 0x1018000 + l * 0x40 := rfl
    refine State.pauseFrame_ind (P := fun t => t.rd R.TF_MAC_CNT l 7 = u.rd R.TF_MAC_CNT l 7) u l enable times pfc rfl
      fun q cs => ?_
    have hoff {a : Nat} (ha : a < 0x1000000) : regAddr R.TF_MAC_CNT l 7 ≠ a := by omega
    exact (regsBut_pauseAll l q cs u (List.mem_singleton_self _)).rd (by rw [List.mem_singleton]; omega)
      (hoff (by decide)) (hoff (by decide)) (hoff (by decide))
  · rw [State.settle_buf, ← hbuf]
    exact State.pauseFrame_ind (P := fun t => t.buf = u.buf) u l enable times pfc rfl fun q cs =>
      congrArg (·.buf) (u.sansPort_pauseAll l q cs)
  · rintro h1 rfl he hx
    have hin := hmem.2 ⟨he, hx⟩
    rw [State.pauseFrame_pfc _ _ _ _ (hmode.trans h1), State.lp_settle, State.get_settle_high _ (by decide),
      State.quanta_pauseAll, if_pos hin]
    exact ⟨rfl, u.paused_pauseAll l _ _ (fun k hk => List.mem_range.1 (List.mem_filter.1 hk).1) hin⟩
  · rintro h1 rfl hno
    have hout : c ∉ u.pfcObeyed l enable := fun h => by
      obtain ⟨he, hx⟩ := hmem.1 h
      simp [he, hx] at hno
    rw [State.pauseFrame_pfc _ _ _ _ (hmode.trans h1), State.lp_settle, State.quanta_pauseAll, if_neg hout,
      State.lp_congr hport]
  · rintro h2 rfl
    rw [State.pauseFrame_pause _ _ _ _ (hmode.trans h2), State.lp_settle, State.quanta_pauseAll,
      if_pos (List.mem_range.2 h8)]
  · intro h1 h2
    rw [State.pauseFrame_ignored _ _ _ _ (by rwa [hmode]) (by rwa [hmode]), State.settle_port, hport]

theorem pauseTimerExpiry_answers {s : State} {l c : Nat} (hlive : s.live = true) (hl : l < 256) (h8 : c < 8)
    (hq : s.quantaOver l ((s.lp l).quanta.getD c 0) ((s.lp l).pauseAt.getD c 0) = true) :
    Answers (.pauseTimerExpiry l c) s (fun t => (t.lp l).quanta.getD c 0 = 0 ∧
      bitOf (t.get F.TF_LPORT_STAT_rx_paused l) c = false ∧
      t = { s.settled t with port := { s.port with lports := t.port.lports } } ∧
      RegsBut [regAddr R.TF_LPORT_STAT l 0] s t) := by
  refine answers_okIf (t := s.pauseClass l c 0) rfl (by simpa [hlive, hl, h8] using hq) ⟨?_, ?_, settledLports (State.sansLports_put (s.setLp l _) _ _ _ _),
    regsBut_settle_of (regsBut_pauseClass s l c 0 (List.mem_singleton_self _))⟩
  · rw [State.lp_settle, State.quanta_pauseClass, if_pos rfl]
  · rw [State.get_settle_high _ (by decide), State.paused_pauseClass_self _ _ _ _ h8]
    rfl

/-! ### PFC_TX_REQUEST, XOFF_REFRESH (R111, R112) -/

theorem bitOf_two_pow {c i : Nat} : bitOf (2 ^ c) i = decide (i = c) := by
  have h := @Nat.testBit_two_pow c i
  rw [Nat.testBit_eq_decide_div_mod_eq] at h
  rw [bitOf, h]
  exact decide_eq_decide.2 eq_comm

/-- The pause times of a frame for one class. -/
theorem State.pfcTimes_one (s : State) (l c : Nat) : s.pfcTimes l (2 ^ c) =
    (List.range 8).map (fun i => if i = c ∧ bitOf (s.get F.TF_LPORT_STAT_tx_xoff l) c = true then 0xFFFF else 0) := by
  refine List.map_congr_left fun i _ => ?_
  rw [bitOf_two_pow]
  by_cases h : i = c
  · subst h; simp
  · simp [h]

theorem exec_pfcTxRequest (l c : Nat) (xoff : Bool) (s : State) : exec (.pfcTxRequest l c xoff) s =
    okIf (s.live && s.present l && decide (c < 8) && (s.xoffOn l c == xoff)) s
      (if s.link l = 4 ∧ s.pfcSends l c = true then (s.putBit F.TF_LPORT_STAT_tx_xoff xoff c l).sendPfc l (2 ^ c)
       else s.putBit F.TF_LPORT_STAT_tx_xoff xoff c l) := rfl

theorem pfcTxRequest_answers {s : State} {l c : Nat} {xoff : Bool} (hlive : s.live = true) (hp : s.present l = true)
    (h8 : c < 8) (hx : s.xoffOn l c = xoff) :
    Answers (.pfcTxRequest l c xoff) s (fun t => bitOf (t.get F.TF_LPORT_STAT_tx_xoff l) c = xoff ∧
      (s.link l = 4 → s.pfcSends l c = true → .pfc l (2 ^ c)
        ((List.range 8).map (fun i => if i = c ∧ xoff = true then 0xFFFF else 0)) ∈ t.out) ∧
      (s.link l ≠ 4 → OnlyRegs [regAddr R.TF_LPORT_STAT l 0] s t)) := by
  have hl := State.present_lt hp
  have hbit : bitOf ((s.putBit F.TF_LPORT_STAT_tx_xoff xoff c l).get F.TF_LPORT_STAT_tx_xoff l) c = xoff :=
    State.bitOf_putBit_self _ _ _ (by decide) h8
  have hregs : OnlyRegs [regAddr R.TF_LPORT_STAT l 0] s (s.putBit F.TF_LPORT_STAT_tx_xoff xoff c l) :=
    (OnlyRegs.refl _ s).put _ (List.mem_singleton_self _)
  refine answers_okIf (exec_pfcTxRequest l c xoff s) (by simp [hlive, hp, h8, hx]) ?_
  by_cases h : s.link l = 4 ∧ s.pfcSends l c = true
  · rw [if_pos h]
    refine ⟨?_, fun _ _ => State.mem_out_settle ?_, fun hn => absurd h.1 hn⟩
    · rw [State.get_settle_high _ (by decide), State.stat_sendPfc _ _ _ hl rfl (by decide), hbit]
    · rw [State.out_sendPfc, State.pfcTimes_one, hbit]
      exact List.mem_append_right _ (List.mem_singleton_self _)
  · rw [if_neg h]
    refine ⟨?_, fun h1 h2 => absurd ⟨h1, h2⟩ h, fun _ => hregs.settle⟩
    rw [State.get_settle_high _ (by decide), hbit]

theorem xoffRefresh_answers {s : State} {l c : Nat} (hlive : s.live = true) (hp : s.present l = true)
    (h8 : c < 8) (h4 : s.link l = 4) (hx : bitOf (s.get F.TF_LPORT_STAT_tx_xoff l) c = true) (hs : s.pfcSends l c = true)
    (hq : s.quantaOver l 0x8000 ((s.lp l).xoffAt.getD c 0) = true) :
    Answers (.xoffRefresh l c) s (fun t =>
      .pfc l (2 ^ c) ((List.range 8).map (fun i => if i = c then 0xFFFF else 0)) ∈ t.out ∧
      t.get F.TF_LPORT_STAT_tx_xoff l = s.get F.TF_LPORT_STAT_tx_xoff l) := by
  refine answers_okIf (t := s.sendPfc l (2 ^ c)) rfl (by simpa [hlive, hp, h8, h4, hx, hs] using hq) ⟨State.mem_out_settle ?_, ?_⟩
  · rw [State.out_sendPfc, State.pfcTimes_one, hx]
    simp
  · rw [State.get_settle_high _ (by decide), State.stat_sendPfc _ _ _ (State.present_lt hp) rfl (by decide)]

/-- Settles O44: one lemma for each kind of frame, and for each command of pause and PFC. -/
theorem framesPauseAndPfcAtTheMac : Obligations.FramesPauseAndPfcAtTheMac := by
  refine ⟨?_, ?_, ?_, ?_, ?_, ?_, ?_⟩
  · intro l bytes fcsOk pcsErr fecBad fecCorr b s hlive hp hne hr hc hi hb
    exact frameReceive_taken s bytes fcsOk pcsErr fecBad fecCorr hlive hp hne hr hc hi hb
  · intro l bytes fcsOk pcsErr fecBad fecCorr s hlive hp hne hr hc ho hstuck
    exact frameReceive_lost s bytes fcsOk pcsErr fecBad fecCorr hlive hp hne hr hc ho hstuck
  · intro l bytes pcsErr fecBad fecCorr s hlive hp hne hr hc
    exact frameReceive_control pcsErr fecBad fecCorr hlive hp hne hr hc
  · intro l enable c pfc times s hlive hp hr h8
    exact pauseFrameRx_answers enable pfc times hlive hp hr h8
  · intro l c s hlive hl h8 hq
    exact pauseTimerExpiry_answers hlive hl h8 hq
  · intro l c xoff s hlive hp h8 hx
    exact pfcTxRequest_answers hlive hp h8 hx
  · intro l c s hlive hp h8 h4 hx hs hq
    exact xoffRefresh_answers hlive hp h8 h4 hx hs hq

end Sys2Proof.Machine
end

section
/-! PROOFS. Leaving UP: what DT learns, and what the ports' registers and the logical port show (R97, R102, R113, R128, R397,
R503, R863). -/

namespace Sys2Proof.Machine

/-! ### A report of a port's state (R397, R863) -/

theorem State.regs_report (s : State) (m l : Nat) (up : Bool) : (s.report m l up).regs = s.regs := by
  unfold State.report
  dsimp only
  split
  · split <;> rfl
  · split
    · split <;> rfl
    · rfl

theorem State.port_report (s : State) (m l : Nat) (up : Bool) : (s.report m l up).port = s.port := by
  unfold State.report
  dsimp only
  split
  · split <;> rfl
  · split
    · split <;> rfl
    · rfl

theorem State.view_setView (s : State) (m l : Nat) (v : PView) : (s.setView m l v).view m l = v := tget_tput_self _ _ _ _

theorem State.view_congr {s t : State} (h : t.buf = s.buf) (m l : Nat) : t.view m l = s.view m l := by
  rw [State.view, h, State.view]

theorem State.view_report_up (s : State) (m l : Nat) : (s.report m l true).view m l = .up := by
  unfold State.report
  rw [if_pos rfl]
  refine State.ite_ind (P := fun t => t.view m l = .up) (fun h => ?_) fun _ => s.view_setView m l .up
  exact beq_iff_eq.1 h

theorem State.view_report_down {s : State} {m l : Nat} (h : s.viewUp m l = true) :
    (s.report m l false).view m l = .hold := by
  unfold State.report
  rw [if_neg Bool.false_ne_true, if_pos h]
  exact State.ite_ind (P := fun t => t.view m l = .hold) (fun _ => s.view_setView m l .hold) fun _ => s.view_setView m l .hold

/-! ### PORT_STATE messages (R503) -/

theorem State.msgs_setMsgs_self (s : State) (m : Nat) (q : MsgQ) : (s.setMsgs m q).msgs m = q := tget_tput_self _ _ _ _

theorem State.msgs_setMsgs_ne (s : State) {m k : Nat} (q : MsgQ) (h : k ≠ m) : (s.setMsgs m q).msgs k = s.msgs k :=
  tget_tput_ne _ _ _ _ h

/-- What waits for a module, after a control message for another or for it. -/
theorem State.ctl_sendCtl (s : State) (m : Nat) (w : Word) (k : Nat) :
    ((s.sendCtl m w).msgs k).ctl = if k = m then (s.msgs k).ctl ++ [w] else (s.msgs k).ctl := by
  unfold State.sendCtl
  by_cases h : k = m
  · subst h
    rw [if_pos rfl, State.msgs_setMsgs_self]
  · rw [if_neg h, State.msgs_setMsgs_ne _ _ h]

theorem State.mem_ctl_sendCtl {s : State} {k : Nat} {x : Word} (m : Nat) (w : Word) (h : x ∈ (s.msgs k).ctl) :
    x ∈ ((s.sendCtl m w).msgs k).ctl := by
  rw [State.ctl_sendCtl]
  split
  · exact List.mem_append_left _ h
  · exact h

/-- A message for each module of a list reaches every one of them. -/
theorem State.mem_ctl_sent (l : List Nat) (s : State) (w : Word) {m : Nat} (hm : m ∈ l) :
    w ∈ ((l.foldl (fun t k => t.sendCtl k w) s).msgs m).ctl := by
  have hkeep : ∀ (l : List Nat) (t : State), w ∈ (t.msgs m).ctl → w ∈ ((l.foldl (fun t k => t.sendCtl k w) t).msgs m).ctl := by
    intro l
    induction l with
    | nil => exact fun _ h => h
    | cons k l ih => exact fun t h => ih _ (State.mem_ctl_sendCtl k w h)
  induction l generalizing s with
  | nil => exact absurd hm List.not_mem_nil
  | cons k l ih =>
    rw [List.foldl_cons]
    rcases List.mem_cons.1 hm with rfl | hm
    · refine hkeep l _ ?_
      rw [State.ctl_sendCtl, if_pos rfl]
      exact List.mem_append_right _ (List.mem_singleton_self _)
    · exact ih _ hm

/-! ### DT learns of an own port's change (R97) -/

/-- A state without what waits for the fabric's control cells. -/
def State.sansFab (s : State) : State := { s with fab := { s.fab with msgs := [] } }

theorem State.sansFab_sent (l : List Nat) (s : State) (w : Word) :
    (l.foldl (fun t k => t.sendCtl k w) s).sansFab = s.sansFab :=
  foldl_fixes State.sansFab (step := fun t k => t.sendCtl k w) (fun _ _ _ => rfl) s

section
variable (s : State) (l : Nat) (up : Bool)

theorem State.sansFab_localChange : (s.localChange l up).sansFab = (s.report s.myId l up).sansFab :=
  State.sansFab_sent _ _ _

theorem State.regs_localChange : (s.localChange l up).regs = s.regs :=
  (congrArg (·.regs) (s.sansFab_localChange l up)).trans (s.regs_report _ l up)

theorem State.port_localChange : (s.localChange l up).port = s.port :=
  (congrArg (·.port) (s.sansFab_localChange l up)).trans (s.port_report _ l up)

theorem State.view_localChange (m k : Nat) : (s.localChange l up).view m k = (s.report s.myId l up).view m k :=
  State.view_congr (congrArg (·.buf) (s.sansFab_localChange l up)) m k

theorem State.fab_report (m : Nat) : (s.report m l up).fab = s.fab := by
  unfold State.report
  dsimp only
  split
  · split <;> rfl
  · split
    · split <;> rfl
    · rfl

theorem State.msgs_localChange {m : Nat} (hm : m ∈ s.reachables) :
    portStateMsg l up ∈ ((s.localChange l up).msgs m).ctl := by
  refine State.mem_ctl_sent _ _ _ ?_
  unfold State.reachables at hm ⊢
  rwa [State.fab_report]

end

/-! ### Leaving UP (R97, R102, R113, R128) -/

/-- The frame under way at a port that leaves UP, passed on with a mark. -/
def State.cutPassed (s : State) (l : Nat) (part : List Byte) : State :=
  if part = [] then s else s.macReceive l part.length (part.take (part.length - 4)) true true 0 0

/-- A port that leaves UP as its own status and its events show it. -/
def State.downShown (s : State) (l : Nat) : State :=
  ((s.addSat F.TF_LPORT_STAT_flaps 1 l).raise F.TF_LPORT_EVT_link_down l).zero F.TF_LPORT_STAT_rx_paused l

/-- Its pause times as well, and the record of its physical port. -/
def State.downMarked (s : State) (l : Nat) : State :=
  ((s.downShown l).setLp l { (s.downShown l).lp l with quanta := lport0.quanta }).putBit F.TF_PORT_CFG_up false (l % 8) (l / 8)

theorem State.leaveUp_eq (s : State) (l : Nat) (part : List Byte) :
    s.leaveUp l part = ((s.cutPassed l part).downMarked l).localChange l false := rfl

theorem State.buf_of_sansPort {s t : State} (h : t.sansPort = s.sansPort) : t.buf = s.buf := congrArg (·.buf) h

theorem State.buf_of_sansMac {s t : State} (h : t.sansMac = s.sansMac) : t.buf = s.buf := congrArg (·.buf) h

theorem State.lp_of_sansMac {s t : State} (h : t.sansMac = s.sansMac) (k : Nat) : t.lp k = s.lp k := by
  have hp : t.sansMac.port.lports = s.sansMac.port.lports := by rw [h]
  exact congrArg (fun x => tget x k lport0) hp

section
variable (s : State) (l : Nat) (part : List Byte)

theorem State.sansMac_cutPassed : (s.cutPassed l part).sansMac = s.sansMac :=
  State.ite_ind (P := fun t => t.sansMac = s.sansMac) (fun _ => rfl) fun _ => s.sansMac_macReceive ..

theorem RegsIn.cutPassed {lo hi : Nat} (hlo : hi ≤ 0x20000 ∨ 0x20200 ≤ lo) (h : hi ≤ 0x1090000) :
    RegsIn lo hi s (s.cutPassed l part) :=
  State.ite_ind (fun _ => RegsIn.refl s) fun _ => RegsIn.macReceive s _ _ _ _ _ _ _ hlo h

theorem State.lp_cutPassed (k : Nat) : (s.cutPassed l part).lp k = s.lp k :=
  State.lp_of_sansMac (s.sansMac_cutPassed l part) k

theorem State.lp_downMarked_self : (s.downMarked l).lp l = { s.lp l with quanta := lport0.quanta } := by
  have hd : (s.downShown l).lp l = s.lp l := by
    unfold State.downShown
    rw [State.zero, State.lp_put, State.raise, State.lp_put, State.addSat, State.lp_put]
  unfold State.downMarked
  rw [State.putBit, State.lp_put, State.lp_setLp_self, hd]

theorem State.sansPort_downMarked : (s.downMarked l).sansPort = s.sansPort := by
  unfold State.downMarked
  rw [State.putBit, State.sansPort_put, State.sansPort_setLp, State.downShown, State.zero, State.sansPort_put, State.raise,
    State.sansPort_put, State.addSat, State.sansPort_put]

/-- Of the link's registers, leaving UP touches the port's status, its events and the record of its physical port. -/
theorem RegsIn.downMarked {lo hi : Nat} (hl : l < 256) (h1 : 0x1000800 ≤ lo ∨ hi ≤ 0x1000000)
    (h2 : 0x101C000 ≤ lo ∨ hi ≤ 0x1018000) (h3 : 0x102C000 ≤ lo ∨ hi ≤ 0x1028000) : RegsIn lo hi s (s.downMarked l) := by
  have hst (t : State) (f : Fld) (v : Nat) (hf : f.reg = R.TF_LPORT_STAT) : RegsIn lo hi t (t.put f v l) :=
    RegsIn.put_of t v (by rw [hf]; exact hl) (by rw [hf]; exact h2.imp (le_trans (by decide)) fun h => h)
  have hev (t : State) : RegsIn lo hi t (t.raise F.TF_LPORT_EVT_link_down l) :=
    RegsIn.put_of t 1 hl (h3.imp (le_trans (by decide)) fun h => h)
  have hcfg (t : State) (v : Nat) : RegsIn lo hi t (t.put F.TF_PORT_CFG_up v (l / 8)) :=
    RegsIn.put_of t v (show l / 8 < 32 by omega) (h1.imp (le_trans (by decide)) fun h => h)
  have hlp (t : State) (x : LPort) : RegsIn lo hi t (t.setLp l x) := RegsIn.of_regs rfl
  have hd : RegsIn lo hi s (s.downShown l) := ((hst s F.TF_LPORT_STAT_flaps _ rfl).trans (hev _)).trans (hst _ _ _ rfl)
  exact (hd.trans (hlp _ _)).trans (hcfg _ _)

theorem State.lp_leaveUp_self : (s.leaveUp l part).lp l = { s.lp l with quanta := lport0.quanta } := by
  rw [State.leaveUp_eq, State.lp_congr (State.port_localChange _ l false), State.lp_downMarked_self, State.lp_cutPassed]

/-- The registers that leaving UP leaves alone. -/
theorem RegsIn.leaveUp {lo hi : Nat} (hl : l < 256) (hlo : hi ≤ 0x20000 ∨ 0x20200 ≤ lo) (h : hi ≤ 0x1090000)
    (h1 : 0x1000800 ≤ lo ∨ hi ≤ 0x1000000) (h2 : 0x101C000 ≤ lo ∨ hi ≤ 0x1018000)
    (h3 : 0x102C000 ≤ lo ∨ hi ≤ 0x1028000) : RegsIn lo hi s (s.leaveUp l part) := by
  rw [State.leaveUp_eq]
  exact ((RegsIn.cutPassed s l part hlo h).trans (RegsIn.downMarked _ l hl h1 h2 h3)).trans
    (RegsIn.of_regs (State.regs_localChange _ l false))

/-- What the port shows of it: the event, and in the record of its physical port. -/
theorem State.leaveUp_shows (hl : l < 256) : (s.leaveUp l part).get F.TF_LPORT_EVT_link_down l = 1 ∧
    bitOf ((s.leaveUp l part).get F.TF_PORT_CFG_up (l / 8)) (l % 8) = false := by
  have h8 : l / 8 < 32 := by omega
  rw [State.leaveUp_eq, State.get_congr (State.regs_localChange _ l false), State.get_congr (State.regs_localChange _ l false)]
  generalize s.cutPassed l part = t
  have hlp (u : State) (x : LPort) : (u.setLp l x).get F.TF_LPORT_EVT_link_down l = u.get F.TF_LPORT_EVT_link_down l :=
    State.get_congr rfl _ _ _
  unfold State.downMarked
  constructor
  · rw [State.putBit, State.get_put_of _ _ (show l / 8 < 32 from h8) hl (by decide), hlp]
    rw [State.downShown, State.zero, State.get_put_of _ _ hl hl (by decide), State.get_raise_self _ _ _ _ (by decide) (by decide)]
  · exact State.bitOf_putBit_self _ _ _ (by decide) (show l % 8 < 8 by omega)

theorem State.viewUp_congr {s t : State} (h : t.buf = s.buf) (m l : Nat) : t.viewUp m l = s.viewUp m l := by
  rw [State.viewUp, State.view_congr h, State.viewUp]

/-- The port's own view of a port that leaves UP is held (R863). -/
theorem State.view_leaveUp (hl : l < 256) (h : s.viewUp s.myId l = true) : (s.leaveUp l part).view s.myId l = .hold := by
  have hbuf : ((s.cutPassed l part).downMarked l).buf = s.buf :=
    (State.buf_of_sansPort (State.sansPort_downMarked (s.cutPassed l part) l)).trans
      (State.buf_of_sansMac (s.sansMac_cutPassed l part))
  have hregs : RegsIn 0 0x20000 s ((s.cutPassed l part).downMarked l) :=
    (RegsIn.cutPassed s l part (by decide) (by decide)).trans
      (RegsIn.downMarked _ l hl (by decide) (by decide) (by decide))
  have hid : ((s.cutPassed l part).downMarked l).myId = s.myId := hregs.get_of (f := F.KV_MODE_module_id) (i := 0) (by decide) (by decide)
  rw [State.leaveUp_eq, State.view_localChange, hid]
  exact State.view_report_down ((State.viewUp_congr hbuf _ l).trans h)

end

end Sys2Proof.Machine
end

section
/-! PROOFS. Lanes: loss of signal, degrade and its end, adaptation, measured loss (R104 to R107, R126, R127; log 125). -/

namespace Sys2Proof.Machine

/-! ### The registers of a lane, and who owns it (R88, R126) -/

/-- A field of a lane, as another field of some lane is written. -/
theorem State.lane_put_fld (s : State) {f g : Fld} (v m n : Nat) (hf : f.reg = R.TF_LANE_STAT) (hg : g.reg = R.TF_LANE_STAT)
    (hw : f.lo + f.w ≤ 64) (h : f.lo + f.w ≤ g.lo ∨ g.lo + g.w ≤ f.lo) : (s.put f v m).get g n = s.get g n := by
  by_cases hn : n = m
  · subst hn
    exact s.get_put_fld v (hg.trans hf.symm) hw h
  · exact s.get_put_ne v (hg.trans hf.symm) hn (by rw [hf]; decide)

theorem State.lane_putLanes_fld (s : State) {f g : Fld} (v l n : Nat) (hf : f.reg = R.TF_LANE_STAT)
    (hg : g.reg = R.TF_LANE_STAT) (hw : f.lo + f.w ≤ 64) (h : f.lo + f.w ≤ g.lo ∨ g.lo + g.w ≤ f.lo) :
    (s.putLanes f v l).get g n = s.get g n :=
  foldl_fixes (·.get g n) (fun t m _ => t.lane_put_fld v m n hf hg hw h) s

/-- A change of link state touches of a lane only whether it adapts. -/
theorem State.lane_setLink (s : State) {l n : Nat} (st : Nat) {f : Fld} (hl : l < 256) (hn : n < 256)
    (hf : f.reg = R.TF_LANE_STAT) (h : 3 ≤ f.lo ∨ f.lo + f.w ≤ 2) : (s.setLink l st).get f n = s.get f n := by
  have hnf : n < f.reg.n := by rw [hf]; exact hn
  have hb : 0x1040000 ≤ f.reg.base ∧ f.reg.past ≤ 0x1044000 := by rw [hf]; decide
  have hm : (s.linkMoved l st).get f n = s.get f n := by
    have hp : (s.put F.TF_LPORT_STAT_link_state st l).get f n = s.get f n :=
      State.get_put_of s st hl hnf (by rw [hf]; decide)
    refine Eq.trans ?_ hp
    exact State.lane_putLanes_fld _ _ l n rfl hf (by decide) (h.imp id id)
  refine State.setLink_ind (P := fun t => t.get f n = s.get f n) s l st ?_ (fun _ => ?_) hm
  · exact (State.get_put_of _ 0 hl hnf (by rw [hf]; decide)).trans hm
  · have hi := (State.get_congr (State.regs_imageTaps (s.linkMoved l st) l) f n 0).trans hm
    refine State.ite_ind (P := fun t => t.get f n = s.get f n) (fun _ => ?_) fun _ => hi
    exact ((RegsIn.setFrm _ l _ (by decide)).get_of hnf hb).trans hi

/-- Two states hold the same words in the records and the lane maps of the physical ports. -/
abbrev MapSame (s t : State) : Prop := RegsIn 0x1000000 0x1008000 s t

section
variable {s t : State} {l n : Nat}

theorem lanesOf_congr (h : MapSame s t) (hl : l < 256) : t.lanesOf l = s.lanesOf l := by
  have h8 : l / 8 < 32 := by omega
  unfold State.lanesOf State.breakout
  rw [h.get_of (f := F.TF_PORT_CFG_breakout) h8 (by decide), h.get_of (f := F.TF_PORT_LANEMAP_rx_map) h8 (by decide)]

theorem txLanesOf_congr (h : MapSame s t) (hl : l < 256) : t.txLanesOf l = s.txLanesOf l := by
  have h8 : l / 8 < 32 := by omega
  unfold State.txLanesOf State.breakout
  rw [h.get_of (f := F.TF_PORT_CFG_breakout) h8 (by decide), h.get_of (f := F.TF_PORT_LANEMAP_tx_map) h8 (by decide)]

theorem present_congr (h : MapSame s t) (hl : l < 256) : t.present l = s.present l := by
  have h8 : l / 8 < 32 := by omega
  unfold State.present State.breakout
  rw [h.get_of (f := F.TF_PORT_CFG_breakout) h8 (by decide)]

theorem laneOwner_congr (h : MapSame s t) (hn : n < 256) : t.laneOwner n = s.laneOwner n := by
  refine List.find?_congr fun l hm => ?_
  obtain ⟨i, hi, rfl⟩ := List.mem_map.1 hm
  have hl : n / 8 * 8 + i < 256 := by
    have := List.mem_range.1 hi
    omega
  rw [present_congr h hl, lanesOf_congr h hl]

theorem State.owner_lt (h : s.laneOwner n = some l) : l < 256 := by
  have hp : (s.present l && (s.lanesOf l).contains n) = true := List.find?_some (p := fun l => s.present l && (s.lanesOf l).contains n) h
  exact State.present_lt (Bool.and_eq_true_iff.1 hp).1

end

/-! ### LANE_SIGNAL_LOSS (R126) -/

theorem State.regs_unlockOwner (s : State) (n : Nat) : (s.unlockOwner n).regs = s.regs := by
  unfold State.unlockOwner
  split
  · split <;> rfl
  · rfl

theorem State.sansLports_unlockOwner (s : State) (n : Nat) : (s.unlockOwner n).sansLports = s.sansLports := by
  unfold State.unlockOwner
  split
  · split <;> rfl
  · rfl

/-- Its port loses its lock in WAIT_LOCK. -/
theorem State.lp_unlockOwner (s : State) (n l : Nat) : (s.unlockOwner n).lp l =
    if s.laneOwner n = some l ∧ s.link l = 3 then { s.lp l with locked := false } else s.lp l := by
  unfold State.unlockOwner
  cases ho : s.laneOwner n with
  | none => simp
  | some k =>
    dsimp only
    by_cases hk : k = l
    · subst hk
      by_cases h3 : s.link k = 3
      · rw [if_pos h3, if_pos ⟨rfl, h3⟩, State.lp_setLp_self]
      · rw [if_neg h3, if_neg (not_and_of_not_right _ h3)]
    · have hne : ¬(some k = some l ∧ s.link l = 3) := fun h => hk (Option.some.inj h.1)
      rw [if_neg hne]
      refine State.ite_ind (P := fun t => t.lp l = s.lp l) (fun _ => ?_) fun _ => rfl
      exact State.lp_setLp_ne _ _ (Ne.symm hk)

/-- A lane without its lock and its measured rate, before its port and the event follow. -/
def State.laneUnlocked (s : State) (n : Nat) : State := (s.zero F.TF_LANE_STAT_cdr_lock n).zero F.TF_LANE_STAT_ber_log n

theorem exec_laneSignalLoss (n : Nat) (cdr : Bool) (s : State) : exec (.laneSignalLoss n cdr) s =
    okIf (s.live && decide (n < 256)) s (if cdr then ((s.laneUnlocked n).unlockOwner n).raise F.TF_LANE_EVT_cdr_loss n
      else (((s.laneUnlocked n).unlockOwner n).zero F.TF_LANE_STAT_signal n).raise F.TF_LANE_EVT_sig_loss n) := rfl

theorem State.lane_laneUnlocked (s : State) (n : Nat) : (s.laneUnlocked n).get F.TF_LANE_STAT_cdr_lock n = 0 ∧
    (s.laneUnlocked n).get F.TF_LANE_STAT_ber_log n = 0 ∧
    (s.laneUnlocked n).get F.TF_LANE_STAT_signal n = s.get F.TF_LANE_STAT_signal n := by
  unfold State.laneUnlocked
  refine ⟨?_, State.get_zero_self _ _ _ _ (by decide), ?_⟩
  · rw [State.get_zero_fld (f := F.TF_LANE_STAT_ber_log) (g := F.TF_LANE_STAT_cdr_lock) _ rfl (by decide) (by decide),
      State.get_zero_self _ _ _ _ (by decide)]
  · rw [State.get_zero_fld (f := F.TF_LANE_STAT_ber_log) (g := F.TF_LANE_STAT_signal) _ rfl (by decide) (by decide),
      State.get_zero_fld (f := F.TF_LANE_STAT_cdr_lock) (g := F.TF_LANE_STAT_signal) _ rfl (by decide) (by decide)]

theorem regsIn_laneUnlocked {lo hi : Nat} (s : State) {n : Nat} (hn : n < 256) (h : hi ≤ 0x1040000) :
    RegsIn lo hi s (s.laneUnlocked n) :=
  (RegsIn.put_of s 0 hn (.inr h)).trans (RegsIn.put_of _ 0 hn (.inr h))

theorem laneSignalLoss_answers {s : State} {n : Nat} (cdr : Bool) (hlive : s.live = true) (hn : n < 256) :
    Answers (.laneSignalLoss n cdr) s (fun t => t.flag F.TF_LANE_STAT_cdr_lock n = false ∧
      t.flag F.TF_LANE_STAT_signal n = (cdr && s.flag F.TF_LANE_STAT_signal n) ∧
      t.flag (if cdr then F.TF_LANE_EVT_cdr_loss else F.TF_LANE_EVT_sig_loss) n = true ∧
      t.get F.TF_LANE_STAT_ber_log n = 0 ∧ t = { s.settled t with port := { s.port with lports := t.port.lports } } ∧
      (∀ l, s.laneOwner n = some l → s.link l = 3 → t.lp l = { s.lp l with locked := false }) ∧
      (∀ l, (s.laneOwner n ≠ some l ∨ s.link l ≠ 3) → t.lp l = s.lp l) ∧
      RegsBut [regAddr R.TF_LANE_STAT n 0, regAddr R.TF_LANE_EVT n 0] s t) := by
  have hstat : regAddr R.TF_LANE_STAT n 0 ∈ [regAddr R.TF_LANE_STAT n 0, regAddr R.TF_LANE_EVT n 0] := by simp
  have hevt : regAddr R.TF_LANE_EVT n 0 ∈ [regAddr R.TF_LANE_STAT n 0, regAddr R.TF_LANE_EVT n 0] := by simp
  obtain ⟨hcdr, hber, hsig⟩ := s.lane_laneUnlocked n
  have hmap : MapSame s (s.laneUnlocked n) := regsIn_laneUnlocked s hn (by decide)
  have hlp0 (l : Nat) : (s.laneUnlocked n).lp l = s.lp l := by
    unfold State.laneUnlocked State.zero
    rw [State.lp_put, State.lp_put]
  have hlink (l : Nat) (hl : l < 256) : (s.laneUnlocked n).link l = s.link l :=
    (regsIn_laneUnlocked (lo := 0x1018000) (hi := 0x1020000) s hn (by decide)).get_of hl (by decide)
  have hlp (l : Nat) : ((s.laneUnlocked n).unlockOwner n).lp l =
      if s.laneOwner n = some l ∧ s.link l = 3 then { s.lp l with locked := false } else s.lp l := by
    rw [State.lp_unlockOwner, laneOwner_congr hmap hn, hlp0]
    by_cases ho : s.laneOwner n = some l
    · rw [hlink l (State.owner_lt ho)]
    · rw [if_neg fun h => ho h.1, if_neg fun h => ho h.1]
  have hsans : ((s.laneUnlocked n).unlockOwner n).sansLports = s.sansLports := by
    rw [State.sansLports_unlockOwner, State.laneUnlocked, State.zero, State.sansLports_put, State.zero, State.sansLports_put]
  have hbut : RegsBut [regAddr R.TF_LANE_STAT n 0, regAddr R.TF_LANE_EVT n 0] s ((s.laneUnlocked n).unlockOwner n) := by
    have h0 : RegsBut [regAddr R.TF_LANE_STAT n 0, regAddr R.TF_LANE_EVT n 0] s (s.laneUnlocked n) :=
      regsBut_put (regsBut_put (regsBut_refl _ s) hstat) hstat
    exact fun a h1 h2 h3 h4 => by rw [State.regs_unlockOwner, h0 a h1 h2 h3 h4]
  have hget (f : Fld) : ((s.laneUnlocked n).unlockOwner n).get f n = (s.laneUnlocked n).get f n :=
    State.get_congr (State.regs_unlockOwner _ n) f n 0
  rw [← hget] at hcdr hber hsig
  refine answers_okIf (exec_laneSignalLoss n cdr s) (by simp [hlive, hn]) ?_
  generalize (s.laneUnlocked n).unlockOwner n = u at hlp hsans hbut hcdr hber hsig ⊢
  have hev (v : State) (f g : Fld) (hf : f.reg = R.TF_LANE_STAT) (hg : g.reg = R.TF_LANE_EVT) :
      (v.raise g n).settle.get f n = v.get f n := by
    rw [State.get_settle_high _ (by rw [hf]; decide)]
    exact State.get_put_of v 1 (by rw [hg]; exact hn) (by rw [hf]; exact hn) (by rw [hf, hg]; decide)
  have hout (v : State) (g : Fld) (hg : g.reg = R.TF_LANE_EVT) (hv : v.port = u.port) (hs : v.sansLports = s.sansLports)
      (hb : RegsBut [regAddr R.TF_LANE_STAT n 0, regAddr R.TF_LANE_EVT n 0] s v) :
      (v.raise g n).settle = { s.settled (v.raise g n).settle with
        port := { s.port with lports := (v.raise g n).settle.port.lports } } ∧
      (∀ l, s.laneOwner n = some l → s.link l = 3 → (v.raise g n).settle.lp l = { s.lp l with locked := false }) ∧
      (∀ l, (s.laneOwner n ≠ some l ∨ s.link l ≠ 3) → (v.raise g n).settle.lp l = s.lp l) ∧
      RegsBut [regAddr R.TF_LANE_STAT n 0, regAddr R.TF_LANE_EVT n 0] s (v.raise g n).settle := by
    have hl (l : Nat) : (v.raise g n).settle.lp l = u.lp l := by
      rw [State.lp_settle, State.raise, State.lp_put, State.lp_congr hv]
    refine ⟨settledLports ((State.sansLports_put v g 1 n 0).trans hs), fun l ho h3 => ?_, fun l h => ?_,
      regsBut_settle_of (regsBut_raise hb (by rw [hg]; exact hevt))⟩
    · rw [hl, hlp, if_pos ⟨ho, h3⟩]
    · rw [hl, hlp, if_neg (not_and_or.2 h)]
  cases cdr with
  | true =>
    rw [if_pos rfl, if_pos rfl]
    refine ⟨?_, ?_, ?_, ?_, hout u _ rfl rfl hsans hbut⟩
    · rw [State.flag, hev _ _ _ rfl rfl, hcdr]
      rfl
    · rw [State.flag, hev _ _ _ rfl rfl, hsig, Bool.true_and, State.flag]
    · rw [State.flag_eq_true, State.get_settle_high _ (by decide), State.get_raise_self _ _ _ _ (by decide) (by decide)]
    · rw [hev _ _ _ rfl rfl, hber]
  | false =>
    have hz (f : Fld) (hf : f.reg = R.TF_LANE_STAT) (h : 1 ≤ f.lo) : (u.zero F.TF_LANE_STAT_signal n).get f n = u.get f n :=
      State.get_zero_fld (f := F.TF_LANE_STAT_signal) _ hf (by decide) (.inl h)
    rw [if_neg Bool.false_ne_true, if_neg Bool.false_ne_true]
    refine ⟨?_, ?_, ?_, ?_, hout (u.zero F.TF_LANE_STAT_signal n) _ rfl (State.port_put _ _ _ _ _)
      ((State.sansLports_put _ _ _ _ _).trans hsans) (regsBut_put hbut hstat)⟩
    · rw [State.flag, hev _ _ _ rfl rfl, hz _ rfl (by decide), hcdr]
      rfl
    · rw [State.flag, hev _ _ _ rfl rfl, State.get_zero_self _ _ _ _ (by decide)]
      rfl
    · rw [State.flag_eq_true, State.get_settle_high _ (by decide), State.get_raise_self _ _ _ _ (by decide) (by decide)]
    · rw [hev _ _ _ rfl rfl, hz _ rfl (by decide), hber]

/-! ### SIGNAL_DEGRADE (R127) -/

/-- A lane whose degrade is reported. -/
def State.laneDegraded (s : State) (n ber : Nat) : State := (s.put F.TF_LANE_STAT_ber_log ber n).raise F.TF_LANE_EVT_sd n

/-- The port that leaves UP for a degrade. -/
def State.degradeFault (t : State) (part : List Byte) (l : Nat) : State :=
  if t.link l = 4 then t.linkFault l 1 part else t

/-- Lane n holds a port in FAULT. -/
def State.laneHolds (t : State) (n l : Nat) : State :=
  t.setLp l { t.lp l with sdHeld := n :: (t.lp l).sdHeld.filter (· ≠ n) }

/-- What the degrade of its lane n does to a port. -/
def State.degradeHolds (t : State) (n : Nat) (part : List Byte) (l : Nat) : State :=
  if t.get F.TF_LPORT_CTL_sd_action l = 1 ∧ (t.link l = 4 ∨ t.link l = 5) then (t.degradeFault part l).laneHolds n l else t

theorem exec_signalDegrade (n ber : Nat) (part : List Byte) (s : State) : exec (.signalDegrade n ber part) s =
    okIf (s.live && decide (n < 256 ∧ 0 < ber ∧ ber < 45) && s.flag F.TF_LANE_STAT_cdr_lock n) s
      ((s.laneOwner n).elim (s.laneDegraded n ber) ((s.laneDegraded n ber).degradeHolds n part)) := rfl

section
variable (s : State) {l n : Nat} (part : List Byte)

theorem State.linkFault_of_local (c : Nat) (h : c ≠ 2) : s.linkFault l c part =
    ((s.leaveUp l part).setLink l 5).raise F.TF_LPORT_STAT_local_fault l := if_neg h

/-- A local fault in UP: the link state, and what it leaves of a lane. -/
theorem State.link_linkFault (hl : l < 256) : (s.linkFault l 1 part).link l = 5 := by
  rw [State.linkFault_of_local _ _ _ (by decide)]
  unfold State.link
  rw [State.get_raise_fld (f := F.TF_LPORT_STAT_local_fault) (g := F.TF_LPORT_STAT_link_state) _ rfl (by decide) (by decide)]
  exact State.link_setLink_self _ hl (by decide)

theorem State.lane_linkFault (hl : l < 256) (hn : n < 256) :
    (s.linkFault l 1 part).get F.TF_LANE_STAT_ber_log n = s.get F.TF_LANE_STAT_ber_log n ∧
    (s.linkFault l 1 part).get F.TF_LANE_EVT_sd n = s.get F.TF_LANE_EVT_sd n := by
  have hup : RegsIn 0x1040000 0x1050000 s (s.leaveUp l part) :=
    RegsIn.leaveUp s l part hl (by decide) (by decide) (by decide) (by decide) (by decide)
  have hev (t : State) (f : Fld) (hf : f.reg.n = 256) (hb : R.TF_LPORT_STAT.past ≤ f.reg.base) :
      (t.raise F.TF_LPORT_STAT_local_fault l).get f n = t.get f n :=
    State.get_put_of t 1 hl (by rw [hf]; exact hn) (.inr hb)
  rw [State.linkFault_of_local _ _ _ (by decide)]
  constructor
  · rw [hev _ _ rfl (by decide), State.lane_setLink _ 5 hl hn rfl (by decide), hup.get_of hn (by decide)]
  · rw [hev _ _ rfl (by decide), State.get_setLink _ 5 hl hn (by decide) ⟨by decide, by decide, by decide⟩,
      hup.get_of hn (by decide)]

theorem State.degradeFault_shows (hl : l < 256) (hn : n < 256) (h : s.link l = 4 ∨ s.link l = 5) :
    (s.degradeFault part l).get F.TF_LANE_STAT_ber_log n = s.get F.TF_LANE_STAT_ber_log n ∧
    (s.degradeFault part l).get F.TF_LANE_EVT_sd n = s.get F.TF_LANE_EVT_sd n ∧ (s.degradeFault part l).link l = 5 := by
  unfold State.degradeFault
  by_cases h4 : s.link l = 4
  · obtain ⟨hb, he⟩ := s.lane_linkFault part hl hn
    rw [if_pos h4]
    exact ⟨hb, he, s.link_linkFault part hl⟩
  · rw [if_neg h4]
    exact ⟨rfl, rfl, h.resolve_left h4⟩

theorem State.get_laneHolds_settle (n l : Nat) {f : Fld} {k : Nat} (h : 0x30000 ≤ f.reg.base) :
    (s.laneHolds n l).settle.get f k = s.get f k :=
  (State.get_settle_high _ h).trans (State.get_congr rfl f k 0)

theorem State.mem_sdHeld_laneHolds (n l : Nat) : n ∈ ((s.laneHolds n l).settle.lp l).sdHeld := by
  rw [State.lp_settle, State.laneHolds, State.lp_setLp_self]
  exact List.mem_cons_self

end

theorem State.lane_laneDegraded (s : State) {n ber : Nat} (hn : n < 256) (hb : ber < 45) :
    (s.laneDegraded n ber).get F.TF_LANE_STAT_ber_log n = ber ∧ (s.laneDegraded n ber).get F.TF_LANE_EVT_sd n = 1 := by
  unfold State.laneDegraded
  constructor
  · rw [State.raise, State.get_put_of _ _ hn hn (by decide), State.get_put_self _ _ _ _ _ (by decide)]
    exact Nat.mod_eq_of_lt (lt_trans hb (by decide))
  · exact State.get_raise_self _ _ _ _ (by decide) (by decide)

theorem regsIn_laneDegraded {lo hi : Nat} (s : State) {n : Nat} (ber : Nat) (hn : n < 256) (h : hi ≤ 0x1040000) :
    RegsIn lo hi s (s.laneDegraded n ber) :=
  (RegsIn.put_of s ber hn (.inr h)).trans (RegsIn.put_of _ 1 hn (.inr (h.trans (by decide))))

theorem signalDegrade_answers {s : State} {n ber : Nat} (part : List Byte) (hlive : s.live = true) (hn : n < 256)
    (h0 : 0 < ber) (h45 : ber < 45) (hc : s.flag F.TF_LANE_STAT_cdr_lock n = true) :
    Answers (.signalDegrade n ber part) s (fun t => t.get F.TF_LANE_STAT_ber_log n = ber ∧
      t.flag F.TF_LANE_EVT_sd n = true ∧
      (∀ l, s.laneOwner n = some l → s.get F.TF_LPORT_CTL_sd_action l = 1 →
        (s.link l = 4 ∨ s.link l = 5) → t.link l = 5 ∧ n ∈ (t.lp l).sdHeld) ∧
      ((∀ l, s.laneOwner n = some l → s.get F.TF_LPORT_CTL_sd_action l ≠ 1 ∨ (s.link l ≠ 4 ∧ s.link l ≠ 5)) →
        OnlyRegs [regAddr R.TF_LANE_STAT n 0, regAddr R.TF_LANE_EVT n 0] s t)) := by
  obtain ⟨hber, hsd⟩ := s.lane_laneDegraded hn h45
  have hctl (l : Nat) (hl : l < 256) : (s.laneDegraded n ber).get F.TF_LPORT_CTL_sd_action l =
      s.get F.TF_LPORT_CTL_sd_action l :=
    (regsIn_laneDegraded (lo := 0x1010000) (hi := 0x1018000) s ber hn (by decide)).get_of hl (by decide)
  have hlink (l : Nat) (hl : l < 256) : (s.laneDegraded n ber).link l = s.link l :=
    (regsIn_laneDegraded (lo := 0x1018000) (hi := 0x1020000) s ber hn (by decide)).get_of hl (by decide)
  have honly : OnlyRegs [regAddr R.TF_LANE_STAT n 0, regAddr R.TF_LANE_EVT n 0] s (s.laneDegraded n ber) :=
    ((OnlyRegs.refl _ s).put _ (by simp [F.TF_LANE_STAT_ber_log])).put _ (by simp [F.TF_LANE_EVT_sd])
  refine answers_okIf (exec_signalDegrade n ber part s) (by simp [hlive, hn, h0, h45, hc]) ?_
  generalize s.laneDegraded n ber = u at hber hsd hctl hlink honly ⊢
  have hkeep : OnlyRegs [regAddr R.TF_LANE_STAT n 0, regAddr R.TF_LANE_EVT n 0] s u.settle ∧
      u.settle.get F.TF_LANE_STAT_ber_log n = ber ∧ u.settle.flag F.TF_LANE_EVT_sd n = true :=
    ⟨honly.settle, by rw [State.get_settle_high _ (by decide), hber],
      by rw [State.flag_eq_true, State.get_settle_high _ (by decide), hsd]⟩
  obtain ⟨hk, hkb, hks⟩ := hkeep
  rcases Option.eq_none_or_eq_some (s.laneOwner n) with ho | ⟨l, ho⟩
  · have he : (s.laneOwner n).elim u (u.degradeHolds n part) = u := by rw [ho, Option.elim_none]
    rw [he]
    exact ⟨hkb, hks, fun l hl => absurd (ho.symm.trans hl) (by simp), fun _ => hk⟩
  · have hl := State.owner_lt ho
    have he : (s.laneOwner n).elim u (u.degradeHolds n part) = u.degradeHolds n part l := by rw [ho, Option.elim_some]
    have hone {k : Nat} (hk : s.laneOwner n = some k) : l = k := Option.some.inj (ho.symm.trans hk)
    rw [he]
    by_cases hcond : s.get F.TF_LPORT_CTL_sd_action l = 1 ∧ (s.link l = 4 ∨ s.link l = 5)
    · have hgo : u.degradeHolds n part l = (u.degradeFault part l).laneHolds n l := by
        refine if_pos ?_
        rwa [hctl l hl, hlink l hl]
      have hl45 : u.link l = 4 ∨ u.link l = 5 := by
        rw [hlink l hl]
        exact hcond.2
      obtain ⟨hvb, hve, hvl⟩ := u.degradeFault_shows part hl hn hl45
      rw [hgo]
      refine ⟨?_, ?_, fun k hk _ _ => ?_, fun hno => absurd hcond ?_⟩
      · rw [State.get_laneHolds_settle _ _ _ (by decide), hvb, hber]
      · rw [State.flag_eq_true, State.get_laneHolds_settle _ _ _ (by decide), hve, hsd]
      · obtain rfl := hone hk
        exact ⟨(State.get_laneHolds_settle _ _ _ (by decide)).trans hvl, State.mem_sdHeld_laneHolds _ _ _⟩
      · rintro ⟨h1, h45⟩
        rcases hno l ho with h | ⟨h4, h5⟩
        · exact h h1
        · exact h45.elim h4 h5
    · have hgo : u.degradeHolds n part l = u := by
        refine if_neg ?_
        rwa [hctl l hl, hlink l hl]
      rw [hgo]
      refine ⟨hkb, hks, fun k hown h1 h2 => absurd ?_ hcond, fun _ => hk⟩
      obtain rfl := hone hown
      exact ⟨h1, h2⟩

/-! ### SD_CLEAR (R127) -/

/-- The port that lane n holds no longer. -/
def State.degradeClears (t : State) (n l : Nat) : State :=
  (t.setLp l { t.lp l with sdHeld := (t.lp l).sdHeld.filter (· ≠ n) }).tryWaitLock l

theorem exec_sdClear (n ber : Nat) (s : State) : exec (.sdClear n ber) s =
    okIf (s.live && decide (n < 256 ∧ 45 ≤ ber ∧ ber < 256) && s.flag F.TF_LANE_STAT_cdr_lock n) s
      ((s.laneOwner n).elim (s.put F.TF_LANE_STAT_ber_log ber n) ((s.put F.TF_LANE_STAT_ber_log ber n).degradeClears n)) := rfl

theorem lanesLock_congr {s t : State} {l : Nat} (h : t.lanesOf l = s.lanesOf l)
    (hs : ∀ n ∈ s.lanesOf l, t.get F.TF_LANE_STAT_signal n = s.get F.TF_LANE_STAT_signal n ∧
      t.get F.TF_LANE_STAT_cdr_lock n = s.get F.TF_LANE_STAT_cdr_lock n) : t.lanesLock l = s.lanesLock l := by
  unfold State.lanesLock
  rw [h, Bool.eq_iff_iff, List.all_eq_true, List.all_eq_true]
  refine forall₂_congr fun n hn => ?_
  obtain ⟨h0, h1⟩ := hs n hn
  unfold State.flag
  rw [h0, h1]

theorem sdClear_answers {s : State} {n ber l : Nat} (hlive : s.live = true) (hn : n < 256) (h45 : 45 ≤ ber) (hb : ber < 256)
    (ho : s.laneOwner n = some l) (hc : s.flag F.TF_LANE_STAT_cdr_lock n = true) :
    Answers (.sdClear n ber) s (fun t => t.get F.TF_LANE_STAT_ber_log n = ber ∧
      (t.lp l).sdHeld = (s.lp l).sdHeld.filter (· ≠ n) ∧
      t.link l = (if s.link l = 5 ∧ s.lanesLock l = true ∧ (s.lp l).sdHeld.filter (· ≠ n) = [] then 3
        else s.link l)) := by
  have hl := State.owner_lt ho
  have hoff {lo hi : Nat} (h : hi ≤ 0x1040000) : RegsIn lo hi s (s.put F.TF_LANE_STAT_ber_log ber n) :=
    RegsIn.put_of s ber hn (.inr h)
  have hber : (s.put F.TF_LANE_STAT_ber_log ber n).get F.TF_LANE_STAT_ber_log n = ber := by
    rw [State.get_put_self _ _ _ _ _ (by decide)]
    exact Nat.mod_eq_of_lt hb
  have hlp : (s.put F.TF_LANE_STAT_ber_log ber n).lp l = s.lp l := State.lp_put _ _ _ _ _ _
  have hlink : (s.put F.TF_LANE_STAT_ber_log ber n).link l = s.link l :=
    (hoff (lo := 0x1018000) (hi := 0x1020000) (by decide)).get_of hl (by decide)
  have hlock : (s.put F.TF_LANE_STAT_ber_log ber n).lanesLock l = s.lanesLock l :=
    lanesLock_congr (lanesOf_congr (hoff (by decide)) hl) fun m _ =>
      ⟨State.lane_put_fld _ _ _ _ rfl rfl (by decide) (by decide), State.lane_put_fld _ _ _ _ rfl rfl (by decide) (by decide)⟩
  refine answers_okIf (exec_sdClear n ber s) (by simp [hlive, hn, h45, hb, hc]) ?_
  rw [ho, Option.elim_some, State.degradeClears]
  generalize s.put F.TF_LANE_STAT_ber_log ber n = u at hber hlp hlink hlock ⊢
  have hv0 : (u.setLp l { u.lp l with sdHeld := (u.lp l).sdHeld.filter (· ≠ n) }).regs = u.regs := rfl
  have hvl : (u.setLp l { u.lp l with sdHeld := (u.lp l).sdHeld.filter (· ≠ n) }).lp l =
      { u.lp l with sdHeld := (u.lp l).sdHeld.filter (· ≠ n) } := State.lp_setLp_self _ _ _
  generalize u.setLp l { u.lp l with sdHeld := (u.lp l).sdHeld.filter (· ≠ n) } = v at hv0 hvl ⊢
  have hvlink : v.link l = s.link l := (State.get_congr hv0 _ _ _).trans hlink
  have hvlock : v.lanesLock l = s.lanesLock l := by
    refine Eq.trans (lanesLock_congr ?_ fun m _ => ⟨State.get_congr hv0 _ _ _, State.get_congr hv0 _ _ _⟩) hlock
    exact lanesOf_congr (RegsIn.of_regs hv0) hl
  have hvheld : (v.lp l).sdHeld = (s.lp l).sdHeld.filter (· ≠ n) := by rw [hvl, hlp]
  rw [State.get_settle_high _ (by decide), State.lp_settle,
    show (v.tryWaitLock l).settle.link l = (v.tryWaitLock l).link l from State.get_settle_high _ (by decide), State.tryWaitLock,
    hvlink, hvlock, hvheld]
  by_cases h : s.link l = 5 ∧ s.lanesLock l = true ∧ (s.lp l).sdHeld.filter (· ≠ n) = []
  · rw [if_pos h, if_pos h]
    refine ⟨?_, ?_, State.link_setLink_self _ hl (by decide)⟩
    · rw [State.lane_setLink _ 3 hl hn rfl (by decide), State.get_congr hv0, hber]
    · rw [State.lp_setLink_self, hvheld]
  · rw [if_neg h, if_neg h]
    exact ⟨(State.get_congr hv0 _ _ _).trans hber, hvheld, hvlink⟩

/-! ### Adaptation (R104, R105) -/

/-- A state without its registers and its lanes' equalisers. -/
def State.sansLanes (s : State) : State := { s with regs := [], port := { s.port with lanes := [] } }

/-- A command that changes these alone, settled. -/
theorem settledLanes {s t : State} (h : t.sansLanes = s.sansLanes) :
    t.settle = { s.settled t.settle with port := { s.port with lanes := t.settle.port.lanes } } := by
  have hu : t = { s with regs := t.regs, port := { s.port with lanes := t.port.lanes } } :=
    congrArg (fun u : State => { u with regs := t.regs, port := { u.port with lanes := t.port.lanes } }) h
  obtain ⟨regs, out, p, a, fails, hs⟩ := State.settle_keeps t
  rw [hs, hu]
  rfl

/-- The coefficients of a lane, each a step nearer to its target (R104). -/
def adapted (coef target : List Int) : List Int :=
  (List.range (max coef.length target.length)).map (fun i => stepToward (coef.getD i 0) (target.getD i (coef.getD i 0)))

theorem stepToward_self (x : Int) : stepToward x x = x := by simp [stepToward]

theorem getD_adapted (coef target : List Int) (i : Nat) : (adapted coef target).getD i 0 =
    if i < target.length then stepToward (coef.getD i 0) (target.getD i 0) else coef.getD i 0 := by
  unfold adapted
  by_cases hm : i < max coef.length target.length
  · have hg : ((List.range (max coef.length target.length)).map
        (fun i => stepToward (coef.getD i 0) (target.getD i (coef.getD i 0)))).getD i 0 =
        stepToward (coef.getD i 0) (target.getD i (coef.getD i 0)) := by simp [List.getD, hm]
    rw [hg]
    by_cases ht : i < target.length
    · rw [if_pos ht, List.getD_eq_getElem _ _ ht, List.getD_eq_getElem _ _ ht]
    · rw [if_neg ht, List.getD_eq_default target _ (by omega), stepToward_self]
  · rw [if_neg (by omega), List.getD_eq_default _ _ (by rw [List.length_map, List.length_range]; omega),
      List.getD_eq_default _ _ (by omega)]

/-- A lane with its coefficients a step nearer. -/
def State.laneAdapted (s : State) (n : Nat) (target : List Int) : State :=
  { s with port := { s.port with lanes := tset s.port.lanes n { tget s.port.lanes n laneEq0 with
    coef := adapted (tget s.port.lanes n laneEq0).coef target } } }

theorem exec_adaptStep (n : Nat) (target : List Int) (s : State) : exec (.adaptStep n target) s =
    okIf (s.live && decide (n < 256) && s.flag F.TF_LANE_STAT_adapting n) s (s.laneAdapted n target) := rfl

theorem adaptStep_answers {s : State} {n : Nat} (target : List Int) (hlive : s.live = true) (hn : n < 256)
    (ha : s.flag F.TF_LANE_STAT_adapting n = true) :
    Answers (.adaptStep n target) s (fun t =>
      (∀ i, (tget t.port.lanes n laneEq0).coef.getD i 0 =
        if i < target.length then stepToward ((tget s.port.lanes n laneEq0).coef.getD i 0) (target.getD i 0)
        else (tget s.port.lanes n laneEq0).coef.getD i 0) ∧
      (∀ k, k ≠ n → tget t.port.lanes k laneEq0 = tget s.port.lanes k laneEq0) ∧
      t = { s.settled t with port := { s.port with lanes := t.port.lanes } } ∧ RegsBut [] s t) := by
  refine answers_okIf (exec_adaptStep n target s) (by simp [hlive, hn, ha])
    ⟨fun i => ?_, fun k hk => ?_, settledLanes rfl, regsBut_settle_of_regs rfl⟩
  · rw [State.settle_port, State.laneAdapted, tget_tset_self]
    exact getD_adapted _ _ i
  · rw [State.settle_port]
    exact tget_tset_ne _ _ _ hk

theorem adaptLimit_answers {s : State} {n : Nat} (hlive : s.live = true) (hn : n < 256)
    (ha : s.flag F.TF_LANE_STAT_adapting n = true) :
    Answers (.adaptLimit n) s (fun t => t.flag F.TF_LANE_EVT_adapt_limit n = true ∧
      OnlyRegs [regAddr R.TF_LANE_EVT n 0] s t) := by
  refine answers_okIf (t := s.raise F.TF_LANE_EVT_adapt_limit n) rfl (by simp [hlive, hn, ha])
    ⟨?_, ((OnlyRegs.refl _ s).put _ (List.mem_singleton_self _)).settle⟩
  rw [State.flag_eq_true, State.get_settle_high _ (by decide), State.get_raise_self _ _ _ _ (by decide) (by decide)]

/-! ### LOSS_MEASURE (R106) -/

/-- A lane with its measured loss and its length class. -/
def State.lossShown (s : State) (n loss : Nat) : State :=
  (s.put F.TF_LANE_STAT_loss_db (min 255 loss) n).put F.TF_LANE_STAT_length_class (lossClass loss) n

/-- With the event of a loss above 40 dB. -/
def State.lossReported (s : State) (n loss : Nat) : State :=
  if lossClass loss = 5 then (s.lossShown n loss).raise F.TF_LANE_EVT_loss_high n else s.lossShown n loss

/-- The untrained ports that send on lane n take up the taps of its length class. -/
def State.lossTaps (s : State) (n : Nat) : State :=
  ((List.range 8).map (8 * (n / 8) + ·)).foldl (fun (t : State) l =>
    if t.present l && (t.txLanesOf l).contains n then t.imageTaps l else t) s

theorem exec_lossMeasure (n loss : Nat) (s : State) : exec (.lossMeasure n loss) s =
    okIf (s.live && decide (n < 256) && (s.laneOwner n).elim false (fun l => decide (s.link l = 2 ∨ s.link l = 4))) s
      ((s.lossReported n loss).lossTaps n) := rfl

theorem State.sansLanes_imageTaps (s : State) (l : Nat) : (s.imageTaps l).sansLanes = s.sansLanes :=
  State.imageTaps_cases (P := fun t => t.sansLanes = s.sansLanes) s l rfl fun _ => rfl

theorem State.sansLanes_lossTaps (s : State) (n : Nat) : (s.lossTaps n).sansLanes = s.sansLanes :=
  foldl_fixes State.sansLanes (fun t l _ => State.ite_ind (P := fun u => u.sansLanes = t.sansLanes)
    (fun _ => t.sansLanes_imageTaps l) fun _ => rfl) s

theorem State.regs_lossTaps (s : State) (n : Nat) : (s.lossTaps n).regs = s.regs :=
  foldl_fixes (·.regs) (fun t l _ => State.ite_ind (P := fun u => u.regs = t.regs)
    (fun _ => t.regs_imageTaps l) fun _ => rfl) s

theorem State.imageTaps_none {s : State} (l : Nat) (h : s.boot.image = none) : s.imageTaps l = s := by
  unfold State.imageTaps
  rw [h]

/-- Without an image the taps stay. -/
theorem State.lossTaps_none {s : State} (n : Nat) (h : s.boot.image = none) : s.lossTaps n = s := by
  have hstep (l : Nat) : (if s.present l && (s.txLanesOf l).contains n then s.imageTaps l else s) = s := by
    rw [State.imageTaps_none l h, ite_self]
  exact List.foldl_fixed' (f := fun (t : State) l => if t.present l && (t.txLanesOf l).contains n then t.imageTaps l else t)
    hstep _

section
variable (s : State) {n : Nat} (loss : Nat)

theorem State.lane_lossReported (hn : n < 256) :
    (s.lossReported n loss).get F.TF_LANE_STAT_loss_db n = min 255 loss ∧
    (s.lossReported n loss).get F.TF_LANE_STAT_length_class n = lossClass loss := by
  have hc : lossClass loss < 8 := by
    unfold lossClass
    repeat' split
    all_goals omega
  have hshown : (s.lossShown n loss).get F.TF_LANE_STAT_loss_db n = min 255 loss ∧
      (s.lossShown n loss).get F.TF_LANE_STAT_length_class n = lossClass loss := by
    unfold State.lossShown
    rw [State.lane_put_fld _ _ _ _ rfl rfl (by decide) (by decide), State.get_put_self _ _ _ _ _ (by decide),
      State.get_put_self _ _ _ _ _ (by decide)]
    exact ⟨Nat.mod_eq_of_lt (lt_of_le_of_lt (min_le_left _ _) (by decide)), Nat.mod_eq_of_lt hc⟩
  obtain ⟨hdb, hcl⟩ := hshown
  unfold State.lossReported
  by_cases h : lossClass loss = 5
  · rw [if_pos h, State.raise, State.get_put_of _ _ hn hn (by decide), State.get_put_of _ _ hn hn (by decide)]
    exact ⟨hdb, hcl⟩
  · rw [if_neg h]
    exact ⟨hdb, hcl⟩

theorem lossClass_of_gt (h : 160 < loss) : lossClass loss = 5 := by
  unfold lossClass
  rw [if_neg (by omega), if_neg (by omega), if_neg (by omega), if_neg (by omega), if_neg (by omega)]

theorem State.event_lossReported (h : 160 < loss) : (s.lossReported n loss).get F.TF_LANE_EVT_loss_high n = 1 := by
  rw [State.lossReported, if_pos (lossClass_of_gt loss h), State.get_raise_self _ _ _ _ (by decide) (by decide)]

theorem onlyRegs_lossReported : OnlyRegs [regAddr R.TF_LANE_STAT n 0, regAddr R.TF_LANE_EVT n 0] s (s.lossReported n loss) := by
  have hs : OnlyRegs [regAddr R.TF_LANE_STAT n 0, regAddr R.TF_LANE_EVT n 0] s (s.lossShown n loss) :=
    ((OnlyRegs.refl _ s).put _ (by simp [F.TF_LANE_STAT_loss_db])).put _ (by simp [F.TF_LANE_STAT_length_class])
  exact State.ite_ind (fun _ => hs.put 1 (by simp [F.TF_LANE_EVT_loss_high])) fun _ => hs

theorem State.sansRegs_lossReported : (s.lossReported n loss).sansRegs = s.sansRegs := by
  have hs : (s.lossShown n loss).sansRegs = s.sansRegs := (State.sansRegs_put _ _ _ _ _).trans (State.sansRegs_put _ _ _ _ _)
  exact State.ite_ind (P := fun t => t.sansRegs = s.sansRegs) (fun _ => (State.sansRegs_put _ _ _ _ _).trans hs) fun _ => hs

end

theorem lossMeasure_answers {s : State} {n l : Nat} (loss : Nat) (hlive : s.live = true) (hn : n < 256)
    (ho : s.laneOwner n = some l) (h24 : s.link l = 2 ∨ s.link l = 4) :
    Answers (.lossMeasure n loss) s (fun t => t.get F.TF_LANE_STAT_loss_db n = min 255 loss ∧
      t.get F.TF_LANE_STAT_length_class n = (if loss < 48 then 0 else if loss < 80 then 1 else if loss < 112 then 2
        else if loss < 144 then 3 else if loss ≤ 160 then 4 else 5) ∧
      (160 < loss → t.flag F.TF_LANE_EVT_loss_high n = true) ∧
      t = { s.settled t with port := { s.port with lanes := t.port.lanes } } ∧
      (s.boot.image = none → t.port.lanes = s.port.lanes) ∧
      RegsBut [regAddr R.TF_LANE_STAT n 0, regAddr R.TF_LANE_EVT n 0] s t) := by
  obtain ⟨hdb, hcl⟩ := s.lane_lossReported loss hn
  have hev := s.event_lossReported (n := n) loss
  obtain ⟨-, hbut⟩ := onlyRegs_lossReported s (n := n) loss
  have hsans := s.sansRegs_lossReported (n := n) loss
  refine answers_okIf (exec_lossMeasure n loss s) (by simp [hlive, hn, ho, h24]) ?_
  generalize s.lossReported n loss = u at hdb hcl hev hbut hsans ⊢
  have hget (f : Fld) (h : 0x30000 ≤ f.reg.base) : (u.lossTaps n).settle.get f n = u.get f n :=
    (State.get_settle_high _ h).trans (State.get_congr (u.regs_lossTaps n) f n 0)
  obtain ⟨regs, hu⟩ := State.keeps_of_sansRegs hsans
  have hlanes : (u.lossTaps n).sansLanes = s.sansLanes := by
    rw [State.sansLanes_lossTaps, hu]
    rfl
  refine ⟨?_, ?_, fun h => ?_, settledLanes hlanes, fun h => ?_, regsBut_settle_of fun a h1 h2 h3 h4 => ?_⟩
  · rw [hget _ (by decide), hdb]
  · rw [hget _ (by decide), hcl]
    rfl
  · rw [State.flag_eq_true, hget _ (by decide), hev h]
  · rw [State.settle_port, State.lossTaps_none n (by rw [hu]; exact h), hu]
  · rw [u.regs_lossTaps, hbut a h1 h2 h3 h4]

/-- Settles O43: one lemma for each report of a lane. -/
theorem lanesReportSignalDegradeAdaptAndLoss : Obligations.LanesReportSignalDegradeAdaptAndLoss := by
  refine ⟨?_, ?_, ?_, ?_, ?_, ?_⟩
  · intro n cdr s hlive hn
    exact laneSignalLoss_answers cdr hlive hn
  · intro n ber part s hlive hn h0 h45 hc
    exact signalDegrade_answers part hlive hn h0 h45 hc
  · intro n ber l s hlive hn h45 hb ho hc
    exact sdClear_answers hlive hn h45 hb ho hc
  · intro n target s hlive hn ha
    exact adaptStep_answers target hlive hn ha
  · intro n s hlive hn ha
    exact adaptLimit_answers hlive hn ha
  · intro n loss l s hlive hn ho h24
    exact lossMeasure_answers loss hlive hn ho h24

end Sys2Proof.Machine
end

section
/-! PROOFS. Where a link attempt begins, starts again and ends (R96, R98, R99, R102, R127, R134, R139). -/

namespace Sys2Proof.Machine

/-! ### A framed receive path that starts again (R134, R139) -/

/-- A framed receive path started again, with the client fault action as it is enabled. -/
def State.frmBegun (s : State) (l : Nat) (en : Bool) : State :=
  (s.frmRestart l).setFrm l { (s.frmRestart l).frm l with faultEn := en }

section
variable (s : State) (l : Nat) (en : Bool)

theorem RegsIn.frmBegun {lo hi : Nat} (hlo : hi ≤ 0x20000 ∨ 0x20200 ≤ lo) (h : hi ≤ 0x1068000) :
    RegsIn lo hi s (s.frmBegun l en) :=
  ((RegsIn.frmOof s l hlo h).trans (RegsIn.put_above _ 0 l 0 h)).trans (RegsIn.setFrm _ _ _ h)

theorem State.lp_frmBegun_self : ∃ b, (s.frmBegun l en).lp l = { s.lp l with locked := (s.lp l).locked && b } := by
  obtain ⟨b, hb⟩ := s.lp_frmOof_self l
  refine ⟨b && ((s.frmRestart l).frm l).demap, ?_⟩
  rw [State.frmBegun, State.lp_setFrm_self, State.frmRestart, State.lp_put, hb, Bool.and_assoc]

theorem State.sansPort_frmBegun : (s.frmBegun l en).sansPort = s.sansPort := by
  rw [State.frmBegun, State.sansPort_setFrm, State.frmRestart, State.sansPort_put, State.sansPort_frmOof]

end

/-! ### Where an attempt begins (R96, R99, R127) -/

/-- A port with no page of its partner and no lane that holds it. -/
def State.attemptCleared (s : State) (l : Nat) : State :=
  (s.setLp l { s.lp l with sdHeld := [] }).zero F.TF_LINK_PARTNER_valid l

/-- In the state where its attempt starts. -/
def State.attemptBegun (s : State) (l : Nat) : State := (s.attemptCleared l).setLink l (s.startLink l)

theorem State.beginLink_eq (s : State) (l : Nat) : s.beginLink l = if s.framed l then
    (s.attemptBegun l).frmBegun l (s.flag F.TF_FRM_CTL_client_fault_en l) else s.attemptBegun l := rfl

theorem State.startLink_cases (s : State) (l : Nat) : s.startLink l = 1 ∨ s.startLink l = 2 ∨ s.startLink l = 3 := by
  unfold State.startLink
  split
  · simp
  · split
    · simp
    · split <;> simp

section
variable (s : State) {l : Nat}

theorem RegsIn.attemptCleared {lo hi : Nat} (hl : l < 256) (h : 0x1024000 ≤ lo ∨ hi ≤ 0x1020000) :
    RegsIn lo hi s (s.attemptCleared l) :=
  RegsIn.trans (t := s.setLp l { s.lp l with sdHeld := [] }) (RegsIn.of_regs rfl)
    (RegsIn.put_of _ 0 hl (h.imp (le_trans (by decide)) fun h => h))

/-- Past the attempt's entry, only the framed receive path follows. -/
theorem RegsIn.beginLink {lo hi : Nat} (hlo : hi ≤ 0x20000 ∨ 0x20200 ≤ lo) (h : hi ≤ 0x1068000) :
    RegsIn lo hi (s.attemptBegun l) (s.beginLink l) := by
  rw [State.beginLink_eq]
  exact State.ite_ind (fun _ => RegsIn.frmBegun _ l _ hlo h) fun _ => RegsIn.refl _

theorem State.link_beginLink_self (hl : l < 256) : (s.beginLink l).link l = s.startLink l := by
  have hs : s.startLink l < 8 := by rcases s.startLink_cases l with h | h | h <;> omega
  exact ((RegsIn.beginLink (lo := 0x1018000) (hi := 0x1020000) s (by decide) (by decide)).get_of hl (by decide)).trans
    (State.link_setLink_self _ hl hs)

theorem State.link_beginLink_ne {k : Nat} (hl : l < 256) (hk : k < 256) (h : k ≠ l) : (s.beginLink l).link k = s.link k := by
  refine ((RegsIn.beginLink (lo := 0x1018000) (hi := 0x1020000) s (by decide) (by decide)).get_of hk (by decide)).trans ?_
  refine (State.link_setLink_ne _ hl hk h).trans ?_
  exact (RegsIn.attemptCleared (lo := 0x1018000) (hi := 0x1020000) s hl (by decide)).get_of hk (by decide)

/-- Another field of the port's status. -/
theorem State.stat_beginLink {f : Fld} (hl : l < 256) (hf : f.reg = R.TF_LPORT_STAT) (h3 : 3 ≤ f.lo) :
    (s.beginLink l).get f l = s.get f l := by
  have hn : l < f.reg.n := by rw [hf]; exact hl
  have hb : 0x1018000 ≤ f.reg.base ∧ f.reg.past ≤ 0x1020000 := by rw [hf]; decide
  rw [(RegsIn.beginLink s (by decide) (by decide)).get_of hn hb, State.attemptBegun, State.stat_setLink _ _ hl hf h3,
    (RegsIn.attemptCleared s hl (by decide)).get_of hn hb]

/-- A field of the port's controls. -/
theorem State.ctl_beginLink {f : Fld} (hl : l < 256) (hf : f.reg = R.TF_LPORT_CTL) : (s.beginLink l).get f l = s.get f l := by
  have hn : l < f.reg.n := by rw [hf]; exact hl
  have hb : 0x1010000 ≤ f.reg.base ∧ f.reg.past ≤ 0x1018000 := by rw [hf]; decide
  rw [(RegsIn.beginLink s (by decide) (by decide)).get_of hn hb, State.attemptBegun,
    State.get_setLink _ _ hl hn (by rw [hf]; decide) (by rw [hf]; exact OffEntry.below (by decide)),
    (RegsIn.attemptCleared s hl (by decide)).get_of hn hb]

theorem State.lp_attemptCleared (l : Nat) : (s.attemptCleared l).lp l = { s.lp l with sdHeld := [] } := by
  rw [State.attemptCleared, State.zero, State.lp_put, State.lp_setLp_self]

/-- A port without lock has none as its attempt begins. -/
theorem State.locked_beginLink (h : (s.lp l).locked = false) : ((s.beginLink l).lp l).locked = false := by
  have hb : ((s.attemptBegun l).lp l).locked = false := by
    rw [State.attemptBegun, State.lp_setLink_self, State.lp_attemptCleared, h]
    rfl
  rw [State.beginLink_eq]
  refine State.ite_ind (P := fun t => (t.lp l).locked = false) (fun _ => ?_) fun _ => hb
  obtain ⟨b, hf⟩ := (s.attemptBegun l).lp_frmBegun_self l (s.flag F.TF_FRM_CTL_client_fault_en l)
  rw [hf, hb]
  rfl

theorem State.sansPort_beginLink (l : Nat) : (s.beginLink l).sansPort = s.sansPort := by
  have hb : (s.attemptBegun l).sansPort = s.sansPort := by
    rw [State.attemptBegun, State.sansPort_setLink, State.attemptCleared, State.zero, State.sansPort_put, State.sansPort_setLp]
  rw [State.beginLink_eq]
  exact State.ite_ind (P := fun t => t.sansPort = s.sansPort) (fun _ => (State.sansPort_frmBegun _ _ _).trans hb) fun _ => hb

theorem State.buf_beginLink (l : Nat) : (s.beginLink l).buf = s.buf := State.buf_of_sansPort (s.sansPort_beginLink l)

end

/-! ### An attempt that starts again (R102) -/

section
variable (s : State) {l : Nat}

/-- The port as its restart is counted. -/
def State.restartCounted (s : State) (l : Nat) : State := if s.startLink l = 3 then s else s.anRestart l

theorem State.restartLink_eq (s : State) (l : Nat) : s.restartLink l = (s.restartCounted l).beginLink l := rfl

theorem RegsIn.anRestart {lo hi : Nat} (hl : l < 256) (h : 0x101C000 ≤ lo ∨ hi ≤ 0x1018000) :
    RegsIn lo hi s (s.anRestart l) :=
  RegsIn.put_of s _ hl (h.imp (le_trans (by decide)) fun h => h)

theorem State.restarts_anRestart (l : Nat) : (s.anRestart l).get F.TF_LPORT_STAT_an_restarts l =
    min 255 (s.get F.TF_LPORT_STAT_an_restarts l + 1) := State.get_addSat_self _ _ _ _ _ (by decide)

theorem State.restarts_restartCounted (l : Nat) : (s.restartCounted l).get F.TF_LPORT_STAT_an_restarts l =
    min 255 (s.get F.TF_LPORT_STAT_an_restarts l + if s.startLink l = 3 then 0 else 1) := by
  unfold State.restartCounted
  by_cases h : s.startLink l = 3
  · have hle : s.get F.TF_LPORT_STAT_an_restarts l < 2 ^ 8 := s.get_lt _ _ _
    rw [if_pos h, if_pos h]
    omega
  · rw [if_neg h, if_neg h, State.restarts_anRestart]

theorem RegsIn.restartCounted {lo hi : Nat} (hl : l < 256) (h : 0x101C000 ≤ lo ∨ hi ≤ 0x1018000) :
    RegsIn lo hi s (s.restartCounted l) :=
  State.ite_ind (fun _ => RegsIn.refl s) fun _ => RegsIn.anRestart s hl h

theorem State.lp_restartCounted (l k : Nat) : (s.restartCounted l).lp k = s.lp k :=
  State.ite_ind (P := fun t => t.lp k = s.lp k) (fun _ => rfl) fun _ => State.lp_put _ _ _ _ _ _

theorem State.sansPort_restartCounted (l : Nat) : (s.restartCounted l).sansPort = s.sansPort :=
  State.ite_ind (P := fun t => t.sansPort = s.sansPort) (fun _ => rfl) fun _ => State.sansPort_put _ _ _ _ _

/-- Where the attempt starts is fixed by the port's controls and by the framing. -/
theorem startLink_congr {t : State} (h : RegsIn 0x1000000 0x1018000 s t) (hl : l < 256) : t.startLink l = s.startLink l := by
  have h8 : l / 8 < 32 := by omega
  unfold State.startLink State.framed
  rw [h.flag_of (f := F.TF_PORT_CFG_framed) h8 (by decide), h.flag_of (f := F.TF_LPORT_CTL_an_en) hl (by decide),
    h.flag_of (f := F.TF_LPORT_CTL_lt_en) hl (by decide)]

theorem State.restartLink_shows (hl : l < 256) : (s.restartLink l).link l = s.startLink l ∧
    (s.restartLink l).get F.TF_LPORT_STAT_an_restarts l =
      min 255 (s.get F.TF_LPORT_STAT_an_restarts l + if s.startLink l = 3 then 0 else 1) ∧
    (s.restartLink l).buf = s.buf := by
  rw [State.restartLink_eq]
  refine ⟨?_, ?_, ?_⟩
  · rw [State.link_beginLink_self _ hl, startLink_congr s (RegsIn.restartCounted s hl (by decide)) hl]
  · rw [State.stat_beginLink _ hl rfl (by decide), State.restarts_restartCounted]
  · rw [State.buf_beginLink]
    exact State.buf_of_sansPort (s.sansPort_restartCounted l)

theorem State.locked_restartLink (h : (s.lp l).locked = false) : ((s.restartLink l).lp l).locked = false := by
  rw [State.restartLink_eq]
  exact State.locked_beginLink _ (by rw [State.lp_restartCounted, h])

end

/-! ### DISABLED (R96, R98, R134) -/

/-- A port that leaves UP where it was UP. -/
def State.upLeft (s : State) (l : Nat) (part : List Byte) : State := if s.link l = 4 then s.leaveUp l part else s

/-- A port in DISABLED, before its receive path follows. -/
def State.disabled (s : State) (l : Nat) : State := (s.setLp l { s.lp l with sdHeld := [] }).setLink l 0

theorem State.disableLink_eq (s : State) (l : Nat) (part : List Byte) : s.disableLink l part =
    if s.framed l ∧ s.link l ≠ 0 then ((s.upLeft l part).disabled l).frmOof l else (s.upLeft l part).disabled l := rfl

section
variable (s : State) {l : Nat} (part : List Byte)

theorem State.disableLink_ind {P : State → Prop} (h : P ((s.upLeft l part).disabled l))
    (hf : P (((s.upLeft l part).disabled l).frmOof l)) : P (s.disableLink l part) := by
  rw [State.disableLink_eq]
  exact State.ite_ind (fun _ => hf) fun _ => h

theorem State.link_disableLink (hl : l < 256) : (s.disableLink l part).link l = 0 := by
  have h0 : ((s.upLeft l part).disabled l).link l = 0 := State.link_setLink_self _ hl (by decide)
  refine State.disableLink_ind (P := fun t => t.link l = 0) s part h0 ?_
  exact ((RegsIn.frmOof (lo := 0x1018000) (hi := 0x1020000) _ l (by decide) (by decide)).get_of hl (by decide)).trans h0

theorem State.sdHeld_disableLink : ((s.disableLink l part).lp l).sdHeld = [] := by
  have h0 : (((s.upLeft l part).disabled l).lp l).sdHeld = [] := by
    rw [State.disabled, State.lp_setLink_self, State.lp_setLp_self]
  refine State.disableLink_ind (P := fun t => (t.lp l).sdHeld = []) s part h0 ?_
  obtain ⟨b, hb⟩ := ((s.upLeft l part).disabled l).lp_frmOof_self l
  rw [hb, h0]

theorem State.ctl_disableLink {f : Fld} (hl : l < 256) (hf : f.reg = R.TF_LPORT_CTL) :
    (s.disableLink l part).get f l = s.get f l := by
  have hn : l < f.reg.n := by rw [hf]; exact hl
  have hb : 0x1010000 ≤ f.reg.base ∧ f.reg.past ≤ 0x1018000 := by rw [hf]; decide
  have hu : RegsIn 0x1010000 0x1018000 s (s.upLeft l part) :=
    State.ite_ind (fun _ => RegsIn.leaveUp s l part hl (by decide) (by decide) (by decide) (by decide) (by decide))
      fun _ => RegsIn.refl s
  have hlp (t : State) (x : LPort) : (t.setLp l x).get f l = t.get f l := State.get_congr rfl _ _ _
  have h0 : ((s.upLeft l part).disabled l).get f l = s.get f l := by
    rw [State.disabled, State.get_setLink _ _ hl hn (by rw [hf]; decide) (by rw [hf]; exact OffEntry.below (by decide)), hlp,
      hu.get_of hn hb]
  refine State.disableLink_ind (P := fun t => t.get f l = s.get f l) s part h0 ?_
  rw [(RegsIn.frmOof _ l (by decide) (by decide)).get_of hn hb, h0]

theorem State.buf_disableLink : (s.disableLink l part).buf = (s.upLeft l part).buf := by
  have h0 : ((s.upLeft l part).disabled l).sansPort = (s.upLeft l part).sansPort :=
    (State.sansPort_setLink _ _ _).trans (State.sansPort_setLp _ _ _)
  exact State.buf_of_sansPort (State.disableLink_ind (P := fun t => t.sansPort = (s.upLeft l part).sansPort) s part h0
    ((State.sansPort_frmOof _ l).trans h0))

end

end Sys2Proof.Machine
end

section
/-! PROOFS. Enabling and disabling a port, and the limits of a link attempt (R89, R96, R98, R102). -/

namespace Sys2Proof.Machine

theorem State.link_settle (s : State) (l : Nat) : s.settle.link l = s.link l := State.get_settle_high _ (by decide)

theorem State.link_congr {s t : State} {l : Nat} (h : RegsIn 0x1018000 0x1020000 s t) (hl : l < 256) : t.link l = s.link l :=
  h.get_of hl (by decide)

theorem State.live_congr {s t : State} (h : RegsIn 0 0x20000 s t) : t.live = s.live := by
  have hm : t.mode = s.mode := h.get_of (f := F.KV_MODE_mode) (by decide) (by decide)
  unfold State.live
  rw [hm]

theorem State.awake_of_live {s : State} (h : s.live = true) : s.awake = true :=
  decide_eq_true (le_trans (by decide) (of_decide_eq_true h))

/-! ### `admin_up` (R89, R96, R98) -/

theorem exec_adminUpWrite_true (l : Nat) (part : List Byte) (s : State) : exec (.adminUpWrite l true part) s =
    okIf (s.awake && s.present l) s ((s.put F.TF_LPORT_CTL_admin_up 1 l).tryStart l) := rfl

theorem exec_adminUpWrite_false (l : Nat) (part : List Byte) (s : State) : exec (.adminUpWrite l false part) s =
    okIf (s.awake && s.present l) s (if s.link l = 0 then s.put F.TF_LPORT_CTL_admin_up 0 l
      else (s.put F.TF_LPORT_CTL_admin_up 0 l).disableLink l part) := rfl

/-- A write of a port's controls leaves every array but theirs. -/
theorem RegsIn.putCtl {lo hi : Nat} (s : State) {l : Nat} (f : Fld) (v : Nat) (hl : l < 256) (hf : f.reg = R.TF_LPORT_CTL)
    (h : 0x1018000 ≤ lo ∨ hi ≤ 0x1010000) : RegsIn lo hi s (s.put f v l) :=
  RegsIn.put_of s v (by rw [hf]; exact hl) (by rw [hf]; exact h.imp (le_trans (by decide)) fun h => h)

section
variable {s : State} {l : Nat}

theorem State.startLink_put (f : Fld) (v : Nat) (hf : f.reg = R.TF_LPORT_CTL) (hl : l < 256)
    (h : f.lo + f.w ≤ F.TF_LPORT_CTL_an_en.lo) (h' : f.lo + f.w ≤ F.TF_LPORT_CTL_lt_en.lo) :
    (s.put f v l).startLink l = s.startLink l := by
  have h8 : l / 8 < 32 := by omega
  have hcfg : RegsIn 0x1000000 0x1008000 s (s.put f v l) := RegsIn.putCtl s f v hl hf (by decide)
  have hc (g : Fld) (hg : g.reg = R.TF_LPORT_CTL) (hw : f.lo + f.w ≤ 64) (h : f.lo + f.w ≤ g.lo) :
      (s.put f v l).flag g l = s.flag g l := by
    unfold State.flag
    rw [State.get_put_fld _ _ (hg.trans hf.symm) hw (.inl h)]
  unfold State.startLink State.framed
  rw [hcfg.flag_of (f := F.TF_PORT_CFG_framed) h8 (by decide), hc _ rfl (h.trans (by decide)) h,
    hc _ rfl (h'.trans (by decide)) h']

theorem State.mayStart_enabled (hlive : s.live = true) (hp : s.present l = true) (hon : s.isOn (17 + l / 32) = true)
    (hmap : s.flag F.TF_PORT_CFG_map_err (l / 8) = false) (hrec : s.flag F.TF_PORT_CFG_reconfig_busy (l / 8) = false) :
    (s.put F.TF_LPORT_CTL_admin_up 1 l).mayStart l = true := by
  have hl := State.present_lt hp
  have h8 : l / 8 < 32 := by omega
  have hblk : 17 + l / 32 < 68 := by omega
  have hbelow : RegsIn 0 0x1010000 s (s.put F.TF_LPORT_CTL_admin_up 1 l) := RegsIn.putCtl s _ 1 hl rfl (by decide)
  have hon' : (s.put F.TF_LPORT_CTL_admin_up 1 l).isOn (17 + l / 32) = true := by
    rw [← hon]
    unfold State.isOn State.blk
    rw [hbelow.get_of (f := F.KV_BLK_STAT_state) hblk (by decide)]
  have hadm : (s.put F.TF_LPORT_CTL_admin_up 1 l).flag F.TF_LPORT_CTL_admin_up l = true := by
    rw [State.flag_eq_true, State.get_put_self _ _ _ _ _ (by decide)]
    rfl
  unfold State.mayStart
  rw [present_congr (RegsIn.putCtl s _ 1 hl rfl (by decide)) hl, hp, hon', hadm,
    State.live_congr (RegsIn.putCtl s _ 1 hl rfl (by decide)), hlive,
    hbelow.flag_of (f := F.TF_PORT_CFG_map_err) h8 (by decide), hmap,
    hbelow.flag_of (f := F.TF_PORT_CFG_reconfig_busy) h8 (by decide), hrec]
  rfl

theorem adminUp_starts (part : List Byte) (hlive : s.live = true) (hp : s.present l = true)
    (hon : s.isOn (17 + l / 32) = true) (h0 : s.link l = 0) (hmap : s.flag F.TF_PORT_CFG_map_err (l / 8) = false)
    (hrec : s.flag F.TF_PORT_CFG_reconfig_busy (l / 8) = false) :
    Answers (.adminUpWrite l true part) s (fun t => t.flag F.TF_LPORT_CTL_admin_up l = true ∧
      t.link l = (if s.framed l then 3 else if s.flag F.TF_LPORT_CTL_an_en l then 1
        else if s.flag F.TF_LPORT_CTL_lt_en l then 2 else 3) ∧
      (∀ k < 256, k ≠ l → t.link k = s.link k) ∧ t.buf = s.buf) := by
  have hl := State.present_lt hp
  have hmay := State.mayStart_enabled hlive hp hon hmap hrec
  have hlink (k : Nat) (hk : k < 256) : (s.put F.TF_LPORT_CTL_admin_up 1 l).link k = s.link k :=
    State.link_congr (RegsIn.putCtl s _ 1 hl rfl (by decide)) hk
  have hstart : (s.put F.TF_LPORT_CTL_admin_up 1 l).tryStart l = (s.put F.TF_LPORT_CTL_admin_up 1 l).beginLink l :=
    if_pos ⟨(hlink l hl).trans h0, hmay⟩
  refine answers_okIf (exec_adminUpWrite_true l part s) (by simp [State.awake_of_live hlive, hp]) ?_
  rw [hstart]
  refine ⟨?_, ?_, fun k hk hne => ?_, ?_⟩
  · rw [State.flag_eq_true, State.get_settle_high _ (by decide), State.ctl_beginLink _ hl rfl,
      State.get_put_self _ _ _ _ _ (by decide)]
    rfl
  · rw [State.link_settle, State.link_beginLink_self _ hl, State.startLink_put _ _ rfl hl (by decide) (by decide)]
    rfl
  · rw [State.link_settle, State.link_beginLink_ne _ hl hk hne, hlink k hk]
  · rw [State.settle_buf, State.buf_beginLink, State.put_buf]

/-- A port that is not in UP keeps the buffer as it goes to DISABLED; one in UP leaves its view held. -/
theorem adminUp_disables (part : List Byte) (hawake : s.awake = true) (hp : s.present l = true) (h0 : s.link l ≠ 0) :
    Answers (.adminUpWrite l false part) s (fun t => t.flag F.TF_LPORT_CTL_admin_up l = false ∧ t.link l = 0 ∧
      (t.lp l).sdHeld = [] ∧ (s.link l = 4 → s.viewUp s.myId l = true → t.view s.myId l = .hold) ∧
      (s.link l ≠ 4 → t.buf = s.buf)) := by
  have hl := State.present_lt hp
  have hlink : (s.put F.TF_LPORT_CTL_admin_up 0 l).link l = s.link l :=
    State.link_congr (RegsIn.putCtl s _ 0 hl rfl (by decide)) hl
  have hid : (s.put F.TF_LPORT_CTL_admin_up 0 l).myId = s.myId :=
    RegsIn.get_of (RegsIn.putCtl (lo := 0) (hi := 0x20000) s _ 0 hl rfl (by decide)) (f := F.KV_MODE_module_id)
      (i := 0) (by decide) (by decide)
  have hbuf : (s.put F.TF_LPORT_CTL_admin_up 0 l).buf = s.buf := State.put_buf _ _ _ _ _
  have hadm : (s.put F.TF_LPORT_CTL_admin_up 0 l).get F.TF_LPORT_CTL_admin_up l = 0 := State.get_zero_self _ _ _ _ (by decide)
  have he := exec_adminUpWrite_false l part s
  rw [if_neg h0] at he
  refine answers_okIf he (by simp [hawake, hp]) ?_
  generalize s.put F.TF_LPORT_CTL_admin_up 0 l = u at hlink hid hbuf hadm ⊢
  refine ⟨?_, ?_, ?_, fun h4 hv => ?_, fun h4 => ?_⟩
  · rw [State.flag, State.get_settle_high _ (by decide), State.ctl_disableLink _ _ hl rfl, hadm]
    rfl
  · rw [State.link_settle, State.link_disableLink _ _ hl]
  · rw [State.lp_settle, State.sdHeld_disableLink]
  · rw [State.view_congr (State.settle_buf _), State.view_congr (State.buf_disableLink u part), State.upLeft,
      if_pos (hlink.trans h4), ← hid]
    exact u.view_leaveUp l part hl ((State.viewUp_congr hbuf _ _).trans (by rw [hid, hv]))
  · rw [State.settle_buf, State.buf_disableLink, State.upLeft, if_neg (by rwa [hlink]), hbuf]

end

/-! ### Limits of an attempt (R96, R128) -/

theorem exec_anTimeout (l : Nat) (s : State) : exec (.anTimeout l) s =
    okIf (s.live && s.present l && decide (s.link l = 1) && s.linkFor l 5000000000) s
      (((s.anRestart l).raise F.TF_LPORT_EVT_an_fail l).setLink l 1) := rfl

theorem exec_waitLockTimeout (l : Nat) (s : State) : exec (.waitLockTimeout l) s =
    okIf (s.live && s.present l && decide (s.link l = 3) && !(s.lp l).locked && s.linkFor l 500000000) s (s.restartLink l) := rfl

theorem exec_faultTimeout (l : Nat) (s : State) : exec (.faultTimeout l) s =
    okIf (s.live && s.present l && decide (s.link l = 5) && ((s.lp l).sdHeld.isEmpty || s.startLink l != 3) &&
      s.linkFor l 500000000) s (s.restartLink l) := rfl

section
variable {s : State} {l : Nat}

theorem State.linkFor_of {n : Nat} (h : (s.lp l).at' + n ≤ s.up) : s.linkFor l n = true := decide_eq_true h

theorem anTimeout_answers (hlive : s.live = true) (hp : s.present l = true) (h1 : s.link l = 1)
    (ht : (s.lp l).at' + 5000000000 ≤ s.up) :
    Answers (.anTimeout l) s (fun t => t.link l = 1 ∧ t.flag F.TF_LPORT_EVT_an_fail l = true ∧
      t.get F.TF_LPORT_STAT_an_restarts l = min 255 (s.get F.TF_LPORT_STAT_an_restarts l + 1) ∧
      t.flag F.TF_LINK_PARTNER_valid l = false) := by
  have hl := State.present_lt hp
  have hr : ((s.anRestart l).raise F.TF_LPORT_EVT_an_fail l).get F.TF_LPORT_STAT_an_restarts l =
      min 255 (s.get F.TF_LPORT_STAT_an_restarts l + 1) := by
    rw [State.raise, State.get_put_of _ _ hl hl (by decide), State.restarts_anRestart]
  have he : ((s.anRestart l).raise F.TF_LPORT_EVT_an_fail l).get F.TF_LPORT_EVT_an_fail l = 1 :=
    State.get_raise_self _ _ _ _ (by decide) (by decide)
  refine answers_okIf (exec_anTimeout l s) (by simp [hlive, hp, h1, State.linkFor_of ht]) ?_
  generalize (s.anRestart l).raise F.TF_LPORT_EVT_an_fail l = u at hr he ⊢
  refine ⟨?_, ?_, ?_, ?_⟩
  · rw [State.link_settle, State.link_setLink_self _ hl (by decide)]
  · rw [State.flag_eq_true, State.get_settle_high _ (by decide),
      State.get_setLink _ _ hl hl (by decide) ⟨by decide, by decide, by decide⟩, he]
  · rw [State.get_settle_high _ (by decide), State.stat_setLink _ _ hl rfl (by decide), hr]
  · rw [State.flag, State.get_settle_high _ (by decide), State.setLink_one, State.get_zero_self _ _ _ _ (by decide)]
    rfl

theorem waitLockTimeout_answers (hlive : s.live = true) (hp : s.present l = true) (h3 : s.link l = 3)
    (hlock : (s.lp l).locked = false) (ht : (s.lp l).at' + 500000000 ≤ s.up) :
    Answers (.waitLockTimeout l) s (fun t => t.link l = s.startLink l ∧ (t.lp l).locked = false ∧
      t.get F.TF_LPORT_STAT_an_restarts l = min 255 (s.get F.TF_LPORT_STAT_an_restarts l +
        if s.startLink l = 3 then 0 else 1) ∧ t.buf = s.buf) := by
  obtain ⟨hlink, hrestarts, hbuf⟩ := s.restartLink_shows (State.present_lt hp)
  refine answers_okIf (exec_waitLockTimeout l s) (by simp [hlive, hp, h3, hlock, State.linkFor_of ht]) ⟨?_, ?_, ?_, ?_⟩
  · rw [State.link_settle, hlink]
  · rw [State.lp_settle, s.locked_restartLink hlock]
  · rw [State.get_settle_high _ (by decide), hrestarts]
  · rw [State.settle_buf, hbuf]

theorem faultTimeout_answers (hlive : s.live = true) (hp : s.present l = true) (h5 : s.link l = 5)
    (hheld : s.startLink l = 3 → (s.lp l).sdHeld = []) (ht : (s.lp l).at' + 500000000 ≤ s.up) :
    Answers (.faultTimeout l) s (fun t => t.link l = s.startLink l ∧ t.buf = s.buf) := by
  obtain ⟨hlink, -, hbuf⟩ := s.restartLink_shows (State.present_lt hp)
  have hfree : ((s.lp l).sdHeld.isEmpty || s.startLink l != 3) = true := by
    by_cases h3 : s.startLink l = 3
    · rw [hheld h3]
      rfl
    · rw [bne_iff_ne.2 h3, Bool.or_true]
  refine answers_okIf (exec_faultTimeout l s) (by simp only [hlive, hp, h5, hfree, State.linkFor_of ht]; rfl) ⟨?_, ?_⟩
  · rw [State.link_settle, hlink]
  · rw [State.settle_buf, hbuf]

end

end Sys2Proof.Machine
end

section
/-! PROOFS. From AN to the lock: the partner's page, training, the taps and the receive lock (R96, R99, R102, R103, R862). -/

namespace Sys2Proof.Machine

/-! ### What entering a link state leaves alone -/

theorem State.sansLports_putLanes (s : State) (f : Fld) (v l : Nat) : (s.putLanes f v l).sansLports = s.sansLports :=
  foldl_fixes State.sansLports (fun t n _ => t.sansLports_put f v n 0) s

theorem State.sansLports_linkMoved (s : State) (l st : Nat) : (s.linkMoved l st).sansLports = s.sansLports :=
  (State.sansLports_setLp _ _ _).trans ((State.sansLports_putLanes _ _ _ _).trans (State.sansLports_put _ _ _ _ _))

/-- A port in AN or TRAINING takes up nothing more on entry. -/
theorem State.sansLports_setLink (s : State) (l : Nat) {st : Nat} (h : st ≠ 3) : (s.setLink l st).sansLports = s.sansLports := by
  have hm := s.sansLports_linkMoved l st
  exact State.setLink_ind (P := fun t => t.sansLports = s.sansLports) s l st ((State.sansLports_put _ _ _ _ _).trans hm)
    (fun h3 => absurd h3 h) hm

theorem regsBut_putLanes {m : List Nat} (s : State) {f : Fld} (v l : Nat)
    (h : ∀ n ∈ s.lanesOf l, regAddr f.reg n 0 ∈ m) : RegsBut m s (s.putLanes f v l) := by
  have hfold : ∀ (ns : List Nat) (t : State), (∀ n ∈ ns, regAddr f.reg n 0 ∈ m) →
      RegsBut m t (ns.foldl (fun t n => t.put f v n) t) := by
    intro ns
    induction ns with
    | nil => exact fun t _ => regsBut_refl _ t
    | cons n ns ih =>
      intro t hm
      have hput : RegsBut m t (t.put f v n) := regsBut_put (regsBut_refl _ t) (hm n List.mem_cons_self)
      exact regsBut_trans hput (ih _ fun k hk => hm k (List.mem_cons_of_mem _ hk))
  exact hfold _ s h

theorem regsBut_linkMoved {m : List Nat} (s : State) {l : Nat} (st : Nat) (hl : l < 256)
    (hs : regAddr R.TF_LPORT_STAT l 0 ∈ m) (h : ∀ n ∈ s.lanesOf l, regAddr R.TF_LANE_STAT n 0 ∈ m) :
    RegsBut m s (s.linkMoved l st) := by
  have hmap : MapSame s (s.put F.TF_LPORT_STAT_link_state st l) :=
    RegsIn.put_of s st hl (by decide)
  have hput : RegsBut m s (s.put F.TF_LPORT_STAT_link_state st l) := regsBut_put (regsBut_refl _ s) hs
  have hlanes : RegsBut m (s.put F.TF_LPORT_STAT_link_state st l)
      ((s.put F.TF_LPORT_STAT_link_state st l).putLanes F.TF_LANE_STAT_adapting (b2n (decide (2 ≤ st))) l) :=
    regsBut_putLanes _ _ l fun n hn => h n (by rwa [lanesOf_congr hmap hl] at hn)
  exact regsBut_trans hput hlanes

/-! ### AN_RESOLVED to the breakout rate (R96, R99) -/

theorem portSpeed_lt (code : Nat) : portSpeed code < 8 := by
  unfold portSpeed
  split <;> simp

section
variable (s : State) {l : Nat} (page : Word) (rate : Nat)

theorem State.partner_partnerShown (hr : rate < 8) :
    (s.partnerShown l page rate).get F.TF_LINK_PARTNER_base_page l = bits page.toNat 0 48 ∧
    (s.partnerShown l page rate).get F.TF_LINK_PARTNER_resolved l = rate ∧
    (s.partnerShown l page rate).get F.TF_LINK_PARTNER_valid l = 1 := by
  unfold State.partnerShown
  refine ⟨?_, ?_, ?_⟩
  · simp (disch := decide) only [State.get_put_fld, State.get_put_self]
    exact Nat.mod_eq_of_lt (bits_lt _ _ _)
  · simp (disch := decide) only [State.get_put_fld, State.get_put_self]
    exact Nat.mod_eq_of_lt (lt_of_lt_of_le hr (by decide))
  · rw [State.get_put_self _ _ _ _ _ (by decide)]
    rfl

theorem State.lp_partnerShown (k : Nat) : (s.partnerShown l page rate).lp k = s.lp k := by
  unfold State.partnerShown
  rw [State.lp_put, State.lp_put, State.lp_put, State.lp_put, State.lp_put]

theorem State.up_partnerShown : (s.partnerShown l page rate).up = s.up := by
  unfold State.partnerShown
  rw [State.put_up, State.put_up, State.put_up, State.put_up, State.put_up]

theorem State.sansLports_partnerShown : (s.partnerShown l page rate).sansLports = s.sansLports := by
  unfold State.partnerShown
  rw [State.sansLports_put, State.sansLports_put, State.sansLports_put, State.sansLports_put, State.sansLports_put]

end

theorem anResolved_trains {s : State} {l rate : Nat} (page : Word) (hlive : s.live = true) (hp : s.present l = true)
    (h1 : s.link l = 1) (hrate : rate = portSpeed (s.breakout (l / 8))) :
    Answers (.anResolved l page rate) s (fun t => t.link l = 2 ∧
      t.get F.TF_LINK_PARTNER_base_page l = bits page.toNat 0 48 ∧ t.get F.TF_LINK_PARTNER_resolved l = rate ∧
      t.flag F.TF_LINK_PARTNER_valid l = true ∧ t.lp l = { s.lp l with at' := s.up } ∧
      (∀ k, k ≠ l → t.lp k = s.lp k) ∧ t = { s.settled t with port := { s.port with lports := t.port.lports } } ∧
      RegsBut ([regAddr R.TF_LINK_PARTNER l 0, regAddr R.TF_LPORT_STAT l 0] ++
        (s.lanesOf l).map (fun n => regAddr R.TF_LANE_STAT n 0)) s t) := by
  have hl := State.present_lt hp
  obtain ⟨hbase, hres, hval⟩ := s.partner_partnerShown (l := l) page rate (hrate ▸ portSpeed_lt _)
  have hmap : MapSame s (s.partnerShown l page rate) := regsIn_partnerShown s page rate hl (.inr (by decide))
  have hlanes := lanesOf_congr hmap hl
  have hlp (k : Nat) := s.lp_partnerShown (l := l) page rate k
  have hup := s.up_partnerShown (l := l) page rate
  have hsans := s.sansLports_partnerShown (l := l) page rate
  obtain ⟨-, hbut⟩ := partnerShown_onlyRegs (m := [regAddr R.TF_LINK_PARTNER l 0, regAddr R.TF_LPORT_STAT l 0] ++
    (s.lanesOf l).map (fun n => regAddr R.TF_LANE_STAT n 0)) s page rate (List.mem_append_left _ List.mem_cons_self)
  have he := exec_anResolved l rate page s
  rw [if_pos hrate] at he
  refine answers_okIf he (by simp [hlive, hp, h1]) ?_
  generalize s.partnerShown l page rate = u at hbase hres hval hlanes hlp hup hsans hbut ⊢
  have hget (f : Fld) (hf : f.reg = R.TF_LINK_PARTNER) : (u.setLink l 2).settle.get f l = u.get f l := by
    have hn : l < f.reg.n := by rw [hf]; exact hl
    rw [State.get_settle_high _ (by rw [hf]; decide), State.setLink_of_ne u l (by decide) (by decide),
      (RegsIn.linkMoved (lo := 0x1020000) (hi := 0x1024000) u 2 hl (by decide)).get_of hn (by rw [hf]; decide)]
    exact State.get_put_of u 2 hl hn (by rw [hf]; decide)
  refine ⟨?_, ?_, ?_, ?_, ?_, fun k hk => ?_, settledLports ((State.sansLports_setLink u l (by decide)).trans hsans),
    regsBut_settle_of (regsBut_trans hbut ?_)⟩
  · rw [State.link_settle, State.link_setLink_self _ hl (by decide)]
  · rw [hget _ rfl, hbase]
  · rw [hget _ rfl, hres]
  · rw [State.flag_eq_true, hget _ rfl, hval]
  · rw [State.lp_settle, State.lp_setLink_self, hlp, hup]
    simp
  · rw [State.lp_settle, State.lp_setLink_ne _ _ hk, hlp]
  · rw [State.setLink_of_ne u l (by decide) (by decide)]
    refine regsBut_linkMoved u 2 hl (List.mem_append_left _ (by simp)) fun n hn => List.mem_append_right _ ?_
    rw [hlanes] at hn
    exact List.mem_map_of_mem hn

/-! ### Taps (R103) -/

/-- The lanes of a list with their taps. -/
def tapsSet (t : Tab LaneEq) (es : List (Nat × List Int)) : Tab LaneEq :=
  es.foldl (fun (t : Tab LaneEq) e => tmod t e.1 laneEq0 (fun x => { x with taps := e.2 })) t

theorem State.lanes_setTaps (s : State) (l : Nat) (taps : List (List Int)) :
    (s.setTaps l taps).port.lanes = tapsSet s.port.lanes ((s.txLanesOf l).zip taps) := rfl

theorem tapsSet_of_not_mem (es : List (Nat × List Int)) (t : Tab LaneEq) {n : Nat} (h : n ∉ es.map Prod.fst) :
    tget (tapsSet t es) n laneEq0 = tget t n laneEq0 := by
  induction es generalizing t with
  | nil => rfl
  | cons e es ih =>
    rw [List.map_cons, List.mem_cons, not_or] at h
    obtain ⟨hne, hrest⟩ := h
    rw [tapsSet, List.foldl_cons, ← tapsSet, ih _ hrest, tmod, tget_tset_ne _ _ _ hne]

/-- A lane listed once takes up its taps, and keeps its coefficients. -/
theorem tapsSet_of_mem (es : List (Nat × List Int)) (t : Tab LaneEq) (hd : (es.map Prod.fst).Nodup) {n : Nat}
    {tp : List Int} (h : (n, tp) ∈ es) : tget (tapsSet t es) n laneEq0 = { tget t n laneEq0 with taps := tp } := by
  induction es generalizing t with
  | nil => exact absurd h List.not_mem_nil
  | cons e es ih =>
    rw [List.map_cons, List.nodup_cons] at hd
    obtain ⟨hfresh, hd⟩ := hd
    rw [tapsSet, List.foldl_cons, ← tapsSet]
    rcases List.mem_cons.1 h with rfl | hm
    · rw [tapsSet_of_not_mem _ _ hfresh, tmod, tget_tset_self]
    · have hne : n ≠ e.1 := fun he => hfresh (he ▸ List.mem_map_of_mem (f := Prod.fst) hm)
      rw [ih _ hd hm, tmod, tget_tset_ne _ _ _ hne]

theorem nodup_zip_fst {ns : List Nat} (taps : List (List Int)) (h : ns.Nodup) : ((ns.zip taps).map Prod.fst).Nodup := by
  rw [List.zip_eq_zip_take_min, List.map_fst_zip (by simp)]
  exact h.sublist (List.take_sublist _ _)

theorem mem_zip_of_getElem? {ns : List Nat} {taps : List (List Int)} {i n : Nat} {tp : List Int} (hn : ns[i]? = some n)
    (ht : taps[i]? = some tp) : (n, tp) ∈ ns.zip taps :=
  List.mem_of_getElem? (i := i) (List.getElem?_zip_eq_some.2 ⟨hn, ht⟩)

/-! ### LINK_TRAINING_DONE (R96, R103) -/

theorem exec_linkTrainingDone (l : Nat) (taps : List (List Int)) (s : State) : exec (.linkTrainingDone l taps) s =
    okIf (s.live && s.present l && decide (s.link l = 2)) s ((if s.untrained l then s else s.setTaps l taps).setLink l 3) := rfl

theorem State.lanes_frmStored (s : State) (l : Nat) (f : FrmSt) : (s.frmStored l f).port.lanes = s.port.lanes :=
  State.ite_ind (P := fun t => t.port.lanes = s.port.lanes) (fun _ => rfl) fun _ => rfl

theorem State.lanes_of_port {s t : State} (h : t.port = s.port) : t.port.lanes = s.port.lanes := by rw [h]

theorem State.lanes_linkMoved (s : State) (l st : Nat) : (s.linkMoved l st).port.lanes = s.port.lanes := by
  have hlp (t : State) (x : LPort) : (t.setLp l x).port.lanes = t.port.lanes := rfl
  exact (hlp _ _).trans (State.lanes_of_port (s.linkMoved_before l st))

/-- Entering WAIT_LOCK touches the taps as the image has them, and no other state of a lane. -/
theorem State.lanes_setLink_three (s : State) (l : Nat) :
    (s.setLink l 3).port.lanes = ((s.linkMoved l 3).imageTaps l).port.lanes := by
  rw [State.setLink_three]
  refine State.ite_ind (P := fun t => t.port.lanes = ((s.linkMoved l 3).imageTaps l).port.lanes) (fun _ => ?_) fun _ => rfl
  rw [State.setFrm_eq, State.lanes_of_port (State.port_frmShown _ _ _), State.lanes_frmStored]

section
variable {s t : State} {l : Nat}

theorem untrained_congr (h : RegsIn 0x1000000 0x1018000 s t) (hl : l < 256) : t.untrained l = s.untrained l := by
  have h8 : l / 8 < 32 := by omega
  unfold State.untrained State.framed
  rw [h.flag_of (f := F.TF_PORT_CFG_framed) h8 (by decide), h.flag_of (f := F.TF_LPORT_CTL_lt_en) hl (by decide)]

theorem State.imageTaps_trained (h : s.untrained l = false) : s.imageTaps l = s := by
  unfold State.imageTaps
  split
  · rw [h, if_neg Bool.false_ne_true]
  · rfl

/-- The taps of an image for a lane. -/
def State.imageTap (s : State) (im : Image) (n : Nat) : List Int :=
  im.content.serdes.getD (s.get F.TF_LANE_STAT_length_class n) (tget s.port.lanes n laneEq0).taps

theorem State.imageTaps_untrained {im : Image} (h : s.untrained l = true) (him : s.boot.image = some im) :
    s.imageTaps l = s.setTaps l ((s.txLanesOf l).map (s.imageTap im)) := by
  unfold State.imageTaps
  rw [him]
  exact if_pos h

end

section
variable {s : State} {l : Nat}

theorem regsIn_linkMoved_below (s : State) {l : Nat} (st : Nat) (hl : l < 256) :
    RegsIn 0x1000000 0x1018000 s (s.linkMoved l st) :=
  (RegsIn.put_of s st hl (.inr (by decide))).trans (RegsIn.linkMoved s st hl (by decide))

/-- A port trained with its partner has the taps set with it. -/
theorem State.taps_setLink_three (taps : List (List Int)) (hl : l < 256) (hu : s.untrained l = false)
    (hd : (s.txLanesOf l).Nodup) {i n : Nat} {tp : List Int} (hn : (s.txLanesOf l)[i]? = some n) (ht : taps[i]? = some tp) :
    tget ((s.setTaps l taps).setLink l 3).port.lanes n laneEq0 = { tget s.port.lanes n laneEq0 with taps := tp } := by
  have hsame : RegsIn 0x1000000 0x1018000 s ((s.setTaps l taps).linkMoved l 3) :=
    RegsIn.trans (t := s.setTaps l taps) (RegsIn.of_regs rfl) (regsIn_linkMoved_below _ 3 hl)
  rw [State.lanes_setLink_three, State.imageTaps_trained ((untrained_congr hsame hl).trans hu), State.lanes_linkMoved,
    State.lanes_setTaps]
  exact tapsSet_of_mem _ _ (nodup_zip_fst _ hd) (mem_zip_of_getElem? hn ht)

/-- One without training has those of the image, by each lane's length class. -/
theorem State.imageTaps_setLink_three {im : Image} (hl : l < 256) (hu : s.untrained l = true)
    (hd : (s.txLanesOf l).Nodup) (him : s.boot.image = some im) {n : Nat} (hn : n ∈ s.txLanesOf l) :
    (tget (s.setLink l 3).port.lanes n laneEq0).taps = s.imageTap im n := by
  have hlow := regsIn_linkMoved_below s 3 hl
  have htx : (s.linkMoved l 3).txLanesOf l = s.txLanesOf l := by
    refine txLanesOf_congr (fun a ha hb => hlow a ha ?_) hl
    omega
  have hu' : (s.linkMoved l 3).untrained l = true := (untrained_congr hlow hl).trans hu
  have him' : (s.linkMoved l 3).boot.image = some im := by
    rw [show (s.linkMoved l 3).boot = s.boot from congrArg (·.boot) (s.sansPort_linkMoved l 3), him]
  have hn256 : n < 256 := by
    obtain ⟨i, -, rfl⟩ := List.mem_map.1 hn
    have := bits_lt (s.get F.TF_PORT_LANEMAP_tx_map (l / 8)) (3 * (l % 8 + i)) 3
    omega
  have htap : (s.linkMoved l 3).imageTap im n = s.imageTap im n := by
    have hp : (s.put F.TF_LPORT_STAT_link_state 3 l).get F.TF_LANE_STAT_length_class n = s.get F.TF_LANE_STAT_length_class n :=
      State.get_put_of s 3 hl hn256 (by decide)
    have hc : (s.linkMoved l 3).get F.TF_LANE_STAT_length_class n = s.get F.TF_LANE_STAT_length_class n :=
      (State.lane_putLanes_fld _ _ l n rfl rfl (by decide) (by decide)).trans hp
    unfold State.imageTap
    rw [hc, State.lanes_linkMoved]
  obtain ⟨i, hi⟩ := List.mem_iff_getElem?.1 hn
  have hmem : (n, (s.linkMoved l 3).imageTap im n) ∈ (s.txLanesOf l).zip ((s.txLanesOf l).map ((s.linkMoved l 3).imageTap im)) :=
    mem_zip_of_getElem? hi (by rw [List.getElem?_map, hi, Option.map_some])
  rw [State.lanes_setLink_three, State.imageTaps_untrained hu' him', State.lanes_setTaps, htx,
    tapsSet_of_mem _ _ (nodup_zip_fst _ hd) hmem, htap]

theorem linkTrainingDone_answers (taps : List (List Int)) (hlive : s.live = true) (hp : s.present l = true)
    (h2 : s.link l = 2) :
    Answers (.linkTrainingDone l taps) s (fun t => t.link l = 3 ∧ (t.lp l).locked = false ∧
      (s.untrained l = false → (s.txLanesOf l).Nodup → ∀ (i n : Nat) (tp : List Int),
        (s.txLanesOf l)[i]? = some n → taps[i]? = some tp →
        (tget t.port.lanes n laneEq0).taps = tp ∧
        (tget t.port.lanes n laneEq0).coef = (tget s.port.lanes n laneEq0).coef) ∧
      (∀ im, s.untrained l = true → (s.txLanesOf l).Nodup → s.boot.image = some im → ∀ n ∈ s.txLanesOf l,
        (tget t.port.lanes n laneEq0).taps = im.content.serdes.getD (s.get F.TF_LANE_STAT_length_class n)
          (tget s.port.lanes n laneEq0).taps)) := by
  have hl := State.present_lt hp
  have hlocked (u : State) : ((u.setLink l 3).settle.lp l).locked = false := by
    rw [State.lp_settle, State.lp_setLink_self]
    simp
  refine answers_okIf (exec_linkTrainingDone l taps s) (by simp [hlive, hp, h2])
    ⟨?_, hlocked _, fun hu hd i n tp hn ht => ?_, fun im hu hd him n hn => ?_⟩
  · rw [State.link_settle, State.link_setLink_self _ hl (by decide)]
  · rw [State.settle_port, hu, if_neg Bool.false_ne_true, State.taps_setLink_three taps hl hu hd hn ht]
    exact ⟨rfl, rfl⟩
  · rw [State.settle_port, hu, if_pos rfl, State.imageTaps_setLink_three hl hu hd him hn, State.imageTap]

/-! ### TRAINING_TIMEOUT (R96, R128) -/

/-- The lanes of a mask reported as untrained. -/
def State.trainFails (s : State) (lanes : Nat) (es : List (Nat × Nat)) : State :=
  es.foldl (fun (t : State) e => if bitOf lanes e.2 then t.raise F.TF_LANE_EVT_train_fail e.1 else t) s

theorem exec_trainingTimeout (l lanes : Nat) (s : State) : exec (.trainingTimeout l lanes) s =
    okIf (s.live && s.present l && decide (s.link l = 2) && s.linkFor l 3000000000) s
      (((s.trainFails lanes (s.lanesOf l).zipIdx).anRestart l).setLink l (if s.flag F.TF_LPORT_CTL_an_en l then 1 else 2)) := rfl

theorem State.sansLports_trainFails (s : State) (lanes : Nat) (es : List (Nat × Nat)) :
    (s.trainFails lanes es).sansLports = s.sansLports :=
  foldl_fixes State.sansLports (fun t _ _ => State.ite_ind (P := fun u => u.sansLports = t.sansLports)
    (fun _ => t.sansLports_put _ _ _ _) fun _ => rfl) s

theorem RegsIn.trainFails {lo hi : Nat} (s : State) (lanes : Nat) {es : List (Nat × Nat)} (hn : ∀ e ∈ es, e.1 < 256)
    (h : hi ≤ 0x1048000) : RegsIn lo hi s (s.trainFails lanes es) :=
  RegsIn.foldl_mem (fun t e he => State.ite_ind
    (fun _ => RegsIn.put_of t (f := F.TF_LANE_EVT_train_fail) 1 (hn e he) (.inr h)) fun _ => RegsIn.refl t) s

/-- An event once raised stays as others are. -/
theorem State.get_raise_mono (s : State) {f : Fld} {n : Nat} (k : Nat) (hw : f.w = 1) (hlo : f.lo + f.w ≤ 64) (hst : 0 < f.reg.stride)
    (h : s.get f n = 1) : (s.raise f k).get f n = 1 := by
  by_cases hk : n = k
  · subst hk
    exact State.get_raise_self _ _ _ _ hlo (by rw [hw]; decide)
  · exact (s.get_put_ne 1 rfl hk hst).trans h

theorem State.event_trainFails (s : State) (lanes : Nat) {es : List (Nat × Nat)} {e : Nat × Nat} (he : e ∈ es)
    (hb : bitOf lanes e.2 = true) : (s.trainFails lanes es).get F.TF_LANE_EVT_train_fail e.1 = 1 := by
  have hkeep : ∀ (es : List (Nat × Nat)) (t : State), t.get F.TF_LANE_EVT_train_fail e.1 = 1 →
      (t.trainFails lanes es).get F.TF_LANE_EVT_train_fail e.1 = 1 := by
    intro es
    induction es with
    | nil => exact fun _ h => h
    | cons x es ih =>
      refine fun t h => ih _ ?_
      exact State.ite_ind (P := fun u => u.get F.TF_LANE_EVT_train_fail e.1 = 1)
        (fun _ => t.get_raise_mono _ rfl (by decide) (by decide) h) fun _ => h
  induction es generalizing s with
  | nil => exact absurd he List.not_mem_nil
  | cons x es ih =>
    rw [State.trainFails, List.foldl_cons, ← State.trainFails]
    rcases List.mem_cons.1 he with rfl | hm
    · rw [if_pos hb]
      exact hkeep es _ (State.get_raise_self _ _ _ _ (by decide) (by decide))
    · exact ih _ hm

theorem trainingTimeout_answers (lanes : Nat) (hlive : s.live = true) (hp : s.present l = true) (h2 : s.link l = 2)
    (ht : (s.lp l).at' + 3000000000 ≤ s.up) :
    Answers (.trainingTimeout l lanes) s (fun t => t.link l = (if s.flag F.TF_LPORT_CTL_an_en l then 1 else 2) ∧
      t.get F.TF_LPORT_STAT_an_restarts l = min 255 (s.get F.TF_LPORT_STAT_an_restarts l + 1) ∧
      (∀ (i n : Nat), (s.lanesOf l)[i]? = some n → bitOf lanes i = true → t.flag F.TF_LANE_EVT_train_fail n = true) ∧
      t = { s.settled t with port := { s.port with lports := t.port.lports } }) := by
  have hl := State.present_lt hp
  have hlane : ∀ e ∈ (s.lanesOf l).zipIdx, e.1 < 256 := fun e he => lane_lt hl (List.fst_mem_of_mem_zipIdx he)
  have hst : (if s.flag F.TF_LPORT_CTL_an_en l then 1 else 2) < 3 := by split <;> decide
  have hev (i n : Nat) (hn : (s.lanesOf l)[i]? = some n) (hb : bitOf lanes i = true) :
      ((s.trainFails lanes (s.lanesOf l).zipIdx).anRestart l).get F.TF_LANE_EVT_train_fail n = 1 := by
    have hn256 : n < 256 := lane_lt hl (List.mem_of_getElem? hn)
    rw [State.anRestart, State.addSat, State.get_put_of _ _ hl hn256 (by decide)]
    exact s.event_trainFails lanes (e := (n, i)) (List.mk_mem_zipIdx_iff_getElem?.2 hn) hb
  have hr : ((s.trainFails lanes (s.lanesOf l).zipIdx).anRestart l).get F.TF_LPORT_STAT_an_restarts l =
      min 255 (s.get F.TF_LPORT_STAT_an_restarts l + 1) := by
    rw [State.restarts_anRestart, (RegsIn.trainFails (lo := 0x1018000) (hi := 0x1020000) s lanes hlane (by decide)).get_of hl
      (by decide)]
  have hsans : ((s.trainFails lanes (s.lanesOf l).zipIdx).anRestart l).sansLports = s.sansLports :=
    (State.sansLports_put _ _ _ _ _).trans (s.sansLports_trainFails lanes _)
  refine answers_okIf (exec_trainingTimeout l lanes s) (by simp [hlive, hp, h2, State.linkFor_of ht]) ?_
  generalize (s.trainFails lanes (s.lanesOf l).zipIdx).anRestart l = u at hev hr hsans ⊢
  generalize (if s.flag F.TF_LPORT_CTL_an_en l then 1 else 2) = st at hst ⊢
  refine ⟨?_, ?_, fun i n hn hb => ?_, settledLports ((u.sansLports_setLink l (by omega)).trans hsans)⟩
  · rw [State.link_settle, State.link_setLink_self _ hl (by omega)]
  · rw [State.get_settle_high _ (by decide), State.stat_setLink _ _ hl rfl (by decide), hr]
  · rw [State.flag_eq_true, State.get_settle_high _ (by decide), State.get_setLink _ _ hl
      (show n < 256 from lane_lt hl (List.mem_of_getElem? hn)) (by decide) ⟨by decide, by decide, by decide⟩, hev i n hn hb]

/-! ### FEC_PCS_LOCK (R96, R862) -/

/-- A port whose receive side has lock. -/
def State.lockSeen (s : State) (l : Nat) : State :=
  s.setLp l { s.lp l with locked := true, lockAt := if (s.lp l).locked then (s.lp l).lockAt else s.up }

theorem exec_fecPcsLock (l : Nat) (s : State) : exec (.fecPcsLock l) s =
    okIf (s.live && s.present l && decide (s.link l = 3) && s.lanesLock l && (!s.framed l || s.frmLocked l)) s
      (s.lockSeen l) := rfl

theorem State.framedLocked_of (h : s.framed l = true → s.frmLocked l = true) : (!s.framed l || s.frmLocked l) = true := by
  cases hf : s.framed l with
  | false => rfl
  | true => rw [h hf, Bool.or_true]

theorem fecPcsLock_answers (hlive : s.live = true) (hp : s.present l = true) (h3 : s.link l = 3)
    (hlock : s.lanesLock l = true) (hfrm : s.framed l = true → s.frmLocked l = true) :
    Answers (.fecPcsLock l) s (fun t => t.lp l = { s.lp l with
        locked := true
        lockAt := if (s.lp l).locked = true then (s.lp l).lockAt else s.up } ∧
      (∀ k, k ≠ l → t.lp k = s.lp k) ∧ t = { s.settled t with port := { s.port with lports := t.port.lports } } ∧
      RegsBut [] s t) := by
  refine answers_okIf (exec_fecPcsLock l s)
    (by rw [hlive, hp, h3, hlock, State.framedLocked_of hfrm]; rfl)
    ⟨?_, fun k hk => ?_, settledLports rfl, regsBut_settle_of_regs rfl⟩
  · rw [State.lp_settle]
    exact State.lp_setLp_self _ _ _
  · rw [State.lp_settle]
    exact State.lp_setLp_ne _ _ hk

end

end Sys2Proof.Machine
end

section
/-! PROOFS. UP and FAULT: what a port shows as it comes up, goes down, and waits for lock again (R96, R97, R102, R112, R126,
R127, R134). -/

namespace Sys2Proof.Machine

/-! ### LINK_UP (R96, R97, R112) -/

/-- A port in UP as its registers show it. -/
def State.upShown (s : State) (l : Nat) : State :=
  ((((((s.setLink l 4).zero F.TF_LPORT_STAT_an_restarts l).zero F.TF_LPORT_STAT_local_fault l).zero
    F.TF_LPORT_STAT_remote_fault l).raise F.TF_LPORT_EVT_link_up l).putBit F.TF_PORT_CFG_up true (l % 8) (l / 8))

theorem exec_linkUp (l : Nat) (s : State) : exec (.linkUp l) s =
    okIf (s.live && s.present l && decide (s.link l = 3) && s.lockHeld l && (!s.framed l || s.frmLocked l)) s
      (if s.get F.TF_LPORT_CTL_fc_mode l = 1 ∧ s.get F.TF_LPORT_CTL_pfc_tx_en l ≠ 0 then
        ((s.upShown l).localChange l true).sendPfc l (s.get F.TF_LPORT_CTL_pfc_tx_en l)
       else (s.upShown l).localChange l true) := rfl

/-- What a port that comes up shows, and what it leaves for the modules it can reach. -/
structure UpTold (s : State) (l : Nat) (t : State) : Prop where
  link : t.link l = 4
  event : t.get F.TF_LPORT_EVT_link_up l = 1
  record : bitOf (t.get F.TF_PORT_CFG_up (l / 8)) (l % 8) = true
  restarts : t.get F.TF_LPORT_STAT_an_restarts l = 0
  xoff : t.get F.TF_LPORT_STAT_tx_xoff l = s.get F.TF_LPORT_STAT_tx_xoff l
  view : t.view s.myId l = .up
  told : ∀ m ∈ s.reachables, portStateMsg l true ∈ (t.msgs m).ctl

section
variable (s : State) {l : Nat}

theorem RegsIn.upShown_kv (hl : l < 256) : RegsIn 0 0x20000 s (s.upShown l) := by
  have hst (t : State) (f : Fld) (hf : f.reg = R.TF_LPORT_STAT) : RegsIn 0 0x20000 t (t.zero f l) :=
    RegsIn.put_above t 0 l 0 (by rw [hf]; decide)
  have hset : RegsIn 0 0x20000 s (s.setLink l 4) :=
    (RegsIn.put_above s 4 l 0 (by decide)).trans (RegsIn.setLink s 4 hl (OffEntry.below (by decide)))
  exact ((((hset.trans (hst _ _ rfl)).trans (hst _ _ rfl)).trans (hst _ _ rfl)).trans
    (RegsIn.put_above _ 1 l 0 (by decide))).trans (RegsIn.put_above _ _ _ _ (by decide))

theorem State.sansPort_upShown (l : Nat) : (s.upShown l).sansPort = s.sansPort := by
  rw [State.upShown, State.putBit, State.sansPort_put, State.raise, State.sansPort_put, State.zero, State.sansPort_put,
    State.zero, State.sansPort_put, State.zero, State.sansPort_put, State.sansPort_setLink]

/-- Of the port's status, coming up sets the link state and clears the restarts and the faults. -/
theorem State.stat_upShown (hl : l < 256) : (s.upShown l).link l = 4 ∧
    (s.upShown l).get F.TF_LPORT_STAT_an_restarts l = 0 ∧
    (s.upShown l).get F.TF_LPORT_STAT_tx_xoff l = s.get F.TF_LPORT_STAT_tx_xoff l := by
  have h8 : l / 8 < 32 := by omega
  have hlink := s.link_setLink_self hl (st := 4) (by decide)
  have hxoff := s.stat_setLink 4 (f := F.TF_LPORT_STAT_tx_xoff) hl rfl (by decide)
  have hlast (t : State) (f : Fld) (hf : f.reg = R.TF_LPORT_STAT) :
      ((t.raise F.TF_LPORT_EVT_link_up l).putBit F.TF_PORT_CFG_up true (l % 8) (l / 8)).get f l = t.get f l := by
    have hn : l < f.reg.n := by rw [hf]; exact hl
    rw [State.putBit, State.get_put_of _ _ (show l / 8 < 32 from h8) hn (by rw [hf]; decide), State.raise,
      State.get_put_of _ _ hl hn (by rw [hf]; decide)]
  unfold State.upShown State.link
  rw [hlast _ _ rfl, hlast _ _ rfl, hlast _ _ rfl]
  generalize s.setLink l 4 = u at hlink hxoff ⊢
  unfold State.zero
  simp (disch := decide) only [State.get_put_fld, State.get_put_self]
  exact ⟨hlink, rfl, hxoff⟩

theorem State.events_upShown (hl : l < 256) : (s.upShown l).get F.TF_LPORT_EVT_link_up l = 1 ∧
    bitOf ((s.upShown l).get F.TF_PORT_CFG_up (l / 8)) (l % 8) = true := by
  have h8 : l / 8 < 32 := by omega
  unfold State.upShown
  constructor
  · rw [State.putBit, State.get_put_of _ _ (show l / 8 < 32 from h8) hl (by decide),
      State.get_raise_self _ _ _ _ (by decide) (by decide)]
  · exact State.bitOf_putBit_self _ _ _ (by decide) (show l % 8 < 8 by omega)

theorem State.fab_of_sansPort {s t : State} (h : t.sansPort = s.sansPort) : t.fab = s.fab := congrArg (·.fab) h

theorem State.reachables_congr {s t : State} (h : t.fab = s.fab) : t.reachables = s.reachables := by
  rw [State.reachables, h, State.reachables]

theorem State.msgs_congr {s t : State} (h : t.fab = s.fab) (m : Nat) : t.msgs m = s.msgs m := by
  rw [State.msgs, h, State.msgs]

theorem upTold_localChange (hl : l < 256) : UpTold s l ((s.upShown l).localChange l true) := by
  obtain ⟨hlink, hrestarts, hxoff⟩ := s.stat_upShown hl
  obtain ⟨hevent, hrecord⟩ := s.events_upShown hl
  have hid : (s.upShown l).myId = s.myId :=
    (RegsIn.upShown_kv s hl).get_of (f := F.KV_MODE_module_id) (i := 0) (by decide) (by decide)
  have hreach := State.reachables_congr (State.fab_of_sansPort (s.sansPort_upShown l))
  generalize s.upShown l = u at hlink hrestarts hxoff hevent hrecord hid hreach ⊢
  have hget (f : Fld) (i : Nat) : (u.localChange l true).get f i = u.get f i :=
    State.get_congr (u.regs_localChange l true) f i 0
  refine ⟨(hget _ _).trans hlink, (hget _ _).trans hevent, ?_, (hget _ _).trans hrestarts, (hget _ _).trans hxoff, ?_, ?_⟩
  · rw [hget, hrecord]
  · rw [← hid, State.view_localChange, State.view_report_up]
  · intro m hm
    exact u.msgs_localChange l true (by rwa [hreach])

variable {s}

/-- The PFC frame that follows leaves all of that. -/
theorem UpTold.sendPfc {t : State} (h : UpTold s l t) (hl : l < 256) (mask : Nat) : UpTold s l (t.sendPfc l mask) := by
  obtain ⟨hlink, hevent, hrecord, hrestarts, hxoff, hview, htold⟩ := h
  have h8 : l / 8 < 32 := by omega
  have hstat (f : Fld) (hf : f.reg = R.TF_LPORT_STAT) (h : 16 ≤ f.lo ∨ f.lo + f.w ≤ 8) := t.stat_sendPfc l mask hl hf h
  have hcfg : RegsIn 0x1000000 0x1008000 t (t.sendPfc l mask) :=
    RegsIn.sendPfc t l mask hl (by decide) (by decide) (by decide)
  have hevt : RegsIn 0x1028000 0x1030000 t (t.sendPfc l mask) :=
    RegsIn.sendPfc t l mask hl (by decide) (by decide) (by decide)
  have hemit (o : Out) : (t.emit o).sansPort.buf = t.buf ∧ (t.emit o).sansPort.fab = t.fab := ⟨rfl, rfl⟩
  have hsans := t.sansPort_sendPfc l mask
  have hbuf : (t.sendPfc l mask).buf = t.buf := (congrArg (·.buf) hsans).trans (hemit _).1
  have hfab : (t.sendPfc l mask).fab = t.fab := (congrArg (·.fab) hsans).trans (hemit _).2
  refine ⟨(hstat _ rfl (by decide)).trans hlink, (hevt.get_of hl (by decide)).trans hevent, ?_,
    (hstat _ rfl (by decide)).trans hrestarts, (hstat _ rfl (by decide)).trans hxoff,
    (State.view_congr hbuf _ _).trans hview, fun m hm => ?_⟩
  · rw [hcfg.get_of (f := F.TF_PORT_CFG_up) h8 (by decide), hrecord]
  · rw [State.msgs_congr hfab]
    exact htold m hm

theorem getD_pfcTimes (t : State) (mask : Nat) {c : Nat} (hc : c < 8) : (t.pfcTimes l mask).getD c 0 =
    if bitOf mask c && bitOf (t.get F.TF_LPORT_STAT_tx_xoff l) c then 0xFFFF else 0 := by
  unfold State.pfcTimes
  rw [List.getD_eq_getElem _ _ (by simpa using hc), List.getElem_map, List.getElem_range]

theorem linkUp_answers (hlive : s.live = true) (hp : s.present l = true) (h3 : s.link l = 3) (hlock : (s.lp l).locked = true)
    (ht : (s.lp l).lockAt + 1000000 * s.get F.TF_LPORT_CTL_up_filter_ms l ≤ s.up)
    (hfrm : s.framed l = true → s.frmLocked l = true) :
    Answers (.linkUp l) s (fun t => t.link l = 4 ∧ t.view s.myId l = .up ∧ t.flag F.TF_LPORT_EVT_link_up l = true ∧
      bitOf (t.get F.TF_PORT_CFG_up (l / 8)) (l % 8) = true ∧ t.get F.TF_LPORT_STAT_an_restarts l = 0 ∧
      (∀ m ∈ s.reachables, portStateMsg l true ∈ (t.msgs m).ctl) ∧
      (s.get F.TF_LPORT_CTL_fc_mode l = 1 → s.get F.TF_LPORT_CTL_pfc_tx_en l ≠ 0 → ∃ times,
        .pfc l (s.get F.TF_LPORT_CTL_pfc_tx_en l) times ∈ t.out ∧ ∀ c < 8, times.getD c 0 =
          if bitOf (s.get F.TF_LPORT_CTL_pfc_tx_en l) c && bitOf (s.get F.TF_LPORT_STAT_tx_xoff l) c
            then 0xFFFF else 0)) := by
  have hl := State.present_lt hp
  have hheld : s.lockHeld l = true := by
    unfold State.lockHeld
    rw [hlock, decide_eq_true ht]
    rfl
  have htold := upTold_localChange s hl
  refine answers_okIf (exec_linkUp l s) (by rw [hlive, hp, h3, hheld, State.framedLocked_of hfrm]; rfl) ?_
  generalize (s.upShown l).localChange l true = u at htold ⊢
  generalize s.get F.TF_LPORT_CTL_pfc_tx_en l = mask
  have hshows (t : State) (h : UpTold s l t) : t.settle.link l = 4 ∧ t.settle.view s.myId l = .up ∧
      t.settle.flag F.TF_LPORT_EVT_link_up l = true ∧
      bitOf (t.settle.get F.TF_PORT_CFG_up (l / 8)) (l % 8) = true ∧ t.settle.get F.TF_LPORT_STAT_an_restarts l = 0 ∧
      (∀ m ∈ s.reachables, portStateMsg l true ∈ (t.settle.msgs m).ctl) := by
    refine ⟨(t.link_settle l).trans h.link, (State.view_congr t.settle_buf _ _).trans h.view, ?_, ?_, ?_, fun m hm => ?_⟩
    · rw [State.flag_eq_true, State.get_settle_high _ (by decide), h.event]
    · rw [State.get_settle_high _ (by decide), h.record]
    · rw [State.get_settle_high _ (by decide), h.restarts]
    · rw [State.msgs_congr t.settle_fab]
      exact h.told m hm
  by_cases hpfc : s.get F.TF_LPORT_CTL_fc_mode l = 1 ∧ mask ≠ 0
  · rw [if_pos hpfc]
    obtain ⟨hlink, hview, hevent, hrecord, hrestarts, hmsgs⟩ := hshows _ (htold.sendPfc hl mask)
    refine ⟨hlink, hview, hevent, hrecord, hrestarts, hmsgs, fun _ _ => ⟨u.pfcTimes l mask, State.mem_out_settle ?_, ?_⟩⟩
    · rw [State.out_sendPfc]
      exact List.mem_append_right _ (List.mem_singleton_self _)
    · intro c hc
      rw [getD_pfcTimes u mask hc, htold.xoff]
  · rw [if_neg hpfc]
    obtain ⟨hlink, hview, hevent, hrecord, hrestarts, hmsgs⟩ := hshows _ htold
    exact ⟨hlink, hview, hevent, hrecord, hrestarts, hmsgs, fun h h0 => absurd ⟨h, h0⟩ hpfc⟩

/-! ### LINK_FAULT (R96, R126, R134) -/

theorem exec_linkFault (l cause : Nat) (part : List Byte) (s : State) : exec (.linkFault l cause part) s =
    okIf (s.live && s.present l && decide (s.link l = 4) && s.faultHolds l cause) s (s.linkFault l cause part) := rfl

/-- The fault that a cause shows in the port's status. -/
def faultFld (cause : Nat) : Fld := if cause = 2 then F.TF_LPORT_STAT_remote_fault else F.TF_LPORT_STAT_local_fault

theorem faultFld_cases {P : Fld → Prop} (cause : Nat) (hr : P F.TF_LPORT_STAT_remote_fault)
    (hl : P F.TF_LPORT_STAT_local_fault) : P (faultFld cause) := by
  unfold faultFld
  split
  · exact hr
  · exact hl

theorem State.linkFault_eq (s : State) (l cause : Nat) (part : List Byte) :
    s.linkFault l cause part = ((s.leaveUp l part).setLink l 5).raise (faultFld cause) l := by
  unfold State.linkFault faultFld
  by_cases h : cause = 2
  · rw [if_pos h, if_pos h]
  · rw [if_neg h, if_neg h]

theorem linkFault_answers {cause : Nat} (part : List Byte) (hlive : s.live = true) (hp : s.present l = true)
    (h4 : s.link l = 4) (hc : s.faultHolds l cause = true) :
    Answers (.linkFault l cause part) s (fun t => t.link l = 5 ∧ t.flag F.TF_LPORT_EVT_link_down l = true ∧
      bitOf (t.get F.TF_PORT_CFG_up (l / 8)) (l % 8) = false ∧ (t.lp l).quanta = [0, 0, 0, 0, 0, 0, 0, 0] ∧
      (cause = 2 → t.flag F.TF_LPORT_STAT_remote_fault l = true) ∧
      (cause ≠ 2 → t.flag F.TF_LPORT_STAT_local_fault l = true) ∧
      (s.viewUp s.myId l = true → t.view s.myId l = .hold)) := by
  have hl := State.present_lt hp
  have h8 : l / 8 < 32 := by omega
  obtain ⟨hdown, hrecord⟩ := s.leaveUp_shows l part hl
  have hlp := s.lp_leaveUp_self l part
  have hview := s.view_leaveUp l part hl
  have hreg : (faultFld cause).reg = R.TF_LPORT_STAT := faultFld_cases (P := fun f => f.reg = R.TF_LPORT_STAT) cause rfl rfl
  have hlo : 3 ≤ (faultFld cause).lo := faultFld_cases (P := fun f => 3 ≤ f.lo) cause (by decide) (by decide)
  have hw : (faultFld cause).w = 1 := faultFld_cases (P := fun f => f.w = 1) cause rfl rfl
  have h64 : (faultFld cause).lo + (faultFld cause).w ≤ 64 :=
    faultFld_cases (P := fun f => f.lo + f.w ≤ 64) cause (by decide) (by decide)
  refine answers_okIf (exec_linkFault l cause part s) (by rw [hlive, hp, h4, hc]; rfl) ?_
  rw [State.linkFault_eq]
  generalize s.leaveUp l part = u at hdown hrecord hlp hview ⊢
  have hoff (t : State) (f : Fld) (k : Nat) (hk : k < f.reg.n)
      (hf : f.reg.past ≤ R.TF_LPORT_STAT.base ∨ R.TF_LPORT_STAT.past ≤ f.reg.base) (hb : 0x30000 ≤ f.reg.base) :
      (t.raise (faultFld cause) l).settle.get f k = t.get f k := by
    rw [State.get_settle_high _ hb]
    exact State.get_put_of t 1 (by rw [hreg]; exact hl) hk (by rw [hreg]; exact hf)
  have hbuf : ((u.setLink l 5).raise (faultFld cause) l).settle.buf = u.buf := by
    rw [State.settle_buf, State.raise, State.put_buf, State.buf_of_sansPort (u.sansPort_setLink l 5)]
  have hraised : ((u.setLink l 5).raise (faultFld cause) l).settle.get (faultFld cause) l = 1 := by
    rw [State.get_settle_high _ (by rw [hreg]; decide), State.get_raise_self _ _ _ _ h64 (by rw [hw]; decide)]
  refine ⟨?_, ?_, ?_, ?_, fun h2 => ?_, fun h2 => ?_, fun hv => (State.view_congr hbuf _ _).trans (hview hv)⟩
  · rw [State.link_settle, State.link, State.raise,
      State.get_put_fld (g := F.TF_LPORT_STAT_link_state) _ _ hreg.symm h64 (.inr hlo)]
    exact State.link_setLink_self _ hl (by decide)
  · rw [State.flag_eq_true, hoff _ _ _ hl (by decide) (by decide),
      State.get_setLink _ _ hl hl (by decide) ⟨by decide, by decide, by decide⟩, hdown]
  · rw [hoff _ _ _ (show l / 8 < 32 from h8) (by decide) (by decide),
      State.get_setLink _ _ hl (show l / 8 < 32 from h8) (by decide) ⟨by decide, by decide, by decide⟩, hrecord]
  · rw [State.lp_settle, State.raise, State.lp_put, State.lp_setLink_self, hlp]
    rfl
  · rw [faultFld, if_pos h2] at hraised
    rwa [State.flag_eq_true, faultFld, if_pos h2]
  · rw [faultFld, if_neg h2] at hraised
    rwa [State.flag_eq_true, faultFld, if_neg h2]

/-! ### LANE_SIGNAL_RESTORE (R96, R127) -/

/-- Every lane of a port shows signal and lock. -/
def State.lanesRestored (s : State) (l : Nat) : State :=
  (s.putLanes F.TF_LANE_STAT_signal 1 l).putLanes F.TF_LANE_STAT_cdr_lock 1 l

theorem exec_laneSignalRestore (l : Nat) (s : State) : exec (.laneSignalRestore l) s =
    okIf (s.live && s.present l) s ((s.lanesRestored l).tryWaitLock l) := rfl

/-- A flag of every lane of a port, set. -/
theorem State.get_putLanes_one (s : State) {f : Fld} {l n : Nat} (hf : f.reg = R.TF_LANE_STAT) (hw : f.w = 1)
    (hlo : f.lo + f.w ≤ 64) (hn : n ∈ s.lanesOf l) : (s.putLanes f 1 l).get f n = 1 := by
  have hs : 0 < f.reg.stride := by rw [hf]; decide
  have hkeep : ∀ (ns : List Nat) (t : State), t.get f n = 1 → (ns.foldl (fun t n => t.put f 1 n) t).get f n = 1 := by
    intro ns
    induction ns with
    | nil => exact fun _ h => h
    | cons k ns ih => exact fun t h => ih _ (t.get_raise_mono k hw hlo hs h)
  have hfold : ∀ (ns : List Nat) (t : State), n ∈ ns → (ns.foldl (fun t n => t.put f 1 n) t).get f n = 1 := by
    intro ns
    induction ns with
    | nil => exact fun _ h => absurd h List.not_mem_nil
    | cons k ns ih =>
      intro t h
      rw [List.foldl_cons]
      rcases List.mem_cons.1 h with rfl | hm
      · exact hkeep ns _ (State.get_raise_self t _ _ _ hlo (by rw [hw]; decide))
      · exact ih _ hm
  exact hfold _ s hn

theorem RegsIn.lanesRestored {lo hi : Nat} (s : State) {l : Nat} (hl : l < 256) (h : hi ≤ 0x1040000) :
    RegsIn lo hi s (s.lanesRestored l) :=
  (RegsIn.putLanes s 1 hl rfl (.inr h)).trans (RegsIn.putLanes _ 1 hl rfl (.inr h))

theorem State.lanes_lanesRestored (s : State) {l : Nat} (hl : l < 256) {n : Nat} (hn : n ∈ s.lanesOf l) :
    (s.lanesRestored l).get F.TF_LANE_STAT_signal n = 1 ∧ (s.lanesRestored l).get F.TF_LANE_STAT_cdr_lock n = 1 := by
  have hmap : MapSame s (s.putLanes F.TF_LANE_STAT_signal 1 l) := RegsIn.putLanes s 1 hl rfl (.inr (by decide))
  unfold State.lanesRestored
  constructor
  · rw [State.lane_putLanes_fld _ _ _ _ rfl rfl (by decide) (by decide), State.get_putLanes_one _ rfl rfl (by decide) hn]
  · exact State.get_putLanes_one _ rfl rfl (by decide) (by rwa [lanesOf_congr hmap hl])

theorem laneSignalRestore_answers (hlive : s.live = true) (hp : s.present l = true) :
    Answers (.laneSignalRestore l) s (fun t => (∀ n ∈ s.lanesOf l, t.flag F.TF_LANE_STAT_signal n = true ∧
        t.flag F.TF_LANE_STAT_cdr_lock n = true) ∧
      t.link l = (if s.link l = 5 ∧ (s.lp l).sdHeld = [] then 3 else s.link l)) := by
  have hl := State.present_lt hp
  have hlanes := lanesOf_congr (RegsIn.lanesRestored s hl (by decide)) hl
  have hset := fun n (hn : n ∈ s.lanesOf l) => s.lanes_lanesRestored hl hn
  have hlp : (s.lanesRestored l).lp l = s.lp l :=
    State.lp_congr ((State.port_putLanes _ _ _ _).trans (State.port_putLanes _ _ _ _)) l
  have hlink : (s.lanesRestored l).link l = s.link l := State.link_congr (RegsIn.lanesRestored s hl (by decide)) hl
  refine answers_okIf (exec_laneSignalRestore l s) (by rw [hlive, hp]; rfl) ?_
  generalize s.lanesRestored l = u at hlanes hset hlp hlink ⊢
  have hlock : u.lanesLock l = true := by
    unfold State.lanesLock
    rw [hlanes, List.all_eq_true]
    intro n hn
    rw [Bool.and_eq_true, State.flag_eq_true, State.flag_eq_true]
    exact hset n hn
  have hshown (t : State) (h : ∀ n < 256, t.get F.TF_LANE_STAT_signal n = u.get F.TF_LANE_STAT_signal n ∧
      t.get F.TF_LANE_STAT_cdr_lock n = u.get F.TF_LANE_STAT_cdr_lock n) (n : Nat) (hn : n ∈ s.lanesOf l) :
      t.settle.flag F.TF_LANE_STAT_signal n = true ∧ t.settle.flag F.TF_LANE_STAT_cdr_lock n = true := by
    obtain ⟨hs, hk⟩ := h n (lane_lt hl hn)
    rw [State.flag_eq_true, State.flag_eq_true, State.get_settle_high _ (by decide), State.get_settle_high _ (by decide), hs, hk]
    exact hset n hn
  rw [State.tryWaitLock, hlink, hlp]
  by_cases h : s.link l = 5 ∧ (s.lp l).sdHeld = []
  · rw [if_pos ⟨h.1, hlock, h.2⟩, if_pos h]
    refine ⟨hshown _ fun n hn => ⟨?_, ?_⟩, ?_⟩
    · exact State.lane_setLink u 3 hl hn rfl (by decide)
    · exact State.lane_setLink u 3 hl hn rfl (by decide)
    · rw [State.link_settle, State.link_setLink_self _ hl (by decide)]
  · rw [if_neg fun hc => h ⟨hc.1, hc.2.2⟩, if_neg h]
    exact ⟨hshown u fun _ _ => ⟨rfl, rfl⟩, (u.link_settle l).trans hlink⟩

end

/-- Settles O42: one lemma for each command of the link state machine. -/
theorem linkAttemptsMoveThroughTheirStates : Obligations.LinkAttemptsMoveThroughTheirStates := by
  refine ⟨?_, ?_, ?_, ?_, ?_, ?_, ?_, ?_, ?_, ?_, ?_, ?_⟩
  · intro l part s hlive hp hon h0 hmap hrec
    exact adminUp_starts part hlive hp hon h0 hmap hrec
  · intro l part s hawake hp h0
    exact adminUp_disables part hawake hp h0
  · intro l rate page s hlive hp h1 hrate
    exact anResolved_trains page hlive hp h1 hrate
  · intro l s hlive hp h1 ht
    exact anTimeout_answers hlive hp h1 ht
  · intro l taps s hlive hp h2
    exact linkTrainingDone_answers taps hlive hp h2
  · intro l lanes s hlive hp h2 ht
    exact trainingTimeout_answers lanes hlive hp h2 ht
  · intro l s hlive hp h3 hlock hfrm
    exact fecPcsLock_answers hlive hp h3 hlock hfrm
  · intro l s hlive hp h3 hlock ht hfrm
    exact linkUp_answers hlive hp h3 hlock ht hfrm
  · intro l s hlive hp h3 hlock ht
    exact waitLockTimeout_answers hlive hp h3 hlock ht
  · intro l cause part s hlive hp h4 hc
    exact linkFault_answers part hlive hp h4 hc
  · intro l s hlive hp
    exact laneSignalRestore_answers hlive hp
  · intro l s hlive hp h5 hheld ht
    exact faultTimeout_answers hlive hp h5 hheld ht

end Sys2Proof.Machine
end

section
/-! PROOFS. A step of device time: what a tick of the windows leaves alone (R115, R779 to R786). -/

namespace Sys2Proof.Machine

/-- Two states at the same time, with the same register of steps. -/
structure TimeKept (s t : State) : Prop where
  time : t.time = s.time
  up : t.up = s.up
  step : RegsIn 0x1050010 0x1050011 s t

namespace TimeKept

variable {s t u : State}

theorem refl (s : State) : TimeKept s s := ⟨rfl, rfl, RegsIn.refl s⟩

theorem trans (h : TimeKept s t) (k : TimeKept t u) : TimeKept s u :=
  ⟨k.time.trans h.time, k.up.trans h.up, h.step.trans k.step⟩

theorem foldl_mem {α : Type} {step : State → α → State} {l : List α} (h : ∀ s, ∀ x ∈ l, TimeKept s (step s x)) (s : State) :
    TimeKept s (l.foldl step s) := by
  induction l generalizing s with
  | nil => exact refl s
  | cons x l ih => exact (h s x List.mem_cons_self).trans (ih (fun t y hy => h t y (List.mem_cons_of_mem _ hy)) _)

theorem foldl {α : Type} {step : State → α → State} (h : ∀ s x, TimeKept s (step s x)) (l : List α) (s : State) :
    TimeKept s (l.foldl step s) := foldl_mem (fun s x _ => h s x) s

/-- A choice whose branches both keep the time. -/
theorem ite {c : Prop} [Decidable c] (ht : TimeKept s t) (hu : TimeKept s u) : TimeKept s (if c then t else u) :=
  State.ite_ind (fun _ => ht) fun _ => hu

theorem wr (s : State) {r : RegD} (w : Word) (i j : Nat)
    (h : regAddr r i j < 0x1050010 ∨ 0x1050011 ≤ regAddr r i j) : TimeKept s (s.wr r w i j) := ⟨rfl, rfl, RegsIn.wr s w h⟩

theorem wr_above (s : State) {r : RegD} (w : Word) (i j : Nat) (h : 0x1050011 ≤ r.base) : TimeKept s (s.wr r w i j) :=
  ⟨rfl, rfl, RegsIn.wr_above s w i j h⟩

theorem put_above (s : State) {f : Fld} (v i j : Nat) (h : 0x1050011 ≤ f.reg.base) : TimeKept s (s.put f v i j) :=
  wr_above s _ i j h

/-- A field of an array below it. -/
theorem put_below (s : State) {f : Fld} (v : Nat) {i : Nat} (hn : i < f.reg.n) (h : f.reg.past ≤ 0x1050010) :
    TimeKept s (s.put f v i) := by
  have := regAddr_bounds hn
  exact wr s _ i 0 (.inl (by omega))

/-- What telemetry gathers aside from its registers. -/
theorem windows (s : State) (tlm : TlmSt) : TimeKept s { s with tlm := tlm } := ⟨rfl, rfl, RegsIn.of_regs rfl⟩

theorem liveCount (s : State) (key n : Nat) : TimeKept s (s.liveCount key n) := ite (windows s _) (refl s)

theorem tlmCount (s : State) {k : Nat} (n : Nat) (hk : k < 8) : TimeKept s (s.tlmCount k n) := by
  have hb : regAddr R.KV_TLM_CNT k 0 < 0x1050010 := lt_of_lt_of_le (regAddr_bounds (r := R.KV_TLM_CNT) hk).2 (by decide)
  exact (wr s _ k 0 (.inl hb)).trans (liveCount _ _ _)

theorem countsKeep (s : State) : CountsKeep (TimeKept s) where
  windows t tlm h := h.trans (TimeKept.windows t tlm)
  late t w h := h.trans (wr t w 2 0 (by decide))
  event t h := h.trans (put_below t 1 (by decide) (by decide))

theorem count (s : State) {g : CntGroup} (k i n : Nat) (h : 0x1050011 ≤ g.reg.base) : TimeKept s (s.count g k i n) :=
  (countsKeep s).count (fun t w ht => ht.trans (wr_above t w _ _ h)) (refl s) n

theorem qProduced (s : State) (q n : Nat) : TimeKept s (s.qProduced q n) := by
  obtain ⟨out, host, h⟩ := s.qProduced_keeps q n
  have hp : TimeKept s (s.addWrap F.TF_QCTX_STAT_dev_idx n q) := put_above s _ q 0 (by decide)
  rw [h]
  generalize s.addWrap F.TF_QCTX_STAT_dev_idx n q = t at hp ⊢
  exact hp.trans ⟨rfl, rfl, RegsIn.of_regs rfl⟩

theorem ballastTx (s : State) (rank : Nat) (r : Nat × Nat) (w : Bool) : TimeKept s (s.ballastTx rank r w) :=
  ⟨rfl, rfl, RegsIn.of_regs rfl⟩

theorem ballastTxs (s : State) (rank : Nat) (r : Nat × Nat) (w : Bool) (n : Nat) : TimeKept s (s.ballastTxs rank r w n) := by
  induction n generalizing s with
  | zero => exact refl s
  | succ n ih => exact (ballastTx s rank r w).trans (ih _)

theorem emits (s : State) (os : List Out) : TimeKept s (s.emits os) := ⟨rfl, rfl, RegsIn.of_regs rfl⟩

/-! ### Records and flushes -/

theorem dumpRecord (s : State) (ring : Nat) (slots : List (List Word)) : TimeKept s (s.dumpRecord ring slots).2 := by
  unfold State.dumpRecord
  dsimp only
  split
  · split
    · exact (((emits s _).trans (count _ _ _ _ (by decide))).trans (qProduced _ _ _)).trans (windows _ _)
    · exact (count s _ _ _ (by decide)).trans (put_above _ _ _ _ (by decide))
  · exact (windows s _).trans (ballastTxs _ _ _ _ _)

theorem abandonRec (s : State) (entry : List Nat) : TimeKept s (s.abandonRec entry) :=
  ((windows s _).trans (tlmCount _ 1 (by decide))).trans (put_below _ 1 (by decide) (by decide))

theorem writeCounters (sh : Shadow) (s : State) (e : Nat × Word) : TimeKept s (s.writeCounters sh e) := by
  unfold State.writeCounters
  dsimp only
  split
  · exact ite (((dumpRecord s _ _).trans (windows _ _)).trans (tlmCount _ 1 (by decide)))
      ((dumpRecord s _ _).trans (windows _ _))
  · exact abandonRec s _

theorem writeBw (s : State) (sh : Shadow) (ring : Nat) : TimeKept s (s.writeBw sh ring) := by
  unfold State.writeBw
  dsimp only
  split
  · exact ite ((dumpRecord s _ _).trans (tlmCount _ 1 (by decide))) (dumpRecord s _ _)
  · exact abandonRec s _

theorem writeSet (s : State) (sh : Shadow) : TimeKept s (s.writeSet sh) := by
  have hf : TimeKept s (sh.sel.foldl (State.writeCounters sh) s) := foldl (writeCounters sh) _ s
  unfold State.writeSet
  dsimp only
  split
  · exact hf.trans (writeBw _ _ _)
  · exact hf

theorem showBw (s : State) (sh : Shadow) : TimeKept s (s.showBw sh) := by
  have hput (t : State) (f : Fld) (hf : f.reg = R.KV_BW) (v : Nat) {l : Nat} (hl : l < 256) : TimeKept t (t.put f v l) :=
    put_below t v (by rw [hf]; exact hl) (by rw [hf]; decide)
  unfold State.showBw
  dsimp only
  refine foldl_mem (fun t l hl => ?_) s
  have hl := List.mem_range.1 hl
  exact (hput t _ rfl _ hl).trans (hput _ _ rfl _ hl)

theorem closeShadow (s : State) : TimeKept s s.closeShadow := by
  unfold State.closeShadow
  split
  · exact refl s
  next sh _ =>
    have h0 : TimeKept s (State.put { s with tlm := { s.tlm with shadow := none } } F.KV_TLM_STAT_settling 0) :=
      (windows s _).trans (put_below _ 0 (by decide) (by decide))
    have h1 := h0.trans (ite (c := sh.bw.isSome = true) (showBw _ sh) (refl _))
    exact h1.trans (ite (windows _ _) (writeSet _ sh))

theorem abandonSet (s : State) (sh : Shadow) : TimeKept s (s.abandonSet sh) := by
  have hf : TimeKept s (sh.sel.foldl (fun (t : State) e => t.abandonRec [e.1]) s) := foldl (fun t _ => abandonRec t _) _ s
  exact ite (hf.trans (abandonRec _ _)) hf

theorem reuseSets (s : State) : TimeKept s s.reuseSets := (windows s _).trans (foldl (fun t _ => abandonSet t _) _ _)

theorem flushCounters (s : State) : TimeKept s s.flushCounters :=
  (windows s _).trans (foldl (fun t _ => ite (wr_above t _ _ _ (by decide))
    ((windows t _).trans (ballastTx _ _ _ _))) _ _)

theorem latchWindow (s : State) : TimeKept s s.latchWindow :=
  ite (windows s _) ((windows s _).trans (put_below _ 1 (by decide) (by decide)))

theorem windowTick (s : State) : TimeKept s s.windowTick := by
  have h1 : TimeKept s s.closeShadow.reuseSets := (closeShadow s).trans (reuseSets _)
  unfold State.windowTick
  dsimp only
  generalize s.closeShadow.reuseSets = t at h1 ⊢
  refine (h1.trans (ite ?_ (refl t))).trans ((flushCounters _).trans (latchWindow _))
  have hset (sh : Option Shadow) : TimeKept t { t with fv := t.fv + 1, tlm := { t.tlm with shadow := sh } } :=
    ⟨rfl, rfl, RegsIn.of_regs rfl⟩
  exact ((hset _).trans (put_below _ 1 (by decide) (by decide))).trans (put_below _ _ (by decide) (by decide))

theorem steppedTime (s : State) : TimeKept s s.steppedTime := by
  have h1 : TimeKept s ((if s.tlm.running then State.tlmCount { s with tlm := { s.tlm with stepped := true } } 5 1 else s).raise
      F.KV_TLM_EVT_time_step) :=
    (ite ((windows s _).trans (tlmCount _ 1 (by decide))) (refl s)).trans (put_below _ 1 (by decide) (by decide))
  exact ite (h1.trans (windowTick _)) h1

end TimeKept

/-! ### TIME_STEP (R115) -/

theorem exec_timeStep (s : State) : exec .timeStep s = okIf s.awake s s.timeStep := rfl

theorem stepTime_forward {step : Nat} (time : Nat) (h : step < 2 ^ 39) : stepTime time step = (time + step) % 2 ^ 64 := by
  have hs : sgn 40 step = (step : Int) := by
    unfold sgn
    rw [if_pos (by omega)]
    omega
  unfold stepTime unsgn
  rw [hs]
  omega

theorem stepTime_back {step : Nat} (time : Nat) (h : 2 ^ 39 ≤ step) (h40 : step < 2 ^ 40) :
    stepTime time step = (time + 2 ^ 64 - (2 ^ 40 - step)) % 2 ^ 64 := by
  have hs : sgn 40 step = (step : Int) - 2 ^ 40 := by
    unfold sgn
    rw [if_neg (by omega)]
    omega
  unfold stepTime unsgn
  rw [hs]
  omega

/-- The step taken: the time with it, and the register done with it. -/
theorem State.timeStep_shows (s : State) : s.timeStep.time = stepTime s.time (s.get F.TF_TIME_STEP_step_ns) ∧
    s.timeStep.up = s.up ∧ s.timeStep.get F.TF_TIME_STEP_step_go = 0 := by
  unfold State.timeStep
  have hset (t : Nat) : (s.setTime t).time = t ∧ (s.setTime t).up = s.up := ⟨rfl, rfl⟩
  obtain ⟨htime, hup⟩ := hset (stepTime s.time (s.get F.TF_TIME_STEP_step_ns))
  generalize s.setTime (stepTime s.time (s.get F.TF_TIME_STEP_step_ns)) = u at htime hup ⊢
  have hk := TimeKept.steppedTime (u.zero F.TF_TIME_STEP_step_go)
  refine ⟨hk.time.trans ?_, hk.up.trans ?_, ?_⟩
  · rw [State.zero, State.put_time, htime]
  · rw [State.zero, State.put_up, hup]
  · rw [hk.step.get_of (f := F.TF_TIME_STEP_step_go) (i := 0) (by decide) (by decide), State.get_zero_self _ _ _ _ (by decide)]

theorem timeStep_answers {s : State} (ha : s.awake = true) :
    Answers .timeStep s (fun t => (s.get F.TF_TIME_STEP_step_ns < 2 ^ 39 →
        t.time = (s.time + s.get F.TF_TIME_STEP_step_ns) % 2 ^ 64) ∧
      (2 ^ 39 ≤ s.get F.TF_TIME_STEP_step_ns →
        t.time = (s.time + 2 ^ 64 - (2 ^ 40 - s.get F.TF_TIME_STEP_step_ns)) % 2 ^ 64) ∧
      t.get F.TF_TIME_STEP_step_go = 0 ∧ t.up = s.up) := by
  obtain ⟨htime, hup, hgo⟩ := s.timeStep_shows
  have h40 : s.get F.TF_TIME_STEP_step_ns < 2 ^ 40 := s.get_lt _ _ _
  refine answers_okIf (exec_timeStep s) ha ⟨fun h => ?_, fun h => ?_, ?_, ?_⟩
  · rw [State.settle_time, htime, stepTime_forward _ h]
  · rw [State.settle_time, htime, stepTime_back _ h h40]
  · rw [State.get_settle_high _ (by decide), hgo]
  · rw [State.settle_up, hup]

end Sys2Proof.Machine
end

section
/-! PROOFS. Pulses, time-of-day messages and timestamps (R118, R120, R831 to R833), and the states of ports told to and by other
modules (R397, R503). -/

namespace Sys2Proof.Machine

/-! ### Pulses (R120, R832, R833) -/

/-- The state of the ports as a pulse goes out. -/
def State.pulsed (s : State) : PortSt := { s.port with
  ppsDue := false
  ppsHigh := s.up + 100000
  todDue := if s.flag F.TF_TOD_TX_tx_en then some (s.time / 1000000000) else none }

theorem exec_ppsOut (s : State) : exec .ppsOut s =
    okIf (s.awake && s.port.ppsDue) s { s.emit .ppsPulse with port := s.pulsed } := rfl

/-- The state as an edge arrives. -/
def State.edgeSeen (s : State) : State := { s with port := { s.port with ppsIn := some s.up } }

theorem exec_ppsInEdge (s : State) : exec .ppsInEdge s =
    okIf s.awake s ((s.edgeSeen.put F.TF_PPS_CAP_pps_time s.time).zero F.TF_TOD_RX_valid) := rfl

/-- A state whose ports and registers alone are another's. -/
theorem settledPort {s t : State} {p : PortSt} {regs : Tab Word} (h : t = { s with port := p, regs := regs }) :
    t.settle = { s.settled t.settle with port := p } := by
  obtain ⟨regs', out, q, a, fails, hs⟩ := State.settle_keeps t
  rw [hs, h]
  rfl

section
variable {s : State}

theorem ppsOut_answers (ha : s.awake = true) (hd : s.port.ppsDue = true) :
    Answers .ppsOut s (fun t => .ppsPulse ∈ t.out ∧
      t.port = { s.port with
        ppsDue := false
        ppsHigh := s.up + 100000
        todDue := if s.flag F.TF_TOD_TX_tx_en then some (s.time / 1000000000) else none } ∧ RegsBut [] s t) := by
  refine answers_okIf (exec_ppsOut s) (by rw [ha, hd]; rfl) ⟨State.mem_out_settle ?_, ?_, regsBut_settle_of_regs rfl⟩
  · exact List.mem_append_right s.out (List.mem_singleton_self _)
  · rw [State.settle_port]
    rfl

theorem ppsInEdge_answers (ha : s.awake = true) :
    Answers .ppsInEdge s (fun t => t.get F.TF_PPS_CAP_pps_time = s.time % 2 ^ 64 ∧
      t.flag F.TF_TOD_RX_valid = false ∧ t.get F.TF_TOD_RX_seconds = s.get F.TF_TOD_RX_seconds ∧
      t = { s.settled t with port := { s.port with ppsIn := some s.up } } ∧
      RegsBut [regAddr R.TF_PPS_CAP 0 0, regAddr R.TF_TOD_RX 0 0] s t) := by
  have hcap (u : State) : (u.zero F.TF_TOD_RX_valid).get F.TF_PPS_CAP_pps_time = u.get F.TF_PPS_CAP_pps_time :=
    State.get_put_of u 0 (by decide) (by decide) (by decide)
  have hsec (u : State) (v : Nat) : (u.put F.TF_PPS_CAP_pps_time v).get F.TF_TOD_RX_seconds = u.get F.TF_TOD_RX_seconds :=
    State.get_put_of u v (by decide) (by decide) (by decide)
  have hedge (f : Fld) (i j : Nat) : s.edgeSeen.get f i j = s.get f i j := State.get_congr rfl f i j
  have hbut : RegsBut [regAddr R.TF_PPS_CAP 0 0, regAddr R.TF_TOD_RX 0 0] s s.edgeSeen := fun _ _ _ _ _ => rfl
  refine answers_okIf (exec_ppsInEdge s) ha ⟨?_, ?_, ?_, ?_, ?_⟩
  · rw [State.get_settle_high _ (by decide), hcap, State.get_put_self _ _ _ _ _ (by decide)]
    rfl
  · rw [State.flag, State.get_settle_high _ (by decide), State.get_zero_self _ _ _ _ (by decide)]
    rfl
  · rw [State.get_settle_high _ (by decide), State.get_zero_fld (f := F.TF_TOD_RX_valid) (g := F.TF_TOD_RX_seconds) _ rfl
      (by decide) (by decide), hsec, hedge]
  · obtain ⟨regs, hp⟩ := s.edgeSeen.put_keeps F.TF_PPS_CAP_pps_time s.time 0 0
    obtain ⟨regs', hz⟩ := (s.edgeSeen.put F.TF_PPS_CAP_pps_time s.time).put_keeps F.TF_TOD_RX_valid 0 0 0
    exact settledPort (regs := regs') (by rw [State.zero, hz, hp]; rfl)
  · exact regsBut_settle_of (regsBut_put (regsBut_put hbut (by simp [F.TF_PPS_CAP_pps_time])) (by simp [F.TF_TOD_RX_valid]))

end

/-! ### Time-of-day messages (R831, R832) -/

/-- The bytes of a message that its check covers. -/
def todBody (sec flags : Nat) : List Byte := 0x01 :: (beBytes 6 sec ++ [BitVec.ofNat 8 flags])

/-- Its check. -/
def todCheck (sec flags : Nat) : Byte := BitVec.ofNat 8 (crc8 (todBody sec flags))

theorem todBytes_eq (sec flags : Nat) : todBytes sec flags = 0x55 :: 0xAA :: (todBody sec flags ++ [todCheck sec flags]) := rfl

/-- One bit of the check: a doubled number with bit 8 loses it to the polynomial. -/
theorem crc8Step_lt {x : Nat} (h : x < 256) : (if 128 ≤ x then (x * 2) ^^^ 0x107 else x * 2) < 256 := by
  have hall : ∀ a < 16, ∀ b < 16,
      (if 128 ≤ 16 * a + b then ((16 * a + b) * 2) ^^^ 0x107 else (16 * a + b) * 2) < 256 := by decide
  have := hall (x / 16) (by omega) (x % 16) (by omega)
  rwa [Nat.div_add_mod] at this

/-- What every step keeps below a bound, a fold does. -/
theorem foldl_lt {α : Type} {step : Nat → α → Nat} {n : Nat} (h : ∀ c x, c < n → step c x < n) (l : List α) {c : Nat}
    (hc : c < n) : l.foldl step c < n := by
  induction l generalizing c with
  | nil => exact hc
  | cons x l ih =>
    rw [List.foldl_cons]
    exact ih (h c x hc)

theorem crc8Byte_lt {c : Nat} (b : Byte) (hc : c < 256) : crc8Byte c b < 256 := by
  unfold crc8Byte
  exact foldl_lt (fun _ _ h => crc8Step_lt h) _ (Nat.xor_lt_two_pow (n := 8) hc b.isLt)

theorem crc8_lt (l : List Byte) : crc8 l < 256 := by
  unfold crc8
  exact foldl_lt (fun _ b h => crc8Byte_lt b h) l (by decide)

theorem length_beBytes (n x : Nat) : (beBytes n x).length = n := by simp [beBytes]

theorem beNat_singleton (b : Byte) : beNat [b] = b.toNat := by simp [beNat]

theorem beNat_beBytes_six {x : Nat} (h : x < 2 ^ 48) : beNat (beBytes 6 x) = x := by
  simp [beNat, beBytes, List.range_succ]
  omega

section
variable (sec flags : Nat)

theorem length_todBody : (todBody sec flags).length = 8 := by simp [todBody, length_beBytes]

/-- Where a message has its preamble and type, its body, its check, its seconds and its flags. -/
theorem todBytes_parts : (todBytes sec flags).take 3 = [0x55, 0xAA, 0x01] ∧
    ((todBytes sec flags).drop 2).take 8 = todBody sec flags ∧ (todBytes sec flags).drop 10 = [todCheck sec flags] ∧
    ((todBytes sec flags).drop 3).take 6 = beBytes 6 sec ∧ ((todBytes sec flags).drop 9).take 1 = [BitVec.ofNat 8 flags] := by
  have hb := length_todBody sec flags
  have h6 := length_beBytes 6 sec
  have htail : (todBytes sec flags).drop 3 = beBytes 6 sec ++ [BitVec.ofNat 8 flags, todCheck sec flags] := by
    simp [todBytes_eq, todBody]
  refine ⟨rfl, ?_, ?_, ?_, ?_⟩
  · rw [todBytes_eq, List.drop_succ_cons, List.drop_succ_cons, List.drop_zero, List.take_left' hb]
  · rw [todBytes_eq, List.drop_succ_cons, List.drop_succ_cons, List.drop_left' hb]
  · rw [htail, List.take_left' h6]
  · rw [show (todBytes sec flags).drop 9 = ((todBytes sec flags).drop 3).drop 6 by rw [List.drop_drop], htail,
      List.drop_left' h6]
    rfl

theorem todOk_todBytes : todOk (todBytes sec flags) = true := by
  obtain ⟨hhead, hbody, hcheck, -, -⟩ := todBytes_parts sec flags
  have hc : crc8 (todBody sec flags) = (todCheck sec flags).toNat := by
    rw [todCheck, BitVec.toNat_ofNat, Nat.mod_eq_of_lt (crc8_lt _)]
  unfold todOk
  rw [hhead, hbody, hcheck, beNat_singleton, hc]
  simp

end

theorem exec_todTxStart {s : State} {sec : Nat} (h : s.port.todDue = some sec) : exec .todTxStart s =
    okIf (s.awake && decide (s.port.ppsHigh + 9900000 ≤ s.up)) s
      { s.emit (.todTx (todBytes sec (s.get F.TF_TOD_TX_tx_flags))) with port := { s.port with todDue := none } } := by
  have he : exec .todTxStart s = execTodTxStart s := rfl
  rw [he, execTodTxStart, h]

/-- What a time-of-day register shows of a message. -/
def State.todShown (s : State) (sec flags : Nat) : State :=
  ((s.put F.TF_TOD_RX_seconds sec).put F.TF_TOD_RX_flags flags).put F.TF_TOD_RX_valid 1

theorem todShown_onlyRegs (s : State) (sec flags : Nat) : OnlyRegs [regAddr R.TF_TOD_RX 0 0] s (s.todShown sec flags) :=
  (((OnlyRegs.refl _ s).put _ (by simp [F.TF_TOD_RX_seconds])).put _ (by simp [F.TF_TOD_RX_flags])).put _
    (by simp [F.TF_TOD_RX_valid])

theorem exec_todMessageRx (head body check : List Byte) (s : State) : exec (.todMessageRx head body check) s =
    okIf (s.awake && todOk (head ++ body ++ check) && s.todOpen) s
      (s.todShown (beNat (((head ++ body ++ check).drop 3).take 6)) (beNat (((head ++ body ++ check).drop 9).take 1))) := rfl

section
variable {s : State}

theorem todTxStart_answers {sec : Nat} (ha : s.awake = true) (hd : s.port.todDue = some sec)
    (ht : s.port.ppsHigh + 9900000 ≤ s.up) :
    Answers .todTxStart s (fun t => (∃ b : Byte, .todTx ([0x55, 0xAA, 0x01] ++ beBytes 6 sec ++
        [BitVec.ofNat 8 (s.get F.TF_TOD_TX_tx_flags), b]) ∈ t.out ∧
        crc8 ([0x01] ++ beBytes 6 sec ++ [BitVec.ofNat 8 (s.get F.TF_TOD_TX_tx_flags)]) % 256 = b.toNat) ∧
      t.port = { s.port with todDue := none } ∧ RegsBut [] s t) := by
  refine answers_okIf (exec_todTxStart hd) (by rw [ha, decide_eq_true ht]; rfl)
    ⟨⟨todCheck sec (s.get F.TF_TOD_TX_tx_flags), State.mem_out_settle ?_, ?_⟩, ?_, regsBut_settle_of_regs rfl⟩
  · have hbytes : [0x55, 0xAA, 0x01] ++ beBytes 6 sec ++ [BitVec.ofNat 8 (s.get F.TF_TOD_TX_tx_flags),
        todCheck sec (s.get F.TF_TOD_TX_tx_flags)] = todBytes sec (s.get F.TF_TOD_TX_tx_flags) := by
      simp [todBytes_eq, todBody]
    rw [hbytes]
    exact List.mem_append_right s.out (List.mem_singleton_self _)
  · have hbody : [0x01] ++ beBytes 6 sec ++ [BitVec.ofNat 8 (s.get F.TF_TOD_TX_tx_flags)] =
        todBody sec (s.get F.TF_TOD_TX_tx_flags) := rfl
    rw [hbody, todCheck]
    generalize crc8 (todBody sec (s.get F.TF_TOD_TX_tx_flags)) = c
    exact (BitVec.toNat_ofNat c 8).symm
  · rw [State.settle_port]

theorem todMessageRx_taken {sec flags edge : Nat} {head body check : List Byte} (ha : s.awake = true)
    (hin : s.port.ppsIn = some edge) (ht : s.up ≤ edge + 900000000) (hsec : sec < 2 ^ 48) (hflags : flags < 256)
    (hm : head ++ body ++ check = todBytes sec flags) :
    Answers (.todMessageRx head body check) s (fun t => t.get F.TF_TOD_RX_seconds = sec ∧
      t.get F.TF_TOD_RX_flags = flags ∧ t.flag F.TF_TOD_RX_valid = true ∧
      OnlyRegs [regAddr R.TF_TOD_RX 0 0] s t) := by
  obtain ⟨-, -, -, hs, hf⟩ := todBytes_parts sec flags
  have hopen : s.todOpen = true := by
    unfold State.todOpen
    rw [hin, Option.any_some, decide_eq_true ht]
  have hseconds : beNat (((head ++ body ++ check).drop 3).take 6) = sec := by rw [hm, hs, beNat_beBytes_six hsec]
  have hflag : beNat (((head ++ body ++ check).drop 9).take 1) = flags := by
    rw [hm, hf, beNat_singleton, BitVec.toNat_ofNat]
    exact Nat.mod_eq_of_lt hflags
  have he := exec_todMessageRx head body check s
  rw [hseconds, hflag, hm] at he
  refine answers_okIf he (by rw [ha, todOk_todBytes, hopen]; rfl) ⟨?_, ?_, ?_, ?_⟩
  · rw [State.get_settle_high _ (by decide), State.todShown]
    simp (disch := decide) only [State.get_put_fld, State.get_put_self]
    exact Nat.mod_eq_of_lt hsec
  · rw [State.get_settle_high _ (by decide), State.todShown]
    simp (disch := decide) only [State.get_put_fld, State.get_put_self]
    exact Nat.mod_eq_of_lt hflags
  · rw [State.flag_eq_true, State.get_settle_high _ (by decide), State.todShown, State.get_put_self _ _ _ _ _ (by decide)]
    rfl
  · exact (todShown_onlyRegs s sec flags).settle

theorem todMessageRx_ignored {m head body check : List Byte} (hm : head ++ body ++ check = m)
    (h : m.take 3 ≠ [0x55, 0xAA, 0x01] ∨ crc8 ((m.drop 2).take 8) ≠ beNat (m.drop 10) ∨
      ∀ edge, s.port.ppsIn = some edge → edge + 900000000 < s.up) :
    Answers (.todMessageRx head body check) s (OnlyRegs [] s) := by
  have hno : (s.awake && todOk (head ++ body ++ check) && s.todOpen) = false := by
    rw [hm]
    rcases h with hhead | hcrc | hlate
    · have : todOk m = false := by
        unfold todOk
        rw [beq_eq_false_iff_ne.2 hhead, Bool.false_and]
      rw [this, Bool.and_false, Bool.false_and]
    · have : todOk m = false := by
        unfold todOk
        rw [decide_eq_false hcrc, Bool.and_false]
      rw [this, Bool.and_false, Bool.false_and]
    · have : s.todOpen = false := by
        unfold State.todOpen
        rcases Option.eq_none_or_eq_some s.port.ppsIn with hn | ⟨edge, he⟩
        · rw [hn, Option.any_none]
        · rw [he, Option.any_some, decide_eq_false (by have := hlate edge he; omega)]
      rw [this, Bool.and_false]
  refine ⟨s.settle, ?_, onlyRegs_settle_refl [] s⟩
  rw [exec_todMessageRx, hno, okIf_false]

/-! ### Transmit timestamps (R118, R120) -/

theorem exec_ptpTxtsPop (l : Nat) (s : State) : exec (.ptpTxtsPop l) s =
    okIf (s.awake && s.present l) s (s.setLp l { s.lp l with txts := (s.lp l).txts.drop 1 }) := rfl

theorem ptpTxtsPop_answers {l : Nat} (ha : s.awake = true) (hp : s.present l = true) :
    Answers (.ptpTxtsPop l) s (fun t => t.lp l = { s.lp l with txts := (s.lp l).txts.tail } ∧
      (∀ k, k ≠ l → t.lp k = s.lp k) ∧ RegsBut [] s t) := by
  refine answers_okIf (exec_ptpTxtsPop l s) (by rw [ha, hp]; rfl) ⟨?_, fun k hk => ?_, regsBut_settle_of_regs rfl⟩
  · rw [State.lp_settle, State.lp_setLp_self, List.drop_one]
  · rw [State.lp_settle, State.lp_setLp_ne _ _ hk]

end

/-! ### PORT_STATE_REFRESH (R503) -/

/-- The states of some ports told to a module. -/
def State.tellStates (s : State) (m : Nat) (ls : List Nat) : State :=
  ls.foldl (fun t l => t.sendCtl m (portStateMsg l (t.link l = 4))) s

theorem State.sendAllStates_eq (s : State) (m : Nat) : s.sendAllStates m = s.tellStates m (List.range 256) := rfl

theorem State.sansFab_sendCtl (s : State) (m : Nat) (w : Word) : (s.sendCtl m w).sansFab = s.sansFab := rfl

theorem State.link_sendCtl (s : State) (m : Nat) (w : Word) (l : Nat) : (s.sendCtl m w).link l = s.link l :=
  State.get_congr (congrArg (·.regs) (s.sansFab_sendCtl m w)) _ _ _

theorem State.msgs_sendCtl_ne (s : State) {m k : Nat} (w : Word) (h : k ≠ m) : (s.sendCtl m w).msgs k = s.msgs k :=
  State.msgs_setMsgs_ne _ _ h

section
variable (m : Nat)

theorem State.sansFab_tellStates (s : State) (ls : List Nat) : (s.tellStates m ls).sansFab = s.sansFab :=
  foldl_fixes State.sansFab (step := fun t l => t.sendCtl m (portStateMsg l (t.link l = 4)))
    (fun t _ _ => t.sansFab_sendCtl m _) s

theorem State.link_tellStates (s : State) (ls : List Nat) (l : Nat) : (s.tellStates m ls).link l = s.link l :=
  foldl_fixes (·.link l) (step := fun t l => t.sendCtl m (portStateMsg l (t.link l = 4)))
    (fun t _ _ => t.link_sendCtl m _ l) s

theorem State.msgs_tellStates_ne (s : State) (ls : List Nat) {k : Nat} (h : k ≠ m) : (s.tellStates m ls).msgs k = s.msgs k :=
  foldl_fixes (·.msgs k) (step := fun t l => t.sendCtl m (portStateMsg l (t.link l = 4)))
    (fun t _ _ => t.msgs_sendCtl_ne _ h) s

theorem State.tellStates_cons (s : State) (l : Nat) (ls : List Nat) :
    s.tellStates m (l :: ls) = (s.sendCtl m (portStateMsg l (s.link l = 4))).tellStates m ls := rfl

theorem State.mem_ctl_tellStates {s : State} (ls : List Nat) {k : Nat} {x : Word} (h : x ∈ (s.msgs k).ctl) :
    x ∈ ((s.tellStates m ls).msgs k).ctl := by
  induction ls generalizing s with
  | nil => exact h
  | cons l ls ih =>
    rw [State.tellStates_cons]
    exact ih (State.mem_ctl_sendCtl m _ h)

/-- A module told the states of some ports is told each of them. -/
theorem State.told_tellStates (s : State) {l : Nat} {ls : List Nat} (h : l ∈ ls) :
    portStateMsg l (decide (s.link l = 4)) ∈ ((s.tellStates m ls).msgs m).ctl := by
  induction ls generalizing s with
  | nil => exact absurd h List.not_mem_nil
  | cons k ls ih =>
    rw [State.tellStates_cons]
    rcases List.mem_cons.1 h with rfl | hm
    · refine State.mem_ctl_tellStates m ls ?_
      rw [State.ctl_sendCtl, if_pos rfl]
      exact List.mem_append_right _ (List.mem_singleton_self _)
    · rw [← s.link_sendCtl m (portStateMsg k (s.link k = 4)) l]
      exact ih _ hm

end

/-- The states of all ports told to some modules. -/
def State.tellAll (s : State) (ms : List Nat) : State := ms.foldl State.sendAllStates s

theorem State.tellAll_cons (s : State) (m : Nat) (ms : List Nat) :
    s.tellAll (m :: ms) = (s.tellStates m (List.range 256)).tellAll ms := by
  rw [State.tellAll, List.foldl_cons, State.sendAllStates_eq, State.tellAll]

theorem State.sansFab_tellAll (s : State) (ms : List Nat) : (s.tellAll ms).sansFab = s.sansFab := by
  refine foldl_fixes State.sansFab (step := State.sendAllStates) (fun t m _ => ?_) s
  rw [State.sendAllStates_eq, State.sansFab_tellStates]

theorem State.msgs_tellAll_ne (s : State) {ms : List Nat} {k : Nat} (h : k ∉ ms) : (s.tellAll ms).msgs k = s.msgs k := by
  refine foldl_fixes (·.msgs k) (step := State.sendAllStates) (fun t m hm => ?_) s
  rw [State.sendAllStates_eq]
  exact t.msgs_tellStates_ne m _ fun he => h (he ▸ hm)

theorem State.mem_ctl_tellAll {s : State} (ms : List Nat) {k : Nat} {x : Word} (h : x ∈ (s.msgs k).ctl) :
    x ∈ ((s.tellAll ms).msgs k).ctl := by
  induction ms generalizing s with
  | nil => exact h
  | cons m ms ih =>
    rw [State.tellAll_cons]
    exact ih (State.mem_ctl_tellStates m _ h)

theorem State.told_tellAll (s : State) {ms : List Nat} {m l : Nat} (hm : m ∈ ms) (hl : l < 256) :
    portStateMsg l (decide (s.link l = 4)) ∈ ((s.tellAll ms).msgs m).ctl := by
  induction ms generalizing s with
  | nil => exact absurd hm List.not_mem_nil
  | cons k ms ih =>
    rw [State.tellAll_cons]
    rcases List.mem_cons.1 hm with rfl | hm
    · exact State.mem_ctl_tellAll ms (s.told_tellStates m (List.mem_range.2 hl))
    · rw [← s.link_tellStates k (List.range 256) l]
      exact ih _ hm

theorem exec_portStateRefresh (s : State) : exec .portStateRefresh s = okIf s.live s (s.tellAll s.reachables) := rfl

theorem portStateRefresh_answers {s : State} (hlive : s.live = true) :
    Answers .portStateRefresh s (fun t => (∀ m ∈ s.reachables, ∀ l < 256,
        portStateMsg l (decide (s.link l = 4)) ∈ (t.msgs m).ctl) ∧
      (∀ m, m ∉ s.reachables → t.msgs m = s.msgs m) ∧ t.buf = s.buf ∧ RegsBut [] s t) := by
  have hsans := s.sansFab_tellAll s.reachables
  refine answers_okIf (exec_portStateRefresh s) hlive ⟨fun m hm l hl => ?_, fun m hm => ?_, ?_, ?_⟩
  · rw [State.msgs_congr (State.settle_fab _)]
    exact s.told_tellAll hm hl
  · rw [State.msgs_congr (State.settle_fab _), s.msgs_tellAll_ne hm]
  · rw [State.settle_buf]
    exact congrArg (·.buf) hsans
  · exact regsBut_settle_of_regs (congrArg (·.regs) hsans)

/-! ### PORT_STATE_MESSAGE (R397, R503) -/

theorem exec_portStateMessage (m : Nat) (w : Word) (s : State) : exec (.portStateMessage m w) s =
    okIf (s.live && decide (m ≠ s.myId)) s (s.controlMsg m w) := rfl

/-- A state with other views of ports. -/
def State.withViews (s : State) (views : Tab PView) (holdAt : Tab Nat) : State :=
  { s with buf := { s.buf with views := views, holdAt := holdAt } }

theorem State.setView_eq (s : State) (m l : Nat) (v : PView) : s.setView m l v =
    s.withViews (tput s.buf.views (viewKey m l) v .down)
      (if v = .hold then tset s.buf.holdAt (viewKey m l) s.up else tdel s.buf.holdAt (viewKey m l)) := rfl

theorem State.withViews_self (s : State) : s.withViews s.buf.views s.buf.holdAt = s := rfl

theorem State.view_setView_ne (s : State) {m l k n : Nat} (v : PView) (h : viewKey k n ≠ viewKey m l) :
    (s.setView m l v).view k n = s.view k n := tget_tput_ne _ _ _ _ h

/-- What a state with other views is, settled. -/
theorem settledViews (s : State) (views : Tab PView) (holdAt : Tab Nat) :
    (s.withViews views holdAt).settle = { s.settled (s.withViews views holdAt).settle with buf := { s.buf with
      views := (s.withViews views holdAt).settle.buf.views
      holdAt := (s.withViews views holdAt).settle.buf.holdAt } } := by
  obtain ⟨regs, out, p, a, fails, hs⟩ := State.settle_keeps (s.withViews views holdAt)
  rw [hs]
  rfl

section
variable (s : State) {m : Nat} (l : Nat)

/-- The view of a port that another module reports. -/
theorem State.report_other (up : Bool) (hm : m ≠ s.myId) : s.report m l up =
    if up then (if s.viewUp m l then s else s.setView m l .up) else if s.viewUp m l then s.setView m l .hold else s := by
  unfold State.report
  dsimp only
  rw [if_neg hm]

theorem State.report_withViews (up : Bool) (hm : m ≠ s.myId) : ∃ views holdAt, s.report m l up = s.withViews views holdAt := by
  rw [State.report_other s l up hm]
  refine State.ite_ind (P := fun t => ∃ views holdAt, t = s.withViews views holdAt)
    (fun _ => State.ite_ind (P := fun t => ∃ views holdAt, t = s.withViews views holdAt) (fun _ => ?_) fun _ => ?_)
    fun _ => State.ite_ind (P := fun t => ∃ views holdAt, t = s.withViews views holdAt) (fun _ => ?_) fun _ => ?_
  · exact ⟨_, _, s.withViews_self.symm⟩
  · exact ⟨_, _, s.setView_eq m l .up⟩
  · exact ⟨_, _, s.setView_eq m l .hold⟩
  · exact ⟨_, _, s.withViews_self.symm⟩

theorem State.view_report_other (up : Bool) (hm : m ≠ s.myId) : (s.report m l up).view m l =
    if up then .up else if s.viewUp m l then .hold else s.view m l := by
  cases up with
  | true =>
    rw [if_pos rfl]
    exact s.view_report_up m l
  | false =>
    rw [State.report_other s l false hm, if_neg Bool.false_ne_true, if_neg Bool.false_ne_true]
    by_cases h : s.viewUp m l = true
    · rw [if_pos h, if_pos h, State.view_setView]
    · rw [if_neg h, if_neg h]

theorem State.view_report_ne (up : Bool) (hm : m ≠ s.myId) {k n : Nat} (h : viewKey k n ≠ viewKey m l) :
    (s.report m l up).view k n = s.view k n := by
  rw [State.report_other s l up hm]
  exact State.ite_ind (P := fun t => t.view k n = s.view k n)
    (fun _ => State.ite_ind (P := fun t => t.view k n = s.view k n) (fun _ => rfl) fun _ => s.view_setView_ne _ h)
    fun _ => State.ite_ind (P := fun t => t.view k n = s.view k n) (fun _ => s.view_setView_ne _ h) fun _ => rfl

end

theorem State.controlMsg_report {s : State} {w : Word} (m : Nat) (h : bits w.toNat 0 4 = 0) :
    s.controlMsg m w = s.report m (bits w.toNat 4 8) (bitOf w.toNat 12) := if_pos h

theorem State.controlMsg_other {s : State} {w : Word} (m : Nat) (h : bits w.toNat 0 4 ≠ 0) : s.controlMsg m w = s := if_neg h

theorem portStateMessage_answers {s : State} {m : Nat} (w : Word) (hlive : s.live = true) (hm : m ≠ s.myId) :
    Answers (.portStateMessage m w) s (fun t =>
      (bits w.toNat 0 4 = 0 → t.view m (bits w.toNat 4 8) =
        if bitOf w.toNat 12 then .up else if s.viewUp m (bits w.toNat 4 8) then .hold
          else s.view m (bits w.toNat 4 8)) ∧
      (bits w.toNat 0 4 ≠ 0 → t.buf = s.buf) ∧
      (∀ k l, viewKey k l ≠ viewKey m (bits w.toNat 4 8) → t.view k l = s.view k l) ∧
      t = { s.settled t with buf := { s.buf with
        views := t.buf.views
        holdAt := t.buf.holdAt } } ∧ RegsBut [] s t) := by
  refine answers_okIf (exec_portStateMessage m w s) (by rw [hlive, decide_eq_true hm]; rfl) ?_
  have hsettled (t : State) (k l : Nat) : t.settle.view k l = t.view k l := State.view_congr t.settle_buf k l
  by_cases h0 : bits w.toNat 0 4 = 0
  · obtain ⟨views, holdAt, hw⟩ := s.report_withViews (bits w.toNat 4 8) (bitOf w.toNat 12) hm
    have hview := s.view_report_other (bits w.toNat 4 8) (bitOf w.toNat 12) hm
    have hother (k l : Nat) (h : viewKey k l ≠ viewKey m (bits w.toNat 4 8)) :=
      s.view_report_ne (bits w.toNat 4 8) (bitOf w.toNat 12) hm h
    rw [State.controlMsg_report m h0]
    rw [hw] at hview hother ⊢
    exact ⟨fun _ => (hsettled _ _ _).trans hview, fun h => absurd h0 h, fun k l h => (hsettled _ _ _).trans (hother k l h),
      settledViews s views holdAt, regsBut_settle_of_regs rfl⟩
  · rw [State.controlMsg_other m h0]
    exact ⟨fun h => absurd h h0, fun _ => s.settle_buf, fun k l _ => hsettled s k l,
      settledViews s s.buf.views s.buf.holdAt, regsBut_settle [] s⟩

/-- Settles O46: one lemma for each command, of time and of the states of ports. -/
theorem timeStepsPulsesAndPortStateMessages : Obligations.TimeStepsPulsesAndPortStateMessages := by
  refine ⟨?_, ?_, ?_, ?_, ?_, ?_, ?_, ?_, ?_⟩
  · exact fun s ha => timeStep_answers ha
  · exact fun s ha hd => ppsOut_answers ha hd
  · exact fun s ha => ppsInEdge_answers ha
  · exact fun sec s ha hd ht => todTxStart_answers ha hd ht
  · exact fun sec flags edge head body check s ha hin ht hsec hflags hm => todMessageRx_taken ha hin ht hsec hflags hm
  · exact fun m head body check s _ hm h => todMessageRx_ignored hm h
  · exact fun l s ha hp => ptpTxtsPop_answers ha hp
  · exact fun s hlive => portStateRefresh_answers hlive
  · exact fun m w s hlive hm => portStateMessage_answers w hlive hm

end Sys2Proof.Machine
end

section
/-! PROOFS. The receive path of a framed port: its contents, its status and its events under the operations that move the
aligner (R136, R139, R165). -/

namespace Sys2Proof.Machine

/-! ### The contents of the path -/

theorem State.frm_congr {s t : State} (h : t.port = s.port) (k : Nat) : t.frm k = s.frm k := by
  rw [State.frm, h, State.frm]

section
variable (s : State) (l : Nat) (f : FrmSt)

@[simp] theorem State.frm_put (g : Fld) (v i j k : Nat) : (s.put g v i j).frm k = s.frm k :=
  State.frm_congr (s.port_put g v i j) k

@[simp] theorem State.frm_raise (g : Fld) (i j k : Nat) : (s.raise g i j).frm k = s.frm k := s.frm_put g 1 i j k

@[simp] theorem State.frm_count (g : CntGroup) (c i n k : Nat) : (s.count g c i n).frm k = s.frm k :=
  State.frm_congr (s.port_count g c i n) k

@[simp] theorem State.frm_settle (k : Nat) : s.settle.frm k = s.frm k := State.frm_congr s.settle_port k

/-- What a framed port stores among the framed ports. -/
theorem State.frms_setFrm : (s.setFrm l f).port.frm = tput s.port.frm l f frm0 := by
  rw [State.setFrm_eq, State.port_frmShown]
  exact State.ite_ind (P := fun t => t.port.frm = tput s.port.frm l f frm0) (fun _ => rfl) fun _ => rfl

@[simp] theorem State.frm_setFrm_self : (s.setFrm l f).frm l = f := by
  rw [State.frm, State.frms_setFrm, tget_tput_self]

theorem State.frm_setFrm_ne {k : Nat} (h : k ≠ l) : (s.setFrm l f).frm k = s.frm k := by
  rw [State.frm, State.frms_setFrm, tget_tput_ne _ _ _ _ h, State.frm]

theorem State.frm_frmOof : (s.frmOof l).frm l = enterOof (s.frm l) :=
  s.frmOof_port (P := fun x => tget x.frm l frm0 = enterOof (s.frm l)) l (s.frm_setFrm_self l _)

end

/-! ### The status register (R165) -/

/-- The fields that show the aligner, its candidates, the demapper and the samples of a path. -/
def alignerFlds : List Fld :=
  [F.TF_FRM_STAT_aligner, F.TF_FRM_STAT_candidates, F.TF_FRM_STAT_demap_lock, F.TF_FRM_STAT_aps_count, F.TF_FRM_STAT_mfas]

/-- A field of the status beside those: a lock, a skew or a defect. -/
structure BesideAligner (g : Fld) : Prop where
  reg : g.reg = R.TF_FRM_STAT
  apart : ∀ f ∈ alignerFlds, f.lo + f.w ≤ g.lo ∨ g.lo + g.w ≤ f.lo

theorem besideAligner_lock : BesideAligner F.TF_FRM_STAT_instance_lock := ⟨rfl, by decide⟩
theorem besideAligner_skew : BesideAligner F.TF_FRM_STAT_skew_ns := ⟨rfl, by decide⟩
theorem besideAligner_exceeded : BesideAligner F.TF_FRM_STAT_skew_exceeded := ⟨rfl, by decide⟩

theorem alignerFlds_fit : ∀ f ∈ alignerFlds, f.lo + f.w ≤ 64 := by decide

theorem alignerFlds_reg : ∀ f ∈ alignerFlds, f.reg = R.TF_FRM_STAT := by
  simp [alignerFlds, F.TF_FRM_STAT_aligner, F.TF_FRM_STAT_candidates, F.TF_FRM_STAT_demap_lock, F.TF_FRM_STAT_aps_count,
    F.TF_FRM_STAT_mfas]

section
variable (s : State) {l : Nat} (f : FrmSt) {g : Fld}

theorem State.get_put_aligner (hg : BesideAligner g) {a : Fld} (ha : a ∈ alignerFlds) (v : Nat) :
    (s.put a v l).get g l = s.get g l :=
  s.get_put_fld v (hg.reg.trans (alignerFlds_reg a ha).symm) (alignerFlds_fit a ha) (hg.apart a ha)

theorem State.get_setFrm (hg : BesideAligner g) : (s.setFrm l f).get g l = s.get g l := by
  rw [State.setFrm_eq, State.frmShown]
  have hp (t : State) {a : Fld} (ha : a ∈ alignerFlds) (v : Nat) := t.get_put_aligner (l := l) hg ha v
  rw [hp _ (by simp [alignerFlds]), hp _ (by simp [alignerFlds]), hp _ (by simp [alignerFlds]), hp _ (by simp [alignerFlds]),
    hp _ (by simp [alignerFlds])]
  exact State.get_congr (s.regs_frmStored l f) g l 0

theorem regsBut_setFrm {m : List Nat} (hm : regAddr R.TF_FRM_STAT l 0 ∈ m) : RegsBut m s (s.setFrm l f) := by
  have hs : RegsBut m s (s.frmStored l f) := fun _ _ _ _ _ => by rw [s.regs_frmStored l f]
  exact regsBut_put (regsBut_put (regsBut_put (regsBut_put (regsBut_put hs hm) hm) hm) hm) hm

/-- The registers past the status of the framed ports. -/
theorem RegsIn.setFrm_above {lo hi : Nat} (hl : l < 256) (h : 0x106C000 ≤ lo) : RegsIn lo hi s (s.setFrm l f) := by
  have hp (t : State) {a : Fld} (ha : a ∈ alignerFlds) (v : Nat) : RegsIn lo hi t (t.put a v l) :=
    RegsIn.put_of t v (by rw [alignerFlds_reg a ha]; exact hl)
      (.inl (by rw [alignerFlds_reg a ha]; exact le_trans (by decide) h))
  rw [State.setFrm_eq, State.frmShown]
  refine RegsIn.trans ?_ (hp _ (by simp [alignerFlds]) _)
  refine RegsIn.trans ?_ (hp _ (by simp [alignerFlds]) _)
  refine RegsIn.trans ?_ (hp _ (by simp [alignerFlds]) _)
  refine RegsIn.trans ?_ (hp _ (by simp [alignerFlds]) _)
  exact (RegsIn.of_regs (s.regs_frmStored l f)).trans (hp _ (by simp [alignerFlds]) _)

/-- An event shows nothing in the status. -/
theorem State.get_raise_frmEvt {e : Fld} (hl : l < 256) (he : e.reg = R.TF_FRM_EVT) (hg : g.reg = R.TF_FRM_STAT) :
    (s.raise e l).get g l = s.get g l :=
  s.get_put_of 1 (by rw [he]; exact hl) (by rw [hg]; exact hl) (by rw [hg, he]; decide)

/-- Counts of a framed port stand past its status and its events. -/
theorem RegsIn.count_frm (k n : Nat) : RegsIn 0x1068000 0x1080000 s (s.count cgFrm k l n) :=
  RegsIn.count_above s k l n (.inr (by decide)) (by decide)

theorem State.get_frmOof (hl : l < 256) (hg : BesideAligner g) : (s.frmOof l).get g l = s.get g l := by
  have hs := s.get_setFrm (l := l) (enterOof (s.frm l)) hg
  refine State.frmOof_cases (P := fun t => t.get g l = s.get g l) s l hs ?_
  rw [State.get_raise_frmEvt _ hl rfl hg.reg,
    (RegsIn.count_frm _ 2 1).get_of (by rw [hg.reg]; exact hl) (by rw [hg.reg]; decide), hs]

/-- OOF has one event of its own. -/
theorem State.event_frmOof (hl : l < 256) (hg : g.reg = R.TF_FRM_EVT) (hlo : 1 ≤ g.lo) :
    (s.frmOof l).get g l = s.get g l := by
  have hs : (s.setFrm l (enterOof (s.frm l))).get g l = s.get g l :=
    (RegsIn.setFrm_above (lo := 0x106C000) (hi := 0x1080000) s _ hl le_rfl).get_of (by rw [hg]; exact hl)
      (by rw [hg]; decide)
  refine State.frmOof_cases (P := fun t => t.get g l = s.get g l) s l hs ?_
  rw [State.get_raise_fld (f := F.TF_FRM_EVT_oof) _ hg (by decide) (.inl hlo),
    (RegsIn.count_frm _ 2 1).get_of (by rw [hg]; exact hl) (by rw [hg]; decide), hs]

end

end Sys2Proof.Machine
end

section
/-! PROOFS. Locks, skew and defect filters of a framed receive path (R145 to R148). -/

namespace Sys2Proof.Machine

theorem State.frmRuns_lt {s : State} {l : Nat} (h : s.frmRuns l = true) : l < 256 := by
  simp only [State.frmRuns, State.isFramed, Bool.and_eq_true] at h
  obtain ⟨⟨-, hp, -⟩, -⟩ := h
  exact State.present_lt hp

theorem State.flexos_le (s : State) (l : Nat) : s.flexos l ≤ 16 := by
  have h (n : Nat) : portLanes n ≤ 8 := by
    unfold portLanes
    split <;> decide
  exact Nat.mul_le_mul_left 2 (h _)

/-! ### The lock of the instances (R148) -/

theorem exec_instanceLockLoss (l inst : Nat) (s : State) : exec (.instanceLockLoss l inst) s =
    okIf (s.frmRuns l && decide (inst < s.flexos l)) s
      ((((s.putBit F.TF_FRM_STAT_instance_lock false inst l).frmOof l).put F.TF_FRM_STAT_dlol 1 l).raise
        F.TF_FRM_EVT_lol l) := rfl

theorem exec_dlolClear (l : Nat) (s : State) : exec (.dlolClear l) s =
    okIf (s.frmRuns l && s.get F.TF_FRM_STAT_instance_lock l == 2 ^ s.flexos l - 1) s (s.put F.TF_FRM_STAT_dlol 0 l) := rfl

section
variable {s : State} {l : Nat}

theorem instanceLockLoss_answers {inst : Nat} (hr : s.frmRuns l = true) (hi : inst < s.flexos l) :
    Answers (.instanceLockLoss l inst) s (fun t => t.frm l = enterOof (s.frm l) ∧
      bitOf (t.get F.TF_FRM_STAT_instance_lock l) inst = false ∧ t.flag F.TF_FRM_STAT_dlol l = true ∧
      t.flag F.TF_FRM_EVT_lol l = true) := by
  have hl := State.frmRuns_lt hr
  refine answers_okIf (exec_instanceLockLoss l inst s) (by simp [hr, hi]) ⟨?_, ?_, ?_, ?_⟩
  · simp only [State.frm_settle, State.frm_raise, State.frm_put, State.frm_frmOof, State.putBit]
  · rw [State.get_settle_high _ (by decide), State.get_raise_frmEvt _ hl rfl rfl]
    simp (disch := decide) only [State.get_put_fld]
    rw [State.get_frmOof _ hl besideAligner_lock]
    exact State.bitOf_putBit_self _ _ _ (by decide) (lt_of_lt_of_le hi (s.flexos_le l))
  · rw [State.flag_eq_true, State.get_settle_high _ (by decide), State.get_raise_frmEvt _ hl rfl rfl,
      State.get_put_self _ _ _ _ _ (by decide)]
    rfl
  · rw [State.flag_eq_true, State.get_settle_high _ (by decide), State.get_raise_self _ _ _ _ (by decide) (by decide)]

theorem dlolClear_answers (hr : s.frmRuns l = true) (hk : s.get F.TF_FRM_STAT_instance_lock l = 2 ^ s.flexos l - 1) :
    Answers (.dlolClear l) s (fun t => t.flag F.TF_FRM_STAT_dlol l = false ∧
      OnlyRegs [regAddr R.TF_FRM_STAT l 0] s t) := by
  refine answers_okIf (exec_dlolClear l s) (by simp [hr, hk]) ⟨?_, ?_⟩
  · rw [State.flag, State.get_settle_high _ (by decide), State.get_put_self _ _ _ _ _ (by decide)]
    rfl
  · exact ((OnlyRegs.refl _ s).put 0 (by simp [F.TF_FRM_STAT_dlol])).settle

end

/-! ### Skew (R146, R147) -/

/-- What a measurement of the skew leaves of s, in a path whose instances are all locked. -/
structure SkewShown (l skew : Nat) (s t : State) : Prop where
  lock : t.get F.TF_FRM_STAT_instance_lock l = s.get F.TF_FRM_STAT_instance_lock l
  ns : t.get F.TF_FRM_STAT_skew_ns l = min 4095 skew
  exceeded : t.flag F.TF_FRM_STAT_skew_exceeded l = decide (1000 < skew)
  frm : t.frm l = if 1000 < skew then enterOof (s.frm l) else s.frm l
  event : 1000 < skew → s.flag F.TF_FRM_STAT_skew_exceeded l = false → t.flag F.TF_FRM_EVT_skew l = true
  within : skew ≤ 1000 → OnlyRegs [regAddr R.TF_FRM_STAT l 0] s t

theorem SkewShown.settle {l skew : Nat} {s t : State} (h : SkewShown l skew s t) : SkewShown l skew s t.settle where
  lock := (State.get_settle_high t (by decide)).trans h.lock
  ns := (State.get_settle_high t (by decide)).trans h.ns
  exceeded := (congrArg (· == 1) (State.get_settle_high t (by decide))).trans h.exceeded
  frm := (t.frm_settle l).trans h.frm
  event hk hf := (congrArg (· == 1) (State.get_settle_high t (by decide))).trans (h.event hk hf)
  within hk := (h.within hk).settle

/-- A skew beyond the limit as it is declared, once. -/
def State.skewDeclared (s : State) (l : Nat) : State :=
  if s.flag F.TF_FRM_STAT_skew_exceeded l then s else (s.put F.TF_FRM_STAT_skew_exceeded 1 l).raise F.TF_FRM_EVT_skew l

section
variable {s : State} {l : Nat} (skew : Nat)

theorem State.skewSeen_unlocked (h : s.get F.TF_FRM_STAT_instance_lock l ≠ 2 ^ s.flexos l - 1) : s.skewSeen l skew = s :=
  if_pos h

theorem State.skewSeen_locked (h : s.get F.TF_FRM_STAT_instance_lock l = 2 ^ s.flexos l - 1) : s.skewSeen l skew =
    if 1000 < skew then ((s.put F.TF_FRM_STAT_skew_ns (min 4095 skew) l).skewDeclared l).frmOof l
    else (s.put F.TF_FRM_STAT_skew_ns (min 4095 skew) l).put F.TF_FRM_STAT_skew_exceeded 0 l :=
  if_neg (not_not.2 h)

/-- A field of the status above it. -/
theorem State.get_skewDeclared (hl : l < 256) {g : Fld} (hg : g.reg = R.TF_FRM_STAT) (hlo : 10 ≤ g.lo) :
    (s.skewDeclared l).get g l = s.get g l := by
  refine State.ite_ind (P := fun t => t.get g l = s.get g l) (fun _ => rfl) fun _ => ?_
  rw [State.get_raise_frmEvt _ hl rfl hg, State.get_put_fld (f := F.TF_FRM_STAT_skew_exceeded) _ _ hg (by decide) (.inl hlo)]

theorem State.exceeded_skewDeclared (hl : l < 256) : (s.skewDeclared l).get F.TF_FRM_STAT_skew_exceeded l = 1 := by
  refine State.ite_ind (P := fun t => t.get F.TF_FRM_STAT_skew_exceeded l = 1) (fun h => State.flag_eq_true.1 h) fun _ => ?_
  rw [State.get_raise_frmEvt _ hl rfl rfl, State.get_put_self _ _ _ _ _ (by decide)]
  rfl

theorem State.event_skewDeclared (h : s.flag F.TF_FRM_STAT_skew_exceeded l = false) :
    (s.skewDeclared l).get F.TF_FRM_EVT_skew l = 1 := by
  rw [State.skewDeclared, h, if_neg Bool.false_ne_true, State.get_raise_self _ _ _ _ (by decide) (by decide)]

theorem State.frm_skewDeclared (k : Nat) : (s.skewDeclared l).frm k = s.frm k :=
  State.ite_ind (P := fun t => t.frm k = s.frm k) (fun _ => rfl) fun _ => by simp

theorem State.skew_put (s : State) :
    (s.put F.TF_FRM_STAT_skew_ns (min 4095 skew) l).get F.TF_FRM_STAT_skew_ns l = min 4095 skew := by
  rw [State.get_put_self _ _ _ _ _ (by decide)]
  exact Nat.mod_eq_of_lt (lt_of_le_of_lt (min_le_left _ _) (by decide))

theorem skewShown_beyond (hl : l < 256) (h : 1000 < skew) :
    SkewShown l skew s (((s.put F.TF_FRM_STAT_skew_ns (min 4095 skew) l).skewDeclared l).frmOof l) where
  lock := by
    rw [State.get_frmOof _ hl besideAligner_lock, State.get_skewDeclared hl rfl (by decide)]
    simp (disch := decide) only [State.get_put_fld]
  ns := by
    rw [State.get_frmOof _ hl besideAligner_skew, State.get_skewDeclared hl rfl (by decide), State.skew_put]
  exceeded := by
    rw [decide_eq_true h, State.flag_eq_true, State.get_frmOof _ hl besideAligner_exceeded, State.exceeded_skewDeclared hl]
  frm := by
    rw [if_pos h, State.frm_frmOof, State.frm_skewDeclared, State.frm_put]
  event _ hf := by
    have hput : (s.put F.TF_FRM_STAT_skew_ns (min 4095 skew) l).flag F.TF_FRM_STAT_skew_exceeded l = false := by
      simp (disch := decide) only [State.flag, State.get_put_fld]
      exact hf
    rw [State.flag_eq_true, State.event_frmOof _ hl rfl (by decide), State.event_skewDeclared hput]
  within hk := absurd h (not_lt.2 hk)

theorem skewShown_within (h : ¬ 1000 < skew) :
    SkewShown l skew s ((s.put F.TF_FRM_STAT_skew_ns (min 4095 skew) l).put F.TF_FRM_STAT_skew_exceeded 0 l) where
  lock := by
    simp (disch := decide) only [State.get_put_fld]
  ns := by
    simp (disch := decide) only [State.get_put_fld]
    exact s.skew_put skew
  exceeded := by
    rw [decide_eq_false h, State.flag, State.get_put_self _ _ _ _ _ (by decide)]
    rfl
  frm := by
    rw [if_neg h, State.frm_put, State.frm_put]
  event hk := absurd hk h
  within _ := ((OnlyRegs.refl _ s).put _ (by simp [F.TF_FRM_STAT_skew_ns])).put 0 (by simp [F.TF_FRM_STAT_skew_exceeded])

theorem skewShown_skewSeen (hl : l < 256) (h : s.get F.TF_FRM_STAT_instance_lock l = 2 ^ s.flexos l - 1) :
    SkewShown l skew s (s.skewSeen l skew) := by
  rw [State.skewSeen_locked skew h]
  exact State.ite_ind (fun hk => skewShown_beyond skew hl hk) fun hk => skewShown_within skew hk

/-- A framed port's status says nothing of its breakout. -/
theorem State.flexos_put {f : Fld} (hl : l < 256) (hf : f.reg = R.TF_FRM_STAT) (v : Nat) :
    (s.put f v l).flexos l = s.flexos l := by
  have h : (s.put f v l).breakout (l / 8) = s.breakout (l / 8) :=
    s.get_put_of v (by rw [hf]; exact hl) (show l / 8 < 32 by omega) (by rw [hf]; decide)
  rw [State.flexos, h, State.flexos]

/-- The state in which the markers of a mask of instances are locked too. -/
def State.markersLocked (s : State) (l insts : Nat) : State :=
  s.put F.TF_FRM_STAT_instance_lock (s.get F.TF_FRM_STAT_instance_lock l ||| (insts % 2 ^ s.flexos l)) l

theorem exec_alignmentMarkerLock (l insts skew : Nat) (s : State) : exec (.alignmentMarkerLock l ⟨insts, skew⟩) s =
    okIf (s.frmRuns l) s ((s.markersLocked l insts).skewSeen l skew) := rfl

theorem exec_deskewRetry (l skew : Nat) (s : State) : exec (.deskewRetry l skew) s =
    okIf (s.frmRuns l && s.flag F.TF_FRM_STAT_skew_exceeded l) s (s.skewSeen l skew) := rfl

theorem alignmentMarkerLock_answers {insts m : Nat} (hr : s.frmRuns l = true)
    (hm : m = s.get F.TF_FRM_STAT_instance_lock l ||| (insts % 2 ^ s.flexos l)) :
    Answers (.alignmentMarkerLock l ⟨insts, skew⟩) s (fun t => t.get F.TF_FRM_STAT_instance_lock l = m % 2 ^ 16 ∧
      (m % 2 ^ 16 ≠ 2 ^ s.flexos l - 1 → OnlyRegs [regAddr R.TF_FRM_STAT l 0] s t) ∧
      (m % 2 ^ 16 = 2 ^ s.flexos l - 1 →
        t.get F.TF_FRM_STAT_skew_ns l = min 4095 skew ∧ t.flag F.TF_FRM_STAT_skew_exceeded l = decide (1000 < skew) ∧
        t.frm l = (if 1000 < skew then enterOof (s.frm l) else s.frm l) ∧
        (1000 < skew → s.flag F.TF_FRM_STAT_skew_exceeded l = false → t.flag F.TF_FRM_EVT_skew l = true))) := by
  have hl := State.frmRuns_lt hr
  have hlock : (s.markersLocked l insts).get F.TF_FRM_STAT_instance_lock l = m % 2 ^ 16 := by
    rw [hm]
    exact State.get_put_self _ _ _ _ _ (by decide)
  have hflex : (s.markersLocked l insts).flexos l = s.flexos l := State.flexos_put hl rfl _
  have honly : OnlyRegs [regAddr R.TF_FRM_STAT l 0] s (s.markersLocked l insts) :=
    (OnlyRegs.refl _ s).put _ (by simp [F.TF_FRM_STAT_instance_lock])
  have hflag : (s.markersLocked l insts).flag F.TF_FRM_STAT_skew_exceeded l = s.flag F.TF_FRM_STAT_skew_exceeded l :=
    congrArg (· == 1) (State.get_put_fld _ _ rfl (by decide) (.inr (by decide)))
  have hfrm : (s.markersLocked l insts).frm l = s.frm l := s.frm_put _ _ _ _ _
  refine answers_okIf (exec_alignmentMarkerLock l insts skew s) hr ?_
  by_cases hall : m % 2 ^ 16 = 2 ^ s.flexos l - 1
  · have hs := (skewShown_skewSeen skew hl (s := s.markersLocked l insts) (by rw [hlock, hflex, hall])).settle
    refine ⟨hs.lock.trans hlock, fun h => absurd hall h, fun _ => ⟨hs.ns, hs.exceeded, ?_, fun hk hf => ?_⟩⟩
    · rw [hs.frm, hfrm]
    · exact hs.event hk (hflag.trans hf)
  · rw [State.skewSeen_unlocked skew (by rw [hlock, hflex]; exact hall)]
    exact ⟨(State.get_settle_high _ (by decide)).trans hlock, fun _ => honly.settle, fun h => absurd h hall⟩

theorem deskewRetry_answers (hr : s.frmRuns l = true) (hx : s.flag F.TF_FRM_STAT_skew_exceeded l = true)
    (hk : s.get F.TF_FRM_STAT_instance_lock l = 2 ^ s.flexos l - 1) :
    Answers (.deskewRetry l skew) s (fun t => t.flag F.TF_FRM_STAT_skew_exceeded l = decide (1000 < skew) ∧
      t.get F.TF_FRM_STAT_skew_ns l = min 4095 skew ∧
      t.frm l = (if 1000 < skew then enterOof (s.frm l) else s.frm l) ∧
      (skew ≤ 1000 → OnlyRegs [regAddr R.TF_FRM_STAT l 0] s t)) := by
  have hs := (skewShown_skewSeen skew (State.frmRuns_lt hr) hk).settle
  exact answers_okIf (exec_deskewRetry l skew s) (by simp [hr, hx]) ⟨hs.exceeded, hs.ns, hs.frm, hs.within⟩

end

end Sys2Proof.Machine
end

section
/-! PROOFS. The search for the frame alignment signal and the aligner's moves at a frame (R135 to R144), and the obligation on
framed receive paths. -/

namespace Sys2Proof.Machine

/-! ### The search (R136) -/

section
variable {f : FrmSt} {offset mfas : Nat}

/-- Does a match open a candidate: the search runs and has room, and no candidate or bar stands at the position? -/
def Opens (f : FrmSt) (offset : Nat) : Prop :=
  searching f = true ∧ f.cands.length < 4 ∧ (∀ c ∈ f.cands, c.offset ≠ offset) ∧ offset ∉ f.barred

theorem opens_iff : (searching f && decide (f.cands.length < 4) && !f.cands.any (fun c => c.offset = offset)
    && !f.barred.contains offset) = true ↔ Opens f offset := by
  simp [Opens, and_assoc]

theorem openCand_opens (h : Opens f offset) (hm : mfas < 256) :
    openCand f offset mfas = { f with cands := f.cands ++ [⟨offset, 1, mfas, 1⟩] } := by
  rw [openCand, if_pos (opens_iff.2 h), Nat.mod_eq_of_lt hm]

theorem openCand_same (h : ¬ Opens f offset) : openCand f offset mfas = f := if_neg fun hg => h (opens_iff.1 hg)

theorem not_opens (h : searching f = false ∨ 4 ≤ f.cands.length ∨ (∃ c ∈ f.cands, c.offset = offset) ∨
    offset ∈ f.barred) : ¬ Opens f offset := by
  rintro ⟨hs, h4, hc, hb⟩
  rcases h with h | h | ⟨c, hmem, hoff⟩ | h
  · exact Bool.false_ne_true (h.symm.trans hs)
  · exact absurd h4 (not_lt.2 h)
  · exact hc c hmem hoff
  · exact hb h

theorem exec_fasMatch (l offset mfas : Nat) (s : State) : exec (.fasMatch l offset mfas) s =
    okIf (s.frmRuns l && s.deskewed l && decide (offset < 122368 ∧ mfas < 256)) s
      (s.setFrm l (openCand (s.frm l) offset mfas)) := rfl

theorem fasMatch_answers {s : State} {l : Nat} (hr : s.frmRuns l = true) (hd : s.deskewed l = true) (ho : offset < 122368)
    (hm : mfas < 256) :
    Answers (.fasMatch l offset mfas) s (fun t =>
      (searching (s.frm l) = true → (s.frm l).cands.length < 4 → (∀ c ∈ (s.frm l).cands, c.offset ≠ offset) →
        offset ∉ (s.frm l).barred →
        t.frm l = { s.frm l with cands := (s.frm l).cands ++ [⟨offset, 1, mfas, 1⟩] }) ∧
      ((searching (s.frm l) = false ∨ 4 ≤ (s.frm l).cands.length ∨ (∃ c ∈ (s.frm l).cands, c.offset = offset) ∨
        offset ∈ (s.frm l).barred) → t.frm l = s.frm l) ∧
      (∀ k, k ≠ l → t.frm k = s.frm k) ∧ RegsBut [regAddr R.TF_FRM_STAT l 0] s t) := by
  refine answers_okIf (exec_fasMatch l offset mfas s) (by simp [hr, hd, ho, hm])
    ⟨fun hs h4 hc hb => ?_, fun h => ?_, fun k hk => ?_, regsBut_settle_of (regsBut_setFrm s _ (by simp))⟩
  · rw [State.frm_settle, State.frm_setFrm_self, openCand_opens ⟨hs, h4, hc, hb⟩ hm]
  · rw [State.frm_settle, State.frm_setFrm_self, openCand_same (not_opens h)]
  · rw [State.frm_settle, State.frm_setFrm_ne _ _ _ hk]

end

/-! ### The aligner at one frame (R137 to R143) -/

section
variable {f : FrmSt} {fr : OtucFrame}

theorem alignFrame_candidate {c : FasCand} (hs : searching f = true) (hh : f.held ≠ some fr.offset)
    (hc : f.cands.find? (fun x => decide (x.offset = fr.offset)) = some c) :
    alignFrame f fr = candFrame f c (fr.fas.headD false) fr.mfas := by
  simp only [alignFrame, if_neg hh, if_pos hs, hc]

theorem alignFrame_if (hh : f.held = some fr.offset) (h1 : f.aligner = 1) :
    (alignFrame f fr).1 = ifFrame f fr.offset (fr.fas.all id) fr.mfas := by
  simp only [alignFrame, if_pos hh, if_pos h1]

theorem alignFrame_locked (hh : f.held = some fr.offset) (h1 : f.aligner ≠ 1) :
    (alignFrame f fr).1 = lockedFrame f (fr.fas.all id) fr.mfas := by
  simp only [alignFrame, if_pos hh, if_neg h1]

/-- The second correct pattern of a candidate in OOF (R138). -/
theorem candFrame_second {c : FasCand} (m : Nat) (h0 : f.aligner = 0) (hc : 1 ≤ c.good) :
    (candFrame f c true m).1.aligner = 1 ∧ (candFrame f c true m).1.held = some c.offset := by
  have hgood : 2 ≤ (candNext c m).good := Nat.succ_le_succ hc
  simp [candFrame, h0, hgood]

/-- The third MFAS in sequence at the held position in IF (R138, R139). -/
theorem ifFrame_third {c : FasCand} {m : Nat} (hc : f.cands.find? (fun x => decide (x.offset = fr.offset)) = some c)
    (hrun : 2 ≤ c.run) (hm : m % 256 = (c.mfas + 1) % 256) :
    ifFrame f fr.offset true m = enterIm { f with errRun := 0 } (candNext c m) := by
  have h0 : c.run ≠ 0 := by omega
  have h3 : 3 ≤ (candNext c m).run := by
    rw [candNext, if_pos hm]
    exact Nat.succ_le_succ hrun
  simp [ifFrame, hc, h0, h3]

/-- The fifth errored pattern in IF (R139). -/
theorem ifFrame_fifth {off m : Nat} (h4 : 4 ≤ f.errRun) : ifFrame f off false m = enterOof f := by
  simp [ifFrame, h4]

/-- The fifth errored pattern in IM or OOM (R139). -/
theorem lockedFrame_fifth {m : Nat} (h4 : 4 ≤ f.errRun) : lockedFrame f false m = enterOof f := by
  have h5 : 5 ≤ f.errRun + 1 := Nat.succ_le_succ h4
  simp [lockedFrame, h5]

/-- The fifth MFAS out of sequence in IM (R143). -/
theorem lockedFrame_outOfSequence {m : Nat} (h2 : f.aligner = 2) (h4 : 4 ≤ f.misRun)
    (hm : m % 256 ≠ (f.expMfas + 1) % 256) : (lockedFrame f true m).aligner = 3 := by
  have h5 : 5 ≤ f.misRun + 1 := Nat.succ_le_succ h4
  simp [lockedFrame, h2, hm, h5]

/-- An MFAS in sequence in IM (R143). -/
theorem lockedFrame_inSequence {m : Nat} (h2 : f.aligner = 2) (hm : m % 256 = (f.expMfas + 1) % 256) :
    (lockedFrame f true m).aligner = 2 ∧ (lockedFrame f true m).misRun = 0 := by
  simp [lockedFrame, h2, hm]

/-- The fifth errored pattern at the held position, in any state of the aligner. -/
theorem alignFrame_fifthError (hh : f.held = some fr.offset) (hbad : fr.fas.all id = false) (h4 : 4 ≤ f.errRun) :
    (alignFrame f fr).1 = enterOof f := by
  by_cases h1 : f.aligner = 1
  · rw [alignFrame_if hh h1, hbad, ifFrame_fifth h4]
  · rw [alignFrame_locked hh h1, hbad, lockedFrame_fifth h4]

end

/-! ### The overhead leaves the aligner where it is (R149 to R157, R159) -/

/-- Two receive paths agree in the aligner's state, the held position and the run of values out of sequence. -/
structure SameAlign (f g : FrmSt) : Prop where
  aligner : g.aligner = f.aligner
  held : g.held = f.held
  misRun : g.misRun = f.misRun

theorem SameAlign.refl (f : FrmSt) : SameAlign f f := ⟨rfl, rfl, rfl⟩

theorem SameAlign.trans {f g h : FrmSt} (hg : SameAlign f g) (hh : SameAlign g h) : SameAlign f h :=
  ⟨hh.aligner.trans hg.aligner, hh.held.trans hg.held, hh.misRun.trans hg.misRun⟩

theorem sameAlign_apsSample (f : FrmSt) (rxAps v : Nat) : SameAlign f (apsSample f rxAps v).1 := by
  unfold apsSample
  split
  · exact ⟨rfl, rfl, rfl⟩
  · split
    · split <;> exact ⟨rfl, rfl, rfl⟩
    · exact ⟨rfl, rfl, rfl⟩

section
variable (s : State) (l : Nat) (fr : OtucFrame)

theorem sameAlign_aisFrame (stat : Nat) : SameAlign (s.frm l) ((s.aisFrame l stat).frm l) := by
  have hcounted (a n : Nat) :
      SameAlign (s.frm l) ((s.setFrm l { s.frm l with aisRun := a, nonAisRun := n }).frm l) := by
    rw [State.frm_setFrm_self]
    exact ⟨rfl, rfl, rfl⟩
  unfold State.aisFrame
  dsimp only
  refine State.ite_ind (P := fun t => SameAlign (s.frm l) (t.frm l)) (fun _ => ?_) fun _ =>
    State.ite_ind (P := fun t => SameAlign (s.frm l) (t.frm l)) (fun _ => ?_) fun _ => hcounted _ _
  · rw [State.frm_raise, State.frm_put]
    exact hcounted _ _
  · rw [State.frm_put]
    exact hcounted _ _

/-- The justification control taken up, with the counts of the overhead. -/
def State.overheadCounted : State :=
  let j := jcFrame (s.frm l) fr.jc
  let s1 := s.setFrm l (demapFrame { s.frm l with cm := j.cm, just := j.just, bip := fr.bip } j.accepted)
  (((s1.count cgFrm 4 l j.errors).count cgFrm 5 l j.codes10).count cgFrm 0 l fr.bip.sum).count cgFrm 1 l fr.bei

/-- The defects that the overhead carries, on top. -/
def State.overheadShown : State :=
  let s4 := (s.overheadCounted l fr).aisFrame l fr.stat
  (if fr.bdi && !s.flag F.TF_FRM_STAT_bdi_rx l then s4.raise F.TF_FRM_EVT_bdi_rx l else s4).put
    F.TF_FRM_STAT_bdi_rx (b2n fr.bdi) l

theorem State.overheadFrame_eq : s.overheadFrame l fr =
    if fr.mfas % 8 = s.get F.TF_FRM_CTL_aps_level l then
      let r := apsSample ((s.overheadShown l fr).frm l) (s.get F.TF_FRM_APS_rx_aps l) (fr.aps % 2 ^ 32)
      match r.2 with
      | some v => (((s.overheadShown l fr).setFrm l r.1).put F.TF_FRM_APS_rx_aps v l).raise F.TF_FRM_EVT_aps_change l
      | none => (s.overheadShown l fr).setFrm l r.1
    else s.overheadShown l fr := rfl

theorem sameAlign_overheadShown : SameAlign (s.frm l) ((s.overheadShown l fr).frm l) := by
  have hcounted : SameAlign (s.frm l) ((s.overheadCounted l fr).frm l) := by
    unfold State.overheadCounted
    simp only [State.frm_count, State.frm_setFrm_self]
    exact ⟨rfl, rfl, rfl⟩
  have hais := hcounted.trans (sameAlign_aisFrame (s.overheadCounted l fr) l fr.stat)
  unfold State.overheadShown
  rw [State.frm_put]
  exact State.ite_ind (P := fun t => SameAlign (s.frm l) (t.frm l)) (fun _ => by rwa [State.frm_raise]) fun _ => hais

theorem sameAlign_overheadFrame : SameAlign (s.frm l) ((s.overheadFrame l fr).frm l) := by
  have hs := sameAlign_overheadShown s l fr
  rw [State.overheadFrame_eq]
  refine State.ite_ind (P := fun t => SameAlign (s.frm l) (t.frm l)) (fun _ => ?_) fun _ => hs
  dsimp only
  split
  · rw [State.frm_raise, State.frm_put, State.frm_setFrm_self]
    exact hs.trans (sameAlign_apsSample _ _ _)
  · rw [State.frm_setFrm_self]
    exact hs.trans (sameAlign_apsSample _ _ _)

/-! ### A frame received (R133 to R144) -/

/-- The frame aligned, and in IM its overhead read. -/
def State.frameTaken : State :=
  if ((s.alignOne l fr).frm l).aligner = 2 ∧ ((s.alignOne l fr).frm l).held = some fr.offset then
    (s.alignOne l fr).overheadFrame l fr
  else s.alignOne l fr

/-- What the FEC of the instances counts of it. -/
def State.fecCounted : State := (s.count cgFrm 6 l fr.fecUncorr).count cgFrm 7 l fr.fecCorr

theorem exec_otucFrame : exec (.otucFrame l fr) s = okIf (s.frmRuns l && s.slicesFit l fr) s
    (if s.deskewed l then (s.fecCounted l fr).frameTaken l fr else s.fecCounted l fr) := rfl

theorem State.frm_alignOne : (s.alignOne l fr).frm l = (alignFrame (s.frm l) fr).1 := by
  unfold State.alignOne
  dsimp only
  exact State.ite_ind (P := fun t => t.frm l = _) (fun _ => by simp) fun _ => by simp

theorem sameAlign_frameTaken : SameAlign (alignFrame (s.frm l) fr).1 ((s.frameTaken l fr).frm l) := by
  rw [← State.frm_alignOne]
  exact State.ite_ind (P := fun t => SameAlign ((s.alignOne l fr).frm l) (t.frm l))
    (fun _ => sameAlign_overheadFrame _ l fr) fun _ => SameAlign.refl _

theorem State.event_frameTaken (h : (s.frm l).aligner ≠ 0) (h0 : (alignFrame (s.frm l) fr).1.aligner = 0) :
    (s.frameTaken l fr).flag F.TF_FRM_EVT_oof l = true := by
  have hn : ¬ (((s.alignOne l fr).frm l).aligner = 2 ∧ ((s.alignOne l fr).frm l).held = some fr.offset) := by
    rw [State.frm_alignOne, h0]
    omega
  rw [State.frameTaken, if_neg hn, State.alignOne, if_pos ⟨h, h0⟩, State.flag_eq_true,
    State.get_raise_self _ _ _ _ (by decide) (by decide)]

end

/-- What a frame does to a deskewed path: the aligner moves as `alignFrame` says, and a move to OOF raises its event. -/
theorem otucFrame_answers {s : State} {l : Nat} {fr : OtucFrame} {P : State → Prop} (hr : s.frmRuns l = true)
    (hd : s.deskewed l = true) (hf : s.slicesFit l fr = true)
    (h : ∀ t, SameAlign (alignFrame (s.frm l) fr).1 (t.frm l) →
      ((s.frm l).aligner ≠ 0 → (alignFrame (s.frm l) fr).1.aligner = 0 → t.flag F.TF_FRM_EVT_oof l = true) → P t) :
    Answers (.otucFrame l fr) s P := by
  have hfec : (s.fecCounted l fr).frm l = s.frm l := by rw [State.fecCounted, State.frm_count, State.frm_count]
  have he := exec_otucFrame s l fr
  rw [if_pos hd] at he
  refine answers_okIf he (by simp [hr, hf]) (h _ ?_ fun hne h0 => ?_)
  · rw [State.frm_settle, ← hfec]
    exact sameAlign_frameTaken _ l fr
  · rw [State.flag_eq_true, State.get_settle_high _ (by decide), ← State.flag_eq_true]
    exact State.event_frameTaken _ l fr (by rwa [hfec]) (by rwa [hfec])

section
variable {s : State} {l : Nat} {fr : OtucFrame}

/-- A frame at an open candidate. -/
theorem otucFrame_candidate {c : FasCand} (hr : s.frmRuns l = true) (hd : s.deskewed l = true) (hf : s.slicesFit l fr = true)
    (hc : (s.frm l).cands.find? (fun x => decide (x.offset = fr.offset)) = some c) :
    Answers (.otucFrame l fr) s (fun t =>
      ((s.frm l).aligner = 0 → (s.frm l).held = none → fr.fas.headD false = true → 1 ≤ c.good →
        (t.frm l).aligner = 1 ∧ (t.frm l).held = some fr.offset) ∧
      ((s.frm l).aligner = 1 → (s.frm l).held = some fr.offset → fr.fas.all id = true → 2 ≤ c.run →
        fr.mfas % 256 = (c.mfas + 1) % 256 → (t.frm l).aligner = 2 ∧ (t.frm l).held = some fr.offset)) := by
  have hoff : c.offset = fr.offset := by simpa using List.find?_some hc
  refine otucFrame_answers hr hd hf fun t ht _ => ⟨fun h0 hh hok hgood => ?_, fun h1 hh hok hrun hm => ?_⟩
  · have hs : searching (s.frm l) = true := by simp [searching, h0]
    obtain ⟨ha, hheld⟩ := candFrame_second fr.mfas h0 hgood
    have he := alignFrame_candidate hs (by rw [hh]; nofun) hc
    rw [hok] at he
    rw [ht.aligner, ht.held, he, ha, hheld, hoff]
    exact ⟨rfl, rfl⟩
  · have he := alignFrame_if hh h1
    rw [hok, ifFrame_third hc hrun hm] at he
    rw [ht.aligner, ht.held, he]
    exact ⟨rfl, congrArg some hoff⟩

/-- A frame at the held position. -/
theorem otucFrame_held (hr : s.frmRuns l = true) (hd : s.deskewed l = true) (hf : s.slicesFit l fr = true)
    (hh : (s.frm l).held = some fr.offset) :
    Answers (.otucFrame l fr) s (fun t =>
      ((s.frm l).aligner = 2 → fr.fas.all id = true → 4 ≤ (s.frm l).misRun →
        fr.mfas % 256 ≠ ((s.frm l).expMfas + 1) % 256 → (t.frm l).aligner = 3) ∧
      ((s.frm l).aligner = 2 → fr.fas.all id = true → fr.mfas % 256 = ((s.frm l).expMfas + 1) % 256 →
        (t.frm l).aligner = 2 ∧ (t.frm l).misRun = 0) ∧
      ((s.frm l).aligner ≠ 0 → fr.fas.all id = false → 4 ≤ (s.frm l).errRun → (t.frm l).aligner = 0 ∧
        (t.frm l).held = none ∧ t.flag F.TF_FRM_EVT_oof l = true)) := by
  have hlocked (h2 : (s.frm l).aligner = 2) (hok : fr.fas.all id = true) :
      (alignFrame (s.frm l) fr).1 = lockedFrame (s.frm l) true fr.mfas := by
    rw [alignFrame_locked hh (by omega), hok]
  refine otucFrame_answers hr hd hf fun t ht hev =>
    ⟨fun h2 hok h4 hm => ?_, fun h2 hok hm => ?_, fun hne hbad h4 => ?_⟩
  · rw [ht.aligner, hlocked h2 hok, lockedFrame_outOfSequence h2 h4 hm]
  · rw [ht.aligner, ht.misRun, hlocked h2 hok]
    exact lockedFrame_inSequence h2 hm
  · have he := alignFrame_fifthError hh hbad h4
    rw [he] at ht hev
    exact ⟨ht.aligner, ht.held, hev hne rfl⟩

end

/-! ### The filters of dLOF and dLOM (R145) -/

theorem exec_lofExpiry (l : Nat) (s : State) : exec (.defectFilterExpiry ⟨l, false⟩) s =
    okIf (s.frmRuns l) s (s.lofFilter l) := rfl

theorem exec_lomExpiry (l : Nat) (s : State) : exec (.defectFilterExpiry ⟨l, true⟩) s =
    okIf (s.frmRuns l) s (s.lomFilter l) := rfl

/-- A defect of a framed port with the event of its declaration. -/
structure DefectFld (d e : Fld) : Prop where
  stat : d.reg = R.TF_FRM_STAT
  bit : d.w = 1
  fits : d.lo + d.w ≤ 64
  evt : e.reg = R.TF_FRM_EVT

theorem defectFld_lof : DefectFld F.TF_FRM_STAT_dlof F.TF_FRM_EVT_lof := ⟨rfl, rfl, by decide, rfl⟩
theorem defectFld_lom : DefectFld F.TF_FRM_STAT_dlom F.TF_FRM_EVT_lom := ⟨rfl, rfl, by decide, rfl⟩

/-- What a filter's expiry leaves of s: its defect as given, the other status fields as they were. -/
structure DefectSet (d : Fld) (l : Nat) (b : Bool) (s t : State) : Prop where
  shown : t.flag d l = b
  others : ∀ g : Fld, g.reg = R.TF_FRM_STAT → (d.lo + d.w ≤ g.lo ∨ g.lo + g.w ≤ d.lo) → t.flag g l = s.flag g l
  only : OnlyRegs [regAddr R.TF_FRM_STAT l 0, regAddr R.TF_FRM_EVT l 0] s t

section
variable {s : State} {l : Nat} {d e : Fld}

theorem DefectSet.settle {b : Bool} {t : State} (hd : d.reg = R.TF_FRM_STAT) (h : DefectSet d l b s t) :
    DefectSet d l b s t.settle where
  shown := (congrArg (· == 1) (State.get_settle_high t (by rw [hd]; decide))).trans h.shown
  others g hg hapart := (congrArg (· == 1) (State.get_settle_high t (by rw [hg]; decide))).trans (h.others g hg hapart)
  only := h.only.settle

theorem DefectSet.same : DefectSet d l (s.flag d l) s s := ⟨rfl, fun _ _ _ => rfl, OnlyRegs.refl _ s⟩

theorem DefectFld.cleared (h : DefectFld d e) : DefectSet d l false s (s.put d 0 l) where
  shown := by
    rw [State.flag, State.get_put_self _ _ _ _ _ h.fits, Nat.zero_mod]
    rfl
  others g hg hapart := congrArg (· == 1) (s.get_put_fld 0 (hg.trans h.stat.symm) h.fits hapart)
  only := (OnlyRegs.refl _ s).put 0 (by simp [h.stat])

theorem DefectFld.declared (h : DefectFld d e) (hl : l < 256) : DefectSet d l true s ((s.put d 1 l).raise e l) where
  shown := by
    rw [State.flag_eq_true, State.get_raise_frmEvt _ hl h.evt h.stat, State.get_put_self _ _ _ _ _ h.fits, h.bit]
    rfl
  others g hg hapart := congrArg (· == 1)
    ((State.get_raise_frmEvt _ hl h.evt hg).trans (s.get_put_fld 1 (hg.trans h.stat.symm) h.fits hapart))
  only := ((OnlyRegs.refl _ s).put 1 (by simp [h.stat])).put 1 (by simp [h.evt])

/-- Declared, unless it is. -/
theorem DefectFld.declaredOnce (h : DefectFld d e) (hl : l < 256) :
    DefectSet d l true s (if s.flag d l then s else (s.put d 1 l).raise e l) :=
  State.ite_ind (fun hf => hf ▸ DefectSet.same) fun _ => h.declared hl

theorem defectSet_lofFilter (hl : l < 256) :
    DefectSet F.TF_FRM_STAT_dlof l (decide ((s.frm l).aligner = 0)) s (s.lofFilter l) := by
  by_cases h0 : (s.frm l).aligner = 0
  · rw [decide_eq_true h0, State.lofFilter, if_neg (not_not.2 h0)]
    exact defectFld_lof.declaredOnce hl
  · rw [decide_eq_false h0, State.lofFilter, if_pos h0]
    exact defectFld_lof.cleared

/-- What dLOM is once its filter has expired. -/
def lomAfter (a : Nat) (old : Bool) : Bool := if a = 2 then false else if a = 0 then old else true

theorem defectSet_lomFilter (hl : l < 256) :
    DefectSet F.TF_FRM_STAT_dlom l (lomAfter (s.frm l).aligner (s.flag F.TF_FRM_STAT_dlom l)) s (s.lomFilter l) := by
  unfold lomAfter State.lomFilter
  dsimp only
  by_cases h2 : (s.frm l).aligner = 2
  · rw [if_pos h2, if_pos h2]
    exact defectFld_lom.cleared
  · rw [if_neg h2, if_neg h2]
    by_cases h0 : (s.frm l).aligner = 0
    · rw [if_pos h0, if_pos (.inl h0)]
      exact DefectSet.same
    · simp only [h0, false_or, if_false]
      exact defectFld_lom.declaredOnce hl

theorem lofExpiry_answers (hr : s.frmRuns l = true) :
    Answers (.defectFilterExpiry ⟨l, false⟩) s (fun t =>
      t.flag F.TF_FRM_STAT_dlof l = decide ((s.frm l).aligner = 0) ∧
      t.flag F.TF_FRM_STAT_dlom l = s.flag F.TF_FRM_STAT_dlom l ∧
      OnlyRegs [regAddr R.TF_FRM_STAT l 0, regAddr R.TF_FRM_EVT l 0] s t) := by
  have h := (defectSet_lofFilter (s := s) (State.frmRuns_lt hr)).settle rfl
  exact answers_okIf (exec_lofExpiry l s) hr ⟨h.shown, h.others _ rfl (by decide), h.only⟩

theorem lomExpiry_answers (hr : s.frmRuns l = true) :
    Answers (.defectFilterExpiry ⟨l, true⟩) s (fun t =>
      ((s.frm l).aligner = 1 ∨ (s.frm l).aligner = 3 → t.flag F.TF_FRM_STAT_dlom l = true) ∧
      ((s.frm l).aligner = 2 → t.flag F.TF_FRM_STAT_dlom l = false) ∧
      ((s.frm l).aligner = 0 → t.flag F.TF_FRM_STAT_dlom l = s.flag F.TF_FRM_STAT_dlom l) ∧
      t.flag F.TF_FRM_STAT_dlof l = s.flag F.TF_FRM_STAT_dlof l ∧
      OnlyRegs [regAddr R.TF_FRM_STAT l 0, regAddr R.TF_FRM_EVT l 0] s t) := by
  have h := (defectSet_lomFilter (s := s) (State.frmRuns_lt hr)).settle rfl
  refine answers_okIf (exec_lomExpiry l s) hr
    ⟨fun ha => ?_, fun h2 => ?_, fun h0 => ?_, h.others _ rfl (by decide), h.only⟩
  · rw [h.shown]
    rcases ha with ha | ha <;> rw [ha] <;> rfl
  · rw [h.shown, h2]
    rfl
  · rw [h.shown, h0]
    rfl

end

/-- Settles O45: one lemma for each command of a framed receive path. -/
theorem framedReceivePathsAlignAndReportDefects : Obligations.FramedReceivePathsAlignAndReportDefects := by
  refine ⟨?_, ?_, ?_, ?_, ?_, ?_, ?_, ?_⟩
  · exact fun l inst s hr hi => instanceLockLoss_answers hr hi
  · exact fun l insts skew m s hr hm => alignmentMarkerLock_answers skew hr hm
  · exact fun l s hr hk => dlolClear_answers hr hk
  · exact fun l skew s hr hx hk => deskewRetry_answers skew hr hx hk
  · exact fun l offset mfas s hr hd ho hm => fasMatch_answers hr hd ho hm
  · exact fun l fr c s hr hd hf hc => otucFrame_candidate hr hd hf hc
  · exact fun l fr s hr hd hf hh => otucFrame_held hr hd hf hh
  · exact fun l s hr => ⟨lofExpiry_answers hr, lomExpiry_answers hr⟩

end Sys2Proof.Machine
end

section
/-! PROOFS. How the table engine takes a command (R607 to R616, R658, R659): what its fetch leaves alone, and what the engine
answers when the command changes the inactive view or is refused. -/

namespace Sys2Proof.Machine

/-! ### The fetch (R658) -/

theorem State.qWriteback_keeps (s : State) (q : Nat) : ∃ out, s.qWriteback q = { s with out := s.out ++ out } := ⟨_, rfl⟩

/-- The engine notes which queue it fetched from last, and when; the device index moves past the command. -/
def State.fetchNoted (s : State) (c : TCmd) : State :=
  State.addWrap { s with eng := { s.eng with lastQ := c.q, fetchAt := s.up } } F.TF_QCTX_STAT_dev_idx (c.words.length + 1)
    (128 + c.q)

theorem State.fetched_eq (s : State) (c : TCmd) :
    s.fetched c = ((s.fetchNoted c).count cgHost 4).qWriteback (128 + c.q) := rfl

theorem State.fetchNoted_keeps (s : State) (c : TCmd) : ∃ regs, s.fetchNoted c = { s with
    regs := regs, eng := { s.eng with lastQ := c.q, fetchAt := s.up } } := ⟨_, rfl⟩

theorem State.fetched_keeps (s : State) (c : TCmd) : ∃ regs tlm out, s.fetched c = { s with
    regs := regs, tlm := tlm, out := out, eng := { s.eng with lastQ := c.q, fetchAt := s.up } } := by
  obtain ⟨regs, hn⟩ := s.fetchNoted_keeps c
  obtain ⟨regs', tlm, hc⟩ := (s.fetchNoted c).count_keeps cgHost 4 0 1
  obtain ⟨out, hw⟩ := ((s.fetchNoted c).count cgHost 4).qWriteback_keeps (128 + c.q)
  exact ⟨regs', tlm, _, by rw [State.fetched_eq, hw, hc, hn]⟩

section

variable (s : State) (c : TCmd)

@[simp] theorem State.fetched_eng : (s.fetched c).eng = { s.eng with lastQ := c.q, fetchAt := s.up } := by
  obtain ⟨_, _, _, h⟩ := s.fetched_keeps c
  rw [h]

@[simp] theorem State.fetched_inact : (s.fetched c).inact = s.inact := by
  obtain ⟨_, _, _, h⟩ := s.fetched_keeps c
  rw [h]

@[simp] theorem State.fetched_act : (s.fetched c).act = s.act := by
  obtain ⟨_, _, _, h⟩ := s.fetched_keeps c
  rw [h]

@[simp] theorem State.fetched_engV : (s.fetched c).engV = s.engV := by
  obtain ⟨_, _, _, h⟩ := s.fetched_keeps c
  rw [h]

@[simp] theorem State.fetched_tbl : (s.fetched c).tbl = s.tbl := by
  obtain ⟨_, _, _, h⟩ := s.fetched_keeps c
  rw [h]

@[simp] theorem State.fetched_host : (s.fetched c).host = s.host := by
  obtain ⟨_, _, _, h⟩ := s.fetched_keeps c
  rw [h]

@[simp] theorem State.fetched_rst : (s.fetched c).rst = s.rst := by
  obtain ⟨_, _, _, h⟩ := s.fetched_keeps c
  rw [h]

end

/-! ### The registers of a fetch -/

/-- An address apart from the queues' contexts, the host interface's counters and the telemetry's registers is none of a
fetch's. -/
theorem not_mem_tookRegs_of_lt {c : TCmd} {a : Nat} (h : a < 0x1600100) (ht : a < 0x20000 ∨ 0x20200 ≤ a) :
    a ∉ tookRegs c := by
  simp only [tookRegs, regAddr, R.TF_QCTX_STAT, R.TF_HOST_CNT, R.KV_TLM_CNT, R.KV_TLM_EVT, List.mem_cons,
    List.not_mem_nil, or_false, not_or]
  omega

/-- Of the queues' contexts a fetch moves the status of its own queue alone. -/
theorem not_mem_tookRegs_of_queue {c : TCmd} {a : Nat} (h : 0x100000000 ≤ a)
    (hs : a ≠ regAddr R.TF_QCTX_STAT (128 + c.q) 0) : a ∉ tookRegs c := by
  simp only [tookRegs, List.mem_cons, List.not_mem_nil, or_false, not_or]
  refine ⟨hs, ?_⟩
  simp only [regAddr, R.TF_HOST_CNT, R.KV_TLM_CNT, R.KV_TLM_EVT]
  omega

/-- No other register changes (R658, R782). -/
theorem State.fetched_tget (s : State) {c : TCmd} {a : Nat} (ha : a ∉ tookRegs c) :
    tget? (s.fetched c).regs a = tget? s.regs a := by
  obtain ⟨hstat, hcount, -, hlate, hevent⟩ : a ≠ regAddr R.TF_QCTX_STAT (128 + c.q) 0 ∧ a ≠ regAddr R.TF_HOST_CNT 4 0 ∧
      a ≠ regAddr R.TF_HOST_CNT 5 0 ∧ a ≠ regAddr R.KV_TLM_CNT 2 0 ∧ a ≠ regAddr R.KV_TLM_EVT 0 0 := by
    simpa [tookRegs] using ha
  have hk : CountsKeep (fun t => tget? t.regs a = tget? s.regs a) :=
    ⟨fun _ _ h => h, fun t w h => (wr_tget t _ w _ _ hlate).trans h, fun t h => (raise_tget t _ _ _ hevent).trans h⟩
  exact hk.count (g := cgHost) (k := 4) (i := 0) (fun t w h => (wr_tget t _ w _ _ hcount).trans h)
    (show tget? (s.fetchNoted c).regs a = _ from put_tget _ F.TF_QCTX_STAT_dev_idx _ _ _ hstat) 1

theorem regsBut_fetched (s : State) (c : TCmd) : RegsBut (tookRegs c) s (s.fetched c) := fun _ h _ _ _ => s.fetched_tget h

theorem State.rd_fetched (s : State) {c : TCmd} {r : RegD} {i j : Nat} (h : regAddr r i j ∉ tookRegs c) :
    (s.fetched c).rd r i j = s.rd r i j := congrArg (Option.getD · (resetWord r i)) (s.fetched_tget h)

theorem State.get_fetched (s : State) {c : TCmd} {f : Fld} {i j : Nat} (h : regAddr f.reg i j ∉ tookRegs c) :
    (s.fetched c).get f i j = s.get f i j := by
  unfold State.get
  rw [s.rd_fetched h]

theorem State.flag_fetched (s : State) {c : TCmd} {f : Fld} {i j : Nat} (h : regAddr f.reg i j ∉ tookRegs c) :
    (s.fetched c).flag f i j = s.flag f i j := by
  unfold State.flag
  rw [s.get_fetched h]

@[simp] theorem State.tablesShut_fetched (s : State) (c : TCmd) : (s.fetched c).tablesShut = s.tablesShut := by
  have hm : (s.fetched c).mode = s.mode :=
    s.get_fetched (f := F.KV_MODE_mode) (not_mem_tookRegs_of_lt (by decide) (by decide))
  rw [State.tablesShut, hm, State.fetched_rst, State.tablesShut]

@[simp] theorem State.batchIsFull_fetched (s : State) (c : TCmd) : (s.fetched c).batchIsFull = s.batchIsFull := by
  rw [State.batchIsFull, State.fetched_eng, State.batchIsFull]

/-- The other words of the queue's context. -/
theorem State.rd_fetched_queue (s : State) (c : TCmd) {r : RegD} (hb : 0x100000000 ≤ r.base)
    (hs : r.stride = R.TF_QCTX_STAT.stride) (hne : r.base ≠ R.TF_QCTX_STAT.base) :
    (s.fetched c).rd r (128 + c.q) = s.rd r (128 + c.q) := by
  refine s.rd_fetched (not_mem_tookRegs_of_queue ?_ ?_)
  · unfold regAddr
    omega
  · unfold regAddr
    rw [hs]
    omega

/-! ### What the engine knows of a command that it may fetch -/

theorem State.ready_of_fetchable {s : State} {c : TCmd} {ret : Nat} (h : s.fetchable c ret = true) : s.eng.ready = false := by
  simp only [State.fetchable, Bool.and_eq_true, Bool.not_eq_true'] at h
  tauto

theorem State.qRuns_of_fetchable {s : State} {c : TCmd} {ret : Nat} (h : s.fetchable c ret = true) :
    s.qRuns (128 + c.q) = true := by
  simp only [State.fetchable, Bool.and_eq_true] at h
  tauto

theorem State.qRuns_fetched (s : State) (c : TCmd) : (s.fetched c).qRuns (128 + c.q) = s.qRuns (128 + c.q) := by
  unfold State.qRuns State.flag State.get
  rw [s.rd_fetched_queue c (r := F.TF_QCTX_CFG_enable.reg) (by decide) rfl (by decide),
    s.rd_fetched_queue c (r := F.TF_QCTX_ERR_stopped.reg) (by decide) rfl (by decide)]

/-! ### A completion (R609, R610, R632, R659) -/

theorem State.writeRing_congr {s t : State} (h : t.maxPayload = s.maxPayload) (base size k i : Nat) (l : List Word) :
    t.writeRing base size k i l = s.writeRing base size k i l := by
  induction k generalizing i l with
  | zero => rfl
  | succ k ih =>
    unfold State.writeRing
    dsimp only
    rw [h, ih]

/-- The writes of a completion follow from the host's side and two words of the queue's context. -/
theorem State.cplOuts_congr {s t : State} {x : Cpl} (hh : t.host = s.host)
    (hcfg : t.rd R.TF_QCTX_CFG (128 + x.q) = s.rd R.TF_QCTX_CFG (128 + x.q))
    (hcpl : t.rd R.TF_QCTX_CPL (128 + x.q) = s.rd R.TF_QCTX_CPL (128 + x.q)) : t.cplOuts x = s.cplOuts x := by
  have hm : t.maxPayload = s.maxPayload := by
    unfold State.maxPayload State.cfgBits State.cfg
    rw [hh]
  have hi : t.cplIdx (128 + x.q) = s.cplIdx (128 + x.q) := by
    unfold State.cplIdx
    rw [hh]
  have hs : t.cplSize (128 + x.q) = s.cplSize (128 + x.q) :=
    congrArg (fun w : Word => 2 ^ max 6 (min 16 (bits w.toNat F.TF_QCTX_CFG_cpl_log2.lo F.TF_QCTX_CFG_cpl_log2.w))) hcfg
  have hb : t.get F.TF_QCTX_CPL_cpl_base (128 + x.q) = s.get F.TF_QCTX_CPL_cpl_base (128 + x.q) :=
    congrArg (fun w : Word => bits w.toNat F.TF_QCTX_CPL_cpl_base.lo F.TF_QCTX_CPL_cpl_base.w) hcpl
  unfold State.cplOuts
  dsimp only
  rw [hi, hs, hb]
  exact State.writeRing_congr hm ..

theorem State.cplOuts_fetched (s : State) (c : TCmd) (st : Nat) (ws : List Word) :
    (s.fetched c).cplOuts ⟨c.q, c.tag, st, 0, ws⟩ = s.cplOuts ⟨c.q, c.tag, st, 0, ws⟩ :=
  State.cplOuts_congr (s.fetched_host c) (s.rd_fetched_queue c (by decide) rfl (by decide))
    (s.rd_fetched_queue c (by decide) rfl (by decide))

/-- A completion in its ring, before it is counted. -/
def State.cplWritten (s : State) (x : Cpl) : State :=
  { s.emits (s.cplOuts x) with
    host := { s.host with
      cplIdx := tset s.host.cplIdx (128 + x.q)
        (((s.cplIdx (128 + x.q)).1 + (cplWords x).length) % 2 ^ 32, (s.cplIdx (128 + x.q)).2) } }

theorem State.cplWritten_keeps (s : State) (x : Cpl) :
    ∃ host, s.cplWritten x = { s with out := s.out ++ s.cplOuts x, host := host } := ⟨_, rfl⟩

theorem State.complete_eq {s : State} {x : Cpl} (h : s.qRuns (128 + x.q) = true) : s.complete x =
    (((s.cplWritten x).count cgHost 5).qWriteback (128 + x.q)).qAdvance (128 + x.q) 1 := if_pos h

/-- A completion is sent, counted and reported; the tables and the engine do not see it. -/
theorem State.complete_keeps {s : State} {x : Cpl} (h : s.qRuns (128 + x.q) = true) : ∃ regs tlm out host,
    s.complete x = { s with regs := regs, tlm := tlm, out := s.out ++ s.cplOuts x ++ out, host := host } := by
  obtain ⟨host, hw⟩ := s.cplWritten_keeps x
  obtain ⟨regs, tlm, hc⟩ := (s.cplWritten x).count_keeps cgHost 5 0 1
  obtain ⟨out, hb⟩ := ((s.cplWritten x).count cgHost 5).qWriteback_keeps (128 + x.q)
  obtain ⟨out', host', ha⟩ := (((s.cplWritten x).count cgHost 5).qWriteback (128 + x.q)).qAdvance_keeps (128 + x.q) 1
  refine ⟨regs, tlm, out ++ out', host', ?_⟩
  rw [State.complete_eq h, ha, hb, hc, hw]
  simp only [List.append_assoc]

/-! ### A refusal (R590, R610, R612) -/

/-- A journal entry moves the journal's head. -/
theorem State.journal_jHead (s : State) (type q op status count epoch cidx : Nat) : ∃ m b n,
    s.journal type q op status count epoch cidx =
      { s with sram := m, sramBad := b, eng := { s.eng with jHead := n } } := by
  unfold State.journal
  split
  · exact ⟨s.sram, s.sramBad, s.eng.jHead, rfl⟩
  · exact ⟨_, _, _, rfl⟩

/-- A refusal that enters the journal, or joins the last one there, leaves the tables and the batch alone. -/
theorem State.journalRefused_keeps (s : State) (q op status : Nat) : ∃ m b n r, s.journalRefused q op status =
    { s with sram := m, sramBad := b, eng := { s.eng with jHead := n, refused := r } } := by
  obtain ⟨m, b, n, hj⟩ := s.journal_jHead 1 q op status 1 0 (s.cidx q)
  unfold State.journalRefused
  dsimp only
  rw [hj]
  split
  · next k _ =>
    split
    · obtain ⟨m1, b1, h1⟩ := s.sramPut_keeps (journalAt k) (BitVec.ofNat 64 (setBits (s.sramGet (journalAt k)).toNat 32 16
        (min 65535 (bits (s.sramGet (journalAt k)).toNat 32 16 + 1))))
      rw [h1]
      obtain ⟨m2, b2, h2⟩ := State.sramPut_keeps { s with sram := m1, sramBad := b1 } (journalAt k + 8)
        (BitVec.ofNat 64 (setBits (s.sramGet (journalAt k + 8)).toNat 32 32 (s.cidx q)))
      exact ⟨m2, b2, s.eng.jHead, s.eng.refused, h2⟩
    · exact ⟨m, b, n, _, rfl⟩
  · split
    · exact ⟨s.sram, s.sramBad, s.eng.jHead, s.eng.refused, rfl⟩
    · exact ⟨m, b, n, _, rfl⟩

/-- A refused command is answered with its status, and changes neither the inactive view nor what the batch owes. -/
theorem State.answer_refuse (s : State) (op : Nat) (c : TCmd) (st : Nat) (hq : s.qRuns (128 + c.q) = true) :
    (∀ o ∈ s.cplOuts ⟨c.q, c.tag, st, 0, []⟩, o ∈ (s.answer op c (.refuse st)).out) ∧
      (s.answer op c (.refuse st)).inact = s.inact ∧ (s.answer op c (.refuse st)).eng.owed = s.eng.owed := by
  obtain ⟨m, b, n, r, hj⟩ := s.journalRefused_keeps c.q op st
  have hq' : (s.journalRefused c.q op st).qRuns (128 + c.q) = true := by
    rw [hj]
    exact hq
  have ho : (s.journalRefused c.q op st).cplOuts ⟨c.q, c.tag, st, 0, []⟩ = s.cplOuts ⟨c.q, c.tag, st, 0, []⟩ := by
    rw [hj]
    exact State.cplOuts_congr rfl rfl rfl
  obtain ⟨regs, tlm, out, host, hc⟩ := State.complete_keeps (x := ⟨c.q, c.tag, st, 0, []⟩) hq'
  obtain ⟨ready, hb⟩ := (s.refuseCmd op c st).commitBit_keeps c
  have ha : s.answer op c (.refuse st) = (s.refuseCmd op c st).commitBit c := rfl
  rw [ha, hb, State.refuseCmd, hc, ho, hj]
  exact ⟨fun o h => List.mem_append_left _ (List.mem_append_right _ h), rfl, rfl⟩

/-! ### A change (R613) -/

/-- The batch of the command's queue owes its completion, and waits for its commit if the command asks for one. -/
theorem State.joined_batch {t : State} (c : TCmd) (h : t.eng.ready = false) : (t.joined c).eng =
    { t.eng with batchQ := some c.q, owed := t.eng.owed ++ [(c.q, c.tag, none)], ready := c.commit } := by
  unfold State.joined State.commitBit
  cases hc : c.commit with
  | false => rw [if_neg (fun h => Bool.false_ne_true h.1), ← h]; rfl
  | true => rw [if_pos ⟨rfl, rfl⟩]; rfl

/-! ### What the engine answers to a command that it takes -/

section

variable {c : TCmd} {n ret : Nat} {s : State}

/-- The command's own check and effect decide, in the state that the fetch leaves. -/
theorem State.runCmd_taken (h : Taken c n ret s) (op : Nat) (changes : Bool) (apply : State → CmdRes) :
    s.runCmd op (plen c n) changes ret c apply = (s.fetched c).answer op c (apply (s.fetched c)) := by
  obtain ⟨hf, hroom, hlen, hshut⟩ := h
  simp [State.runCmd, plen, hf, hroom, hlen, hshut]

variable {i : Instr} {op : Nat} {apply : State → CmdRes} (he : exec i s = ok (s.runChange op (plen c n) c apply))
  (h : Taken c n 0 s)
include he h

/-- A change of the inactive view and of the tables beside the views joins the batch. -/
theorem answers_joins {f : View → View} {tbl : TblSt}
    (ha : apply (s.fetched c) = .change { (s.fetched c).setInact f with tbl := tbl }) :
    Answers i s (fun t => Joins c s t ∧ t.inact = f s.inact ∧ t.tbl = tbl ∧ RegsBut (tookRegs c) s t) := by
  refine answers_ok he ?_
  rw [State.runChange, State.runCmd_taken h, ha, State.answer_change]
  obtain ⟨htbl, hinact, hact, hengV, hregs⟩ := State.joined_tables { (s.fetched c).setInact f with tbl := tbl } c
  have heng : ({ (s.fetched c).setInact f with tbl := tbl }.joined c).eng = { s.eng with
      batchQ := some c.q, owed := s.eng.owed ++ [(c.q, c.tag, none)], ready := c.commit, lastQ := c.q, fetchAt := s.up } := by
    have hs : ({ (s.fetched c).setInact f with tbl := tbl } : State).eng = { s.eng with lastQ := c.q, fetchAt := s.up } :=
      s.fetched_eng c
    rw [State.joined_batch c (by rw [hs]; exact State.ready_of_fetchable h.1), hs]
  refine ⟨⟨?_, ?_, ?_⟩, ?_, ?_, regsBut_settle_of fun a h0 h1 h2 h3 => ?_⟩
  · rw [State.settle_eng, heng]
  · rw [State.settle_act, hact]
    exact s.fetched_act c
  · rw [State.settle_engV, hengV]
    exact s.fetched_engV c
  · rw [State.settle_inact, hinact]
    exact congrArg f (s.fetched_inact c)
  · rw [State.settle_tbl, htbl]
  · rw [hregs]
    exact regsBut_fetched s c a h0 h1 h2 h3

/-- A change of the inactive view alone joins the batch. -/
theorem answers_changes {f : View → View} (ha : apply (s.fetched c) = .change ((s.fetched c).setInact f)) :
    Answers i s (Changes c f s) :=
  answers_joins he h (tbl := s.tbl) (ha.trans (by rw [← s.fetched_tbl c]; rfl))

/-- A refusal is answered at once. -/
theorem answers_refusal {st : Nat} (ha : apply (s.fetched c) = .refuse st) :
    Answers i s (fun t => (∀ o ∈ s.cplOuts ⟨c.q, c.tag, st, 0, []⟩, o ∈ t.out) ∧ t.inact = s.inact ∧
      t.eng.owed = s.eng.owed) := by
  refine answers_ok he ?_
  rw [State.runChange, State.runCmd_taken h, ha]
  obtain ⟨hout, hinact, howed⟩ := (s.fetched c).answer_refuse op c st
    ((s.qRuns_fetched c).trans (State.qRuns_of_fetchable h.1))
  rw [State.cplOuts_fetched] at hout
  refine ⟨fun o ho => State.mem_out_settle (hout o ho), ?_, ?_⟩
  · rw [State.settle_inact, hinact, State.fetched_inact]
  · rw [State.settle_eng, howed, State.fetched_eng]

end

end Sys2Proof.Machine
end

section
/-! PROOFS. The table commands of chapter 5: parser records, templates, hash profiles and groups (R176, R179, R185, R192, R196,
R197, R199, R202 to R204, R206, R213). -/

namespace Sys2Proof.Machine

/-! ### Parser tables and hash profiles (R176, R179, R185, R206) -/

theorem exec_parseState (c : TCmd) (s : State) :
    exec (.parseState c) s = ok (s.runChange 0x28 (plen c 3) c (applyParseState c)) := rfl

theorem exec_parseTrans (c : TCmd) (s : State) :
    exec (.parseTrans c) s = ok (s.runChange 0x29 (plen c 3) c (applyParseTrans c)) := rfl

theorem exec_keyTemplate (c : TCmd) (s : State) :
    exec (.keyTemplate c) s = ok (s.runChange 0x2A (plen c 7) c (applyKeyTemplate c)) := rfl

theorem exec_hashProfWrite (i : Nat) (v : Word) (s : State) :
    exec (.hashProfWrite i v) s = okIf (s.awake && decide (i < 16)) s (s.hashProfWrite i v) := rfl

section

variable {c : TCmd} {s : State}

theorem parseState_stores (h : Taken c 3 0 s) (hi : pw c 0 < 512) (hr : bits (pw c 1 + pw c 2 * 2 ^ 64) 125 3 = 0) :
    Answers (.parseState c) s (Changes c (fun v => v.setParse (fun p => { p with
      states := tput p.states (pw c 0) (BitVec.ofNat 128 (pw c 1 + pw c 2 * 2 ^ 64)) 0 })) s) :=
  answers_changes (exec_parseState c s) h (if_neg (by omega))

theorem parseState_badKey (h : Taken c 3 0 s) (hi : 512 ≤ pw c 0) :
    Answers (.parseState c) s (fun t => (∀ o ∈ s.cplOuts ⟨c.q, c.tag, stBadKey, 0, []⟩, o ∈ t.out) ∧ t.inact = s.inact ∧
      t.eng.owed = s.eng.owed) :=
  answers_refusal (exec_parseState c s) h (if_pos (.inl hi))

theorem parseTrans_stores (h : Taken c 3 0 s) (hi : pw c 0 < 2048) (hr : bits (pw c 1 + pw c 2 * 2 ^ 64) 73 55 = 0) :
    Answers (.parseTrans c) s (Changes c (fun v => v.setParse (fun p => { p with
      trans := tput p.trans (pw c 0) (BitVec.ofNat 128 (pw c 1 + pw c 2 * 2 ^ 64)) 0 })) s) :=
  answers_changes (exec_parseTrans c s) h (if_neg (by omega))

/-- A fetch leaves the configuration of the exact-match tables alone. -/
theorem State.learn_en_fetched (s : State) (c : TCmd) {i : Nat} (hi : i < 16) :
    (s.fetched c).flag F.TF_EM_TABLE_learn_en i = s.flag F.TF_EM_TABLE_learn_en i := by
  obtain ⟨hlo, hhi⟩ := regAddr_bounds (r := R.TF_EM_TABLE) hi
  exact s.flag_fetched (not_mem_tookRegs_of_lt (hhi.trans (by decide)) (.inr (le_trans (by decide) hlo)))

theorem keyTemplate_stores {x : BitVec 384} (h : Taken c 7 0 s) (hi : pw c 0 < 16)
    (hx : x = BitVec.ofNat 384 (wordsNat (c.words.drop 1)))
    (hok : tmplOk x (s.flag F.TF_EM_TABLE_learn_en (bits (tmplWord x 0) 26 4)) = true) :
    Answers (.keyTemplate c) s (Changes c (fun v => v.setParse (fun p => { p with
      tmpl := tput p.tmpl (pw c 0) x 0 })) s) := by
  subst hx
  rw [← s.learn_en_fetched c (bits_lt _ _ 4)] at hok
  refine answers_changes (exec_keyTemplate c s) h (if_neg ?_)
  rintro (h16 | hbad)
  · omega
  · exact Bool.false_ne_true (hbad.symm.trans hok)

end

/-- A hash profile's word shows at once and waits in the views that the next commits bring in (R206, R211). -/
theorem hashProfWrite_waits {i : Nat} (v : Word) {s : State} (ha : s.awake = true) (hi : i < 16) :
    Answers (.hashProfWrite i v) s (fun t => t.rd R.TF_HASH_PROF i = v ∧ t.act = s.act ∧
      tget t.inact.parse.hash i 0xFFFFFFFFFFFFFFFF#64 = v ∧ tget t.engV.parse.hash i 0xFFFFFFFFFFFFFFFF#64 = v ∧
      RegsBut [regAddr R.TF_HASH_PROF i 0] s t) := by
  refine answers_okIf (exec_hashProfWrite i v s) (by rw [ha, decide_eq_true hi]; rfl) ⟨?_, ?_, ?_, ?_, ?_⟩
  · rw [State.rd_settle_high _ (by decide)]
    exact s.rd_wr_self R.TF_HASH_PROF v i 0
  · rw [State.settle_act]
    rfl
  · rw [State.settle_inact]
    exact tget_tput_self _ _ _ _
  · rw [State.settle_engV]
    exact tget_tput_self _ _ _ _
  · exact regsBut_settle_of (regsBut_wr (regsBut_refl _ s) List.mem_cons_self)

/-! ### Groups (R192, R196, R197, R203, R213) -/

theorem exec_groupSet (c : TCmd) (s : State) :
    exec (.groupSet c) s = ok (s.runChange 0x20 (plen c (1 + (gsCount c + 1) / 2)) c (applyGroupSet c)) := rfl

theorem exec_groupDelete (c : TCmd) (s : State) :
    exec (.groupDelete c) s = ok (s.runChange 0x21 (plen c 1) c (applyGroupDelete c)) := rfl

theorem exec_groupMember (c : TCmd) (s : State) :
    exec (.groupMember c) s = ok (s.runChange 0x22 (plen c 1) c (applyGroupMember c)) := rfl

section

variable {c : TCmd} {s : State}

/-- A GROUP_SET that R192, R195, R196 and R198 allow over a view, with room for its slots among `slots`. -/
structure GroupSetLegal (c : TCmd) (v : View) (slots : Nat) : Prop where
  reserved : gsReservedOk c (gsCount c) (bitOf (pw c 0) 16) = true
  size : 5 ≤ bits (pw c 0) 18 4 ∧ bits (pw c 0) 18 4 ≤ 12
  count : 1 ≤ gsCount c ∧ gsCount c ≤ 512
  fits : gsCount c ≤ 2 ^ bits (pw c 0) 18 4
  noLag : bitOf (pw c 0) 16 = false → ∀ m ∈ gsMembers c.words (gsCount c), isFwd v m.entry = true →
    ∀ e, tget? v.nh m.entry = some e → fwKind e ≠ 1
  room : slotsUsed v.groups + 2 ^ bits (pw c 0) 18 4 ≤ slots

/-- A view with the group of the payload defined. -/
def groupDefined (c : TCmd) (v : View) : View :=
  v.setGroups (fun t => tset t (bits (pw c 0) 0 16)
    (gSet (bitOf (pw c 0) 16) (bitOf (pw c 0) 17) (bits (pw c 0) 18 4) (gsMembers c.words (gsCount c))))

theorem applyGroupSet_legal (h : GroupSetLegal c s.inact s.slotStore) :
    applyGroupSet c s = .change (s.setInact (groupDefined c)) := by
  obtain ⟨hres, hsz, hn, hfit, hlag, hroom⟩ := h
  have href : (!bitOf (pw c 0) 16 && (gsMembers c.words (gsCount c)).any (fun m =>
      isFwd s.inact m.entry && (tget? s.inact.nh m.entry).any (fun e => fwKind e == 1))) = false := by
    rw [Bool.and_eq_false_imp]
    intro hl
    simp only [Bool.not_eq_true'] at hl
    simp only [List.any_eq_false, Bool.and_eq_true, Option.any_eq_true, beq_iff_eq, not_and, not_exists]
    exact hlag hl
  unfold applyGroupSet
  dsimp only
  rw [if_neg (by simp [hres, hsz, hn, hfit]), if_neg (by rw [href]; exact Bool.false_ne_true), if_neg (by omega)]
  rfl

theorem State.slotStore_fetched (s : State) (c : TCmd) : (s.fetched c).slotStore = s.slotStore := by
  unfold State.slotStore State.miscShare
  rw [State.fetched_tbl]

theorem groupSet_defines (h : Taken c (1 + (gsCount c + 1) / 2) 0 s) (hl : GroupSetLegal c s.inact s.slotStore) :
    Answers (.groupSet c) s (Changes c (groupDefined c) s) := by
  rw [← s.fetched_inact c, ← s.slotStore_fetched c] at hl
  exact answers_changes (exec_groupSet c s) h (applyGroupSet_legal hl)

theorem applyGroupDelete_legal (hg : pw c 0 < 65536) (hk : thas s.inact.groups (pw c 0) = true)
    (hn : groupNamed s.inact (pw c 0) = false) :
    applyGroupDelete c s = .change (s.setInact (fun v => v.setGroups (fun t => tdel t (pw c 0)))) := by
  simp [applyGroupDelete, hk, hn, Nat.not_le.2 hg]

theorem groupDelete_deletes (h : Taken c 1 0 s) (hg : pw c 0 < 65536) (hk : thas s.inact.groups (pw c 0) = true)
    (hn : groupNamed s.inact (pw c 0) = false) :
    Answers (.groupDelete c) s (Changes c (fun v => v.setGroups (fun t => tdel t (pw c 0))) s) := by
  rw [← s.fetched_inact c] at hk hn
  exact answers_changes (exec_groupDelete c s) h (applyGroupDelete_legal hg hk hn)

/-- A member that exists is marked; a mark that changes it is a rewrite of the batch (R213). -/
theorem applyGroupMember_legal {x : Group} (hr : bits (pw c 0) 26 38 = 0)
    (hx : tget? s.inact.groups (bits (pw c 0) 0 16) = some x) (hm : bits (pw c 0) 16 9 < x.members.length) :
    applyGroupMember c s = .change { s.setInact (fun v => v.setGroups (fun m => tset m (bits (pw c 0) 0 16)
        (groupMember (bits (pw c 0) 16 9) (bitOf (pw c 0) 25) x))) with
      tbl := { s.tbl with
        batchRewrites := s.tbl.batchRewrites +
          b2n ((x.members[bits (pw c 0) 16 9]?).any (fun y => y.up != bitOf (pw c 0) 25)) } } := by
  unfold applyGroupMember
  dsimp only
  rw [if_neg (by rw [hr]; decide), hx]
  dsimp only
  rw [if_neg (Nat.not_le.2 hm)]
  cases (x.members[bits (pw c 0) 16 9]?).any (fun y => y.up != bitOf (pw c 0) 25) <;> rfl

theorem groupMember_marks {x : Group} (h : Taken c 1 0 s) (hr : bits (pw c 0) 26 38 = 0)
    (hx : tget? s.inact.groups (bits (pw c 0) 0 16) = some x) (hm : bits (pw c 0) 16 9 < x.members.length) :
    Answers (.groupMember c) s (fun t => Joins c s t ∧ t.inact = s.inact.setGroups (fun m => tset m (bits (pw c 0) 0 16)
        (groupMember (bits (pw c 0) 16 9) (bitOf (pw c 0) 25) x)) ∧
      t.tbl = { s.tbl with
        batchRewrites := s.tbl.batchRewrites +
          b2n ((x.members[bits (pw c 0) 16 9]?).any (fun y => y.up != bitOf (pw c 0) 25)) } ∧
      RegsBut (tookRegs c) s t) := by
  rw [← s.fetched_inact c] at hx
  have ha := applyGroupMember_legal hr hx hm
  rw [State.fetched_tbl] at ha
  exact answers_joins (exec_groupMember c s) h ha

end

/-! ### LAG groups follow the module's own ports (R199, R202, R204) -/

/-- Every LAG group with a member on port l follows the port. -/
def lagsFollow (s : State) (l : Nat) (t : Tab Group) : Tab Group :=
  t.map (fun e => (e.1, lagFollow s.myId l (s.portUp l) e.2))

/-- The state in which they do in the engine's own view and the inactive one, counted, for the engine's commit. -/
def State.lagsRewritten (s : State) (l : Nat) : State :=
  { s.setEng (fun v => v.setGroups (lagsFollow s l)) with
    tbl := { s.tbl with rewrites := s.tbl.rewrites + lagRewrites s.myId l (s.portUp l) s.engV.groups } }

theorem exec_lagMemberRewrite {l : Nat} {s : State} (hl : s.live = true)
    (hn : 0 < lagRewrites s.myId l (s.portUp l) s.engV.groups) :
    exec (.lagMemberRewrite l) s = ok (s.lagsRewritten l) := by
  show execLagMemberRewrite l s = _
  unfold execLagMemberRewrite
  rw [if_pos hl]
  dsimp only
  rw [if_neg (by omega)]
  rfl

theorem lagMemberRewrite_follows {l : Nat} {s : State} (hl : s.live = true)
    (hn : 0 < lagRewrites s.myId l (s.portUp l) s.engV.groups) :
    Answers (.lagMemberRewrite l) s (fun t => t.eng = { s.eng with dirty := true } ∧ t.act = s.act ∧
      t.engV.groups = s.engV.groups.map (fun e => (e.1, lagFollow s.myId l (s.portUp l) e.2)) ∧
      t.inact.groups = s.inact.groups.map (fun e => (e.1, lagFollow s.myId l (s.portUp l) e.2)) ∧
      t.tbl = { s.tbl with rewrites := s.tbl.rewrites + lagRewrites s.myId l (s.portUp l) s.engV.groups } ∧
      RegsBut [] s t) := by
  refine answers_ok (exec_lagMemberRewrite hl hn) ?_
  rw [State.settle_eng, State.settle_act, State.settle_engV, State.settle_inact, State.settle_tbl]
  exact ⟨rfl, rfl, rfl, rfl, rfl, regsBut_settle_of_regs (t := s.lagsRewritten l) rfl⟩

/-- Settles O32: each clause is the lemma about its command. -/
theorem parserAndGroupCommandsChangeTheInactiveView : Obligations.ParserAndGroupCommandsChangeTheInactiveView := by
  refine ⟨?_, ?_, ?_, ?_, ?_, ?_, ?_, ?_, ?_⟩
  · exact fun c s h hi hr => parseState_stores h hi hr
  · exact fun c s h hi => parseState_badKey h hi
  · exact fun c s h hi hr => parseTrans_stores h hi hr
  · exact fun c x s h hi hx hok => keyTemplate_stores h hi hx hok
  · exact fun i v s ha hi => hashProfWrite_waits v ha hi
  · exact fun c s h hres h5 h12 h1 h512 hfit href hroom =>
      groupSet_defines h ⟨hres, ⟨h5, h12⟩, ⟨h1, h512⟩, hfit, href, hroom⟩
  · exact fun c s h hg hk hn => groupDelete_deletes h hg hk hn
  · exact fun c x s h hr hx hm => groupMember_marks h hr hx hm
  · exact fun l s hl hn => lagMemberRewrite_follows hl hn

end Sys2Proof.Machine
end
